-- ==== Sys2Proof/Word.lean ====
section
/-! DEFINITION. The words of the exchange memory (R179) and their bytes. -/

namespace Sys2Proof

/-- A word is 16 bits (00_scope.md 3.4). -/
abbrev Word := BitVec 16

/-- A byte of the exchange memory or of a flash transfer. -/
abbrev Byte := BitVec 8

/-- A 32-bit quantity, held in two consecutive words (R179). -/
abbrev DWord := BitVec 32

/-- The low word of a 32-bit quantity. -/
def loWord (x : DWord) : Word := x.extractLsb' 0 16

/-- The high word of a 32-bit quantity. -/
def hiWord (x : DWord) : Word := x.extractLsb' 16 16

/-- Two consecutive words as a 32-bit quantity, the low word first (R179). -/
def joinWords (lo hi : Word) : DWord := hi ++ lo

/-- The bytes of a word, the low byte first (00_scope.md 3.4). -/
def wordBytes (w : Word) : List Byte := [w.extractLsb' 0 8, w.extractLsb' 8 8]

/-- Two bytes as a word, the low byte first. -/
def joinBytes (lo hi : Byte) : Word := hi ++ lo

/-- A flag word is 0 for NO or clear and 1 for YES or set (R179). -/
def flagWord (b : Bool) : Word := if b then 1 else 0

end Sys2Proof
end

