-- ==== Sys2Proof/Syntax.lean ====
section
/-! DEFINITION. The commands: one constructor of `Instr` per row of spec/opcode_table.json. The table gives its rows no
fields; the operands are what the rule of each row says comes from outside with the event. -/

namespace Sys2Proof

/-- Motor, converter link, regulator, encoder or vibration group A or B (00_scope.md 3.4). -/
inductive Side where
  | a | b
  deriving DecidableEq, Repr

/-- A vibration channel 0..5. -/
abbrev Channel := Fin 6

/-- A sample set frame of a converter, its four fields as received (table of 01_measurement_inputs.md 1.1).
`begunBeforeSync` tells that the frame had begun before the SYNC of the present period and had not ended when that SYNC was
sent, the third case of R1 (log 16). -/
structure SampleFrame where
  fault : Bool
  codeA : Word
  codeC : Word
  codeDc : Word
  begunBeforeSync : Bool
  deriving DecidableEq, Repr

/-- What an event on a quadrature pair is (R4): a forward edge, a backward edge, or both lines at the same moment. -/
inductive QuadEdge where
  | forward | backward | both
  deriving DecidableEq, Repr

/-- The elements of a head's frame after its start element (table of 1.4; R14). -/
structure SensorFrame where
  data : Word
  okBit : Bool
  overloadBit : Bool
  parity : Bool
  stopIdle : Bool
  deriving DecidableEq, Repr

/-- A plain host store of one word: a write that the part does not react to (09, opening: "A write anywhere else is simply
stored"). -/
structure HostStore where
  addr : Nat
  value : Word
  deriving DecidableEq, Repr

/-- The registers whose writes the part may ignore (R176). -/
inductive OtherRegister where
  | ident | portControl
  deriving DecidableEq, Repr

/-- The commands. -/
inductive Instr where
  -- resets and registers
  | powerOnReset
  | startUpEnd
  | restart
  | registerWriteOther (reg : OtherRegister) (v : Word)
  | noticeWrite (v : Word)
  | noticeEnableWrite (v : Word)
  -- host writes to the exchange memory that the part reacts to
  | slotStateWrite (stores : List HostStore) (k : Fin 8) (v : Word)
  | listEntryStateWrite (k : Fin 8) (v : Word)
  | stickyErrorClearWrite (c : Channel) (v : Word)
  | alarmSeenClearWrite (v : Word)
  -- takes of the slot at the head of the posting order
  | requestUnknownKind
  | loadSettings
  | readSettings
  | start
  | stop
  | setSpeed
  | limitTorque
  | tripNow
  | tripClear
  | armTrigger
  | disarmTrigger
  | manualTrigger
  | fetchCapture
  | fetchNext
  | fetchFrameBoundary
  | releaseCapture
  | readStored
  | readStoredNext
  | eraseStore
  | resetSectorMap
  | setTime
  -- part time
  | partTimeTick
  -- converter links and regulators
  | sampleSetFrame (x : Side) (f : SampleFrame)
  | dcUndervoltCountReached (x : Side) (f : SampleFrame)
  | dcLowCountReached (x : Side) (f : SampleFrame)
  | currentPeriodStart (x : Side)
  | measLoss (x : Side)
  | gateFaultActive (x : Side)
  | gateFaultInactive (x : Side)
  | voltageLimitedRunReached (x : Side)
  -- encoders and shell
  | encoderEdge (x : Side) (e : QuadEdge)
  | lineBreakActive (x : Side)
  | lineBreakRelease (x : Side)
  | encoderHealthy (x : Side)
  | speedWindowUpdate
  | encoderDisagree
  | shellMarker
  -- sensor link and vibration watch
  | sensorFrameEnd (c : Channel) (f : SensorFrame)
  | vibrationSamplePeriod
  | heldRunLost (c : Channel)
  | blockEnd
  | watchMillisecond
  | dangerDwellExpiry (g : Side)
  -- sequencer and its inputs
  | sequencerMillisecond
  | magnetizingTimeExpiry
  | breakawayTimeExpiry
  | zeroSpeedDwellReached
  | brakeSetTimeExpiry
  | runPermitDrop
  | runPermitReturn
  | eStopActive
  | eStopInactive
  -- governor
  | governorPeriod
  | torqueDev (x : Side)
  -- fault unit, records, capture
  | groupingWindowExpiry
  | capturePeriod
  | bankFreeze
  | triggerWindowExpiry
  -- store port
  | flashTransferEnd (rx : List Byte)
  | flashStatusPoll (status : Byte)
  | flashTimeLimit
  | sensorLineIdleRegained (c : Channel)
  deriving DecidableEq, Repr

end Sys2Proof
end

