-- ==== Sys2Proof/WellFormed.lean ====
section
/-! DEFINITION. When a command's operands are ones its row can carry. -/

namespace Sys2Proof

/-- The address is one of a word of the exchange memory: even, and within 0x0000..0x7FFF (10.1). -/
def HostStore.inMemory (h : HostStore) : Bool := h.addr % 2 == 0 && decide (h.addr < 0x8000)

/-- The address is the state word of a request slot: 0x0040 + 48k (10.1, R181). -/
def HostStore.atSlotState (h : HostStore) : Bool :=
  decide (0x0040 ≤ h.addr) && decide (h.addr < 0x01C0) && (h.addr - 0x0040) % 48 == 0

/-- The address is the state word of a record list entry: 0x1000 + 260k (10.1, R183). -/
def HostStore.atEntryState (h : HostStore) : Bool :=
  decide (0x1000 ≤ h.addr) && decide (h.addr < 0x1820) && (h.addr - 0x1000) % 260 == 0

/-- The address is one of the seven clear words (10.1, R182). -/
def HostStore.atClearWord (h : HostStore) : Bool := decide (0x0500 ≤ h.addr) && decide (h.addr < 0x050E)

/-- The store is plain: it goes to a word of the exchange memory at which the part does not react (09, opening). -/
def HostStore.plain (h : HostStore) : Bool :=
  h.inMemory && !h.atSlotState && !h.atEntryState && !h.atClearWord

/-- A command whose operands its row can carry: plain stores only before a slot's state word; no RESTART among the other
register writes (R176); no more than the 256 bytes of a page in one transfer (R146, R148). -/
def Instr.wf : Instr → Bool
  | .slotStateWrite stores _ _ => stores.all HostStore.plain
  | .registerWriteOther .portControl v => v != 1
  | .flashTransferEnd rx => decide (rx.length ≤ 256)
  | _ => true

end Sys2Proof
end

