-- ==== Sys2Proof/Config.lean ====
section
/-! DEFINITION. What the manual leaves open for good: free values, with no body. -/

namespace Sys2Proof

/-- FREE VALUE (log 8, R144 and the table of 7.1: "content undefined, none valid"). The content of a word of a capture
frame that has not been written since the last reset: by the number of resets performed, the bank, the frame index and
the word of the frame. -/
opaque Config.undefinedFrameWord : Nat → Nat → Nat → Nat → Word

end Sys2Proof
end

