-- ==== Sys2Proof/Machine/State.lean ====
section
/-! DEFINITION. The state of the KD418, block by block as 00_scope.md 2.1 lists the owners, the state after reset, and the
reasons a step can stop. -/

namespace Sys2Proof.Machine

/-! ### Two of a kind -/

/-- One value for each motor, link, encoder, regulator or group. -/
structure Pair (α : Type) where
  a : α
  b : α
  deriving DecidableEq, Repr

/-- The value of side `x`. -/
def Pair.get {α : Type} (p : Pair α) : Side → α
  | .a => p.a
  | .b => p.b

/-- The pair with the value of side `x` replaced. -/
def Pair.set {α : Type} (p : Pair α) (x : Side) (v : α) : Pair α :=
  match x with
  | .a => { p with a := v }
  | .b => { p with b := v }

/-! ### Codes (10.8, R186) as names -/

/-- Drive state (table of 02_drive_sequencing.md). -/
inductive DriveState where
  | unconfigured | stopped | magnetizing | breakaway | run | stopping | tripped
  deriving DecidableEq, Repr

/-- Stopping phase (2.5). -/
inductive StopPhase where
  | none | decelerating | atZero | brakeSetting
  deriving DecidableEq, Repr

/-- Run kind (2.4). -/
inductive RunKind where
  | normal | creep
  deriving DecidableEq, Repr

/-- Direction of a start (R21). -/
inductive Direction where
  | forward | reverse
  deriving DecidableEq, Repr

/-- Pinion set: the motors in use. -/
inductive PinionSet where
  | both | aOnly | bOnly
  deriving DecidableEq, Repr

/-- Permit action (R32). -/
inductive PermitAction where
  | ramp | trip
  deriving DecidableEq, Repr

/-- Direction of a torque against the drive speed (R47). -/
inductive LimitDir where
  | motoring | regenerating
  deriving DecidableEq, Repr

/-- Head status of a good frame (R15). -/
inductive HeadStatus where
  | ok | overload
  deriving DecidableEq, Repr

/-- Channel health (5.4). -/
inductive Health where
  | suspect | healthy | lost
  deriving DecidableEq, Repr

/-- Vibration state (5.5). -/
inductive VibState where
  | normal | alert | danger | unknown
  deriving DecidableEq, Repr

/-- Clamp state of an axis (R77). -/
inductive ClampState where
  | none | high | low
  deriving DecidableEq, Repr

/-- Capture bank state (7.3). -/
inductive BankState where
  | free | live | post | frozen
  deriving DecidableEq, Repr

/-- Trigger state (7.4). -/
inductive TrigState where
  | disarmed | waitFirst | waitSecond | fired
  deriving DecidableEq, Repr

/-- Capture status of a record's reference (7.5). -/
inductive CaptureStatus where
  | none | pending | complete
  deriving DecidableEq, Repr

/-- Store status of a record (7.5). -/
inductive StoreStatus where
  | none | queued | stored | failed | dropped
  deriving DecidableEq, Repr

/-- Store state (8.4). -/
inductive StoreState where
  | absent | scanning | ready | busy | outOfService
  deriving DecidableEq, Repr

/-- State of the erase (8.1). -/
inductive EraseState where
  | none | running | suspended
  deriving DecidableEq, Repr

/-- Request slot state (9.1). -/
inductive SlotState where
  | free | posted | active | done | refused
  deriving DecidableEq, Repr

/-- Record list entry state (7.6). -/
inductive EntryState where
  | empty | filled | taken
  deriving DecidableEq, Repr

/-- Result codes (R186). -/
inductive ResultCode where
  | ok | clamped | noEffect | state | busy | order | invalid | gone | permit | present | isOpen | store | cancelled
  | unknownKind
  deriving DecidableEq, Repr

/-- Request kinds (9.2, R186). -/
inductive RequestKind where
  | loadSettings | readSettings | start | stop | setSpeed | limitTorque | tripNow | tripClear | armTrigger
  | disarmTrigger | manualTrigger | fetchCapture | fetchNext | releaseCapture | readStored | readStoredNext | eraseStore
  | resetSectorMap | setTime
  deriving DecidableEq, Repr

/-- The 32 fault kinds (table of 6.1), the kinds kept per motor or group with their side. -/
inductive FaultKind where
  | overcurrent (x : Side) | gateFault (x : Side) | measLoss (x : Side) | dcUndervolt (x : Side) | dcOvervolt (x : Side)
  | encoderLoss | encoderDisagree | overspeed | stall | jam | torqueDev (x : Side) | vibDanger (x : Side) | eStop | permit
  | hostTrip | dcLow | encoderSingle | markerSlip | positionInvalid | voltageLimited | vibAlert | sensorSuspect | sensorLost
  | backroll | storeFault
  deriving DecidableEq, Repr

/-- A source of a fault kind: the only one of a kind of one source; A then B of a kind with one source per motor, group or
encoder; OUT OF SERVICE, DROPPED, FAILED of STORE FAULT (6.1). -/
inductive Source where
  | first | second | third
  deriving DecidableEq, Repr

/-! ### Settings in force -/

/-- The DRIVE group (R185, with the ranges of 2.11, 3.10, 4.9, 6.9, R2, R6 and 1.3). Field comments give the image word. -/
structure DriveSettings where
  pinion : PinionSet          -- 0
  fullScaleA : Int            -- 1
  fullScaleB : Int            -- 2
  vdcFullScale : Int          -- 3
  countsPerRev : Int          -- 4-5, E
  countsPerShell : Int        -- 6-7, C
  nmax : Int                  -- 8
  accelRate : Int             -- 9
  decelRate : Int             -- 10
  magTime : Nat               -- 11
  nb : Int                    -- 12
  breakawayTime : Nat         -- 13
  creepSpeed : Int            -- 14
  zeroBand : Int              -- 15
  zeroDwell : Nat             -- 16
  brakeSetTime : Nat          -- 17
  backrollSpeed : Int         -- 18
  permitAction : PermitAction -- 19
  kp : Int                    -- 20
  ki : Int                    -- 21
  lb : Int                    -- 22
  lc : Int                    -- 23
  rate : Int                  -- 24, R
  share : Int                 -- 25, sA
  kA : Int                    -- 26
  kB : Int                    -- 27
  imax : Int                  -- 28
  idf : Int                   -- 29
  devLimit : Int              -- 30
  devTime : Nat               -- 31
  jamDecel : Int              -- 32
  polePairs : Int             -- 33
  ksA : Int                   -- 34
  ksB : Int                   -- 35
  kpc : Int                   -- 36
  kic : Int                   -- 37
  mlim : Int                  -- 38
  dmin : Int                  -- 39
  overcurrent : Int           -- 40
  undervolt : Int             -- 41
  low : Int                   -- 42
  overvolt : Int              -- 43
  disagreeLimit : Int         -- 44
  disagreeTime : Nat          -- 45
  deriving DecidableEq, Repr

/-- The values used while no DRIVE group is in force: R3, R7, R8, R13, R27, R41, R82, R122. A setting for which no rule
names one is 0; it is read in no state that the drive can be in without a DRIVE group (R20; log 33). -/
def DriveSettings.standIn : DriveSettings where
  pinion := .both
  fullScaleA := 4000
  fullScaleB := 4000
  vdcFullScale := 1500
  countsPerRev := 1024
  countsPerShell := 100000
  nmax := 20000
  accelRate := 0
  decelRate := 0
  magTime := 0
  nb := 0
  breakawayTime := 0
  creepSpeed := 0
  zeroBand := 0
  zeroDwell := 0
  brakeSetTime := 0
  backrollSpeed := 0
  permitAction := .ramp
  kp := 0
  ki := 0
  lb := 0
  lc := 0
  rate := 0
  share := 0
  kA := 1000
  kB := 1000
  imax := 0
  idf := 0
  devLimit := 0
  devTime := 0
  jamDecel := 0
  polePairs := 1
  ksA := 0
  ksB := 0
  kpc := 0
  kic := 0
  mlim := 560
  dmin := 30
  overcurrent := 3800
  undervolt := 100
  low := 100
  overvolt := 1500
  disagreeLimit := 0
  disagreeTime := 10

/-- One breakpoint of the envelope (3.11). -/
structure Breakpoint where
  speed : Int
  lm : Int
  lg : Int
  deriving DecidableEq, Repr

/-- The VIBRATION group (5.9, R185). -/
structure VibSettings where
  fitted : Vector Bool 6
  watchSpeed : Int
  alert : Vector Nat 6
  danger : Vector Nat 6
  sector : Vector Nat 6
  aOn : Nat
  dOn : Nat
  off : Nat
  alertDerate : Int
  dangerDerate : Int
  lostDerate : Int
  dwell : Nat
  deriving DecidableEq, Repr

/-- The values held before the first VIBRATION group (last column of the table of 5.9; R104). -/
def VibSettings.standIn : VibSettings where
  fitted := Vector.replicate 6 false
  watchSpeed := 1000
  alert := Vector.replicate 6 65535
  danger := Vector.replicate 6 65535
  sector := Vector.replicate 6 65535
  aOn := 4
  dOn := 2
  off := 16
  alertDerate := 900
  dangerDerate := 700
  lostDerate := 850
  dwell := 0

/-- The RECORD group (7.7). -/
structure RecordSettings where
  window : Nat
  pre : Nat
  deriving DecidableEq, Repr

/-- The STORE group (8.5, R185). -/
structure StoreSettings where
  present : Bool
  base : Nat
  ns : Nat
  opIdent : Byte
  opStatus : Byte
  opWriteEnable : Byte
  opProgram : Byte
  opErase : Byte
  opSuspend : Byte
  opResume : Byte
  opRead : Byte
  ident : List Byte
  programLimit : Nat
  eraseLimit : Nat
  suspendLimit : Nat
  suspendSupported : Bool
  deriving DecidableEq, Repr

/-- Settings used by the store unit before any STORE group: the store is ABSENT then and makes no transfer (8.4), so no rule
reads them. -/
def StoreSettings.standIn : StoreSettings where
  present := false
  base := 0
  ns := 0
  opIdent := 0
  opStatus := 0
  opWriteEnable := 0
  opProgram := 0
  opErase := 0
  opSuspend := 0
  opResume := 0
  opRead := 0
  ident := []
  programLimit := 0
  eraseLimit := 0
  suspendLimit := 0
  suspendSupported := false

/-! ### Inputs and measurement unit -/

/-- The level inputs of the part (2.3). -/
structure Inputs where
  runPermit : Bool
  eStop : Bool
  gateFault : Pair Bool
  lineBreak : Pair Bool
  deriving DecidableEq, Repr

/-- A sample set as R2 hands it to a regulator. -/
structure SampleSet where
  ia : Int
  ic : Int
  vdc : Int
  saturated : Bool
  fault : Bool
  deriving DecidableEq, Repr

/-- A converter link (1.1). `awaiting`: a SYNC has been sent and no frame of its period has been accepted. -/
structure Link where
  awaiting : Bool
  vdc : Int
  sample : SampleSet
  deriving DecidableEq, Repr

/-- What the measurement unit keeps for one encoder (1.2). `touched`: the line-break input has been active since the previous
update (R5). `speedZeroNext`: a new E has come into force since (R8, log 14). -/
structure Encoder where
  count : DWord
  saved : DWord
  window : List Int
  speed : Int
  lost : Bool
  clearTime : Nat
  touched : Bool
  speedZeroNext : Bool
  deriving DecidableEq, Repr

/-- The shell position (table of 1.3). -/
structure Shell where
  inUse : Option Side
  p : DWord
  reference : Bool
  valid : Bool
  position : Nat
  sector : Nat
  onceValid : Bool
  slip : Bool
  deriving DecidableEq, Repr

/-- The members of a sticky error set (1.4). -/
structure StickyErrors where
  framing : Bool
  parity : Bool
  overrun : Bool
  missing : Bool
  overload : Bool
  deriving DecidableEq, Repr

/-- The receiver of one channel (1.4). `waitIdle`: the line must be at the idle level for one element before the next frame
is looked for (R14, R18). -/
structure Receiver where
  buffer : Option (Int × HeadStatus)
  full : Bool
  overrun : Bool
  lineError : Bool
  errors : StickyErrors
  waitIdle : Bool
  deriving DecidableEq, Repr

/-- The measurement unit. -/
structure MeasUnit where
  links : Pair Link
  encoders : Pair Encoder
  n : Int
  shell : Shell
  receivers : Vector Receiver 6
  deriving DecidableEq, Repr

/-! ### Drive sequencer (table of 2.1) -/

/-- The drive sequencer. -/
structure Sequencer where
  drive : DriveState
  phase : StopPhase
  runKind : RunKind
  direction : Direction
  hostTarget : Int
  rampTarget : Int
  ramp : Int
  flux : Int
  magCount : Nat
  breakawayCount : Nat
  zeroCount : Nat
  brakeCount : Nat
  brakeRelease : Bool
  gate : Pair Bool
  restartPending : Bool
  backroll : Bool
  permit : Bool
  eStop : Bool
  deriving DecidableEq, Repr

/-! ### Torque governor (table of 3.1) -/

/-- A limit for each direction of torque (R47). -/
structure DirLimit where
  motoring : Int
  regenerating : Int
  deriving DecidableEq, Repr

/-- The torque governor. -/
structure Governor where
  iacc : Int
  hold : Bool
  e : Int
  p : Int
  i : Int
  td : Int
  l0 : DirLimit
  h : Int
  demand : Pair Int
  factor : Pair Int
  limit : Pair DirLimit
  limitDir : LimitDir
  tg : Int
  tp : Int
  torque : Pair Int
  atLimit : Bool
  idRef : Int
  iqRef : Pair Int
  estimate : Pair Int
  history : List Int
  devCount : Pair Nat
  overspeed : Bool
  envelope : Option (List Breakpoint)
  awaiting : Option (List Breakpoint × Fin 8)
  deriving DecidableEq, Repr

/-! ### Current regulators (table of 4.1) -/

/-- Three phase duties, per mille. -/
structure Duties where
  a : Int
  b : Int
  c : Int
  deriving DecidableEq, Repr

/-- What a regulator has published of the values that also change between two publications (R81): voltages, duties in force and
pending, and missing count. Every other published value is published at each event that changes it. -/
structure Published where
  vd : Int
  vq : Int
  duties : Duties
  pendingDuties : Option Duties
  missing : Nat
  deriving DecidableEq, Repr

/-- A current regulator. -/
structure Regulator where
  angle : DWord
  dInt : Int
  qInt : Int
  dClamp : ClampState
  qClamp : ClampState
  vd : Int
  vq : Int
  id : Int
  iq : Int
  duties : Duties
  pendingDuties : Option Duties
  arrivalSeen : Bool
  firstPeriod : Bool
  missing : Nat
  voltageLimited : Bool
  lastPeriod : Bool
  limitedRun : Nat
  iqSum : Int
  iqCount : Nat
  gateBlock : Bool
  overcurrent : Bool
  gateFault : Bool
  measLoss : Bool
  limitedCond : Bool
  published : Published
  deriving DecidableEq, Repr

/-! ### Vibration watch (table of 5.1) -/

/-- One channel of the watch. -/
structure ChannelWatch where
  mean : Int
  lastGood : Int
  sumSq : Nat
  held : Nat
  errs : Nat
  level : Nat
  levelValid : Bool
  health : Health
  goodRun : Nat
  badRun : Nat
  heldRun : Nat
  vib : VibState
  alertOn : Nat
  dangerOn : Nat
  offCount : Nat
  visitSector : Option Nat
  visitPeak : Nat
  visitCount : Nat
  map : List Nat
  sectorAlert : Bool
  worstSector : Nat
  worstValue : Nat
  memory : Bool
  heldSeen : Bool
  overloadSeen : Bool
  deriving DecidableEq, Repr

/-- One group of the watch. -/
structure GroupWatch where
  demand : Int
  dwell : Nat
  alert : Bool
  deriving DecidableEq, Repr

/-- The vibration watch. -/
structure Watch where
  channels : Vector ChannelWatch 6
  groups : Pair GroupWatch
  blockPos : Nat
  quarter : Nat
  suspect : Bool
  lost : Bool
  imageCount : Word
  sampleRequest : Bool
  settings : Option VibSettings
  awaiting : Option (VibSettings × Fin 8)
  deriving DecidableEq, Repr

/-! ### Fault unit and level watch (6.2, 6.7, 6.8) -/

/-- An entry of the fault set. The last detail is none, or a detail code (R186). -/
structure FaultEntry where
  s1 : Bool
  s2 : Bool
  s3 : Bool
  latched : Bool
  seen : Bool
  riseTime : DWord
  detail : Option Nat
  deriving DecidableEq, Repr

/-- The fault unit. The grouping window timer counts microseconds (log 4), the window length milliseconds. -/
structure FaultUnit where
  entries : Vector FaultEntry 32
  lock : Bool
  windowOpen : Bool
  firstCauseTime : DWord
  timer : Nat
  windowLen : Nat
  deriving DecidableEq, Repr

/-- The counts of the level watch for one motor (6.7). -/
structure LevelCounts where
  under : Nat
  low : Nat
  lowClear : Nat
  deriving DecidableEq, Repr

/-- The level watch. -/
structure LevelWatch where
  counts : Pair LevelCounts
  disagree : Nat
  deriving DecidableEq, Repr

/-! ### Record unit (table of 7.1) -/

/-- A capture bank. Frames that have been written since reset, by index, lowest first; each is the 24 words of R184. -/
structure Bank where
  state : BankState
  generation : Word
  frames : List (Nat × List Word)
  writeIndex : Nat
  valid : Nat
  pre : Nat
  post : Nat
  postWritten : Nat
  trigFrame : Nat
  trigId : Option Nat
  deriving DecidableEq, Repr

/-- A condition of the trigger program (R129); SPEED BELOW carries its x. -/
inductive TrigCond where
  | vibAlert | vibDanger | sectorAlert | torqueAtLimit | speedBelow (x : Int) | healthChange | voltageLimited | manual
  deriving DecidableEq, Repr

/-- The trigger program (R130). -/
structure Program where
  first : TrigCond
  second : Option TrigCond
  window : Nat
  repeats : Bool
  deriving DecidableEq, Repr

/-- A capture reference (R126). A bank of none is written 0xFFFF. -/
structure CaptureRef where
  status : CaptureStatus
  bank : Option (Fin 4)
  generation : Word
  trigFrame : Nat
  preFrames : Nat
  after : Nat
  deriving DecidableEq, Repr

/-- A follow-on cause of a record (R138). -/
structure FollowOn where
  kind : FaultKind
  detail : Option Nat
  offset : Nat
  deriving DecidableEq, Repr

/-- One channel in a record (7.5). -/
structure ChannelSnap where
  fitted : Bool
  level : Nat
  health : Health
  vib : VibState
  worstSector : Nat
  worstValue : Nat
  deriving DecidableEq, Repr

/-- The snapshot of a record (7.5, R137). -/
structure Snapshot where
  n : Int
  r : Int
  td : Int
  tg : Int
  torque : Pair Int
  estimate : Pair Int
  limit : Pair Int
  limitDir : LimitDir
  factor : Pair Int
  vdc : Pair Int
  iq : Pair Int
  position : Nat
  valid : Bool
  voltageLimited : Pair Bool
  channels : List ChannelSnap
  deriving DecidableEq, Repr

/-- The trigger conditions entered in a CAPTURE record (R133): the program's, and the detail of the one that fired. -/
structure FiredBy where
  first : TrigCond
  second : Option TrigCond
  detail : Option Nat
  deriving DecidableEq, Repr

/-- A record (7.5): `first` is the first cause of a TRIP record, `fired` the trigger conditions of a CAPTURE record. -/
structure Record where
  id : Nat
  clock : DWord
  clockSet : Bool
  partTime : DWord
  drive : DriveState
  runKind : RunKind
  first : Option (FaultKind × Option Nat)
  followOns : List FollowOn
  lostCauses : Nat
  snap : Snapshot
  ref : CaptureRef
  storeStatus : StoreStatus
  fired : Option FiredBy
  deriving DecidableEq, Repr

/-- What the record unit keeps of a list entry (7.1, R141, R142). -/
structure ListEntry where
  state : EntryState
  id : Option Nat
  ref : CaptureRef
  deriving DecidableEq, Repr

/-- The record unit. The window timer counts microseconds (log 4). `resets` is the model's own argument of the free value of
Config (log 8). -/
structure RecordUnit where
  banks : Vector Bank 4
  program : Option Program
  trigState : TrigState
  deadline : DWord
  windowTimer : Nat
  belowFirst : Bool
  belowSecond : Bool
  openRecord : Option Record
  kindSet : List FaultKind
  idCounter : Nat
  nextIndex : Fin 8
  entries : Vector ListEntry 8
  unposted : Nat
  settings : Option RecordSettings
  resets : Nat
  deriving DecidableEq, Repr

/-! ### Store unit (table of 8.1) -/

/-- A slot of a flash sector in the sector table (R149). -/
inductive FlashSlot where
  | blank | valid (id : Nat) | spoiled
  deriving DecidableEq, Repr

/-- State of a flash sector (8.1). -/
inductive SectorState where
  | erased | opened | full | bad | erasing
  deriving DecidableEq, Repr

/-- An entry of the sector table; `slots` are slots 1..15 in order. -/
structure Sector where
  state : SectorState
  seq : Option Nat
  slots : List FlashSlot
  deriving DecidableEq, Repr

/-- A record in the store queue: its id, its 128-word image and its attempt count. -/
structure QueuedRecord where
  id : Nat
  image : List Word
  attempts : Nat
  deriving DecidableEq, Repr

/-- The phases of ERASE STORE (R163). `drain k`: k of the records queued at the take are still to be stored. `erase i`: the
next sector to erase is the first good one from i on. -/
inductive ErasePhase where
  | drain (left : Nat) | settle | erase (next : Nat) | reopen
  deriving DecidableEq, Repr

/-- The host operation that makes the store BUSY (8.1), with its request slot. -/
inductive HostOp where
  | read (slot : Fin 8) (id sector page : Nat)
  | eraseAll (slot : Fin 8) (phase : ErasePhase)
  deriving DecidableEq, Repr

/-- The step of the flash work in progress: the transfers and polls of the scan (R152, R153), of storing (R156), of opening
a sector (R158), of an erase (R155), of its suspension (R157) and of a store read (R162). In `idle` with a RUNNING erase the
erase poll goes on in the background (R147). -/
inductive Job where
  | idle
  | scanPoll | scanIdent | scanHeader (sector : Nat) | scanSlot (sector slot : Nat)
  | bodyEnable | bodyProgram | bodyPoll | bodyRead
  | markEnable | markProgram | markPoll | markRead
  | openEnable | openProgram | openPoll | openRead
  | eraseEnable | eraseSend | eraseCheck
  | suspendSend | suspendPoll | resumeSend
  | pageRead
  deriving DecidableEq, Repr

/-- A transfer in progress on the store port (R146): the bytes sent, and how many bytes are then received. -/
structure Transfer where
  tx : List Byte
  rx : Nat
  deriving DecidableEq, Repr

/-- The store unit. `pollElapsed` and `eraseElapsed` count microseconds (log 4). `lastTransfer` is the transfer begun last on the
store port: that of a STATUS READ begins and ends in one event (log 27). -/
structure StoreUnit where
  state : StoreState
  sectors : List Sector
  badCount : Nat
  openSector : Option Nat
  nextSlot : Nat
  toOpen : Option (Nat × Nat)
  erase : EraseState
  eraseSector : Option Nat
  eraseElapsed : Nat
  queue : List QueuedRecord
  readPtr : Option Nat
  hostOp : Option HostOp
  dropped : Nat
  failed : Nat
  settings : Option StoreSettings
  awaiting : Option (StoreSettings × Fin 8)
  job : Job
  transfer : Option Transfer
  lastTransfer : Option Transfer
  pollElapsed : Nat
  deriving DecidableEq, Repr

/-! ### Request unit (9.1 to 9.8) -/

/-- What the request unit keeps of a slot. -/
structure Slot where
  state : SlotState
  kind : Option RequestKind
  params : List Word
  cancel : Bool
  deriving DecidableEq, Repr

/-- An active fetch (R170). -/
structure Fetch where
  slot : Fin 8
  bank : Fin 4
  generation : Word
  first : Nat
  count : Nat
  copied : Nat
  deriving DecidableEq, Repr

/-- The chain state (R169). -/
inductive Chain where
  | broken
  | fetch (bank : Fin 4) (generation : Word) (next : Nat)
  | storeRead
  deriving DecidableEq, Repr

/-- The request unit. `subMs` is the model's own: microseconds since the last expiry of the part time counter (log 4). -/
structure RequestUnit where
  slots : Vector Slot 8
  order : List (Fin 8)
  holder : Option (Fin 8)
  fetch : Option Fetch
  chain : Chain
  misuse : Nat
  notice : Word
  noticeEnable : Word
  starting : Bool
  updateCount : Word
  partTime : DWord
  clock : DWord
  phase : Nat
  clockSet : Bool
  subMs : Nat
  deriving DecidableEq, Repr

/-! ### The machine -/

/-- A canonical list of cells: see Machine/Ops.lean. -/
abbrev Memory := List Host.Cell

/-- The state of the KD418. -/
structure State where
  pending : List Instr
  inputs : Inputs
  drive : Option DriveSettings
  meas : MeasUnit
  seq : Sequencer
  gov : Governor
  regs : Pair Regulator
  watch : Watch
  faults : FaultUnit
  level : LevelWatch
  record : RecordUnit
  store : StoreUnit
  req : RequestUnit
  mem : Memory
  deriving DecidableEq, Repr

/-- Why the model stops with a fault: only a host access that the part has no such address for, or that is another
command. -/
inductive Fault where
  /-- Raised by SLOT_STATE_WRITE for a plain host store whose address is no word of the exchange memory: odd, or beyond
  0x7FFF and no register (10.1). Safe: the manual gives such an access no effect. -/
  | noSuchAddress (addr : Nat)
  /-- Raised by SLOT_STATE_WRITE for a "plain store" to a slot or list state word, a clear word or a register: the part reacts
  to that write, which is a command of its own (09, opening). Safe: nothing is executed. -/
  | notAPlainStore (addr : Nat)
  deriving DecidableEq, Repr

/-- Why the model refuses a command. -/
inductive Refusal where
  /-- Raised by exec for a command that has no meaning yet. Safe: nothing is executed. -/
  | notModelled (mnemonic : String)
  deriving DecidableEq, Repr

/-! ### Reset values -/

def Link.reset : Link := ⟨false, 0, ⟨0, 0, 0, false, false⟩⟩

def Encoder.reset : Encoder := ⟨0, 0, List.replicate 8 0, 0, true, 0, false, false⟩

def Shell.reset : Shell := ⟨none, 0, false, false, 0, 0, false, false⟩

def StickyErrors.none : StickyErrors := ⟨false, false, false, false, false⟩

/-- A receiver as R18 leaves it after a reset. -/
def Receiver.reset : Receiver := ⟨none, false, false, false, .none, false⟩

def MeasUnit.reset : MeasUnit where
  links := ⟨.reset, .reset⟩
  encoders := ⟨.reset, .reset⟩
  n := 0
  shell := .reset
  receivers := Vector.replicate 6 .reset

def Sequencer.reset : Sequencer where
  drive := .unconfigured
  phase := .none
  runKind := .normal
  direction := .forward
  hostTarget := 0
  rampTarget := 0
  ramp := 0
  flux := 0
  magCount := 0
  breakawayCount := 0
  zeroCount := 0
  brakeCount := 0
  brakeRelease := false
  gate := ⟨false, false⟩
  restartPending := false
  backroll := false
  permit := false
  eStop := false

def Governor.reset : Governor where
  iacc := 0
  hold := false
  e := 0
  p := 0
  i := 0
  td := 0
  l0 := ⟨0, 0⟩
  h := 1000
  demand := ⟨1000, 1000⟩
  factor := ⟨0, 0⟩
  limit := ⟨⟨0, 0⟩, ⟨0, 0⟩⟩
  limitDir := .motoring
  tg := 0
  tp := 0
  torque := ⟨0, 0⟩
  atLimit := false
  idRef := 0
  iqRef := ⟨0, 0⟩
  estimate := ⟨0, 0⟩
  history := List.replicate 8 0
  devCount := ⟨0, 0⟩
  overspeed := false
  envelope := none
  awaiting := none

/-- Duties of 500 on each phase: after reset and while blocked (R67). -/
def Duties.mid : Duties := ⟨500, 500, 500⟩

/-- What is published before the first arrival (log 52). -/
def Published.reset : Published := ⟨0, 0, .mid, none, 0⟩

def Regulator.reset : Regulator where
  angle := 0
  dInt := 0
  qInt := 0
  dClamp := .none
  qClamp := .none
  vd := 0
  vq := 0
  id := 0
  iq := 0
  duties := .mid
  pendingDuties := none
  arrivalSeen := false
  firstPeriod := true
  missing := 0
  voltageLimited := false
  lastPeriod := false
  limitedRun := 0
  iqSum := 0
  iqCount := 0
  gateBlock := true
  overcurrent := false
  gateFault := false
  measLoss := false
  limitedCond := false
  published := .reset

def ChannelWatch.reset : ChannelWatch where
  mean := 0
  lastGood := 0
  sumSq := 0
  held := 0
  errs := 0
  level := 0
  levelValid := false
  health := .suspect
  goodRun := 0
  badRun := 0
  heldRun := 0
  vib := .normal
  alertOn := 0
  dangerOn := 0
  offCount := 0
  visitSector := none
  visitPeak := 0
  visitCount := 0
  map := List.replicate 64 0
  sectorAlert := false
  worstSector := 0
  worstValue := 0
  memory := false
  heldSeen := false
  overloadSeen := false

def GroupWatch.reset : GroupWatch := ⟨1000, 0, false⟩

def Watch.reset : Watch where
  channels := Vector.replicate 6 .reset
  groups := ⟨.reset, .reset⟩
  blockPos := 0
  quarter := 0
  suspect := false
  lost := false
  imageCount := 0
  sampleRequest := false
  settings := none
  awaiting := none

def FaultEntry.reset : FaultEntry := ⟨false, false, false, false, false, 0, none⟩

/-- The fault unit after reset (6.2); of the timer and the window length no table gives a value (log 36). -/
def FaultUnit.reset : FaultUnit where
  entries := Vector.replicate 32 .reset
  lock := false
  windowOpen := false
  firstCauseTime := 0
  timer := 0
  windowLen := 0

def LevelCounts.zero : LevelCounts := ⟨0, 0, 0⟩

def LevelWatch.reset : LevelWatch := ⟨⟨.zero, .zero⟩, 0⟩

def Bank.reset : Bank where
  state := .free
  generation := 0
  frames := []
  writeIndex := 0
  valid := 0
  pre := 0
  post := 0
  postWritten := 0
  trigFrame := 0
  trigId := none

/-- The reference of a record for which no bank is LIVE or POST (R126). -/
def CaptureRef.none : CaptureRef := ⟨.none, Option.none, 0, 0, 0, 0⟩

def ListEntry.reset : ListEntry := ⟨.empty, none, .none⟩

def RecordUnit.reset : RecordUnit where
  banks := Vector.replicate 4 .reset
  program := none
  trigState := .disarmed
  deadline := 0
  windowTimer := 0
  belowFirst := false
  belowSecond := false
  openRecord := none
  kindSet := []
  idCounter := 1
  nextIndex := 0
  entries := Vector.replicate 8 .reset
  unposted := 0
  settings := none
  resets := 0

def StoreUnit.reset : StoreUnit where
  state := .absent
  sectors := []
  badCount := 0
  openSector := none
  nextSlot := 1
  toOpen := none
  erase := .none
  eraseSector := none
  eraseElapsed := 0
  queue := []
  readPtr := none
  hostOp := none
  dropped := 0
  failed := 0
  settings := none
  awaiting := none
  job := .idle
  transfer := none
  lastTransfer := none
  pollElapsed := 0

/-- A FREE slot with no kind and no parameters copied, since no take has been made (log 55). -/
def Slot.reset : Slot := ⟨.free, none, [], false⟩

def RequestUnit.reset : RequestUnit where
  slots := Vector.replicate 8 .reset
  order := []
  holder := none
  fetch := none
  chain := .broken
  misuse := 0
  notice := 0
  noticeEnable := 0
  starting := true
  updateCount := 0
  partTime := 0
  clock := 0
  phase := 0
  clockSet := false
  subMs := 0

/-- The inputs of `State.reset`: all inactive (DESIGN CHOICE, log 9). -/
def Inputs.reset : Inputs := ⟨false, false, ⟨false, false⟩, ⟨false, false⟩⟩

/-- The machine right after power-on reset (3.5, R178): every block at its reset values, PORT CONTROL reading STARTING, the
start-up initialisation of the exchange memory still to come. -/
def State.reset : State where
  pending := []
  inputs := .reset
  drive := none
  meas := .reset
  seq := .reset
  gov := .reset
  regs := ⟨.reset, .reset⟩
  watch := .reset
  faults := .reset
  level := .reset
  record := .reset
  store := .reset
  req := .reset
  mem := []

/-! ### Replacing one block -/

def State.setPending (s : State) (x : List Instr) : State := { s with pending := x }
def State.setInputs (s : State) (x : Inputs) : State := { s with inputs := x }
def State.setDrive (s : State) (x : Option DriveSettings) : State := { s with drive := x }
def State.setMeas (s : State) (x : MeasUnit) : State := { s with meas := x }
def State.setSeq (s : State) (x : Sequencer) : State := { s with seq := x }
def State.setGov (s : State) (x : Governor) : State := { s with gov := x }
def State.setRegs (s : State) (x : Pair Regulator) : State := { s with regs := x }
def State.setWatch (s : State) (x : Watch) : State := { s with watch := x }
def State.setFaults (s : State) (x : FaultUnit) : State := { s with faults := x }
def State.setLevel (s : State) (x : LevelWatch) : State := { s with level := x }
def State.setRecord (s : State) (x : RecordUnit) : State := { s with record := x }
def State.setStore (s : State) (x : StoreUnit) : State := { s with store := x }
def State.setReq (s : State) (x : RequestUnit) : State := { s with req := x }
def State.setMem (s : State) (x : Memory) : State := { s with mem := x }

end Sys2Proof.Machine
end

