-- ==== Sys2Proof/Machine/Operands.lean ====
section
/-! DEFINITION. Arithmetic (3.2), the words of quantities and codes (R179, R186), and the reading of words. -/

namespace Sys2Proof.Machine

/-! ### Rounding, clamps and roots (3.2) -/

/-- "Clamped to a..b" (3.2). -/
def clampTo (lo hi x : Int) : Int := if x < lo then lo else if hi < x then hi else x

/-- "Clamped to ±k" (3.2). -/
def clampAbs (k x : Int) : Int := clampTo (-k) k x

/-- A division truncated toward zero (3.2). -/
def truncDiv (x d : Int) : Int := x.tdiv d

/-- A division rounded to nearest, halves away from zero (3.2); `d` is positive. -/
def roundDiv (x d : Int) : Int := if 0 ≤ x then (2 * x + d) / (2 * d) else -((2 * (-x) + d) / (2 * d))

/-- The bits of a square root from bit `k - 1` down, above the part `r` found so far. -/
def isqrtBits (n : Nat) : Nat → Nat → Nat
  | 0, r => r
  | k + 1, r => isqrtBits n k (if (r + 2 ^ k) * (r + 2 ^ k) ≤ n then r + 2 ^ k else r)

/-- The integer square root: the floor of the true square root (3.2). -/
def isqrt (n : Nat) : Nat := isqrtBits n (n.log2 / 2 + 1) 0

/-- sign(x) (3.2). -/
def signOf (x : Int) : Int := if 0 < x then 1 else if x < 0 then -1 else 0

/-- A count that holds at a limit. -/
def countTo (limit x : Nat) : Nat := if x < limit then x + 1 else limit

/-! ### Words of quantities (R179) -/

/-- A quantity with a signed range, as a two's complement word. -/
def intWord (x : Int) : Word := BitVec.ofInt 16 x

/-- An unsigned quantity as a word. -/
def natWord (n : Nat) : Word := BitVec.ofNat 16 n

/-- An unsigned 32-bit quantity as two words, the low word first. -/
def dwordWords (x : DWord) : List Word := [loWord x, hiWord x]

/-- A natural number below 2³² as two words. -/
def nat32Words (n : Nat) : List Word := dwordWords (BitVec.ofNat 32 n)

/-- "No value" in a word (R182). -/
def noWord : Word := 0xFFFF

/-- A word of an optional quantity, 0xFFFF for none (R182). -/
def optWord (x : Option Nat) : Word := (x.map natWord).getD noWord

/-- Two words of an optional 32-bit quantity, 0xFFFF in both for none (R182). -/
def opt32Words (x : Option Nat) : List Word := (x.map nat32Words).getD [noWord, noWord]

/-- Flags packed from bit 0 up. -/
def packBits : List Bool → Word
  | [] => 0
  | b :: bs => (packBits bs <<< 1) ||| flagWord b

/-- The signed value of a marker count or an encoder count (R4, R9). -/
def dwordInt (x : DWord) : Int := x.toInt

/-! ### Code words (R186) -/

def DriveState.code : DriveState → Nat
  | .unconfigured => 0 | .stopped => 1 | .magnetizing => 2 | .breakaway => 3 | .run => 4 | .stopping => 5 | .tripped => 6

def StopPhase.code : StopPhase → Nat
  | .none => 0 | .decelerating => 1 | .atZero => 2 | .brakeSetting => 3

def RunKind.code : RunKind → Nat
  | .normal => 0 | .creep => 1

def Direction.code : Direction → Nat
  | .forward => 0 | .reverse => 1

def PinionSet.code : PinionSet → Nat
  | .both => 0 | .aOnly => 1 | .bOnly => 2

def PermitAction.code : PermitAction → Nat
  | .ramp => 0 | .trip => 1

def LimitDir.code : LimitDir → Nat
  | .motoring => 0 | .regenerating => 1

/-- Health of a fitted channel. -/
def Health.code : Health → Nat
  | .suspect => 0 | .healthy => 1 | .lost => 2

/-- The health code of a channel that is not fitted. -/
def healthNotFitted : Nat := 3

/-- Vibration state of a fitted channel. -/
def VibState.code : VibState → Nat
  | .normal => 0 | .alert => 1 | .danger => 2 | .unknown => 3

/-- The vibration state code of a channel that is not fitted. -/
def vibNotFitted : Nat := 4

def BankState.code : BankState → Nat
  | .free => 0 | .live => 1 | .post => 2 | .frozen => 3

/-- Trigger state. FIRED has no code of its own: the state leaves it inside the event that enters it (R133). -/
def TrigState.code : TrigState → Nat
  | .disarmed => 0 | .waitFirst => 1 | .waitSecond => 2 | .fired => 0

def TrigCond.code : TrigCond → Nat
  | .vibAlert => 1 | .vibDanger => 2 | .sectorAlert => 3 | .torqueAtLimit => 4 | .speedBelow _ => 5 | .healthChange => 6
  | .voltageLimited => 7 | .manual => 8

/-- The x of a condition; 0 for a condition that carries none (log 21). -/
def TrigCond.x : TrigCond → Int
  | .speedBelow x => x
  | _ => 0

def CaptureStatus.code : CaptureStatus → Nat
  | .none => 0 | .pending => 1 | .complete => 2

def StoreStatus.code : StoreStatus → Nat
  | .none => 0 | .queued => 1 | .stored => 2 | .failed => 3 | .dropped => 4

def StoreState.code : StoreState → Nat
  | .absent => 0 | .scanning => 1 | .ready => 2 | .busy => 3 | .outOfService => 4

def EraseState.code : EraseState → Nat
  | .none => 0 | .running => 1 | .suspended => 2

def SlotState.code : SlotState → Nat
  | .free => 0 | .posted => 1 | .active => 2 | .done => 3 | .refused => 4

def EntryState.code : EntryState → Nat
  | .empty => 0 | .filled => 1 | .taken => 2

def ResultCode.code : ResultCode → Nat
  | .ok => 0 | .clamped => 1 | .noEffect => 2 | .state => 3 | .busy => 4 | .order => 5 | .invalid => 6 | .gone => 7
  | .permit => 8 | .present => 9 | .isOpen => 10 | .store => 11 | .cancelled => 12 | .unknownKind => 13

/-- The detail code of a motor, group or encoder. -/
def sideCode : Side → Nat
  | .a => 0 | .b => 1

/-- The other motor. -/
def otherSide : Side → Side
  | .a => .b
  | .b => .a

/-- The number of a fault kind (table of 6.1). -/
def FaultKind.num : FaultKind → Fin 32
  | .overcurrent .a => 0 | .overcurrent .b => 1 | .gateFault .a => 2 | .gateFault .b => 3
  | .measLoss .a => 4 | .measLoss .b => 5 | .dcUndervolt .a => 6 | .dcUndervolt .b => 7
  | .dcOvervolt .a => 8 | .dcOvervolt .b => 9 | .encoderLoss => 10 | .encoderDisagree => 11 | .overspeed => 12
  | .stall => 13 | .jam => 14 | .torqueDev .a => 15 | .torqueDev .b => 16 | .vibDanger .a => 17 | .vibDanger .b => 18
  | .eStop => 19 | .permit => 20 | .hostTrip => 21 | .dcLow => 22 | .encoderSingle => 23 | .markerSlip => 24
  | .positionInvalid => 25 | .voltageLimited => 26 | .vibAlert => 27 | .sensorSuspect => 28 | .sensorLost => 29
  | .backroll => 30 | .storeFault => 31

/-- The trip class kinds (6.1), in number order. -/
def FaultKind.tripKinds : List FaultKind :=
  [.overcurrent .a, .overcurrent .b, .gateFault .a, .gateFault .b, .measLoss .a, .measLoss .b, .dcUndervolt .a,
    .dcUndervolt .b, .dcOvervolt .a, .dcOvervolt .b, .encoderLoss, .encoderDisagree, .overspeed, .stall, .jam,
    .torqueDev .a, .torqueDev .b, .vibDanger .a, .vibDanger .b, .eStop, .permit, .hostTrip]

/-! ### Reading words -/

/-- A parameter or image word; a word that the list does not have is 0. -/
def wordAt (ws : List Word) (i : Nat) : Word := ws.getD i 0

/-- Word `i` as an unsigned quantity. -/
def natAt (ws : List Word) (i : Nat) : Nat := (wordAt ws i).toNat

/-- Word `i` as a signed quantity (R179). -/
def intAt (ws : List Word) (i : Nat) : Int := (wordAt ws i).toInt

/-- Words `i` and `i + 1` as an unsigned 32-bit quantity (R179). -/
def nat32At (ws : List Word) (i : Nat) : Nat := (joinWords (wordAt ws i) (wordAt ws (i + 1))).toNat

/-- The request kind of a kind word (R186). -/
def RequestKind.ofCode (w : Word) : Option RequestKind :=
  match w.toNat with
  | 1 => some .loadSettings | 2 => some .readSettings | 3 => some .start | 4 => some .stop | 5 => some .setSpeed
  | 6 => some .limitTorque | 7 => some .tripNow | 8 => some .tripClear | 9 => some .armTrigger
  | 10 => some .disarmTrigger | 11 => some .manualTrigger | 12 => some .fetchCapture | 13 => some .fetchNext
  | 14 => some .releaseCapture | 15 => some .readStored | 16 => some .readStoredNext | 17 => some .eraseStore
  | 18 => some .resetSectorMap | 19 => some .setTime
  | _ => none

/-! ### Sides, groups and channels -/

/-- Group of a channel (4.0): 0, 1, 4 are A; 2, 3, 5 are B. -/
def groupOf (c : Channel) : Side := if c = 0 || c = 1 || c = 4 then .a else .b

/-- The channels in order. -/
def allChannels : List Channel := [0, 1, 2, 3, 4, 5]

/-- Motor `x` is in the pinion set. -/
def PinionSet.has (p : PinionSet) (x : Side) : Bool :=
  match p, x with
  | .both, _ => true
  | .aOnly, .a => true
  | .bOnly, .b => true
  | _, _ => false

/-- The motor of smaller detail code that is not in the set is the one that a one-motor set leaves out; with BOTH there is
none. -/
def PinionSet.single : PinionSet → Option Side
  | .both => none
  | .aOnly => some .a
  | .bOnly => some .b

/-- The states in which the governor and level watch count the drive as running (3.1, R43). -/
def DriveState.running : DriveState → Bool
  | .magnetizing | .breakaway | .run | .stopping => true
  | _ => false

/-- Both values of a pair mapped. -/
def Pair.map {α β : Type} (f : α → β) (p : Pair α) : Pair β := ⟨f p.a, f p.b⟩

/-- A pair formed by side. -/
def Pair.ofFn {α : Type} (f : Side → α) : Pair α := ⟨f .a, f .b⟩

end Sys2Proof.Machine
end

