-- ==== Sys2Proof/Machine/Ops.lean ====
section
/-! DEFINITION. The exchange memory as a canonical list of cells, and its reads and writes. -/

namespace Sys2Proof.Machine

/-- What an unlisted byte of the exchange memory reads as (DESIGN CHOICE, log 7: the manual gives no contents). -/
def Memory.unlisted : Byte := 0

/-- One byte. -/
def Memory.read : Memory → Nat → Byte
  | [], _ => Memory.unlisted
  | (a, b) :: m, x => if x = a then b else Memory.read m x

/-- Every address of the list is greater than `a`, and they rise strictly. -/
def Memory.risesFrom (a : Nat) : Memory → Bool
  | [] => true
  | c :: m => decide (a < c.1) && Memory.risesFrom c.1 m

/-- The canonical form: addresses strictly rising, no entry equal to what an unlisted address reads as. -/
def Memory.wf (m : Memory) : Bool :=
  (match m with
    | [] => true
    | c :: m' => Memory.risesFrom c.1 m') &&
  m.all fun c => c.2 != Memory.unlisted

/-- The cells that a run of bytes from `a` on needs. -/
def Memory.cells : Nat → List Byte → Memory
  | _, [] => []
  | a, b :: bs => if b = Memory.unlisted then Memory.cells (a + 1) bs else (a, b) :: Memory.cells (a + 1) bs

/-- The bytes from `a` on become `bs`. -/
def Memory.blit (m : Memory) (a : Nat) (bs : List Byte) : Memory :=
  m.filter (fun c => decide (c.1 < a)) ++ (Memory.cells a bs ++ m.filter (fun c => decide (a + bs.length ≤ c.1)))

/-- The word at byte address `a` (3.4: low byte first). -/
def Memory.readWord (m : Memory) (a : Nat) : Word := joinBytes (m.read a) (m.read (a + 1))

/-- The `n` words from byte address `a` on. -/
def Memory.readWords (m : Memory) (a : Nat) : Nat → List Word
  | 0 => []
  | n + 1 => m.readWord a :: m.readWords (a + 2) n

/-- The words from byte address `a` on become `ws`. -/
def Memory.writeWords (m : Memory) (a : Nat) (ws : List Word) : Memory := m.blit a (ws.flatMap wordBytes)

/-- One word written. -/
def Memory.writeWord (m : Memory) (a : Nat) (w : Word) : Memory := m.writeWords a [w]

/-- A list of words cut or filled with zero words to the length `n`. -/
def padWords (n : Nat) (ws : List Word) : List Word := (ws ++ List.replicate n 0).take n

/-! ### Addresses (10.1) -/

def identityAddr : Nat := 0x0000
def statusAddr : Nat := 0x0200
def mapImageAddr : Nat := 0x2000
def transferAddr : Nat := 0x6000

/-- Request slot k (10.1). -/
def slotAddr (k : Fin 8) : Nat := 0x0040 + 48 * k.val

/-- Record list entry k (10.1). -/
def entryAddr (k : Fin 8) : Nat := 0x1000 + 260 * k.val

/-- The clear word of channel c (R182). -/
def stickyClearAddr (c : Channel) : Nat := 0x0500 + 2 * c.val

/-- The alarm-seen clear word (R182). -/
def alarmClearAddr : Nat := 0x050C

/-- Words of the transfer area (10.1). -/
def transferWords : Nat := 4096

/-- A write to the exchange memory by the part. -/
def State.writeWords (s : State) (a : Nat) (ws : List Word) : State := s.setMem (s.mem.writeWords a ws)

/-- A write to the exchange memory by the part, of one word. -/
def State.writeWord (s : State) (a : Nat) (w : Word) : State := s.setMem (s.mem.writeWord a w)

end Sys2Proof.Machine
end

