-- ==== Sys2Proof/Machine/Flags.lean ====
section
/-! DEFINITION. Flags: the NOTICE register (R175), the entries of the fault set (6.2, R106), sticky error sets (R17), and the
flag words formed from them (R182). -/

namespace Sys2Proof.Machine

/-! ### Places of a vector -/

/-- The value at place `i`. -/
def vget {α : Type} {n : Nat} (v : Vector α n) (i : Fin n) : α := v[i.val]

/-- The vector with place `i` replaced. -/
def vset {α : Type} {n : Nat} (v : Vector α n) (i : Fin n) (x : α) : Vector α n := v.set i.val x i.isLt

/-! ### NOTICE (R175, R180) -/

/-- The bit of a notice. -/
def noticeBit (i : Nat) : Word := (1 : Word) <<< i

def noticeRecord : Nat := 8
def noticeAlarm : Nat := 9
def noticeCapture : Nat := 10
def noticeStore : Nat := 11
def noticeStart : Nat := 12

/-- The positions that name a notice: bits 0..12 (R180). -/
def noticeMask : Word := 0x1FFF

/-- A notice bit is set; a bit already set stays set (R175). -/
def State.raiseNotice (s : State) (i : Nat) : State := s.setReq { s.req with notice := s.req.notice ||| noticeBit i }

/-- The NOTICE pin: active while some bit is set in both registers (R175). -/
def State.noticePin (s : State) : Bool := s.req.notice &&& s.req.noticeEnable != 0

/-! ### Fault set -/

def FaultEntry.source (e : FaultEntry) : Source → Bool
  | .first => e.s1
  | .second => e.s2
  | .third => e.s3

def FaultEntry.setSource (e : FaultEntry) (src : Source) (v : Bool) : FaultEntry :=
  match src with
  | .first => { e with s1 := v }
  | .second => { e with s2 := v }
  | .third => { e with s3 := v }

/-- Present: some source of the kind is present (6.2). -/
def FaultEntry.present (e : FaultEntry) : Bool := e.s1 || e.s2 || e.s3

/-- The entry of a kind. -/
def FaultUnit.entry (f : FaultUnit) (k : FaultKind) : FaultEntry := vget f.entries k.num

/-- The entry of a kind replaced. -/
def FaultUnit.setEntry (f : FaultUnit) (k : FaultKind) (e : FaultEntry) : FaultUnit :=
  { f with entries := vset f.entries k.num e }

/-- The source of a kind kept per motor, group or encoder. -/
def sideSource : Side → Source
  | .a => .first
  | .b => .second

/-- What a rise of an absent source does before its class is looked at (R106). -/
def FaultEntry.rise (e : FaultEntry) (src : Source) (t : DWord) (d : Option Nat) : FaultEntry :=
  { e.setSource src true with riseTime := t, detail := d }

/-- Some source of the kind is present. -/
def State.present (s : State) (k : FaultKind) : Bool := (s.faults.entry k).present

/-- The source of the kind is present. -/
def State.sourcePresent (s : State) (k : FaultKind) (src : Source) : Bool := (s.faults.entry k).source src

/-- The entry of a kind replaced, in the state. -/
def State.setEntry (s : State) (k : FaultKind) (e : FaultEntry) : State := s.setFaults (s.faults.setEntry k e)

/-- A fall (R106): of an absent source it changes nothing. -/
def State.fall (s : State) (k : FaultKind) (src : Source) : State :=
  if s.sourcePresent k src then s.setEntry k ((s.faults.entry k).setSource src false) else s

/-- A rise of an alarm kind (R106, R111). -/
def State.alarmRise (s : State) (k : FaultKind) (src : Source) (d : Option Nat) : State :=
  if s.sourcePresent k src then s
  else (s.setEntry k { (s.faults.entry k).rise src s.req.partTime d with seen := true }).raiseNotice noticeAlarm

/-- A pulse of an alarm kind (R106). -/
def State.alarmPulse (s : State) (k : FaultKind) (src : Source) (d : Option Nat) : State :=
  (s.alarmRise k src d).fall k src

/-- An alarm condition that stands or not, reported where it changed (R106). -/
def State.alarmLevel (s : State) (k : FaultKind) (src : Source) (d : Option Nat) (now : Bool) : State :=
  if now then s.alarmRise k src d else s.fall k src

/-- The host clears alarm seen of the kinds 22 + j whose bit j is one (R112); other positions name no kind. -/
def FaultUnit.clearSeen (f : FaultUnit) (w : Word) : FaultUnit :=
  { f with entries := f.entries.mapFinIdx fun i e _ =>
      if 22 ≤ i && w.getLsbD (i - 22) then { e with seen := false } else e }

/-- All latched flags NO (R115). -/
def FaultUnit.clearLatched (f : FaultUnit) : FaultUnit :=
  { f with entries := f.entries.map fun e => { e with latched := false } }

/-- A trip kind is both latched and present (R115). -/
def FaultUnit.holdsBack (f : FaultUnit) : Bool :=
  FaultKind.tripKinds.any fun k => (f.entry k).latched && (f.entry k).present

/-- The present flags of kinds 0..31 as two words (R182). -/
def FaultUnit.presentWords (f : FaultUnit) : List Word :=
  [packBits ((f.entries.toList.take 16).map FaultEntry.present), packBits ((f.entries.toList.drop 16).map FaultEntry.present)]

/-- The latched flags of kinds 0..31 as two words (R182). -/
def FaultUnit.latchedWords (f : FaultUnit) : List Word :=
  [packBits ((f.entries.toList.take 16).map (·.latched)), packBits ((f.entries.toList.drop 16).map (·.latched))]

/-- The alarm-seen flags of kinds 22..31 as a word (R182). -/
def FaultUnit.seenWord (f : FaultUnit) : Word := packBits ((f.entries.toList.drop 22).map (·.seen))

/-! ### Sticky error sets (R17, R182) -/

/-- The set as a word. -/
def StickyErrors.word (e : StickyErrors) : Word := packBits [e.framing, e.parity, e.overrun, e.missing, e.overload]

/-- The members written as one leave the set (R17). -/
def StickyErrors.clear (e : StickyErrors) (w : Word) : StickyErrors where
  framing := e.framing && !w.getLsbD 0
  parity := e.parity && !w.getLsbD 1
  overrun := e.overrun && !w.getLsbD 2
  missing := e.missing && !w.getLsbD 3
  overload := e.overload && !w.getLsbD 4

end Sys2Proof.Machine
end

