-- ==== Sys2Proof/Machine/Layouts.lean ====
section
/-! DEFINITION. The word images of Chapter 10: identity block, status block, record image, capture frame, sector map image
(R180 to R185). Words that no table names are written 0 (R179). -/

namespace Sys2Proof.Machine

def zeros (n : Nat) : List Word := List.replicate n 0

/-! ### What is published under a derived form -/

/-- The ramp value r: the internal ramp in speed counts (R26). -/
def Sequencer.r (q : Sequencer) : Int := truncDiv q.ramp 1000

def DirLimit.get (l : DirLimit) : LimitDir → Int
  | .motoring => l.motoring
  | .regenerating => l.regenerating

/-- L_X as published: the limit of the direction of the pair (R47). -/
def Governor.publishedLimit (g : Governor) (x : Side) : Int := (g.limit.get x).get g.limitDir

/-- P as published: clamped to ±32767 (R44). -/
def Governor.publishedP (g : Governor) : Int := clampAbs 32767 g.p

/-- The channel is fitted under the group in force (R18). -/
def Watch.fitted (w : Watch) (c : Channel) : Bool :=
  match w.settings with
  | some v => vget v.fitted c
  | none => false

/-- The VIBRATION settings in use: those in force, else the values held before the first group (R104). -/
def Watch.cfg (w : Watch) : VibSettings := w.settings.getD .standIn

/-- The DRIVE settings in use: those in force, else the values the rules name (R3, R7, R8, R13, R27, R41, R82, R122). -/
def State.cfg (s : State) : DriveSettings := s.drive.getD .standIn

/-- POSITION INVALID: INVALID while once valid is YES (R12). -/
def Shell.invalidCond (h : Shell) : Bool := !h.valid && h.onceValid

/-! ### Identity block (R180) -/

/-- The 32 words of the identity block. -/
def identityWords : List Word :=
  padWords 32 [0x0418, 1, 1, 8, 8, 4096, 0x0200, 0x0500, 0x1000, 0x2000, 0x6000]

/-- IDENT (R180). -/
def identWord : Word := 0x4181

/-- PORT CONTROL as it reads (R176, R180). -/
def State.portControl (s : State) : Word :=
  if s.req.starting then 0 else if s.seq.restartPending then 2 else 1

/-! ### Status block (R182) -/

def Published.pendingWords (p : Published) : List Word :=
  match p.pendingDuties with
  | some d => [intWord d.a, intWord d.b, intWord d.c]
  | none => [0, 0, 0]

/-- The twelve words of a regulator, as it has published them (R81, R182). id and iq change at an arrival only. -/
def Regulator.statusWords (g : Regulator) : List Word :=
  let p := g.published
  [intWord g.id, intWord g.iq, intWord p.vd, intWord p.vq, intWord p.duties.a, intWord p.duties.b, intWord p.duties.c] ++
  p.pendingWords ++ [packBits [g.gateBlock, g.lastPeriod], natWord p.missing]

/-- The eight words of a channel (R182). -/
def State.channelWords (s : State) (c : Channel) : List Word :=
  if s.watch.fitted c then
    let w := vget s.watch.channels c
    [natWord w.level, flagWord w.levelValid, natWord w.health.code, natWord w.vib.code, flagWord w.sectorAlert,
      natWord w.worstSector, natWord w.worstValue, (vget s.meas.receivers c).errors.word]
  else [0, 0, natWord healthNotFitted, natWord vibNotFitted, 0, 0, 0, 0]

/-- The three words of a fault entry (R182). -/
def FaultEntry.statusWords (e : FaultEntry) : List Word := dwordWords e.riseTime ++ [optWord e.detail]

/-- The five words of a bank (R182). -/
def Bank.statusWords (b : Bank) : List Word :=
  [natWord b.state.code, b.generation, natWord b.valid] ++ opt32Words b.trigId

/-- The code and x words of a condition, or of none. -/
def condWords (c : Option TrigCond) : List Word :=
  match c with
  | some k => [natWord k.code, intWord k.x]
  | none => [0, 0]

/-- Words 268..274: trigger state and program (R182), zeros while there is no program (log 56). -/
def RecordUnit.triggerWords (r : RecordUnit) : List Word :=
  natWord r.trigState.code ::
  match r.program with
  | some p => condWords (some p.first) ++ condWords p.second ++ [natWord p.window, flagWord p.repeats]
  | none => zeros 6

/-- Words 284..292: the store unit (R182). -/
def StoreUnit.statusWords (u : StoreUnit) : List Word :=
  [natWord u.state.code, natWord u.dropped, natWord u.failed, natWord u.queue.length, optWord u.openSector,
    natWord u.nextSlot, natWord u.erase.code, optWord u.eraseSector, natWord u.badCount]

/-- Words 6..37: sequencer and governor (R182). -/
def State.driveWords (s : State) : List Word :=
  let q := s.seq
  let g := s.gov
  [natWord q.drive.code, natWord q.phase.code, natWord q.runKind.code, natWord q.direction.code, intWord q.hostTarget,
    intWord q.rampTarget, intWord q.r, flagWord q.restartPending, natWord s.req.misuse,
    intWord g.td, intWord g.tg, intWord g.torque.a, intWord g.torque.b, intWord g.publishedP, intWord g.i, flagWord g.hold,
    intWord (g.publishedLimit .a), intWord (g.publishedLimit .b), natWord g.limitDir.code, intWord g.factor.a,
    intWord g.factor.b, intWord g.h,
    intWord g.estimate.a, intWord g.estimate.b, intWord g.idRef, intWord g.iqRef.a, intWord g.iqRef.b,
    flagWord g.atLimit, natWord g.devCount.a, natWord g.devCount.b, flagWord g.overspeed, intWord q.flux]

/-- Words 64..73: the measurement unit (R182). -/
def State.measWords (s : State) : List Word :=
  let m := s.meas
  [intWord m.links.a.vdc, intWord m.links.b.vdc, intWord m.n, intWord m.encoders.a.speed, intWord m.encoders.b.speed,
    flagWord m.encoders.a.lost, flagWord m.encoders.b.lost, natWord m.shell.position, flagWord m.shell.valid,
    natWord m.shell.sector]

/-- The 384 words of the status block, with update count `count` (R177, R182). -/
def State.statusWords (s : State) (count : Word) : List Word :=
  count :: (dwordWords s.req.partTime ++ dwordWords s.req.clock ++ [flagWord s.req.clockSet] ++ s.driveWords ++ zeros 2 ++
    s.regs.a.statusWords ++ s.regs.b.statusWords ++ s.measWords ++ zeros 6 ++
    allChannels.flatMap s.channelWords ++
    [intWord s.watch.groups.a.demand, intWord s.watch.groups.b.demand, natWord s.watch.groups.a.dwell,
      natWord s.watch.groups.b.dwell] ++ zeros 4 ++
    s.faults.presentWords ++ s.faults.latchedWords ++
    [s.faults.seenWord, flagWord s.faults.lock, flagWord s.faults.windowOpen] ++ dwordWords s.faults.firstCauseTime ++
    zeros 3 ++ s.faults.entries.toList.flatMap FaultEntry.statusWords ++ zeros 4 ++
    s.record.banks.toList.flatMap Bank.statusWords ++ s.record.triggerWords ++ dwordWords s.record.deadline ++
    nat32Words s.record.idCounter ++ [natWord s.record.nextIndex.val, natWord s.record.unposted] ++ zeros 3 ++
    s.store.statusWords ++ zeros 91)

/-- The status block is rewritten (R177): the update count gains 2, and every field is written (log 19). While PORT CONTROL
reads STARTING the first rewrite has not come (R178). -/
def State.rewriteStatus (s : State) : State :=
  if s.req.starting then s
  else
    (s.setReq { s.req with updateCount := s.req.updateCount + 2 }).writeWords statusAddr
      (s.statusWords (s.req.updateCount + 2))

/-! ### Records (R183) -/

/-- The three words of follow-on `i` (R183). -/
def followOnWords (fs : List FollowOn) (i : Nat) : List Word :=
  match fs[i]? with
  | some f => [natWord f.kind.num.val, optWord f.detail, natWord f.offset]
  | none => [noWord, noWord, 0]

/-- The five words of a channel in a record (R183). -/
def ChannelSnap.words (c : ChannelSnap) : List Word :=
  if c.fitted then
    [natWord c.level, natWord c.health.code, natWord c.vib.code, natWord c.worstSector, natWord c.worstValue]
  else [0, natWord healthNotFitted, natWord vibNotFitted, 0, 0]

/-- The nineteen words 35..53 (R183). -/
def Snapshot.words (v : Snapshot) : List Word :=
  [intWord v.n, intWord v.r, intWord v.td, intWord v.tg, intWord v.torque.a, intWord v.torque.b, intWord v.estimate.a,
    intWord v.estimate.b, intWord v.limit.a, intWord v.limit.b, natWord v.limitDir.code, intWord v.factor.a,
    intWord v.factor.b, intWord v.vdc.a, intWord v.vdc.b, intWord v.iq.a, intWord v.iq.b, natWord v.position,
    flagWord v.valid]

/-- The six words of a capture reference (R126, R183). -/
def CaptureRef.words (r : CaptureRef) : List Word :=
  [natWord r.status.code, optWord (r.bank.map Fin.val), r.generation, natWord r.trigFrame, natWord r.preFrames,
    natWord r.after]

/-- The five words 91..95 (R183). -/
def firedWords (f : Option FiredBy) : List Word :=
  match f with
  | some f => condWords (some f.first) ++ condWords f.second ++ [optWord f.detail]
  | none => zeros 5

/-- The kind, first cause and detail words 2, 10, 11 of a record (R183). -/
def Record.causeWords (r : Record) : List Word :=
  match r.first with
  | some (k, d) => [natWord k.num.val, optWord d]
  | none => [noWord, noWord]

/-- The 128 words of a record (R183). -/
def Record.words (r : Record) : List Word :=
  nat32Words r.id ++ [flagWord r.first.isNone] ++ dwordWords r.clock ++ [flagWord r.clockSet] ++ dwordWords r.partTime ++
  [natWord r.drive.code, natWord r.runKind.code] ++ r.causeWords ++ [natWord r.followOns.length, natWord r.lostCauses] ++
  (List.range 7).flatMap (followOnWords r.followOns) ++ r.snap.words ++ padWords 30 (r.snap.channels.flatMap ChannelSnap.words) ++
  r.ref.words ++ [natWord r.storeStatus.code] ++ firedWords r.fired ++
  [packBits [r.snap.voltageLimited.a, r.snap.voltageLimited.b]] ++ zeros 29 ++ [noWord, noWord]

/-- Byte address of the record image of entry k: its word 2 (R183). -/
def imageAddr (k : Fin 8) : Nat := entryAddr k + 4

/-- Byte address of the capture status of entry k: record word 84. -/
def captureStatusAddr (k : Fin 8) : Nat := imageAddr k + 168

/-- Byte address of the store status of entry k: record word 90. -/
def storeStatusAddr (k : Fin 8) : Nat := imageAddr k + 180

/-! ### Capture frame (R184) -/

/-- The level that a capture frame shows for a channel: 0 for one not fitted (7.2). -/
def Watch.frameLevel (w : Watch) (c : Channel) : Word :=
  if w.fitted c then natWord (vget w.channels c).level else 0

/-- Word 23 of a capture frame, with the HELD and OVERLOAD flags taken (R184). -/
def State.frameFlags (s : State) (held overload : List Bool) : Word :=
  packBits (held ++ overload ++
    [s.regs.a.lastPeriod, s.regs.b.lastPeriod, s.meas.shell.valid, decide (s.gov.limitDir = .regenerating)])

/-- The 24 words of a capture frame at index `idx` (R184). -/
def State.frameWords (s : State) (held overload : List Bool) (idx : Nat) : List Word :=
  [natWord (idx + 2048 * s.seq.drive.code + 16384 * s.seq.runKind.code), loWord s.req.partTime,
    intWord s.meas.n, intWord s.seq.r, intWord s.gov.td, intWord s.gov.tg, intWord s.gov.torque.a, intWord s.gov.torque.b,
    intWord s.gov.estimate.a, intWord s.gov.estimate.b, intWord (s.gov.publishedLimit .a),
    intWord (s.gov.publishedLimit .b), intWord s.meas.links.a.vdc, intWord s.meas.links.b.vdc, intWord s.regs.a.iq,
    intWord s.regs.b.iq] ++ allChannels.map s.watch.frameLevel ++
  [natWord s.meas.shell.position, s.frameFlags held overload]

/-! ### Sector map image (R101, R185) -/

/-- The 66 words of a channel in the image; all zeros for one not fitted (R101). -/
def Watch.mapWords (w : Watch) (c : Channel) : List Word :=
  if w.fitted c then
    padWords 64 ((vget w.channels c).map.map natWord) ++
      [natWord (vget w.channels c).worstSector, natWord (vget w.channels c).worstValue]
  else zeros 66

/-- The sector map image is rewritten (R101): the image count gains 2 and all is written (log 19). -/
def State.rewriteMap (s : State) : State :=
  (s.setWatch { s.watch with imageCount := s.watch.imageCount + 2 }).writeWords mapImageAddr
    ((s.watch.imageCount + 2) :: allChannels.flatMap s.watch.mapWords)

end Sys2Proof.Machine
end

