-- ==== Sys2Proof/Machine/Slots.lean ====
section
/-! DEFINITION. Request slots: the take, the completion, and the checks that several kinds share (R166 to R169). -/

namespace Sys2Proof.Machine

/-- Slot k as the request unit keeps it. -/
def State.slot (s : State) (k : Fin 8) : Slot := vget s.req.slots k

/-- What the request unit keeps of slot k, replaced. -/
def RequestUnit.setSlot (q : RequestUnit) (k : Fin 8) (x : Slot) : RequestUnit := { q with slots := vset q.slots k x }

/-- The slot's state, in the request unit and in its state word. -/
def State.putSlotState (s : State) (k : Fin 8) (st : SlotState) : State :=
  (s.setReq (s.req.setSlot k { s.slot k with state := st })).writeWord (slotAddr k) (natWord st.code)

/-- The MISUSE count gains 1, holding at 65535 (R165). -/
def State.misuse (s : State) : State := s.setReq { s.req with misuse := countTo 65535 s.req.misuse }

/-- The transfer area is released if slot k holds it (R168). -/
def RequestUnit.release (q : RequestUnit) (k : Fin 8) : RequestUnit :=
  { q with holder := if q.holder = some k then none else q.holder }

/-- Completion (R167): result words, result code, state word, SLOT notice, in this order. Result words not named are 0
(R166). The transfer area is released (R168). -/
def State.complete (s : State) (k : Fin 8) (st : SlotState) (rc : ResultCode) (results : List Word) : State :=
  let s1 := s.writeWords (slotAddr k + 32) (padWords 8 results)
  let s2 := s1.writeWord (slotAddr k + 6) (natWord rc.code)
  let s3 := s2.setReq ((s2.req.setSlot k { s2.slot k with cancel := false }).release k)
  (s3.putSlotState k st).raiseNotice k.val

/-- Completion as DONE. -/
def State.finish (s : State) (k : Fin 8) (rc : ResultCode) (results : List Word) : State := s.complete k .done rc results

/-- Completion as REFUSED. -/
def State.refuse (s : State) (k : Fin 8) (rc : ResultCode) : State := s.complete k .refused rc []

/-- Refusal with INVALID: the index of the first bad word, and whether it is a word of a settings image (R166). -/
def State.refuseInvalid (s : State) (k : Fin 8) (index : Nat) (image : Bool) : State :=
  s.complete k .refused .invalid [natWord index, flagWord image]

/-- A timed request becomes ACTIVE (R166). -/
def State.activate (s : State) (k : Fin 8) : State := s.putSlotState k .active

/-- The kind word of slot k. -/
def State.kindWord (s : State) (k : Fin 8) : Word := s.mem.readWord (slotAddr k + 2)

/-- The twelve parameter words of slot k. -/
def State.slotParams (s : State) (k : Fin 8) : List Word := s.mem.readWords (slotAddr k + 8) 12

/-- Steps 1 and 2 of a take (R166): the number leaves the order, kind and parameters are copied. -/
def State.takeSlot (s : State) (k : Fin 8) (rest : List (Fin 8)) : State :=
  s.setReq { s.req.setSlot k { s.slot k with
      kind := RequestKind.ofCode (s.kindWord k), params := s.slotParams k, cancel := false } with order := rest }

/-- The take of the slot at the head of the posting order when its kind word names `kind` (`none`: names no kind). With an
empty order, or another kind at the head, no such take occurs (log 3). -/
def State.withTake (s : State) (kind : Option RequestKind) (f : State → Fin 8 → List Word → State) : State :=
  match s.req.order with
  | [] => s
  | k :: rest =>
    if RequestKind.ofCode (s.kindWord k) = kind then f (s.takeSlot k rest) k (s.slotParams k) else s

/-- The chain state set. -/
def State.setChain (s : State) (c : Chain) : State := s.setReq { s.req with chain := c }

/-- "Set BROKEN if the state is STORE READ" (R169). -/
def State.breakStoreChain (s : State) : State := if s.req.chain = .storeRead then s.setChain .broken else s

/-- The transfer area is held (R168). -/
def State.areaHeld (s : State) : Bool := s.req.holder.isSome

/-- The n words of the transfer area from word offset `off` on. -/
def State.areaWords (s : State) (off n : Nat) : List Word := s.mem.readWords (transferAddr + 2 * off) n

/-- Words written into the transfer area from word offset `off` on. -/
def State.writeArea (s : State) (off : Nat) (ws : List Word) : State := s.writeWords (transferAddr + 2 * off) ws

/-- The classes of 9.2 that exclude a running drive. -/
def DriveState.idleClass : DriveState → Bool
  | .unconfigured | .stopped | .tripped => true
  | _ => false

end Sys2Proof.Machine
end

