-- ==== Sys2Proof/Machine/Banks.lean ====
section
/-! DEFINITION. Capture banks (7.3) and the record list in the exchange memory (7.6). -/

namespace Sys2Proof.Machine

/-! ### Banks -/

def allBanks : List (Fin 4) := [0, 1, 2, 3]

def RecordUnit.bank (r : RecordUnit) (i : Fin 4) : Bank := vget r.banks i

def RecordUnit.setBank (r : RecordUnit) (i : Fin 4) (b : Bank) : RecordUnit := { r with banks := vset r.banks i b }

/-- The bank is LIVE or POST. -/
def Bank.active (b : Bank) : Bool := decide (b.state = .live) || decide (b.state = .post)

/-- The bank that is LIVE or POST, if any (7.3: at most one is). -/
def RecordUnit.activeBank (r : RecordUnit) : Option (Fin 4) := allBanks.find? fun i => (r.bank i).active

/-- A frame put at its index, indices rising. -/
def putFrame (i : Nat) (ws : List Word) : List (Nat × List Word) → List (Nat × List Word)
  | [] => [(i, ws)]
  | (j, v) :: fs =>
    if i = j then (i, ws) :: fs else if i < j then (i, ws) :: (j, v) :: fs else (j, v) :: putFrame i ws fs

/-- The 24 words of frame `i` of bank `b`: as written since reset, else a free value (7.1, log 8). -/
def RecordUnit.frameOf (r : RecordUnit) (b : Fin 4) (i : Nat) : List Word :=
  match (r.bank b).frames.find? fun f => f.1 == i with
  | some f => f.2
  | none => (List.range 24).map (Config.undefinedFrameWord r.resets b.val i)

/-- A frame written at the write index of a LIVE or POST bank (R124). -/
def Bank.write (b : Bank) (ws : List Word) : Bank :=
  { b with
    frames := putFrame b.writeIndex ws b.frames
    writeIndex := (b.writeIndex + 1) % 2048
    valid := countTo 2048 b.valid
    postWritten := if b.state = .post then b.postWritten + 1 else b.postWritten }

/-- A bank becomes LIVE (R125), with the pre count of the RECORD group in force. -/
def Bank.goLive (b : Bank) (pre : Nat) : Bank :=
  { b with
    state := .live, generation := b.generation + 1, writeIndex := 0, valid := 0, postWritten := 0, trigId := none
    pre := pre }

/-- The pre count of the RECORD group in force. -/
def RecordUnit.preCount (r : RecordUnit) : Nat := (r.settings.map RecordSettings.pre).getD 0

/-- Bank `i` becomes LIVE (R125). -/
def RecordUnit.goLive (r : RecordUnit) (i : Fin 4) : RecordUnit := r.setBank i ((r.bank i).goLive r.preCount)

/-- The first FREE bank among `is` becomes LIVE; with none FREE, nothing changes. -/
def RecordUnit.goLiveFirst (r : RecordUnit) (is : List (Fin 4)) : RecordUnit :=
  match is.find? fun i => (r.bank i).state = .free with
  | some i => r.goLive i
  | none => r

/-- The capture reference that a trigger returns from an active bank (R126). -/
def Bank.reference (b : Bank) (i : Fin 4) : CaptureRef :=
  if b.state = .live then ⟨.pending, some i, b.generation, b.writeIndex, min b.valid b.pre, 2048 - b.pre⟩
  else ⟨.pending, some i, b.generation, b.writeIndex, min b.valid (2048 - (b.post - b.postWritten)), b.post - b.postWritten⟩

/-- What a trigger does to an active bank (R126): LIVE becomes POST, POST is not restarted. -/
def Bank.trigger (b : Bank) (id : Option Nat) : Bank :=
  if b.state = .live then { b with state := .post, trigFrame := b.writeIndex, post := 2048 - b.pre, trigId := id } else b

/-- The reference that a trigger made now returns (R126). -/
def RecordUnit.reference (r : RecordUnit) : CaptureRef :=
  match r.activeBank with
  | some i => (r.bank i).reference i
  | none => .none

/-- A trigger (R126); `id` is the id of the record that makes it, none when no record was opened (R135). -/
def RecordUnit.trigger (r : RecordUnit) (id : Option Nat) : RecordUnit :=
  match r.activeBank with
  | some i => r.setBank i ((r.bank i).trigger id)
  | none => r

/-! ### Record list -/

def allEntries : List (Fin 8) := [0, 1, 2, 3, 4, 5, 6, 7]

def RecordUnit.listEntry (r : RecordUnit) (k : Fin 8) : ListEntry := vget r.entries k

def RecordUnit.setListEntry (r : RecordUnit) (k : Fin 8) (e : ListEntry) : RecordUnit :=
  { r with entries := vset r.entries k e }

/-- The entry is FILLED or TAKEN (R142). -/
def ListEntry.held (e : ListEntry) : Bool := decide (e.state ≠ .empty)

/-- The state of a list entry, in the record unit and in its state word. -/
def State.putEntry (s : State) (k : Fin 8) (e : ListEntry) : State :=
  (s.setRecord (s.record.setListEntry k e)).writeWord (entryAddr k) (natWord e.state.code)

/-- A record posted to the list, or counted as unposted (R140). -/
def State.postRecord (s : State) (r : Record) : State :=
  let k := s.record.nextIndex
  if (s.record.listEntry k).held then
    s.setRecord { s.record with unposted := countTo 65535 s.record.unposted }
  else
    let s1 := (s.writeWords (imageAddr k) r.words).putEntry k ⟨.filled, some r.id, r.ref⟩
    (s1.setRecord { s1.record with nextIndex := k + 1 }).raiseNotice noticeRecord

/-- The store status of a posted record rewritten in entry k, if the entry still holds the record (R142). -/
def State.noteStoreEntry (id : Nat) (st : StoreStatus) (s : State) (k : Fin 8) : State :=
  if (s.record.listEntry k).held && (s.record.listEntry k).id == some id then
    s.writeWord (storeStatusAddr k) (natWord st.code)
  else s

/-- The store unit hands the end of a record to the record unit (R142, R154). -/
def State.noteStoreEnd (s : State) (id : Nat) (st : StoreStatus) : State :=
  allEntries.foldl (State.noteStoreEntry id st) s

/-- The reference is PENDING on that bank and generation. -/
def CaptureRef.awaits (r : CaptureRef) (i : Fin 4) (gen : Word) : Bool :=
  decide (r.status = .pending) && decide (r.bank = some i) && decide (r.generation = gen)

/-- The reference after the freeze of a bank (R127). -/
def CaptureRef.completeFor (r : CaptureRef) (i : Fin 4) (gen : Word) : CaptureRef :=
  if r.awaits i gen then { r with status := .complete } else r

/-- The capture status of entry k rewritten at a freeze (R127, R142). -/
def State.completeEntry (i : Fin 4) (gen : Word) (s : State) (k : Fin 8) : State :=
  let e := s.record.listEntry k
  if e.held && e.ref.awaits i gen then
    (s.setRecord (s.record.setListEntry k { e with ref := e.ref.completeFor i gen })).writeWord (captureStatusAddr k)
      (natWord CaptureStatus.complete.code)
  else s

/-- The freeze of bank `i` (R127). -/
def State.freezeBank (s : State) (i : Fin 4) : State :=
  let b := s.record.bank i
  let r := s.record.setBank i { b with state := .frozen }
  let s1 := s.setRecord { r with
    openRecord := r.openRecord.map fun o => { o with ref := o.ref.completeFor i b.generation } }
  let s2 := (allEntries.foldl (State.completeEntry i b.generation) s1).raiseNotice noticeCapture
  s2.setRecord (s2.record.goLiveFirst [i + 1, i + 2, i + 3])

end Sys2Proof.Machine
end

