-- ==== Sys2Proof/Machine/StoreServe.lean ====
section
/-! DEFINITION. The store unit's own work: flash operations (R146), sector table (R149, R158), and which work it starts when
its port is free (R154 to R158, R162, R163). -/

namespace Sys2Proof.Machine

/-! ### Flash operations (R146) -/

/-- The STORE settings that the store unit works with: those awaiting force while SCANNING, else those in force (R146). -/
def StoreUnit.cfg (u : StoreUnit) : StoreSettings :=
  match u.state, u.awaiting with
  | .scanning, some (c, _) => c
  | _, _ => u.settings.getD .standIn

/-- The three address bytes, most significant first (8.2). -/
def addressBytes (a : Nat) : List Byte := [BitVec.ofNat 8 (a / 65536), BitVec.ofNat 8 (a / 256), BitVec.ofNat 8 a]

/-- Flash address of a page: page 0 is the header, page s is slot s (R145, R148). -/
def StoreUnit.pageAddr (u : StoreUnit) (sector page : Nat) : Nat := u.cfg.base + sector * 4096 + page * 256

/-- A transfer begins: bytes sent, number of bytes received; the step of the work that it belongs to. -/
def StoreUnit.send (u : StoreUnit) (job : Job) (tx : List Byte) (rx : Nat) : StoreUnit :=
  { u with job := job, transfer := some ⟨tx, rx⟩, lastTransfer := some ⟨tx, rx⟩ }

/-- STATUS READ: its opcode sent, one status byte received. -/
def StoreUnit.statusRead (u : StoreUnit) : Transfer := ⟨[u.cfg.opStatus], 1⟩

/-- The present poll begins: its time counts from now (R147). -/
def StoreUnit.poll (u : StoreUnit) (job : Job) : StoreUnit := { u with job := job, transfer := none, pollElapsed := 0 }

/-- No transfer, no foreground work. -/
def StoreUnit.rest (u : StoreUnit) : StoreUnit := { u with job := .idle, transfer := none }

def StoreUnit.sendIdent (u : StoreUnit) : StoreUnit := u.send .scanIdent [u.cfg.opIdent] 3

/-- DATA READ of `n` bytes from an address. -/
def StoreUnit.sendRead (u : StoreUnit) (job : Job) (addr n : Nat) : StoreUnit :=
  u.send job (u.cfg.opRead :: addressBytes addr) n

/-- WRITE ENABLE (R146). -/
def StoreUnit.sendEnable (u : StoreUnit) (job : Job) : StoreUnit := u.send job [u.cfg.opWriteEnable] 0

/-- PAGE PROGRAM of bytes at an address. -/
def StoreUnit.sendProgram (u : StoreUnit) (job : Job) (addr : Nat) (bs : List Byte) : StoreUnit :=
  u.send job (u.cfg.opProgram :: (addressBytes addr ++ bs)) 0

/-- The bytes received, brought to the number that the store unit clocks; missing bytes read as the idle line (log 28). -/
def received (n : Nat) (rx : List Byte) : List Byte := (rx ++ List.replicate n 0xFF).take n

/-! ### Pages (R148, R149, R187) -/

/-- All 256 bytes of the page read 0xFF. -/
def pageBlank (bs : List Byte) : Bool := bs.all fun b => b == 0xFF

/-- Byte `i` of a page. -/
def byteAt (bs : List Byte) (i : Nat) : Byte := bs.getD i 0xFF

/-- The 32-bit quantity at bytes `i`..`i + 3`, low word first. -/
def nat32Bytes (bs : List Byte) (i : Nat) : Nat :=
  (joinWords (joinBytes (byteAt bs i) (byteAt bs (i + 1))) (joinBytes (byteAt bs (i + 2)) (byteAt bs (i + 3)))).toNat

/-- The bytes of a 32-bit quantity, low word first, low byte first. -/
def bytes32 (n : Nat) : List Byte := (nat32Words n).flatMap wordBytes

/-- A record id or sequence number lies within 1..0xFFFFFFFE. -/
def idInRange (n : Nat) : Bool := decide (1 ≤ n) && decide (n ≤ 0xFFFFFFFE)

/-- A slot by the content of its page (R149). -/
def classifySlot (bs : List Byte) : FlashSlot :=
  if pageBlank bs then .blank
  else if nat32Bytes bs 252 = nat32Bytes bs 0 && idInRange (nat32Bytes bs 0) then .valid (nat32Bytes bs 0)
  else .spoiled

/-- The sequence number of a valid header (R148, R187). -/
def headerSeq (bs : List Byte) : Option Nat :=
  if joinBytes (byteAt bs 0) (byteAt bs 1) = 0x5A3C && joinBytes (byteAt bs 6) (byteAt bs 7) = 0xC35A
      && idInRange (nat32Bytes bs 2) then some (nat32Bytes bs 2)
  else none

/-- The eight bytes of a header that are programmed (R148, R187; log 31). -/
def headerBytes (seq : Nat) : List Byte := wordBytes 0x5A3C ++ bytes32 seq ++ wordBytes 0xC35A

/-! ### Sector table -/

/-- Slots 1..15 all BLANK. -/
def blankSlots : List FlashSlot := List.replicate 15 .blank

def StoreUnit.sectorState (u : StoreUnit) (i : Nat) : SectorState := ((u.sectors[i]?).map Sector.state).getD .bad

def StoreUnit.sectorSeq (u : StoreUnit) (i : Nat) : Nat := ((u.sectors[i]?).bind Sector.seq).getD 0

def StoreUnit.modSector (u : StoreUnit) (i : Nat) (f : Sector → Sector) : StoreUnit :=
  { u with sectors := u.sectors.modify i f }

/-- The next sector in ring order that is not BAD (R145). -/
def StoreUnit.nextSector (u : StoreUnit) (i : Nat) : Option Nat :=
  ((List.range u.sectors.length).map fun j => (i + 1 + j) % u.sectors.length).find? fun j => u.sectorState j ≠ .bad

/-- The first sector from `i` on, in sector order, that is not BAD. -/
def StoreUnit.goodFrom (u : StoreUnit) (i : Nat) : Option Nat :=
  (List.range u.sectors.length).find? fun j => decide (i ≤ j) && decide (u.sectorState j ≠ .bad)

/-- The number 1..15 of the first BLANK slot. -/
def firstBlank (slots : List FlashSlot) : Option Nat := (slots.findIdx? fun x => x == .blank).map (· + 1)

/-- The first BLANK slot of the open sector. -/
def StoreUnit.blankSlot (u : StoreUnit) : Option Nat :=
  u.openSector.bind fun o => (u.sectors[o]?).bind fun e => firstBlank e.slots

/-- A slot of a sector set in the table. -/
def StoreUnit.setFlashSlot (u : StoreUnit) (sector page : Nat) (x : FlashSlot) : StoreUnit :=
  u.modSector sector fun e => { e with slots := e.slots.set (page - 1) x }

/-- The ids of the VALID slots of a sector, with their pages. -/
def Sector.validIds (e : Sector) : List (Nat × Nat) :=
  e.slots.zipIdx.filterMap fun
    | (.valid id, i) => some (id, i + 1)
    | _ => none

/-- Every VALID slot: id, sector, page. -/
def StoreUnit.validSlots (u : StoreUnit) : List (Nat × Nat × Nat) :=
  u.sectors.zipIdx.flatMap fun (e, i) => if e.state = .bad then [] else e.validIds.map fun (id, p) => (id, i, p)

/-- The greatest of the slots by id. -/
def newestOf : List (Nat × Nat × Nat) → Option (Nat × Nat × Nat)
  | [] => none
  | x :: xs =>
    match newestOf xs with
    | some y => if x.1 < y.1 then some y else some x
    | none => some x

/-- The least of the slots by id. -/
def oldestOf : List (Nat × Nat × Nat) → Option (Nat × Nat × Nat)
  | [] => none
  | x :: xs =>
    match oldestOf xs with
    | some y => if y.1 < x.1 then some y else some x
    | none => some x

/-- After a slot of the open sector has been used: the next slot is the next BLANK one, or the sector is FULL and the sector
after it becomes the sector to open (R156, R158). -/
def StoreUnit.slotUsed (u : StoreUnit) : StoreUnit :=
  match u.openSector, u.blankSlot with
  | some _, some p => { u with nextSlot := p }
  | some o, none =>
    { u.modSector o (fun e => { e with state := .full }) with
      openSector := none
      toOpen := (u.nextSector o).map fun t => (t, u.sectorSeq o + 1) }
  | none, _ => u

/-- The sector to open would take sequence number 0xFFFFFFFF (R158). -/
def StoreUnit.sequenceOut (u : StoreUnit) : Bool :=
  match u.toOpen with
  | some (_, q) => decide (0xFFFFFFFF ≤ q)
  | none => false

/-! ### Work started when the port is free -/

/-- A record can be programmed now: one is queued and the open sector has a BLANK slot. -/
def StoreUnit.canProgram (u : StoreUnit) : Bool := !u.queue.isEmpty && u.blankSlot.isSome

/-- Step 1 of R156 begins. -/
def StoreUnit.startBody (u : StoreUnit) : StoreUnit := u.sendEnable .bodyEnable

/-- R158: the opening of the sector to open begins. -/
def StoreUnit.startOpen (u : StoreUnit) : StoreUnit := u.sendEnable .openEnable

/-- The start of an erase (R155). -/
def StoreUnit.startErase (u : StoreUnit) (i : Nat) : StoreUnit :=
  { (u.modSector i fun e => { e with state := .erasing, slots := blankSlots }).sendEnable .eraseEnable with
    erase := .running, eraseSector := some i, eraseElapsed := 0 }

/-- ERASE SUSPEND is sent (R157). -/
def StoreUnit.startSuspend (u : StoreUnit) : StoreUnit := u.send .suspendSend [u.cfg.opSuspend] 0

/-- ERASE RESUME is sent (R157). -/
def StoreUnit.startResume (u : StoreUnit) : StoreUnit := u.send .resumeSend [u.cfg.opResume] 0

/-- The page transfer of a store read begins (R162). -/
def StoreUnit.startPageRead (u : StoreUnit) (sector page : Nat) : StoreUnit :=
  u.sendRead .pageRead (u.pageAddr sector page) 256

/-- The sector to open, when it is ERASED. -/
def StoreUnit.openable (u : StoreUnit) : Bool :=
  match u.toOpen with
  | some (t, _) => decide (u.sectorState t = .erased)
  | none => false

/-- The sector that R155 would erase now: the sector to open when it is not ERASED, else the sector after the open one when
that is not ERASED. -/
def StoreUnit.eraseTarget (u : StoreUnit) : Option Nat :=
  match u.toOpen, u.openSector with
  | some (t, _), _ => if u.sectorState t = .erased then none else some t
  | none, some o =>
    match u.nextSector o with
    | some n => if n = o || u.sectorState n = .erased then none else some n
    | none => none
  | none, none => none

/-- In a suspension (R157): programs, then what `next` asks for, then an opening, then ERASE RESUME. -/
def StoreUnit.serveSuspended (u : StoreUnit) : StoreUnit :=
  if u.canProgram then u.startBody else if u.openable then u.startOpen else u.startResume

/-- Work in READY (R154, R155, R157, R158); the queue goes before the sector-ahead erase (log 25). -/
def StoreUnit.serveReady (u : StoreUnit) : StoreUnit :=
  match u.erase with
  | .none =>
    if u.canProgram then u.startBody
    else if u.openable then u.startOpen
    else
      match u.eraseTarget with
      | some t => u.startErase t
      | none => u
  | .running => if u.canProgram && u.cfg.suspendSupported then u.startSuspend else u
  | .suspended => u.serveSuspended

/-- Work while a store read waits for the port (R157, R162); an opening is deferred (R158). Its sector is not BAD, since a read
of a sector that becomes BAD ends at that event (R160; log 63). DESIGN CHOICE (log 62; unsafe): R154 and R159 do not say whether
the second attempt of a record whose first one has failed belongs to the storing that is let end; with no erase the read is
served before that attempt, and in a suspension after it. -/
def StoreUnit.serveRead (u : StoreUnit) (sector page : Nat) : StoreUnit :=
  match u.erase with
  | .none => u.startPageRead sector page
  | .running => if u.cfg.suspendSupported then u.startSuspend else u
  | .suspended => if u.canProgram then u.startBody else u.startPageRead sector page

/-- The phase of ERASE STORE set. -/
def StoreUnit.setPhase (u : StoreUnit) (slot : Fin 8) (p : ErasePhase) : StoreUnit :=
  { u with hostOp := some (.eraseAll slot p) }

/-- Phase 4 of R163: the sector to open is opened, erased first where an opening before it failed. -/
def StoreUnit.serveReopen (u : StoreUnit) : StoreUnit :=
  match u.erase with
  | .none =>
    if u.openable then u.startOpen
    else
      match u.eraseTarget with
      | some t => u.startErase t
      | none => u
  | _ => u

/-- Phase 3 of R163: the next sector that is not BAD is erased; after the last, the first good sector is to be opened with
sequence number 1. -/
def StoreUnit.serveErase (u : StoreUnit) (slot : Fin 8) (next : Nat) : StoreUnit :=
  match u.erase with
  | .none =>
    match u.goodFrom next with
    | some i => (u.setPhase slot (.erase (i + 1))).startErase i
    | none => { u.setPhase slot .reopen with toOpen := (u.goodFrom 0).map fun t => (t, 1) }.serveReopen
  | _ => u

/-- Phase 2 of R163: an erase in progress is let end; then the log has no open sector any more (log 53). -/
def StoreUnit.serveSettle (u : StoreUnit) (slot : Fin 8) : StoreUnit :=
  match u.erase with
  | .none => { u.setPhase slot (.erase 0) with openSector := none, toOpen := none }.serveErase slot 0
  | .running => u.setPhase slot .settle
  | .suspended => (u.setPhase slot .settle).startResume

/-- The work of ERASE STORE by its phase (R163). -/
def StoreUnit.serveEraseAll (u : StoreUnit) (slot : Fin 8) : ErasePhase → StoreUnit
  | .drain (_ + 1) => u.serveReady
  | .drain 0 => u.serveSettle slot
  | .settle => u.serveSettle slot
  | .erase next => u.serveErase slot next
  | .reopen => u.serveReopen

/-- The store unit starts the work that is due, if its port is free. DESIGN CHOICE (log 61; unsafe): an opening in progress when
ERASE STORE is taken with an empty queue keeps the port until its last step; only then do phases 2 and 3 of R163 begin. -/
def StoreUnit.serve (u : StoreUnit) : StoreUnit :=
  if u.job ≠ .idle then u
  else
    match u.state, u.hostOp with
    | .ready, _ => u.serveReady
    | .busy, some (.read _ _ sector page) => u.serveRead sector page
    | .busy, some (.eraseAll slot phase) => u.serveEraseAll slot phase
    | _, _ => u

/-- The store unit of the state serves. -/
def State.serveStore (s : State) : State := s.setStore s.store.serve

end Sys2Proof.Machine
end

