-- ==== Sys2Proof/Machine/StoreOps.lean ====
section
/-! DEFINITION. What the store unit does at its events: the ends of storing, erasing, opening, reading and scanning, and its
failures (R152 to R163). -/

namespace Sys2Proof.Machine

def stateDetailOutOfService : Nat := 0
def stateDetailDropped : Nat := 1
def stateDetailFailed : Nat := 2

/-- A change of the store state other than between READY and BUSY (R150). -/
def State.changeStore (s : State) (u : StoreUnit) : State :=
  if u.state = s.store.state then s.setStore u else (s.setStore u).raiseNotice noticeStore

/-- The dropped count and the DROPPED pulse (R154). -/
def State.countDropped (s : State) : State :=
  (s.setStore { s.store with dropped := countTo 65535 s.store.dropped }).alarmPulse .storeFault .second
    (some stateDetailDropped)

/-- The failed count and the FAILED pulse (R154). -/
def State.countFailed (s : State) : State :=
  (s.setStore { s.store with failed := countTo 65535 s.store.failed }).alarmPulse .storeFault .third
    (some stateDetailFailed)

/-- The count and the pulse of an end (R154). -/
def State.countEnd (s : State) (st : StoreStatus) : State :=
  match st with
  | .dropped => s.countDropped
  | .failed => s.countFailed
  | _ => s

/-- A record has left the queue: counts, hand-over of the result to the record unit, STORE notice (R154). -/
def State.endRecord (s : State) (id : Nat) (st : StoreStatus) : State :=
  ((s.countEnd st).noteStoreEnd id st).raiseNotice noticeStore

/-- The head of the queue leaves it with that end. -/
def State.endHead (st : StoreStatus) (s : State) (r : QueuedRecord) : State :=
  (s.setStore { s.store with queue := s.store.queue.tail }).endRecord r.id st

/-- Every record of the queue ends so, from the head. -/
def State.endQueue (s : State) (st : StoreStatus) : State := s.store.queue.foldl (State.endHead st) s

/-- The group awaiting force comes into force and its request completes (R151). -/
def State.storeInForce (s : State) (rc : ResultCode) : State :=
  match s.store.awaiting with
  | some (c, k) => (s.setStore { s.store with settings := some c, awaiting := none }).finish k rc [4]
  | none => s

/-- Step 4 of R161: the host operation that holds the port ends. A store read that ends so breaks the chain (R169). -/
def State.endHostOp (s : State) (op : Option HostOp) : State :=
  match op with
  | some (.read k _ _ _) => (s.refuse k .store).setChain .broken
  | some (.eraseAll k _) => (s.refuse k .store).breakStoreChain
  | none => s

/-- The entry into OUT OF SERVICE (R150, R161); out of SCANNING it also ends the scan (R151). -/
def State.storeOut (s : State) : State :=
  let op := s.store.hostOp
  let s1 := s.changeStore { s.store.rest with state := .outOfService, hostOp := none }
  let s2 := (s1.endQueue .failed).alarmRise .storeFault .first (some stateDetailOutOfService)
  (s2.endHostOp op).storeInForce .store

/-- The store unit takes the values `u`; where a sector to open would have the last sequence number the store is put OUT OF
SERVICE (R158), else the next work starts. -/
def State.storeGoOn (s : State) (u : StoreUnit) : State :=
  if u.sequenceOut then (s.setStore u).storeOut else s.setStore u.serve

/-! ### Queue (R154) -/

/-- The answer of the store unit to a closed TRIP record (R154). -/
def StoreUnit.answer (u : StoreUnit) : StoreStatus :=
  match u.state with
  | .absent => .none
  | .outOfService => .dropped
  | _ => if u.queue.length < 4 then .queued else .dropped

/-- A closed TRIP record is handed to the store unit (R139, R154), which answers `store.answer`. -/
def State.handOver (s : State) (r : Record) : State :=
  match s.store.answer with
  | .queued => s.setStore { s.store with queue := s.store.queue ++ [QueuedRecord.mk r.id r.words 0] }.serve
  | .dropped => s.countDropped.raiseNotice noticeStore
  | _ => s

/-! ### Storing (R156, R159) -/

/-- The record at the head of the queue. -/
def StoreUnit.head (u : StoreUnit) : QueuedRecord := u.queue.headD ⟨0, [], 0⟩

/-- The sector and page used for the head of the queue. -/
def StoreUnit.useAddr (u : StoreUnit) : Nat := u.pageAddr (u.openSector.getD 0) u.nextSlot

def StoreUnit.bodyBytes (u : StoreUnit) : List Byte := u.head.image.flatMap wordBytes

/-- The slot used, set in the table. -/
def StoreUnit.markSlot (u : StoreUnit) (x : FlashSlot) : StoreUnit := u.setFlashSlot (u.openSector.getD 0) u.nextSlot x

/-- One record fewer to drain (R163). -/
def StoreUnit.drained (u : StoreUnit) : StoreUnit :=
  match u.hostOp with
  | some (.eraseAll k (.drain (n + 1))) => u.setPhase k (.drain n)
  | _ => u

/-- All four steps of R156 have succeeded. -/
def State.storeDone (s : State) : State :=
  let u := s.store
  let s1 := (s.setStore { (u.markSlot (.valid u.head.id)).drained.rest with queue := u.queue.tail }).endRecord u.head.id
    .stored
  s1.storeGoOn s1.store.slotUsed

/-- A failed attempt (R159). -/
def State.storeFailed (s : State) : State :=
  let u := (s.store.markSlot .spoiled).rest
  match u.queue with
  | r :: rs =>
    if r.attempts = 0 then s.storeGoOn { u with queue := { r with attempts := 1 } :: rs }.slotUsed
    else ((s.setStore { u.slotUsed with queue := rs }).endRecord r.id .failed).storeOut
  | [] => s.storeGoOn u.slotUsed

/-! ### Erasing (R155, R160) -/

/-- The erase has ended as done (R155). -/
def State.eraseDone (s : State) : State :=
  let u := s.store
  s.storeGoOn
    { (u.modSector (u.eraseSector.getD 0) fun e => { e with state := .erased, seq := none }).rest with
      erase := .none, eraseSector := none }

/-- A sector marked BAD (R158, R160). -/
def StoreUnit.markBad (u : StoreUnit) (i : Nat) : StoreUnit :=
  { u.modSector i (fun e => { e with state := .bad }) with badCount := u.badCount + 1 }

/-- The failed sector was the sector to open: the following one takes its place (R160). -/
def StoreUnit.replaceToOpen (u : StoreUnit) (failed following : Nat) : StoreUnit :=
  match u.toOpen with
  | some (t, q) => if t = failed then { u with toOpen := some (following, q) } else u
  | none => u

/-- The store unit is in phase 3 of ERASE STORE, which goes on by itself after a failed erase (R163). -/
def StoreUnit.erasingAll (u : StoreUnit) : Bool :=
  match u.hostOp with
  | some (.eraseAll _ (.erase _)) => true
  | _ => false

/-- A store read that still waits for the port ends REFUSED with `rc` and no page is read: the store becomes READY, the chain
BROKEN, and the read pointer stays (R162, R169). -/
def State.endWaitingRead (s : State) (k : Fin 8) (rc : ResultCode) : State :=
  ((s.setStore { s.store with state := .ready, hostOp := none }).refuse k rc).setChain .broken

/-- Sector `i` has become BAD, and a BAD sector is not read (R160): a store read that waits for a page of it ends with GONE in the
same event (DEDUCED, unsafe; log 63). -/
def State.dropBadRead (s : State) (i : Nat) : State :=
  match s.store.hostOp with
  | some (.read k _ sector _) => if sector = i then s.endWaitingRead k .gone else s
  | _ => s

/-- The erase has ended as failed (R160): its sector is BAD and is not read any more, and the following sector is erased at
once. -/
def State.eraseFailed (s : State) : State :=
  let i := s.store.eraseSector.getD 0
  let u := { (s.store.markBad i).rest with erase := .none, eraseSector := none }
  if 3 ≤ u.badCount then (s.setStore u).storeOut
  else if u.erasingAll then s.setStore u.serve
  else
    let s1 := (s.setStore u).dropBadRead i
    match u.nextSector i with
    | some n => s1.setStore ((s1.store.replaceToOpen i n).startErase n)
    | none => s1

/-! ### Opening (R158, R163) -/

/-- ERASE STORE ends (R163). -/
def State.eraseAllDone (s : State) (k : Fin 8) : State :=
  let s1 := s.setStore { s.store with state := .ready, hostOp := none, readPtr := none }
  ((s1.finish k .ok []).breakStoreChain).serveStore

/-- The header has been programmed and verified (R158). -/
def State.openDone (s : State) : State :=
  match s.store.toOpen with
  | some (t, q) =>
    let u := { (s.store.modSector t fun e => { e with state := .opened, seq := some q, slots := blankSlots }).rest with
      openSector := some t, nextSlot := 1, toOpen := none }
    match u.hostOp with
    | some (.eraseAll k .reopen) => (s.setStore u).eraseAllDone k
    | _ => s.setStore u.serve
  | none => s

/-- An opening that failed (R158): its sector is BAD and is not read any more (R160), and the following one is to be opened. -/
def State.openFailed (s : State) : State :=
  match s.store.toOpen with
  | some (t, q) =>
    let u := (s.store.markBad t).rest
    if 3 ≤ u.badCount then (s.setStore u).storeOut
    else
      let s1 := (s.setStore { u with toOpen := (u.nextSector t).map fun n => (n, q) }).dropBadRead t
      s1.storeGoOn s1.store
  | none => s

/-! ### Store reads (R162) -/

/-- A store read ends: the store becomes READY, the request completes, the chain follows (R162, R169). -/
def State.endRead (s : State) (k : Fin 8) (rc : ResultCode) (results : List Word) : State :=
  let s1 := s.setStore { s.store.rest with state := .ready, hostOp := none }
  match rc with
  | .ok => ((s1.finish k .ok results).setChain .storeRead).serveStore
  | _ => ((s1.complete k .refused rc results).setChain .broken).serveStore

/-- The page transfer of a store read has ended (R162). DESIGN CHOICE (log 65; unsafe): R162 does not say whether a cancelled read
whose page is not VALID with the expected id makes its slot SPOILED; the cancel mark is tested first, and the slot is left as it
was. -/
def State.pageReadDone (s : State) (bs : List Byte) (k : Fin 8) (id sector page : Nat) : State :=
  let s1 := s.setMem (s.mem.blit transferAddr bs)
  if (s.slot k).cancel then s1.endRead k .cancelled []
  else if classifySlot bs = .valid id then
    (s1.setStore { s1.store with readPtr := some id }).endRead k .ok
      (nat32Words id ++ [natWord sector, natWord page] ++ nat32Words (s.store.sectorSeq sector))
  else (s1.setStore (s1.store.setFlashSlot sector page .spoiled)).endRead k .gone []

/-- A cancel of a store read (R162): one still waiting ends at once; one whose page transfer has begun keeps its mark. -/
def State.cancelRead (s : State) (k : Fin 8) : State :=
  match s.store.hostOp with
  | some (.read k' _ _ _) =>
    if k' = k && s.store.job ≠ .pageRead then (s.endWaitingRead k .cancelled).serveStore else s
  | _ => s

/-! ### Scan (R151 to R153) -/

/-- The store unit as the acceptance of a STORE group clears it (R151); with no open sector the next slot is 1 (8.1, log 44). -/
def StoreUnit.cleared (u : StoreUnit) : StoreUnit :=
  { u.rest with
    sectors := [], badCount := 0, openSector := none, nextSlot := 1, toOpen := none, erase := .none, eraseSector := none
    eraseElapsed := 0, readPtr := none, hostOp := none }

/-- The scan ends ABSENT (R152): queued records end DROPPED, the group is in force, its request completes with STORE. -/
def State.scanAbsent (s : State) : State :=
  ((s.changeStore { s.store.rest with state := .absent }).endQueue .dropped).storeInForce .store

/-- A sector as its header page classifies it (R152): a second valid header of the same sequence is BAD. -/
def StoreUnit.headerSector (u : StoreUnit) (bs : List Byte) : Sector :=
  if pageBlank bs then ⟨.erased, none, blankSlots⟩
  else
    match headerSeq bs with
    | some q =>
      if u.sectors.any fun e => decide (e.state ≠ .bad) && e.seq == some q then ⟨.bad, none, []⟩
      else ⟨.full, some q, blankSlots⟩
    | none => ⟨.bad, none, []⟩

/-- A sector added to the table by the scan. -/
def StoreUnit.addSector (u : StoreUnit) (e : Sector) : StoreUnit :=
  { u with
    sectors := u.sectors ++ [e]
    badCount := if e.state = .bad then u.badCount + 1 else u.badCount }

/-- The next valid sector from `i` on, whose slots the scan reads. -/
def StoreUnit.validFrom (u : StoreUnit) (i : Nat) : Option Nat :=
  (List.range u.sectors.length).find? fun j => decide (i ≤ j) && decide (u.sectorState j = .full)

/-- The valid sector of the highest sequence number, of a list of sectors with their numbers. -/
def highestSeq : List (Sector × Nat) → Option (Nat × Nat)
  | [] => none
  | (e, i) :: es =>
    match e.state, e.seq, highestSeq es with
    | .full, some q, some (i', q') => if q < q' then some (i', q') else some (i, q)
    | .full, some q, none => some (i, q)
    | _, _, r => r

/-- Steps 1 and 2 of R153: the open sector, or the sector to open. -/
def StoreUnit.scanOpen (u : StoreUnit) : StoreUnit :=
  match highestSeq u.sectors.zipIdx with
  | some (o, _) =>
    { u.modSector o (fun e => { e with state := .opened }) with openSector := some o }.slotUsed
  | none =>
    { u with toOpen := ((List.range u.sectors.length).find? fun j => u.sectorState j = .erased).map fun t => (t, 1) }

/-- The greatest id among the VALID slots, 0 for none (R153). -/
def StoreUnit.greatestId (u : StoreUnit) : Nat := ((newestOf u.validSlots).map Prod.fst).getD 0

/-- The record id counter after a scan (R135). -/
def RecordUnit.raiseCounter (r : RecordUnit) (greatest : Nat) : RecordUnit :=
  { r with idCounter := max r.idCounter (1 + greatest) }

/-- The queued records whose ids are not above the greatest stored id end DROPPED (R153). -/
def State.dropStored (s : State) (greatest : Nat) : State :=
  let old := s.store.queue.filter fun r => decide (r.id ≤ greatest)
  (s.setStore { s.store with queue := s.store.queue.filter fun r => decide (greatest < r.id) }) |>
    fun s1 => old.foldl (fun s r => s.endRecord r.id .dropped) s1

/-- The end of a scan in service (R153), but for the work that starts then. A sector to open without a sequence number left is found
after step 3 (log 59). -/
def State.scanDone (s : State) : State :=
  let u := s.store.rest.scanOpen
  let g := u.greatestId
  let s1 := ((s.setStore u).setRecord (s.record.raiseCounter g)).dropStored g
  if u.sequenceOut then s1.storeOut
  else ((s1.changeStore { s1.store with state := .ready }).storeInForce .ok)

/-- The scan reads slot `page` of sector `i`. -/
def StoreUnit.readScanSlot (u : StoreUnit) (i page : Nat) : StoreUnit :=
  u.sendRead (.scanSlot i page) (u.pageAddr i page) 256

/-- The scan goes on with the slots of the next valid sector from `i` on, or ends. -/
def State.scanSector (s : State) (u : StoreUnit) (i : Nat) : State :=
  match u.validFrom i with
  | some j => s.setStore (u.readScanSlot j 1)
  | none => (s.setStore u).scanDone

/-- A header page of the scan has been read (R152). -/
def State.scanHeaderDone (s : State) (bs : List Byte) (i : Nat) : State :=
  let u := s.store.addSector (s.store.headerSector bs)
  if i + 1 < u.cfg.ns then s.setStore (u.sendRead (.scanHeader (i + 1)) (u.pageAddr (i + 1) 0) 256)
  else if 3 ≤ u.badCount then (s.setStore u).storeOut
  else s.scanSector u 0

/-- A slot of the scan has been read (R153). -/
def State.scanSlotDone (s : State) (bs : List Byte) (i page : Nat) : State :=
  let u := s.store.setFlashSlot i page (classifySlot bs)
  if page < 15 then s.setStore (u.readScanSlot i (page + 1)) else s.scanSector u (i + 1)

/-- The identity bytes have been read (R152). -/
def State.scanIdentDone (s : State) (bs : List Byte) : State :=
  if bs = s.store.cfg.ident then
    s.setStore ({ s.store with sectors := [], badCount := 0 }.sendRead (.scanHeader 0) (s.store.pageAddr 0 0) 256)
  else s.scanAbsent

/-! ### Events of the store port -/

/-- A transfer has ended with the bytes `bs` received: the next step of the work (R146, R152 to R163). -/
def State.transferDone (s : State) (bs : List Byte) : State :=
  let u := s.store
  match u.job with
  | .scanIdent => s.scanIdentDone bs
  | .scanHeader i => s.scanHeaderDone bs i
  | .scanSlot i p => s.scanSlotDone bs i p
  | .bodyEnable => s.setStore (u.sendProgram .bodyProgram u.useAddr u.bodyBytes)
  | .bodyProgram => s.setStore (u.poll .bodyPoll)
  | .bodyRead => if bs = u.bodyBytes then s.setStore (u.sendEnable .markEnable) else s.storeFailed
  | .markEnable => s.setStore (u.sendProgram .markProgram (u.useAddr + 252) (bytes32 u.head.id))
  | .markProgram => s.setStore (u.poll .markPoll)
  | .markRead => if bs = bytes32 u.head.id then s.storeDone else s.storeFailed
  | .openEnable =>
    match u.toOpen with
    | some (t, q) => s.setStore (u.sendProgram .openProgram (u.pageAddr t 0) (headerBytes q))
    | none => s.setStore u.rest
  | .openProgram => s.setStore (u.poll .openPoll)
  | .openRead =>
    match u.toOpen with
    | some (_, q) => if bs = headerBytes q then s.openDone else s.openFailed
    | none => s.setStore u.rest
  | .eraseEnable => s.setStore (u.send .eraseSend (u.cfg.opErase :: addressBytes (u.pageAddr (u.eraseSector.getD 0) 0)) 0)
  | .eraseSend => s.setStore u.rest.serve
  | .eraseCheck => if pageBlank bs then s.eraseDone else s.eraseFailed
  | .suspendSend => s.setStore (u.poll .suspendPoll)
  | .resumeSend => s.setStore { u.rest with erase := .running }.serve
  | .pageRead =>
    match u.hostOp with
    | some (.read k id sector page) => s.pageReadDone bs k id sector page
    | _ => s.setStore u.rest
  | .idle | .scanPoll | .bodyPoll | .markPoll | .openPoll | .suspendPoll => s

/-- The erase is being polled in the background (R147). -/
def StoreUnit.erasePolled (u : StoreUnit) : Bool :=
  decide (u.erase = .running) && (decide (u.state = .ready) || decide (u.state = .busy))

/-- A status byte with the busy bit clear has been read: the polled operation ends as done (R147). -/
def State.pollClear (s : State) : State :=
  let u := s.store
  match u.job with
  | .scanPoll => s.setStore u.sendIdent
  | .bodyPoll => s.setStore (u.sendRead .bodyRead u.useAddr 256)
  | .markPoll => s.setStore (u.sendRead .markRead (u.useAddr + 252) 4)
  | .openPoll =>
    match u.toOpen with
    | some (t, _) => s.setStore (u.sendRead .openRead (u.pageAddr t 0) 8)
    | none => s.setStore u.rest
  | .suspendPoll => s.setStore { u.rest with erase := .suspended }.serve
  | .idle =>
    if u.erasePolled then s.setStore (u.sendRead .eraseCheck (u.pageAddr (u.eraseSector.getD 0) 0) 256) else s
  | _ => s

/-- The limit of the foreground poll in progress, in microseconds (R147, R152); none with no poll. -/
def StoreUnit.pollLimit (u : StoreUnit) : Option Nat :=
  match u.job with
  | .scanPoll => some (1000 * max u.cfg.programLimit u.cfg.eraseLimit)
  | .bodyPoll | .markPoll | .openPoll => some (1000 * u.cfg.programLimit)
  | .suspendPoll => some (1000 * u.cfg.suspendLimit)
  | _ => none

/-- The erase time limit in microseconds (R147). -/
def StoreUnit.eraseLimit (u : StoreUnit) : Nat := 1000 * u.cfg.eraseLimit

/-- STATUS READ transfers are made now: a foreground poll goes on, or the erase poll in the background (R147). -/
def StoreUnit.polling (u : StoreUnit) : Bool := u.pollLimit.isSome || (decide (u.job = .idle) && u.erasePolled)

/-- The STATUS READ of a poll: a transfer of its own, which begins and ends in one event (R146, R147; log 27). -/
def State.readStatus (s : State) : State :=
  if s.store.polling then s.setStore { s.store with lastTransfer := some s.store.statusRead } else s

/-- A time limit has passed: that of the foreground poll, or with none that of the erase polled in the background (R147). -/
def StoreUnit.limitPassed (u : StoreUnit) : Bool :=
  match u.pollLimit with
  | some l => decide (l ≤ u.pollElapsed)
  | none => decide (u.job = .idle) && u.erasePolled && decide (u.eraseLimit ≤ u.eraseElapsed)

/-- The limit of the poll in progress has passed: the polled operation ends as failed (R147, R152, R157 to R160). -/
def State.pollFailed (s : State) : State :=
  match s.store.job with
  | .scanPoll | .suspendPoll => s.storeOut
  | .bodyPoll | .markPoll => s.storeFailed
  | .openPoll => s.openFailed
  | .idle => s.eraseFailed
  | _ => s

end Sys2Proof.Machine
end

