-- ==== Sys2Proof/Machine/Records.lean ====
section
/-! DEFINITION. Records: opening, follow-ons, closing, and the firing of the trigger program (7.4, 7.5). -/

namespace Sys2Proof.Machine

/-- A channel as a record shows it (7.5). -/
def State.channelSnap (s : State) (c : Channel) : ChannelSnap :=
  let w := vget s.watch.channels c
  ⟨s.watch.fitted c, w.level, w.health, w.vib, w.worstSector, w.worstValue⟩

/-- The snapshot of a record (R137). -/
def State.snapshot (s : State) : Snapshot where
  n := s.meas.n
  r := s.seq.r
  td := s.gov.td
  tg := s.gov.tg
  torque := s.gov.torque
  estimate := s.gov.estimate
  limit := Pair.ofFn s.gov.publishedLimit
  limitDir := s.gov.limitDir
  factor := s.gov.factor
  vdc := s.meas.links.map Link.vdc
  iq := s.regs.map Regulator.iq
  position := s.meas.shell.position
  valid := s.meas.shell.valid
  voltageLimited := s.regs.map Regulator.lastPeriod
  channels := allChannels.map s.channelSnap

/-- No record id is left (R135). -/
def RecordUnit.noIds (r : RecordUnit) : Bool := decide (0xFFFFFFFF ≤ r.idCounter)

/-- A record not made is counted (R135). -/
def RecordUnit.countUnmade (r : RecordUnit) : RecordUnit := { r with unposted := countTo 65535 r.unposted }

/-- A record as it is at its opening, with the capture reference of its trigger (R133, R136). -/
def State.newRecord (s : State) (first : Option (FaultKind × Option Nat)) (st : StoreStatus) (fired : Option FiredBy) :
    Record where
  id := s.record.idCounter
  clock := s.req.clock
  clockSet := s.req.clockSet
  partTime := s.req.partTime
  drive := s.seq.drive
  runKind := s.seq.runKind
  first := first
  followOns := []
  lostCauses := 0
  snap := s.snapshot
  ref := s.record.reference
  storeStatus := st
  fired := fired

/-- The record id counter after a record took its id (R135). -/
def RecordUnit.nextId (r : RecordUnit) : RecordUnit := { r with idCounter := r.idCounter + 1 }

/-- A first cause reaches the record unit (R135, R136). -/
def State.openTrip (s : State) (k : FaultKind) (d : Option Nat) : State :=
  if s.record.noIds then s.setRecord (s.record.trigger none).countUnmade
  else
    s.setRecord { (s.record.trigger (some s.record.idCounter)).nextId with
      openRecord := some (s.newRecord (some (k, d)) .queued none)
      kindSet := [k] }

/-- A follow-on in the open record (R138). -/
def Record.addFollowOn (r : Record) (f : FollowOn) : Record :=
  if r.followOns.length < 7 then { r with followOns := r.followOns ++ [f] }
  else { r with lostCauses := r.lostCauses + 1 }

/-- A follow-on cause reaches the record unit (R138); with no open record it is discarded (R135). -/
def RecordUnit.followOn (u : RecordUnit) (f : FollowOn) : RecordUnit :=
  match u.openRecord with
  | some r =>
    if u.kindSet.contains f.kind then u
    else { u with openRecord := some (r.addFollowOn f), kindSet := u.kindSet ++ [f.kind] }
  | none => u

/-- The close of the open record (R139): post, hand to the store, enter the answer. -/
def State.closeRecord (s : State) : State :=
  match s.record.openRecord with
  | some r =>
    let s1 := s.postRecord r
    let s2 := (s1.handOver r).noteStoreEnd r.id s1.store.answer
    s2.setRecord { s2.record with openRecord := none, kindSet := [] }
  | none => s

/-- The trigger state after a firing (R133). -/
def Program.after (p : Program) : TrigState := if p.repeats then .waitFirst else .disarmed

/-- The firing of the program (R133, R135). The trigger state is FIRED through it. -/
def State.fire (s : State) (p : Program) (detail : Option Nat) : State :=
  let s0 := s.setRecord { s.record with trigState := .fired }
  let s1 :=
    if s0.record.noIds then s0.setRecord (s0.record.trigger none).countUnmade
    else
      (s0.setRecord (s0.record.trigger (some s0.record.idCounter)).nextId).postRecord
        (s0.newRecord none .none (some ⟨p.first, p.second, detail⟩))
  s1.setRecord { s1.record with trigState := p.after }

/-- The window of WAIT SECOND opens (R131). -/
def State.openTriggerWindow (s : State) (p : Program) : State :=
  s.setRecord { s.record with
    trigState := .waitSecond, windowTimer := 0, deadline := s.req.partTime + BitVec.ofNat 32 p.window }

/-- A condition is taken (R129, R131). -/
def State.takeCond (s : State) (c : TrigCond) (detail : Option Nat) : State :=
  match s.record.program, s.record.trigState with
  | some p, .waitFirst =>
    if p.first = c then
      match p.second with
      | none => s.fire p detail
      | some _ => s.openTriggerWindow p
    else s
  | some p, .waitSecond => if p.second = some c then s.fire p detail else s
  | _, _ => s

end Sys2Proof.Machine
end

