-- ==== Sys2Proof/Machine/Entries.lean ====
section
/-! DEFINITION. What a change of the drive state does in the other blocks (R36, R43, R67, R116, R117, R120), the restart
(R37, R38), and the entries into STOPPED and TRIPPED. -/

namespace Sys2Proof.Machine

/-! ### The blocks at a change of the drive state -/

/-- The governor at an entry into UNCONFIGURED, STOPPED, MAGNETIZING or TRIPPED (R43). The limit direction becomes that of a
grant of 0 (log 36). -/
def Governor.zeroed (g : Governor) : Governor :=
  { g with
    td := 0, tg := 0, tp := 0, torque := ⟨0, 0⟩, iqRef := ⟨0, 0⟩, iacc := 0, hold := false, atLimit := false
    devCount := ⟨0, 0⟩, idRef := 0, limitDir := .motoring }

/-- The regulator at the event that makes it blocked (R67). -/
def Regulator.block (g : Regulator) : Regulator :=
  { g with
    duties := .mid, pendingDuties := none, dInt := 0, qInt := 0, dClamp := .none, qClamp := .none, vd := 0, vq := 0 }

/-- Regulator X is blocked (R67). -/
def State.blocked (s : State) (x : Side) : Bool := (s.regs.get x).gateBlock || !s.seq.gate.get x

/-- A regulator of the state replaced. -/
def State.setReg (s : State) (x : Side) (g : Regulator) : State := s.setRegs (s.regs.set x g)

/-- The gate-block flag of X set; R67 applies at the event that makes it blocked. -/
def State.setGateBlock (s : State) (x : Side) : State :=
  let g := s.regs.get x
  s.setReg x { (if s.blocked x then g else g.block) with gateBlock := true }

/-- Regulator X after GATE ENABLE X has gone inactive: blocked if it was not (R67). -/
def State.ungated (s : State) (x : Side) : Regulator := if s.blocked x then s.regs.get x else (s.regs.get x).block

/-- GATE ENABLE A and B go inactive (R31, R67). -/
def State.gatesOff (s : State) : State :=
  (s.setRegs (Pair.ofFn s.ungated)).setSeq { s.seq with gate := ⟨false, false⟩ }

/-- The level watch at an entry into a state that is not a running state (R116, R117). -/
def State.levelAtRest (s : State) : State :=
  let s1 := s.setLevel { s.level with counts := ⟨.zero, .zero⟩ }
  (((s1.fall (.dcUndervolt .a) .first).fall (.dcUndervolt .b) .first).fall .dcLow .first).fall .dcLow .second

/-- Encoder X, and it alone, is LOST (R120). -/
def State.onlyLost (s : State) (x : Side) : Bool :=
  (s.meas.encoders.get x).lost && !(s.meas.encoders.get (otherSide x)).lost

/-- Both encoders are LOST. -/
def State.bothLost (s : State) : Bool := s.meas.encoders.a.lost && s.meas.encoders.b.lost

/-- ENCODER SINGLE formed (R120): falls before rises. -/
def State.formSingle (s : State) : State :=
  let s1 := if s.onlyLost .a then s else s.fall .encoderSingle .first
  let s2 := if s.onlyLost .b then s1 else s1.fall .encoderSingle .second
  let s3 := if s.onlyLost .a then s2.alarmRise .encoderSingle .first (some 0) else s2
  if s.onlyLost .b then s3.alarmRise .encoderSingle .second (some 1) else s3

/-- The encoder conditions formed in a state that is not a running state: ENCODER LOSS is absent there (R120). -/
def State.encodersAtRest (s : State) : State := s.formSingle.fall .encoderLoss .first

/-- BACKROLL becomes absent (R36). -/
def State.backrollOff (s : State) : State := (s.setSeq { s.seq with backroll := false }).fall .backroll .first

/-- The drive state set. -/
def State.setDriveState (s : State) (d : DriveState) : State := s.setSeq { s.seq with drive := d }

/-- The other blocks at an entry into STOPPED or TRIPPED (R43, R116, R117, R120). -/
def State.restEntry (s : State) : State := (s.setGov s.gov.zeroed).levelAtRest.encodersAtRest

/-! ### Reset and restart -/

/-- An encoder after reset: its line-break input, if active, has been active since (R5). -/
def Encoder.afterReset (lineBreak : Bool) : Encoder := { Encoder.reset with touched := lineBreak }

/-- Every block at its reset values (3.5, R178); the exchange memory, the inputs and the queue stay. -/
def State.resetBlocks (s : State) : State where
  pending := s.pending
  inputs := s.inputs
  drive := none
  meas := { MeasUnit.reset with encoders := s.inputs.lineBreak.map Encoder.afterReset }
  seq := .reset
  gov := .reset
  regs := ⟨.reset, .reset⟩
  watch := .reset
  faults := .reset
  level := .reset
  record := { RecordUnit.reset with resets := s.record.resets + 1 }
  store := .reset
  req := .reset
  mem := s.mem

/-- A trip rise in UNCONFIGURED (R106, R107). -/
def State.latchRise (s : State) (k : FaultKind) (src : Source) (d : Option Nat) : State :=
  if s.sourcePresent k src then s
  else s.setEntry k { (s.faults.entry k).rise src s.req.partTime d with latched := true }

/-- GATE FAULT X is taken as becoming active at the end of a reset (R69). -/
def State.freshGateFault (s : State) (x : Side) : State :=
  if s.inputs.gateFault.get x then
    (s.setReg x { s.regs.get x with gateBlock := true, gateFault := true }).latchRise (.gateFault x) .first none
  else s

/-- E-STOP is read afresh at the end of a reset (R38, R105). -/
def State.freshEStop (s : State) : State :=
  if s.inputs.eStop then (s.setSeq { s.seq with eStop := true }).latchRise .eStop .first none else s

/-- A power-on reset, or a restart performed (R38, R178). -/
def State.performReset (s : State) : State :=
  ((s.resetBlocks.freshGateFault .a).freshGateFault .b).freshEStop

/-- What follows in an event, unless the event has brought a reset about (log 11). -/
def State.unlessReset (s0 : State) (f : State → State) (s1 : State) : State :=
  if s1.record.resets = s0.record.resets then f s1 else s1

/-- A pending restart is performed (R37). -/
def State.pendingRestart (s : State) : State := if s.seq.restartPending then s.performReset else s

/-! ### Entries -/

/-- Steps 1 to 4 of R34 but for the gates: BRAKE RELEASE, ramp, flux demand, counts and phase. -/
def Sequencer.tripped (q : Sequencer) : Sequencer :=
  { q with
    ramp := 0, rampTarget := 0, flux := 0, magCount := 0, breakawayCount := 0, zeroCount := 0, brakeCount := 0
    phase := .none, brakeRelease := false }

/-- The entry into STOPPED with the gates off (R20, R23, R30, R35). -/
def State.enterStopped (s : State) : State := ((s.gatesOff.setDriveState .stopped).restEntry).pendingRestart

/-- The entry into TRIPPED (R34). -/
def State.enterTripped (s : State) : State :=
  let s1 := s.gatesOff
  ((s1.setSeq { s1.seq.tripped with drive := .tripped }).backrollOff.restEntry).pendingRestart

end Sys2Proof.Machine
end

