-- ==== Sys2Proof/Machine/Trips.lean ====
section
/-! DEFINITION. Trip causes (R106 to R110), the encoder conditions (R120), the entries into the running states, and the
departure from UNCONFIGURED (R20, R107). -/

namespace Sys2Proof.Machine

/-! ### Trip causes -/

/-- The window closes and the record is closed (R110). -/
def State.closeWindow (s : State) : State := (s.setFaults { s.faults with windowOpen := false }).closeRecord

/-- A window of length 0 closes at once (R108). -/
def State.closeIfZero (s : State) : State :=
  if s.faults.windowOpen && s.faults.windowLen == 0 then s.closeWindow else s

/-- The window length that an opening reads (R108). -/
def RecordUnit.windowLength (r : RecordUnit) : Nat := (r.settings.map RecordSettings.window).getD 0

/-- Step 4 of R108: the grouping window opens. -/
def State.openWindow (s : State) : State :=
  s.setFaults { s.faults with
    windowOpen := true, firstCauseTime := s.req.partTime, timer := 0, windowLen := s.record.windowLength }

/-- Steps 2 to 5 of R108: lock, record, window, TRIPPED. -/
def State.firstCause (s : State) (k : FaultKind) (d : Option Nat) : State :=
  (((s.setFaults { s.faults with lock := true }).openTrip k d).openWindow).enterTripped

/-- A follow-on cause (R109): handed to the record unit while the window is OPEN. -/
def State.followOnCause (s : State) (k : FaultKind) (d : Option Nat) (offset : Nat) : State :=
  if s.faults.windowOpen then s.setRecord (s.record.followOn ⟨k, d, offset⟩) else s

/-- What a trip rise does once its entry is latched (R107 to R109). -/
def State.tripCause (s : State) (k : FaultKind) (d : Option Nat) : State :=
  match s.seq.drive with
  | .unconfigured => s
  | _ => if s.faults.lock then s.followOnCause k d (s.faults.timer / 1000) else (s.firstCause k d).closeIfZero

/-- A rise of a trip kind (R106). -/
def State.tripRise (s : State) (k : FaultKind) (src : Source) : State :=
  if s.sourcePresent k src then s else (s.latchRise k src none).tripCause k none

/-- A pulse of a trip kind (R106). -/
def State.tripPulse (s : State) (k : FaultKind) : State := (s.tripRise k .first).fall k .first

/-- A level of a trip kind, reported where it changed (R106). -/
def State.tripLevel (s : State) (k : FaultKind) (now : Bool) : State :=
  if now then s.tripRise k .first else s.fall k .first

/-! ### Encoder conditions and the running states -/

/-- ENCODER LOSS stands (R120). -/
def State.encoderLossNow (s : State) : Bool := s.bothLost && s.seq.drive.running

/-- The encoder conditions formed (R120). -/
def State.formEncoders (s : State) : State :=
  let s1 := s.formSingle
  s1.tripLevel .encoderLoss s1.encoderLossNow

/-- Regulator X at the entry into MAGNETIZING (R70). -/
def Regulator.startCleared (g : Regulator) : Regulator :=
  { g with gateBlock := g.gateBlock && (g.overcurrent || g.gateFault) }

/-- The entry into MAGNETIZING (R21, R22, R36, R43, R70, R120). -/
def State.enterMagnetizing (s : State) : State :=
  let s1 := s.setSeq { s.seq with
    magCount := 0, flux := 0, gate := Pair.ofFn fun x => s.cfg.pinion.has x, drive := .magnetizing }
  let s2 := (s1.setGov s1.gov.zeroed).setRegs (s1.regs.map Regulator.startCleared)
  s2.backrollOff.formEncoders

/-- The entry into STOPPING, phase DECELERATING (R28). -/
def State.enterStopping (s : State) : State :=
  (s.setSeq { s.seq with drive := .stopping, phase := .decelerating, rampTarget := 0, zeroCount := 0, brakeCount := 0 }).formEncoders

/-! ### Departure from UNCONFIGURED (R20, R107) -/

/-- The trip kinds latched, in kind-number order. -/
def FaultUnit.latchedKinds (f : FaultUnit) : List FaultKind := FaultKind.tripKinds.filter fun k => (f.entry k).latched

/-- A latched kind is taken as a trip cause in STOPPED (R107): the first is the first cause, the rest follow with offset
0. -/
def State.takeLatched (s : State) (k : FaultKind) : State :=
  let d := (s.faults.entry k).detail
  if s.faults.lock then s.followOnCause k d 0 else s.firstCause k d

/-- All five groups are in force and the store is settled (R20). -/
def State.configured (s : State) : Bool :=
  s.drive.isSome && s.gov.envelope.isSome && s.watch.settings.isSome && s.record.settings.isSome && s.store.settings.isSome &&
  decide (s.store.state ≠ .scanning)

/-- The test of R20 and the departure it brings. -/
def State.departureTest (s : State) : State :=
  if decide (s.seq.drive = .unconfigured) && s.configured then
    if s.faults.latchedKinds.isEmpty then s.enterStopped
    else (s.faults.latchedKinds.foldl State.takeLatched s.enterStopped).closeIfZero
  else s

end Sys2Proof.Machine
end

