-- ==== Sys2Proof/Machine/Regulators.lean ====
section
/-! DEFINITION. Current regulators (04_current_regulation.md), converter links (R1 to R3) and the DC-link part of the level
watch (R116 to R118). -/

namespace Sys2Proof.Machine

/-! ### Settings per motor -/

def DriveSettings.fullScale (c : DriveSettings) : Side → Int
  | .a => c.fullScaleA
  | .b => c.fullScaleB

def DriveSettings.ks (c : DriveSettings) : Side → Int
  | .a => c.ksA
  | .b => c.ksB

/-! ### Converter links -/

/-- A current code equals +32767 or −32768 (R2). -/
def codeAtLimit (w : Word) : Bool := w == 0x7FFF || w == 0x8000

/-- The sample set of an accepted frame (R2). -/
def SampleSet.ofFrame (c : DriveSettings) (x : Side) (f : SampleFrame) : SampleSet where
  ia := truncDiv (f.codeA.toInt * c.fullScale x) 32768
  ic := truncDiv (f.codeC.toInt * c.fullScale x) 32768
  vdc := clampTo 0 1500 (truncDiv (f.codeDc.toInt * c.vdcFullScale) 32768)
  saturated := codeAtLimit f.codeA || codeAtLimit f.codeC
  fault := f.fault

/-- The frame is the one accepted for the present period (R1). -/
def Link.accepts (l : Link) (f : SampleFrame) : Bool := l.awaiting && !f.begunBeforeSync

def State.link (s : State) (x : Side) : Link := s.meas.links.get x

def State.setLink (s : State) (x : Side) (l : Link) : State := s.setMeas { s.meas with links := s.meas.links.set x l }

/-- An accepted frame: the link awaits no other, and Vdc_X is published (R1, R2). -/
def State.acceptFrame (s : State) (x : Side) (sample : SampleSet) : State :=
  s.setLink x { awaiting := false, vdc := sample.vdc, sample := sample }

/-! ### The arrival (R72 to R79) -/

/-- The angle step (R73). -/
def angleStep (c : DriveSettings) (x : Side) (speed iq id : Int) : Int :=
  truncDiv (speed * c.polePairs * 4294967296) 4800000 + (if 0 < id then truncDiv (iq * c.ks x) id else 0)

/-- The field angle advanced by the step formed from what is published now (R73). -/
def State.steppedAngle (s : State) (x : Side) : DWord :=
  (s.regs.get x).angle +
    BitVec.ofInt 32 (angleStep s.cfg x (s.meas.encoders.get x).speed (s.gov.iqRef.get x) s.gov.idRef)

/-- Index of the sine table (R74). -/
def angleIndex (a : DWord) : Nat := a.toNat / 1048576

/-- Overcurrent (R68). -/
def SampleSet.overcurrent (f : SampleSet) (level : Int) : Bool :=
  decide (level ≤ |f.ia|) || decide (level ≤ |(-f.ia - f.ic)|) || decide (level ≤ |f.ic|) || f.saturated || f.fault

/-- id and iq (R75). -/
def forward (ia ic sin cos : Int) : Int × Int :=
  let beta := truncDiv ((ia + 2 * (-ia - ic)) * 18919) 32768
  (truncDiv (ia * cos + beta * sin) 32768, truncDiv (beta * cos - ia * sin) 32768)

/-- The integrator of an axis (R76, steps 3 and 4). -/
def stepIntegrator (clamp : ClampState) (integ err kic : Int) : Int :=
  let held := (clamp = .high && decide (0 < err)) || (clamp = .low && decide (err < 0))
  clampAbs 1000000 (if held then integ else integ + err * kic)

/-- The unlimited voltage of an axis (R76, step 5). -/
def axisVoltage (err kpc integ : Int) : Int := truncDiv (err * kpc) 100 + truncDiv integ 1000

/-- The clamp state that a bound gives (R77). -/
def clampState (v bound : Int) : ClampState := if bound < v then .high else if v < -bound then .low else .none

/-- Vmax (R77). -/
def vMax (vdc mlim : Int) : Int := vdc * mlim / 1000

/-- Duty of a phase (R79). -/
def dutyOf (v offset vdc dmin : Int) : Int := clampTo dmin (1000 - dmin) (500 + roundDiv ((v - offset) * 1000) vdc)

/-- The phase voltages (R78). -/
def inverse (vd vq sin cos : Int) : Int × Int × Int :=
  let va := truncDiv (vd * cos - vq * sin) 32768
  let vbeta := truncDiv (vd * sin + vq * cos) 32768
  let vb := truncDiv (-va + truncDiv (vbeta * 56756) 32768) 2
  (va, vb, -va - vb)

/-- The duties (R79). -/
def dutiesOf (va vb vc vdc dmin : Int) : Duties :=
  if vdc < 50 then .mid
  else
    let offset := truncDiv (max va (max vb vc) + min va (min vb vc)) 2
    ⟨dutyOf va offset vdc dmin, dutyOf vb offset vdc dmin, dutyOf vc offset vdc dmin⟩

/-- Step 5 of R72 when the regulator is not blocked: loops, voltage limit, duties (R76 to R79). -/
def Regulator.compute (g : Regulator) (c : DriveSettings) (vdc idRef iqRef sin cos : Int) : Regulator :=
  let dInt := stepIntegrator g.dClamp g.dInt (idRef - g.id) c.kic
  let qInt := stepIntegrator g.qClamp g.qInt (iqRef - g.iq) c.kic
  let vd0 := axisVoltage (idRef - g.id) c.kpc dInt
  let vq0 := axisVoltage (iqRef - g.iq) c.kpc qInt
  let m := vMax vdc c.mlim
  let vd := clampAbs m vd0
  let bound : Int := isqrt (m * m - vd * vd).toNat
  let vq := clampAbs bound vq0
  let dClamp := clampState vd0 m
  let qClamp := clampState vq0 bound
  let (va, vb, vc) := inverse vd vq sin cos
  { g with
    dInt := dInt, qInt := qInt, dClamp := dClamp, qClamp := qClamp, vd := vd, vq := vq
    voltageLimited := g.voltageLimited || decide (dClamp ≠ .none) || decide (qClamp ≠ .none)
    pendingDuties := some (dutiesOf va vb vc vdc c.dmin) }

/-- Step 5 of R72 when the regulator is blocked (R67). -/
def Regulator.computeBlocked (g : Regulator) : Regulator := { g with vd := 0, vq := 0, pendingDuties := some .mid }

/-- Steps 3 and 4 of R72: the measured currents, summed for the governor. -/
def Regulator.measured (g : Regulator) (id iq : Int) : Regulator :=
  { g with id := id, iq := iq, iqSum := g.iqSum + iq, iqCount := g.iqCount + 1 }

/-- The values that an arrival publishes at its end (R81). -/
def Regulator.publish (g : Regulator) : Regulator :=
  { g with published := ⟨g.vd, g.vq, g.duties, g.pendingDuties, g.missing⟩ }

/-- The duties in force published at a period start (R81, log 52). -/
def Regulator.publishDuties (g : Regulator) : Regulator := { g with published := { g.published with duties := g.duties } }

/-- Steps 3 to 6 of R72, and the publication (R81). -/
def State.arrivalWork (s : State) (x : Side) (f : SampleSet) : State :=
  let g := s.regs.get x
  let k := angleIndex g.angle
  let m := forward f.ia f.ic (sineAt k) (cosineAt k)
  let g1 := g.measured m.1 m.2
  let g2 := if s.blocked x then g1.computeBlocked
    else g1.compute s.cfg f.vdc s.gov.idRef (s.gov.iqRef.get x) (sineAt k) (cosineAt k)
  s.setReg x { g2 with angle := s.steppedAngle x }.publish

/-- Steps 1 and 2 of R72 but for the report: arrival seen, and the gate-block flag on overcurrent (R68). -/
def State.arrivalSeen (s : State) (x : Side) (oc : Bool) : State :=
  let s1 := s.setReg x { s.regs.get x with arrivalSeen := true }
  if oc then s1.setGateBlock x else s1

/-- Motor X is in the pinion set in use. -/
def State.inSet (s : State) (x : Side) : Bool := s.cfg.pinion.has x

/-- The OVERCURRENT X condition and its report (R68, R71), after the values of the arrival are published (R137). -/
def State.reportOvercurrent (s : State) (x : Side) (oc : Bool) : State :=
  let now := oc && s.inSet x
  (s.setReg x { s.regs.get x with overcurrent := now }).tripLevel (.overcurrent x) now

/-- A sample set arrival (R72). -/
def State.arrival (s : State) (x : Side) (f : SampleSet) : State :=
  let oc := f.overcurrent s.cfg.overcurrent
  ((s.arrivalSeen x oc).arrivalWork x f).reportOvercurrent x oc

/-! ### DC-link levels (R116 to R118) -/

def State.counts (s : State) (x : Side) : LevelCounts := s.level.counts.get x

def State.setCounts (s : State) (x : Side) (c : LevelCounts) : State :=
  s.setLevel { s.level with counts := s.level.counts.set x c }

/-- The undervolt test (R116). -/
def State.undervoltTest (s : State) (x : Side) (vdc : Int) : State :=
  if s.inSet x && s.seq.drive.running then
    if vdc < s.cfg.undervolt then
      let n := countTo 8 (s.counts x).under
      let s1 := s.setCounts x { s.counts x with under := n }
      if n = 8 then s1.tripRise (.dcUndervolt x) .first else s1
    else (s.setCounts x { s.counts x with under := 0 }).fall (.dcUndervolt x) .first
  else s

/-- The low test while the source of X is absent (R117). -/
def State.lowTestAbsent (s : State) (x : Side) (vdc : Int) : State :=
  let n := if vdc < s.cfg.low then (s.counts x).low + 1 else 0
  if n = 8 then
    (s.setCounts x { s.counts x with low := n, lowClear := 0 }).alarmRise .dcLow (sideSource x) (some (sideCode x))
  else s.setCounts x { s.counts x with low := n }

/-- The low test while the source of X is present (R117). -/
def State.lowTestPresent (s : State) (x : Side) (vdc : Int) : State :=
  let n := if s.cfg.low + 10 ≤ vdc then (s.counts x).lowClear + 1 else 0
  if n = 8 then (s.setCounts x { s.counts x with low := 0, lowClear := n }).fall .dcLow (sideSource x)
  else s.setCounts x { s.counts x with lowClear := n }

/-- The low test (R117). -/
def State.lowTest (s : State) (x : Side) (vdc : Int) : State :=
  if s.inSet x && s.seq.drive.running then
    if s.sourcePresent .dcLow (sideSource x) then s.lowTestPresent x vdc else s.lowTestAbsent x vdc
  else s

/-- The overvolt test (R118). -/
def State.overvoltTest (s : State) (x : Side) (vdc : Int) : State :=
  if s.inSet x then s.tripLevel (.dcOvervolt x) (decide (s.cfg.overvolt < vdc)) else s

/-- A sample set frame from converter X (R1, R2, R72, R116 to R118; order of the parts: log 12). -/
def State.frameEnd (s : State) (x : Side) (f : SampleFrame) : State :=
  if (s.link x).accepts f then
    let sample := SampleSet.ofFrame s.cfg x f
    let s1 := (s.acceptFrame x sample).arrival x sample
    s.unlessReset (fun s => s.unlessReset
      (fun s => s.unlessReset (fun s => s.overvoltTest x sample.vdc) (s.lowTest x sample.vdc))
      (s.undervoltTest x sample.vdc)) s1
  else s

/-- SAMPLE_SET_FRAME. -/
def execSampleSetFrame (x : Side) (f : SampleFrame) (s : State) : Host.Outcome State Fault Refusal :=
  .next (s.frameEnd x f)

/-- The frame is accepted and the undervolt test counts it as the eighth (R116). -/
def State.undervoltReached (s : State) (x : Side) (f : SampleFrame) : Bool :=
  (s.link x).accepts f && s.inSet x && s.seq.drive.running && decide ((s.counts x).under = 7) &&
  decide ((SampleSet.ofFrame s.cfg x f).vdc < s.cfg.undervolt)

/-- DC_UNDERVOLT_COUNT_REACHED: the frame event at which the undervolt count reaches 8 (R116, log 2). -/
def execDcUndervoltCountReached (x : Side) (f : SampleFrame) (s : State) : Host.Outcome State Fault Refusal :=
  .next (if s.undervoltReached x f then s.frameEnd x f else s)

/-- The frame is accepted and the low test counts it as the eighth, low or clear (R117). -/
def State.lowReached (s : State) (x : Side) (f : SampleFrame) : Bool :=
  let vdc := (SampleSet.ofFrame s.cfg x f).vdc
  (s.link x).accepts f && s.inSet x && s.seq.drive.running &&
  (if s.sourcePresent .dcLow (sideSource x) then decide ((s.counts x).lowClear = 7) && decide (s.cfg.low + 10 ≤ vdc)
    else decide ((s.counts x).low = 7) && decide (vdc < s.cfg.low))

/-- DC_LOW_COUNT_REACHED: the frame event at which the low or low-clear count reaches 8 (R117, log 2). -/
def execDcLowCountReached (x : Side) (f : SampleFrame) (s : State) : Host.Outcome State Fault Refusal :=
  .next (if s.lowReached x f then s.frameEnd x f else s)

/-! ### The current period (R65, R66) -/

/-- Step 1 of R65. -/
def Regulator.takeDuties (g : Regulator) : Regulator :=
  { g with duties := g.pendingDuties.getD g.duties, pendingDuties := none }

/-- A sample set arrived in the period that has ended (R66). -/
def State.periodSeen (s : State) (x : Side) : State :=
  (s.setReg x { s.regs.get x with missing := 0, measLoss := false }).fall (.measLoss x) .first

/-- The missing count reaches 3 (R66). -/
def State.measLossRise (s : State) (x : Side) : State :=
  let s1 := s.setGateBlock x
  (s1.setReg x { s1.regs.get x with duties := .mid, measLoss := true }).tripRise (.measLoss x) .first

/-- A missing period (R66, R71). -/
def State.periodMissing (s : State) (x : Side) : State :=
  let n := if s.inSet x then countTo 3 (s.regs.get x).missing else 0
  let s1 := s.setReg x { s.regs.get x with angle := s.steppedAngle x, missing := n }
  if n = 3 && !(s.regs.get x).measLoss then s1.measLossRise x else s1

/-- The missing test of the period that has just ended (R66). -/
def State.missingTest (s : State) (x : Side) : State :=
  if (s.regs.get x).firstPeriod then s
  else if (s.regs.get x).arrivalSeen then s.periodSeen x
  else s.periodMissing x

/-- Steps 3 and 4 of R65, and the publication of the duties in force (R81). -/
def State.openPeriod (s : State) (x : Side) : State :=
  (s.setReg x { s.regs.get x with arrivalSeen := false, firstPeriod := false }.publishDuties).setLink x { s.link x with awaiting := true }

/-- A current period start (R65). -/
def State.currentPeriod (s : State) (x : Side) : State :=
  s.unlessReset (fun s => s.openPeriod x) ((s.setReg x (s.regs.get x).takeDuties).missingTest x)

/-- CURRENT_PERIOD_START. -/
def execCurrentPeriodStart (x : Side) (s : State) : Host.Outcome State Fault Refusal := .next (s.currentPeriod x)

/-- The period that ends is the third missing one (R66). -/
def State.missingReached (s : State) (x : Side) : Bool :=
  let g := s.regs.get x
  s.inSet x && !g.firstPeriod && !g.arrivalSeen && decide (g.missing = 2)

/-- MEAS_LOSS: the current period start at which the missing count reaches 3 (R66, log 2). -/
def execMeasLoss (x : Side) (s : State) : Host.Outcome State Fault Refusal :=
  .next (if s.missingReached x then s.currentPeriod x else s)

/-! ### GATE FAULT (R69, R71) -/

/-- The GATE FAULT X condition is taken as becoming active (R69). -/
def State.gateFaultRise (s : State) (x : Side) : State :=
  (s.setReg x { s.regs.get x with gateFault := true }).tripRise (.gateFault x) .first

/-- GATE_FAULT_ACTIVE (R69; the condition stays absent for a motor outside the pinion set, R71). -/
def execGateFaultActive (x : Side) (s : State) : Host.Outcome State Fault Refusal :=
  if s.inputs.gateFault.get x then .next s
  else
    let s1 := (s.setInputs { s.inputs with gateFault := s.inputs.gateFault.set x true }).setGateBlock x
    .next (if s.inSet x then s1.gateFaultRise x else s1)

/-- GATE_FAULT_INACTIVE (R69). -/
def execGateFaultInactive (x : Side) (s : State) : Host.Outcome State Fault Refusal :=
  let s1 := s.setInputs { s.inputs with gateFault := s.inputs.gateFault.set x false }
  .next ((s1.setReg x { s1.regs.get x with gateFault := false }).fall (.gateFault x) .first)

/-! ### The take of the governor (R80, R71) -/

/-- What the take leaves in the regulator. -/
def Regulator.taken (g : Regulator) (inSet : Bool) : Regulator :=
  let run := if g.voltageLimited && inSet then countTo 2000 g.limitedRun else 0
  { g with
    iqSum := 0, iqCount := 0, voltageLimited := false, lastPeriod := g.voltageLimited, limitedRun := run
    limitedCond := decide (run = 2000) || (g.limitedCond && g.voltageLimited && inSet) }

/-- The take of regulator X: sum and flag away, limited run, VOLTAGE LIMITED (R80), and the rise of the flag as a trigger
condition (R129). -/
def State.takeRegulator (s : State) (x : Side) : State :=
  let g := s.regs.get x
  let g1 := g.taken (s.inSet x)
  let s1 := (s.setReg x g1).alarmLevel .voltageLimited (sideSource x) (some (sideCode x)) g1.limitedCond
  if g.voltageLimited && !g.lastPeriod then s1.takeCond .voltageLimited (some (sideCode x)) else s1

end Sys2Proof.Machine
end

