-- ==== Sys2Proof/Machine/Governors.lean ====
section
/-! DEFINITION. The torque governor (03_the_torque_governor.md). -/

namespace Sys2Proof.Machine

/-- What the governor takes from a regulator at its expiry (R41). -/
structure Taken where
  sum : Int
  count : Nat
  limited : Bool
  deriving DecidableEq, Repr

def Regulator.handOver (g : Regulator) : Taken := ⟨g.iqSum, g.iqCount, g.voltageLimited⟩

def DriveSettings.k (c : DriveSettings) : Side → Int
  | .a => c.kA
  | .b => c.kB

/-! ### Envelope and limits (R47 to R51) -/

/-- Direction of a torque against the drive speed (R47). -/
def directionOf (torque n : Int) : LimitDir :=
  if (0 < torque ∧ n < 0) ∨ (torque < 0 ∧ 0 < n) then .regenerating else .motoring

/-- A straight line between two breakpoints (R48, step 2). -/
def interpolate (l0 l1 s0 s1 s : Int) : Int := l0 + truncDiv ((l1 - l0) * (s - s0)) (s1 - s0)

/-- The envelope at speed `s` (R48). -/
def envelopeAt : List Breakpoint → Int → DirLimit
  | [], _ => ⟨0, 0⟩
  | [b], _ => ⟨b.lm, b.lg⟩
  | b :: b' :: bs, s =>
    if s < b'.speed then
      ⟨interpolate b.lm b'.lm b.speed b'.speed s, interpolate b.lg b'.lg b.speed b'.speed s⟩
    else envelopeAt (b' :: bs) s

/-- L0 in one direction (R49). -/
def baseLimit (c : DriveSettings) (drive : DriveState) (kind : RunKind) (n envelope : Int) : Int :=
  let l := if kind = .creep then c.lc else envelope
  if drive = .breakaway && decide (|n| < c.nb) then max l c.lb else l

/-- L0 in both directions (R49). -/
def baseLimits (c : DriveSettings) (drive : DriveState) (kind : RunKind) (n : Int) (env : List Breakpoint) : DirLimit :=
  let l := envelopeAt env |n|
  ⟨baseLimit c drive kind n l.motoring, baseLimit c drive kind n l.regenerating⟩

/-- L_X in both directions (R51). -/
def motorLimit (c : DriveSettings) (l0 : DirLimit) (factor : Int) (x : Side) : DirLimit :=
  if c.pinion.has x then ⟨l0.motoring * factor / 1000, l0.regenerating * factor / 1000⟩ else ⟨0, 0⟩

/-- L_tot of a direction (R51). -/
def totalLimit (l : Pair DirLimit) (d : LimitDir) : Int := l.a.get d + l.b.get d

/-- sign(t) × the lesser of |t| and the limit of t's own direction (R51, R54). -/
def clampDirectional (l : Pair DirLimit) (n t : Int) : Int := signOf t * min |t| (totalLimit l (directionOf t n))

/-! ### Rate step, freeze, grant, split (R52 to R55) -/

/-- Tr (R52). -/
def rateStep (rate tc tp : Int) : Int :=
  if |tp| < |tc| ∨ (0 < tc ∧ tp < 0) ∨ (tc < 0 ∧ 0 < tp) then tp + clampAbs rate (tc - tp) else tc

/-- The freeze (R53). -/
def freeze (frozen : Bool) (tr tp : Int) : Int :=
  if !frozen then tr
  else if tp = 0 then 0
  else if signOf tr = signOf tp then (if |tp| < |tr| then tp else tr)
  else 0

/-- The split with both pinions (R55). -/
def splitBoth (share tg la lb : Int) : Int × Int :=
  let a0 := roundDiv (tg * share) 1000
  let b0 := tg - a0
  let a1 := if la < |a0| then signOf tg * la else a0
  let b1 := if la < |a0| then b0 + signOf tg * (|a0| - la) else b0
  if lb < |b1| then (a1 + signOf tg * (|b1| - lb), signOf tg * lb) else (a1, b1)

/-- T_A and T_B (R55). -/
def split (c : DriveSettings) (tg la lb : Int) : Pair Int :=
  match c.pinion with
  | .both => let (a, b) := splitBoth c.share tg la lb; ⟨a, b⟩
  | .aOnly => ⟨tg, 0⟩
  | .bOnly => ⟨0, tg⟩

/-! ### Current demands and estimates (R56, R57) -/

/-- The bound of iq* (R56). -/
def iqBound (imax id : Int) : Int := isqrt (imax * imax - id * id).toNat

/-- iq*_X (R56). -/
def iqDemand (imax id k torque : Int) : Int := clampAbs (iqBound imax id) (truncDiv (torque * 1000) k)

/-- T_Xest (R57). -/
def estimateOf (k : Int) (t : Taken) (last : Int) : Int :=
  if t.count = 0 then last else truncDiv (truncDiv t.sum t.count * k) 1000

/-- The deviation count of a motor and whether it reaches its time (R59). -/
def deviationCount (c : DriveSettings) (t : Taken) (estimate previous : Int) (count : Nat) : Nat :=
  if t.limited then count else if c.devLimit < |(estimate - previous)| then count + 1 else 0

/-! ### The expiry -/

/-- What every expiry does in every state: factors (R50) and estimates (R57). -/
def Governor.common (g : Governor) (c : DriveSettings) (t : Pair Taken) (demand : Pair Int) : Governor :=
  { g with
    demand := demand
    factor := ⟨min g.h demand.a, min g.h demand.b⟩
    estimate := Pair.ofFn fun x => estimateOf (c.k x) (t.get x) (g.estimate.get x) }

/-- The expiry outside BREAKAWAY, RUN and STOPPING (R42), after `common`. -/
def Governor.idlePeriod (g : Governor) (drive : DriveState) (flux : Int) : Governor :=
  { g.zeroed with
    l0 := ⟨0, 0⟩, limit := ⟨⟨0, 0⟩, ⟨0, 0⟩⟩
    idRef := if drive = .magnetizing then flux else 0 }

/-- The PI of an expiry (R44, R45). -/
def Governor.regulate (g : Governor) (c : DriveSettings) (e : Int) : Governor :=
  let p := truncDiv (e * c.kp) 100
  let iacc := clampAbs 6000000 (if g.hold then g.iacc else g.iacc + e * c.ki)
  let i := truncDiv iacc 1000
  { g with e := e, p := p, iacc := iacc, i := i, td := clampAbs 6000 (p + i) }

/-- The hold flag for the next period (R46). -/
def holdNext (tg td e : Int) : Bool := decide (|tg| < |td|) && decide (e ≠ 0) && decide (signOf e = signOf td)

/-- The freeze acts (R53). -/
def freezeActs (c : DriveSettings) (t : Pair Taken) : Bool :=
  (c.pinion.has .a && t.a.limited) || (c.pinion.has .b && t.b.limited)

/-- Grant, limits, split, demands of an expiry (R49 to R56), after `common` and `regulate`. -/
def Governor.grant (g : Governor) (c : DriveSettings) (t : Pair Taken) (n : Int) (l0 : DirLimit) : Governor :=
  let limit : Pair DirLimit := Pair.ofFn fun x => motorLimit c l0 (g.factor.get x) x
  let tc := clampDirectional limit n g.td
  let tr := freeze (freezeActs c t) (rateStep c.rate tc g.tp) g.tp
  let tg := clampDirectional limit n tr
  let dir := directionOf tg n
  let torque := split c tg (limit.a.get dir) (limit.b.get dir)
  { g with
    l0 := l0, limit := limit, limitDir := dir, tg := tg, tp := tg, torque := torque
    atLimit := decide (tg ≠ 0) && decide (|tg| = totalLimit limit dir)
    idRef := c.idf
    iqRef := Pair.ofFn fun x => iqDemand c.imax c.idf (c.k x) (torque.get x)
    hold := holdNext tg g.td g.e
    devCount := Pair.ofFn fun x =>
      if c.pinion.has x then deviationCount c (t.get x) (g.estimate.get x) (g.torque.get x) (g.devCount.get x) else 0 }

/-- The states of the full computation (3.2). -/
def DriveState.governed : DriveState → Bool
  | .breakaway | .run | .stopping => true
  | _ => false

/-- The computation of an expiry up to the supervisions. -/
def State.governorValues (s : State) (t : Pair Taken) (demand : Pair Int) : Governor :=
  let c := s.cfg
  let g := s.gov.common c t demand
  if s.seq.drive.governed then
    (g.regulate c (s.seq.r - s.meas.n)).grant c t s.meas.n
      (baseLimits c s.seq.drive s.seq.runKind s.meas.n (g.envelope.getD []))
  else g.idlePeriod s.seq.drive s.seq.flux

/-- TORQUE DEV X is found (R59). -/
def Governor.deviation (g : Governor) (c : DriveSettings) (drive : DriveState) (x : Side) : Bool :=
  drive.governed && c.pinion.has x && decide (c.devTime ≤ g.devCount.get x)

/-- The 8-ms speed drop (R60). -/
def Governor.speedDrop (g : Governor) (n : Int) : Int := signOf g.tg * (g.history.getLastD 0 - n)

/-- JAM is found (R60). -/
def Governor.jam (g : Governor) (c : DriveSettings) (drive : DriveState) (n : Int) : Bool :=
  drive.governed && decide (c.jamDecel ≠ 0) && g.atLimit && decide (c.jamDecel < g.speedDrop n)

/-- OVERSPEED stands (R61). -/
def overspeedAt (nmax n : Int) : Bool := decide (nmax * 110 / 100 < |n|)

/-- Counts that have reached their time back to 0, n into the history, OVERSPEED formed (R59 to R61). -/
def Governor.supervised (g : Governor) (c : DriveSettings) (drive : DriveState) (n : Int) : Governor :=
  { g with
    devCount := Pair.ofFn fun x => if g.deviation c drive x then 0 else g.devCount.get x
    history := n :: g.history.dropLast
    overspeed := overspeedAt c.nmax n }

/-- The reports of an expiry: TORQUE DEV A, B, JAM, OVERSPEED (log 20). -/
def State.governorReports (s : State) (devA devB jam fast : Bool) : State :=
  let s1 := if devA then s.tripPulse (.torqueDev .a) else s
  let s2 := s.unlessReset (fun s => if devB then s.tripPulse (.torqueDev .b) else s) s1
  let s3 := s.unlessReset (fun s => if jam then s.tripPulse .jam else s) s2
  s.unlessReset (fun s => s.tripLevel .overspeed fast) s3

/-- The ENVELOPE table awaiting force comes into force (R64). -/
def Governor.takeEnvelope (g : Governor) : Governor :=
  match g.awaiting with
  | some (e, _) => { g with envelope := some e, awaiting := none }
  | none => g

/-- The request of the table that came into force completes (R64), the departure is tested (R20), the status block is
rewritten (R177). -/
def State.governorEnd (slot : Option (Fin 8)) (s : State) : State :=
  match slot with
  | some k => ((s.finish k .ok [1]).departureTest).rewriteStatus
  | none => s.rewriteStatus

/-- The expiry computes and publishes: values, TORQUE AT LIMIT (R129), then the supervisions' reports. -/
def State.governorPublish (s : State) (t : Pair Taken) : State :=
  let c := s.cfg
  let drive := s.seq.drive
  let n := s.meas.n
  let g := s.governorValues t (s.watch.groups.map GroupWatch.demand)
  let s1 := s.setGov (g.supervised c drive n)
  let s2 := if g.atLimit && !s.gov.atLimit then s1.takeCond .torqueAtLimit none else s1
  s2.governorReports (g.deviation c drive .a) (g.deviation c drive .b) (g.jam c drive n) (overspeedAt c.nmax n)

/-- A governor period expiry (R41 to R61, R64, R177); a LOAD SETTINGS of an ENVELOPE completes after the reports (log 20). -/
def State.governorPeriod (s : State) : State :=
  let t : Pair Taken := s.regs.map Regulator.handOver
  let s1 := (s.takeRegulator .a).takeRegulator .b
  let s2 := s1.setGov s1.gov.takeEnvelope
  s.unlessReset (State.governorEnd (s.gov.awaiting.map Prod.snd)) (s2.governorPublish t)

/-- GOVERNOR_PERIOD. -/
def execGovernorPeriod (s : State) : Host.Outcome State Fault Refusal := .next s.governorPeriod

/-- The deviation count of X reaches the deviation time at this expiry (R59). -/
def State.deviationReached (s : State) (x : Side) : Bool :=
  let t : Pair Taken := s.regs.map Regulator.handOver
  let s1 := s.setGov s.gov.takeEnvelope
  (s1.governorValues t (s.watch.groups.map GroupWatch.demand)).deviation s.cfg s.seq.drive x

/-- TORQUE_DEV: the governor period at which the deviation count of X reaches the deviation time (R59, log 2). -/
def execTorqueDev (x : Side) (s : State) : Host.Outcome State Fault Refusal :=
  .next (if s.deviationReached x then s.governorPeriod else s)

/-- The limited run of X reaches 2000 at this take (R80). -/
def State.limitedRunReached (s : State) (x : Side) : Bool :=
  let g := s.regs.get x
  s.inSet x && g.voltageLimited && decide (g.limitedRun = 1999)

/-- VOLTAGE_LIMITED_RUN_REACHED: the governor period whose take brings the limited run of X to 2000 (R80, log 2). -/
def execVoltageLimitedRunReached (x : Side) (s : State) : Host.Outcome State Fault Refusal :=
  .next (if s.limitedRunReached x then s.governorPeriod else s)

/-- LIMIT_TORQUE (R50). -/
def execLimitTorque (s : State) : Host.Outcome State Fault Refusal :=
  .next (s.withTake (some .limitTorque) fun s k ps =>
    let v := clampTo 0 1000 (intAt ps 0)
    let s1 := s.setGov { s.gov with h := v }
    s1.finish k (if v = intAt ps 0 then .ok else .clamped) (if v = intAt ps 0 then [] else [intWord v]))

end Sys2Proof.Machine
end

