-- ==== Sys2Proof/Machine/Measurement.lean ====
section
/-! DEFINITION. Encoders, drive speed, shell position and the sensor link receiver (01_measurement_inputs.md), and the encoder
part of the level watch (R120, R121). -/

namespace Sys2Proof.Machine

/-! ### Drive speed and encoder in use (R6, R7, R9) -/

/-- The encoder that gives the drive speed when both are HEALTHY, and the one in use for the position then (R7, R9). -/
def PinionSet.encoder : PinionSet → Side
  | .bOnly => .b
  | _ => .a

/-- The encoder in use (R9). -/
def MeasUnit.inUse (m : MeasUnit) (p : PinionSet) : Option Side :=
  match m.encoders.a.lost, m.encoders.b.lost with
  | false, false => some p.encoder
  | false, true => some .a
  | true, false => some .b
  | true, true => none

/-- The drive speed (R7). -/
def MeasUnit.formN (m : MeasUnit) (p : PinionSet) : Int :=
  match m.encoders.a.lost, m.encoders.b.lost with
  | false, false =>
    match p with
    | .both => truncDiv (m.encoders.a.speed + m.encoders.b.speed) 2
    | .aOnly => m.encoders.a.speed
    | .bOnly => m.encoders.b.speed
  | false, true => m.encoders.a.speed
  | true, false => m.encoders.b.speed
  | true, true => m.n

/-- A LOST encoder publishes the drive speed as its motor speed (R6). -/
def Encoder.follow (n : Int) (e : Encoder) : Encoder := if e.lost then { e with speed := n } else e

/-- The drive speed formed and published, with the motor speeds of LOST encoders (R6, R7). -/
def MeasUnit.withN (m : MeasUnit) (p : PinionSet) : MeasUnit :=
  { m with n := m.formN p, encoders := m.encoders.map (Encoder.follow (m.formN p)) }

/-- The encoder in use evaluated again (R9). -/
def MeasUnit.withInUse (m : MeasUnit) (p : PinionSet) : MeasUnit :=
  if m.inUse p = m.shell.inUse then m
  else { m with shell := { m.shell with inUse := m.inUse p, p := 0, reference := false, valid := false } }

/-- POSITION INVALID reported where it changed (R12). -/
def State.reportPosition (s : State) : State := s.alarmLevel .positionInvalid .first none s.meas.shell.invalidCond

/-- An encoder replaced. -/
def State.setEncoder (s : State) (x : Side) (e : Encoder) : State :=
  s.setMeas { s.meas with encoders := s.meas.encoders.set x e }

/-! ### Edges and line-break (R4, R5) -/

/-- The change of a count by an edge (R4). -/
def edgeStep : QuadEdge → DWord
  | .forward => 1
  | .backward => -1
  | .both => 0

/-- ENCODER_EDGE (R4, R9). -/
def execEncoderEdge (x : Side) (e : QuadEdge) (s : State) : Host.Outcome State Fault Refusal :=
  if s.inputs.lineBreak.get x then .next s
  else
    let enc := s.meas.encoders.get x
    let h := s.meas.shell
    .next (s.setMeas { s.meas with
      encoders := s.meas.encoders.set x { enc with count := enc.count + edgeStep e }
      shell := if h.inUse = some x then { h with p := h.p + edgeStep e } else h })

/-- LINE_BREAK_ACTIVE (R5, R7, R9, R12, R120). -/
def execLineBreakActive (x : Side) (s : State) : Host.Outcome State Fault Refusal :=
  if s.inputs.lineBreak.get x then .next s
  else
    let s1 := s.setInputs { s.inputs with lineBreak := s.inputs.lineBreak.set x true }
    let s2 := s1.setEncoder x { s1.meas.encoders.get x with lost := true, clearTime := 0, touched := true }
    let s3 := s2.setMeas ((s2.meas.withN s.cfg.pinion).withInUse s.cfg.pinion)
    .next (s3.reportPosition.formEncoders)

/-- LINE_BREAK_RELEASE (R5): the clear time counts from the first update whose interval is wholly clear. -/
def execLineBreakRelease (x : Side) (s : State) : Host.Outcome State Fault Refusal :=
  .next (s.setInputs { s.inputs with lineBreak := s.inputs.lineBreak.set x false })

/-! ### The speed window update (R5, R6, R10, R12, R120, R121) -/

/-- The sum of the window (R6). -/
def Encoder.sum (e : Encoder) : Int := e.window.foldl (· + ·) 0

/-- Steps 1 to 3 of R6. -/
def Encoder.shift (e : Encoder) : Encoder :=
  { e with window := (e.count - e.saved).toInt :: e.window.dropLast, saved := e.count }

/-- The clear time and the health at an update (R5); `active` tells the level of the line-break input. -/
def Encoder.stepHealth (active : Bool) (e : Encoder) : Encoder :=
  if e.touched || active then { e with clearTime := 0, touched := active }
  else if e.lost then
    if 99 ≤ e.clearTime then { e with lost := false, clearTime := 100 } else { e with clearTime := e.clearTime + 1 }
  else e

/-- The motor speed of a HEALTHY encoder (R6, step 4; R8: 0 at the first update after a new E, log 14). -/
def Encoder.stepSpeed (counts : Int) (e : Encoder) : Encoder :=
  if e.lost then { e with speedZeroNext := false }
  else
    { e with
      speed := if e.speedZeroNext then 0 else clampAbs 20000 (truncDiv (e.sum * 600000) (counts * 8))
      speedZeroNext := false }

/-- An encoder at an update. -/
def Encoder.update (active : Bool) (counts : Int) (e : Encoder) : Encoder :=
  ((e.shift).stepHealth active).stepSpeed counts

/-- The position of a marker count (R10). -/
def positionOf (p c : Int) : Nat :=
  if 0 ≤ p then (min 65535 (p * 65536 / c)).toNat else (max 0 (c + p) * 65536 / c).toNat

/-- The position formed, while the state is VALID (R10). -/
def Shell.form (h : Shell) (c : Int) : Shell :=
  if h.valid then { h with position := positionOf (dwordInt h.p) c, sector := positionOf (dwordInt h.p) c / 1024 } else h

/-- The 105 % test of an update (R12). -/
def Shell.testFar (h : Shell) (c : Int) : Shell :=
  if c * 105 / 100 < |dwordInt h.p| then { h with valid := false } else h

/-- The measurement unit at an update (order, and no position from a p that makes it INVALID: log 13). -/
def MeasUnit.update (m : MeasUnit) (c : DriveSettings) (lineBreak : Pair Bool) : MeasUnit :=
  let m1 := { m with encoders := Pair.ofFn fun x => (m.encoders.get x).update (lineBreak.get x) c.countsPerRev }
  let m2 := (m1.withN c.pinion).withInUse c.pinion
  { m2 with shell := (m2.shell.testFar c.countsPerShell).form c.countsPerShell }

/-- The disagree test applies (R121). -/
def State.disagreeApplies (s : State) : Bool :=
  decide (s.cfg.disagreeLimit ≠ 0) && !s.meas.encoders.a.lost && !s.meas.encoders.b.lost &&
  decide (s.cfg.pinion = .both) && s.seq.drive.governed

/-- The disagree count after the test of an update (R121). -/
def State.disagreeCount (s : State) : Nat :=
  if s.disagreeApplies && decide (s.cfg.disagreeLimit < |(s.meas.encoders.a.speed - s.meas.encoders.b.speed)|) then
    s.level.disagree + 1
  else 0

/-- The disagree count has reached the disagree time (R121). -/
def State.disagreeFound (s : State) : Bool := s.disagreeApplies && decide (s.cfg.disagreeTime ≤ s.disagreeCount)

/-- The disagree test of an update (R121). -/
def State.disagreeTest (s : State) : State :=
  if s.disagreeFound then (s.setLevel { s.level with disagree := 0 }).tripPulse .encoderDisagree
  else s.setLevel { s.level with disagree := s.disagreeCount }

/-- The state with the measurement unit updated. -/
def State.measured (s : State) : State := s.setMeas (s.meas.update s.cfg s.inputs.lineBreak)

/-- A speed window update (R6). -/
def State.speedUpdate (s : State) : State :=
  s.unlessReset State.disagreeTest s.measured.reportPosition.formEncoders

/-- SPEED_WINDOW_UPDATE. -/
def execSpeedWindowUpdate (s : State) : Host.Outcome State Fault Refusal := .next s.speedUpdate

/-- Encoder X becomes HEALTHY at this update (R5). -/
def State.healthyReached (s : State) (x : Side) : Bool :=
  let e := s.meas.encoders.get x
  e.lost && !e.touched && !s.inputs.lineBreak.get x && decide (99 ≤ e.clearTime)

/-- ENCODER_HEALTHY: the update at which the clear time of X reaches 100 (R5, log 2). -/
def execEncoderHealthy (x : Side) (s : State) : Host.Outcome State Fault Refusal :=
  .next (if s.healthyReached x then s.speedUpdate else s)

/-- ENCODER_DISAGREE: the update at which the disagree count reaches the disagree time (R121, log 2). -/
def execEncoderDisagree (s : State) : Host.Outcome State Fault Refusal :=
  .next (if s.measured.disagreeFound then s.speedUpdate else s)

/-! ### SHELL MARKER (R11, R101) -/

/-- The marker is a slip (R11). -/
def slipAt (p c : Int) : Bool := decide (c * 2 / 100 < |(|p| - c)|)

/-- A marker taken with an encoder in use (R11). -/
def Shell.marker (h : Shell) (c : Int) : Shell :=
  let p := dwordInt h.p
  if !h.reference then { h with reference := true, p := 0, valid := true, onceValid := true }
  else if |p| < c / 2 then { h with p := 0 }
  else { h with p := 0, valid := true, onceValid := true, slip := slipAt p c }

/-- SHELL_MARKER (R10, R11, R12, R101). -/
def execShellMarker (s : State) : Host.Outcome State Fault Refusal :=
  match s.meas.shell.inUse with
  | none => .next s
  | some _ =>
    let h := (s.meas.shell.marker s.cfg.countsPerShell).form s.cfg.countsPerShell
    let s1 := (s.setMeas { s.meas with shell := h }).alarmLevel .markerSlip .first none h.slip
    .next (s1.reportPosition.rewriteMap)

/-! ### Sensor link receiver (R14 to R17) -/

def State.receiver (s : State) (c : Channel) : Receiver := vget s.meas.receivers c

def State.setReceiver (s : State) (c : Channel) (r : Receiver) : State :=
  s.setMeas { s.meas with receivers := vset s.meas.receivers c r }

/-- The number of ones of a word from bit `k - 1` down. -/
def onesBelow (w : Word) : Nat → Nat
  | 0 => 0
  | k + 1 => onesBelow w k + if w.getLsbD k then 1 else 0

/-- The number of ones among data, status and parity is odd (R15). -/
def parityErrorOf (f : SensorFrame) : Bool :=
  (onesBelow f.data 16 + (if f.okBit then 1 else 0) + (if f.overloadBit then 1 else 0) + if f.parity then 1 else 0) % 2 == 1

/-- A good frame placed in the buffer (R15, case 4). -/
def Receiver.place (r : Receiver) (f : SensorFrame) : Receiver :=
  { r with
    buffer := some (f.data.toInt, if f.overloadBit then .overload else .ok)
    full := true
    overrun := r.overrun || r.full
    lineError := false
    errors := { r.errors with
      overrun := r.errors.overrun || r.full, overload := r.errors.overload || f.overloadBit } }

/-- The end of a frame on a fitted channel (R14, R15). -/
def Receiver.frameEnd (r : Receiver) (f : SensorFrame) : Receiver :=
  if !f.stopIdle then { r with lineError := true, waitIdle := true, errors := { r.errors with framing := true } }
  else if parityErrorOf f then { r with lineError := true, errors := { r.errors with parity := true } }
  else if !f.okBit && !f.overloadBit then r
  else r.place f

/-- SENSOR_FRAME_END (R14, R15): on a channel that is not fitted, or whose receiver waits for the idle level, no frame is
received (R14, R18). -/
def execSensorFrameEnd (c : Channel) (f : SensorFrame) (s : State) : Host.Outcome State Fault Refusal :=
  .next (if s.watch.fitted c && !(s.receiver c).waitIdle then s.setReceiver c ((s.receiver c).frameEnd f) else s)

/-- SENSOR_LINE_IDLE_REGAINED (R14, R18). -/
def execSensorLineIdleRegained (c : Channel) (s : State) : Host.Outcome State Fault Refusal :=
  .next (if s.watch.fitted c then s.setReceiver c { s.receiver c with waitIdle := false } else s)

/-- STICKY_ERROR_CLEAR_WRITE (R17); while STARTING the clear word is only written back (R178). -/
def execStickyErrorClearWrite (c : Channel) (v : Word) (s : State) : Host.Outcome State Fault Refusal :=
  let r := s.receiver c
  let s1 := if s.req.starting then s else s.setReceiver c { r with errors := r.errors.clear v }
  .next (s1.writeWord (stickyClearAddr c) 0)

end Sys2Proof.Machine
end

