-- ==== Sys2Proof/Machine/Vibration.lean ====
section
/-! DEFINITION. The vibration watch (05_vibration_watch.md), with the take of the sensor link receiver (R16) and what a
VIBRATION group does to it (R18). -/

namespace Sys2Proof.Machine

def State.channel (s : State) (c : Channel) : ChannelWatch := vget s.watch.channels c

def State.setChannel (s : State) (c : Channel) (w : ChannelWatch) : State :=
  s.setWatch { s.watch with channels := vset s.watch.channels c w }

def State.group (s : State) (g : Side) : GroupWatch := s.watch.groups.get g

def State.setGroup (s : State) (g : Side) (w : GroupWatch) : State :=
  s.setWatch { s.watch with groups := s.watch.groups.set g w }

/-- The fitted channels, lowest first. -/
def Watch.fittedChannels (w : Watch) : List Channel := allChannels.filter w.fitted

/-- The fitted channels of a group. -/
def Watch.groupChannels (w : Watch) (g : Side) : List Channel := w.fittedChannels.filter fun c => groupOf c = g

/-- Some fitted channel of the group satisfies `p`. -/
def Watch.anyIn (w : Watch) (g : Side) (p : ChannelWatch → Bool) : Bool :=
  (w.groupChannels g).any fun c => p (vget w.channels c)

/-- Some fitted channel satisfies `p`. -/
def Watch.anyFitted (w : Watch) (p : ChannelWatch → Bool) : Bool := w.fittedChannels.any fun c => p (vget w.channels c)

/-! ### Conditions, demands, dwells formed (R90, R98 to R100) -/

/-- SENSOR SUSPECT formed; the detail is the channel whose change caused it (R90). -/
def State.formSuspect (s : State) (c : Channel) : State :=
  let now := s.watch.anyFitted fun w => decide (w.health = .suspect)
  (s.setWatch { s.watch with suspect := now }).alarmLevel .sensorSuspect .first (some c.val) now

/-- SENSOR LOST formed (R90). -/
def State.formLost (s : State) (c : Channel) : State :=
  let now := s.watch.anyFitted fun w => decide (w.health = .lost)
  (s.setWatch { s.watch with lost := now }).alarmLevel .sensorLost .first (some c.val) now

/-- The channel asks for the alert derate (R99). -/
def ChannelWatch.asksAlert (w : ChannelWatch) : Bool := decide (w.vib = .alert) || w.sectorAlert

/-- The channel asks for the danger derate (R99). -/
def ChannelWatch.asksDanger (w : ChannelWatch) : Bool := decide (w.vib = .danger) || w.memory

/-- G_X from the states of the group's fitted channels (R99). -/
def Watch.demandOf (w : Watch) (g : Side) : Int :=
  let low (b : Bool) (d : Int) (x : Int) : Int := if b then min d x else x
  low (w.anyIn g ChannelWatch.asksAlert) w.cfg.alertDerate
    (low (w.anyIn g ChannelWatch.asksDanger) w.cfg.dangerDerate
      (low (w.anyIn g fun c => decide (c.health = .lost)) w.cfg.lostDerate 1000))

/-- The group demand formed and published (R99). -/
def State.formDemand (s : State) (g : Side) : State := s.setGroup g { s.group g with demand := s.watch.demandOf g }

/-- VIB ALERT X stands (R98). -/
def Watch.alertOf (w : Watch) (g : Side) : Bool := w.anyIn g fun c => c.asksAlert || c.asksDanger

/-- VIB ALERT X formed (R98). -/
def State.formAlert (s : State) (g : Side) : State :=
  let now := s.watch.alertOf g
  (s.setGroup g { s.group g with alert := now }).alarmLevel .vibAlert (sideSource g) (some (sideCode g)) now

/-- Some fitted channel of the group is in DANGER (R100). -/
def Watch.inDanger (w : Watch) (g : Side) : Bool := w.anyIn g fun c => decide (c.vib = .danger)

/-- The dwell formed: 0 with no channel in DANGER, and with a dwell setting of 0 (R100). -/
def State.formDwell (s : State) (g : Side) : State :=
  if s.watch.inDanger g && s.watch.cfg.dwell ≠ 0 then s else s.setGroup g { s.group g with dwell := 0 }

/-- What is formed after a change of vibration state (R92, R93). -/
def State.formGroup (s : State) (g : Side) : State := ((s.formDemand g).formAlert g).formDwell g

/-! ### Health (R88 to R90, R94) -/

/-- Entry into LOST (R90, R94): UNKNOWN, counts 0, danger memory set when the state was DANGER; both runs 0 (R89). -/
def ChannelWatch.lose (w : ChannelWatch) : ChannelWatch :=
  { w with
    health := .lost, goodRun := 0, badRun := 0
    memory := w.memory || decide (w.vib = .danger)
    vib := .unknown, alertOn := 0, dangerOn := 0, offCount := 0 }

/-- What follows a change of health (R90). -/
def State.healthChanged (s : State) (c : Channel) : State :=
  let s1 := s.takeCond .healthChange (some c.val)
  (((s1.formSuspect c).formLost c).formGroup (groupOf c))

/-- A held run of 32 (R88). -/
def State.heldLost (s : State) (c : Channel) : State :=
  let w := s.channel c
  if w.health = .lost then s.setChannel c { w with goodRun := 0 }
  else (s.setChannel c w.lose).healthChanged c

/-- Health after a block (table of R89). -/
def ChannelWatch.stepHealth (w : ChannelWatch) (bad : Bool) : ChannelWatch :=
  match w.health, bad with
  | .suspect, false =>
    if 15 ≤ w.goodRun then { w with health := .healthy, goodRun := 0, badRun := 0 }
    else { w with goodRun := w.goodRun + 1, badRun := 0 }
  | .suspect, true => if 3 ≤ w.badRun then w.lose else { w with badRun := w.badRun + 1, goodRun := 0 }
  | .healthy, false => w
  | .healthy, true => { w with health := .suspect, badRun := 1, goodRun := 0 }
  | .lost, false =>
    if 15 ≤ w.goodRun then { w with health := .suspect, goodRun := 0, badRun := 0 }
    else { w with goodRun := w.goodRun + 1 }
  | .lost, true => { w with goodRun := 0 }

/-! ### Vibration state (R91 to R94) -/

/-- The three counts at 0. -/
def ChannelWatch.zeroCounts (w : ChannelWatch) : ChannelWatch := { w with alertOn := 0, dangerOn := 0, offCount := 0 }

/-- A step down when the off count has reached the off persistence (R93). -/
def ChannelWatch.stepDown (w : ChannelWatch) (threshold off : Nat) (below : VibState) : ChannelWatch :=
  let n := if w.level < threshold * 9 / 10 then countTo 255 w.offCount else 0
  if off ≤ n then { w.zeroCounts with vib := below } else { w with offCount := n }

/-- An evaluated block in NORMAL (R92). -/
def ChannelWatch.evalNormal (w : ChannelWatch) (v : VibSettings) (c : Channel) : ChannelWatch :=
  let a := if vget v.alert c ≤ w.level then countTo 255 w.alertOn else 0
  let d := if vget v.danger c ≤ w.level then countTo 255 w.dangerOn else 0
  if v.dOn ≤ d then { w.zeroCounts with vib := .danger }
  else if v.aOn ≤ a then { w.zeroCounts with vib := .alert }
  else { w with alertOn := a, dangerOn := d }

/-- An evaluated block in ALERT (R92, R93). -/
def ChannelWatch.evalAlert (w : ChannelWatch) (v : VibSettings) (c : Channel) : ChannelWatch :=
  let d := if vget v.danger c ≤ w.level then countTo 255 w.dangerOn else 0
  if v.dOn ≤ d then { w.zeroCounts with vib := .danger }
  else { w with dangerOn := d }.stepDown (vget v.alert c) v.off .normal

/-- An evaluated block (R92, R93). -/
def ChannelWatch.evaluate (w : ChannelWatch) (v : VibSettings) (c : Channel) : ChannelWatch :=
  match w.vib with
  | .unknown => { w.zeroCounts with vib := .normal }.evalNormal v c
  | .normal => w.evalNormal v c
  | .alert => w.evalAlert v c
  | .danger => w.stepDown (vget v.danger c) v.off .alert

/-- The block is evaluated (R91). -/
def State.evaluates (s : State) (c : Channel) : Bool :=
  let w := s.channel c
  w.levelValid && decide (s.watch.cfg.watchSpeed ≤ |s.meas.n|) && decide (w.health ≠ .lost)

/-- The entries handed to the record unit at a change of state from `v0` (R92). -/
def State.vibEntry (s : State) (c : Channel) (v0 : VibState) : State :=
  match (s.channel c).vib with
  | .alert => if v0 = .danger then s else s.takeCond .vibAlert (some c.val)
  | .danger => s.takeCond .vibDanger (some c.val)
  | _ => s

/-- Step 5 of R87, the evaluation. -/
def State.evaluateChannel (s : State) (c : Channel) : State :=
  if s.evaluates c then
    let w := s.channel c
    let w' := w.evaluate s.watch.cfg c
    let s1 := s.setChannel c w'
    if w'.vib = w.vib then s1 else (s1.vibEntry c w.vib).formGroup (groupOf c)
  else s

/-- Step 5 of R87, the danger memory (R94): tested at an evaluated block. -/
def State.testMemory (s : State) (c : Channel) (evaluated : Bool) : State :=
  let w := s.channel c
  if evaluated && w.memory && decide (w.health = .healthy) && decide (w.vib = .normal) then
    ((s.setChannel c { w with memory := false }).formDemand (groupOf c)).formAlert (groupOf c)
  else s

/-- Steps 1 to 4 of R87. -/
def ChannelWatch.closeBlock (w : ChannelWatch) : ChannelWatch :=
  { w with level := isqrt (w.sumSq / 256), levelValid := decide (w.held ≤ 64), sumSq := 0, held := 0, errs := 0 }

/-- The block end of a fitted channel (R87). -/
def State.blockEndChannel (s : State) (c : Channel) : State :=
  let w := s.channel c
  let bad := decide (8 < w.held + w.errs)
  let w1 := w.closeBlock.stepHealth bad
  let s1 := s.setChannel c w1
  let s2 := if w1.health = w.health then s1 else s1.healthChanged c
  (s2.evaluateChannel c).testMemory c (s2.evaluates c)

/-! ### Sector map (R95 to R97) -/

/-- The worst sector of a map from sector `i` on, with its entry. -/
def worstOf : List Nat → Nat → Nat × Nat
  | [], _ => (0, 0)
  | [x], i => (i, x)
  | x :: xs, i => let r := worstOf xs (i + 1); if x < r.2 then r else (i, x)

/-- Sector alert, worst sector and worst value formed from the map (R97). -/
def ChannelWatch.formMap (w : ChannelWatch) (sectorLevel : Nat) : ChannelWatch :=
  let r := worstOf w.map 0
  { w with sectorAlert := w.map.any fun x => decide (sectorLevel ≤ x), worstSector := r.1, worstValue := r.2 }

/-- What follows a change of the map (R97). -/
def State.formSectors (s : State) (c : Channel) : State :=
  let w := s.channel c
  let w' := w.formMap (vget s.watch.cfg.sector c)
  let s1 := s.setChannel c w'
  if w'.sectorAlert = w.sectorAlert then s1
  else
    let s2 := if w'.sectorAlert then s1.takeCond .sectorAlert (some c.val) else s1
    (s2.formDemand (groupOf c)).formAlert (groupOf c)

/-- No visit. -/
def ChannelWatch.noVisit (w : ChannelWatch) : ChannelWatch := { w with visitSector := none, visitPeak := 0, visitCount := 0 }

/-- A visit begins. -/
def ChannelWatch.newVisit (w : ChannelWatch) (sector : Nat) : ChannelWatch :=
  { w with visitSector := some sector, visitPeak := 0, visitCount := 0 }

/-- The map entry of a closed visit (R96). -/
def visitEntry (entry peak : Nat) : Nat := ((entry : Int) + truncDiv ((peak : Int) - entry) 8).toNat

/-- A visit of sector `i` is closed (R96). -/
def ChannelWatch.closeVisit (w : ChannelWatch) (i : Nat) : ChannelWatch :=
  if w.visitCount = 0 then w else { w with map := w.map.modify i fun e => visitEntry e w.visitPeak }

/-- The visit at a sample with the position VALID in `sector` (R95). -/
def ChannelWatch.follow (w : ChannelWatch) (sector : Nat) : ChannelWatch :=
  match w.visitSector with
  | none => w.newVisit sector
  | some i => if i = sector then w else (w.closeVisit i).newVisit sector

/-- A visit is closed with a count of at least 1, so the map changes (R96). -/
def ChannelWatch.mapChanges (w : ChannelWatch) (sector : Nat) : Bool :=
  match w.visitSector with
  | some i => decide (i ≠ sector) && decide (w.visitCount ≠ 0)
  | none => false

/-- A sample that enters the visit (R95). -/
def ChannelWatch.visitSample (w : ChannelWatch) (y : Int) : ChannelWatch :=
  { w with visitPeak := max w.visitPeak y.natAbs, visitCount := w.visitCount + 1 }

/-! ### Samples (R84 to R86, R95) -/

/-- The tag of a sample (R84). -/
inductive Tag where
  | none | overrun | overload | held
  deriving DecidableEq, Repr

/-- The tag of what a take hands over (R84). -/
def Receiver.tag (r : Receiver) : Tag :=
  if r.lineError || !r.full then .held
  else
    match r.buffer with
    | some (_, .overload) => .overload
    | _ => if r.overrun then .overrun else .none

/-- The sample code handed over. -/
def Receiver.code (r : Receiver) : Int := (r.buffer.map Prod.fst).getD 0

/-- What the take leaves in the receiver (R16). -/
def Receiver.taken (r : Receiver) : Receiver :=
  { r with full := false, overrun := false, lineError := false, errors := { r.errors with missing := r.errors.missing || !r.full } }

/-- The sample (R84). -/
def ChannelWatch.sampleOf (w : ChannelWatch) (t : Tag) (code : Int) : Int := if t = .held then w.lastGood else code

/-- Last good value, held run and seen flags (R85). -/
def ChannelWatch.noteTag (w : ChannelWatch) (t : Tag) (x : Int) : ChannelWatch :=
  { w with
    lastGood := if t = .none ∨ t = .overrun then x else w.lastGood
    heldRun := if t = .held then countTo 32 w.heldRun else 0
    heldSeen := w.heldSeen || decide (t = .held)
    overloadSeen := w.overloadSeen || decide (t = .overload) }

/-- The new mean (R86). -/
def newMean (m x : Int) : Int := m + truncDiv (x - m) 64

/-- Mean, sum of squares and counts (R86). -/
def ChannelWatch.accumulate (w : ChannelWatch) (t : Tag) (x : Int) : ChannelWatch :=
  let m := newMean w.mean x
  { w with
    mean := m
    sumSq := w.sumSq + ((x - m) * (x - m)).toNat
    held := if t = .held then w.held + 1 else w.held
    errs := if t = .overload ∨ t = .overrun then w.errs + 1 else w.errs }

/-- The visit at a sample with deviation `y` (R95). -/
def State.visitWork (s : State) (c : Channel) (t : Tag) (y : Int) : State :=
  let w := s.channel c
  if s.meas.shell.valid then
    let w1 := w.follow s.meas.shell.sector
    let w2 := if decide (s.watch.cfg.watchSpeed ≤ |s.meas.n|) && t ≠ .held then w1.visitSample y else w1
    let s1 := s.setChannel c w2
    if w.mapChanges s.meas.shell.sector then s1.formSectors c else s1
  else s.setChannel c w.noVisit

/-- The work of a sample (R84 to R88, R95). -/
def State.sampleWork (s : State) (c : Channel) (r : Receiver) : State :=
  let t := r.tag
  let w := s.channel c
  let x := w.sampleOf t r.code
  let w1 := (w.noteTag t x).accumulate t x
  let s1 := s.setChannel c w1
  let s2 := if t = .held && w1.heldRun = 32 then s1.heldLost c else s1
  s2.visitWork c t (x - w1.mean)

/-- Step 1 of R83: the takes of all fitted channels (R16). -/
def State.takeReceivers (s : State) : State :=
  s.setMeas { s.meas with
    receivers := s.meas.receivers.mapFinIdx fun i r h => if s.watch.fitted ⟨i, h⟩ then r.taken else r }

/-- Steps 1 and 2 of R83. -/
def State.takeSamples (s : State) : State :=
  s.watch.fittedChannels.foldl (fun s' c => s'.sampleWork c (s.receiver c)) s.takeReceivers

/-! ### A VIBRATION group comes into force (R104, R18) -/

/-- A channel that becomes fitted or not fitted takes its values after reset (R104); its receiver starts afresh (R18). -/
def State.resetChannel (s : State) (c : Channel) (fitted : Bool) : State :=
  let s1 := (s.setChannel c .reset).setReceiver c { Receiver.reset with waitIdle := fitted }
  if fitted then s1 else s1.writeWord (stickyClearAddr c) 0

/-- Steps 2 to 4 of R104 for one channel, `old` telling whether it was fitted before. -/
def State.adoptChannel (old : Channel → Bool) (s : State) (c : Channel) : State :=
  match old c, s.watch.fitted c with
  | true, true => s.formSectors c
  | false, false => s
  | _, now => s.resetChannel c now

/-- The channel named as detail of the sensor reports of R104: the lowest one that became fitted (log 24). -/
def newlyFitted (old now : Channel → Bool) : Channel := (allChannels.find? fun c => !old c && now c).getD 0

/-- Step 5 of R104. -/
def State.formAll (s : State) (c : Channel) : State :=
  let s1 := ((s.formSuspect c).formLost c).formAlert .a
  ((((s1.formAlert .b).formDemand .a).formDemand .b).formDwell .a).formDwell .b

/-- The awaiting VIBRATION group comes into force (R104) and the departure is tested (R20). -/
def State.vibrationInForce (s : State) : State :=
  match s.watch.awaiting with
  | none => s
  | some (v, k) =>
    let old := s.watch.fitted
    let s1 := s.setWatch { s.watch with settings := some v, awaiting := none }
    let s2 := allChannels.foldl (State.adoptChannel old) s1
    let s3 := (s2.formAll (newlyFitted old s1.watch.fitted)).rewriteMap
    (s3.finish k .ok [2]).departureTest

/-! ### The sample period (R83) -/

/-- The block end (R87, R104). -/
def State.blockEnd (s : State) : State := (s.watch.fittedChannels.foldl State.blockEndChannel s).vibrationInForce

/-- Step 3 of R83. -/
def State.advanceBlock (s : State) : State :=
  let p := (s.watch.blockPos + 1) % 256
  let s1 := s.setWatch { s.watch with blockPos := p }
  if p = 0 then s1.blockEnd else s1

/-- The dwell timer of a group at a watch millisecond counts (R100). -/
def State.dwellCounts (s : State) (g : Side) : Bool :=
  s.watch.inDanger g && s.seq.drive.governed && decide (s.watch.cfg.dwell ≠ 0)

/-- The dwell timer reaches the dwell setting at this watch millisecond (R100). -/
def State.dwellReached (s : State) (g : Side) : Bool :=
  s.dwellCounts g && decide (s.watch.cfg.dwell ≤ (s.group g).dwell + 1)

/-- The dwell of a group at a watch millisecond (R100). -/
def State.dwellStep (s : State) (g : Side) : State :=
  if s.dwellReached g then (s.setGroup g { s.group g with dwell := 0 }).tripPulse (.vibDanger g)
  else if s.dwellCounts g then s.setGroup g { s.group g with dwell := (s.group g).dwell + 1 }
  else s.formDwell g

/-- Step 4 of R83, group A before group B (log 50). -/
def State.advanceQuarter (s : State) : State :=
  let q := (s.watch.quarter + 1) % 4
  let s1 := s.setWatch { s.watch with quarter := q }
  if q = 0 then s.unlessReset (fun s => s.dwellStep .b) (s1.dwellStep .a) else s1

/-- Step 5 of R83 (log 32). -/
def State.requestSamples (s : State) : State := s.setWatch { s.watch with sampleRequest := true }

/-- A vibration sample period start (R83). -/
def State.samplePeriod (s : State) : State :=
  s.unlessReset State.requestSamples (s.unlessReset State.advanceQuarter s.takeSamples.advanceBlock)

/-- VIBRATION_SAMPLE_PERIOD. -/
def execVibrationSamplePeriod (s : State) : Host.Outcome State Fault Refusal := .next s.samplePeriod

/-- The held run of the channel reaches 32 at this sample (R88). -/
def State.heldRunReached (s : State) (c : Channel) : Bool :=
  s.watch.fitted c && decide ((s.receiver c).tag = .held) && decide ((s.channel c).heldRun = 31)

/-- HELD_RUN_LOST: the sample period at which the held run of the channel reaches 32 (R88, log 2). -/
def execHeldRunLost (c : Channel) (s : State) : Host.Outcome State Fault Refusal :=
  .next (if s.heldRunReached c then s.samplePeriod else s)

/-- BLOCK_END: the sample period at which the block position wraps (R83, R87, log 2). -/
def execBlockEnd (s : State) : Host.Outcome State Fault Refusal :=
  .next (if s.watch.blockPos = 255 then s.samplePeriod else s)

/-- WATCH_MILLISECOND: the sample period at which the quarter count wraps (R83, R100, log 2). -/
def execWatchMillisecond (s : State) : Host.Outcome State Fault Refusal :=
  .next (if s.watch.quarter = 3 then s.samplePeriod else s)

/-- The dwell timer of the group reaches the dwell setting at this sample period (R100). -/
def State.dangerDwellReached (s : State) (g : Side) : Bool :=
  let s1 := s.takeSamples.advanceBlock
  decide (s.watch.quarter = 3) && decide (s1.record.resets = s.record.resets) &&
  match g with
  | .a => s1.dwellReached .a
  | .b => (s1.dwellStep .a).dwellReached .b

/-- DANGER_DWELL_EXPIRY: the sample period at which the dwell timer of the group reaches the dwell setting (R100, log 2). -/
def execDangerDwellExpiry (g : Side) (s : State) : Host.Outcome State Fault Refusal :=
  .next (if s.dangerDwellReached g then s.samplePeriod else s)

/-! ### RESET SECTOR MAP (R102) -/

/-- The map of a fitted channel zeroed (R102). -/
def State.zeroMap (s : State) (c : Channel) : State :=
  let s1 := (s.setChannel c { (s.channel c).noVisit with map := List.replicate 64 0 }).formSectors c
  (s1.formDemand (groupOf c)).formAlert (groupOf c)

/-- The channels that the parameter names: one, or all; none for a value that names neither (R102, R186). -/
def namedChannels (w : Word) : Option (List Channel) :=
  if h : w.toNat < 6 then some [⟨w.toNat, h⟩] else if w = 0xFFFF then some allChannels else none

/-- RESET_SECTOR_MAP (R102). -/
def execResetSectorMap (s : State) : Host.Outcome State Fault Refusal :=
  .next (s.withTake (some .resetSectorMap) fun s k ps =>
    match namedChannels (wordAt ps 0) with
    | none => s.refuseInvalid k 0 false
    | some cs =>
      if wordAt ps 0 ≠ 0xFFFF && !cs.any s.watch.fitted then s.finish k .noEffect []
      else (((cs.filter s.watch.fitted).foldl State.zeroMap s).rewriteMap).finish k .ok [])

end Sys2Proof.Machine
end

