-- ==== Sys2Proof/Machine/Sequencing.lean ====
section
/-! DEFINITION. The drive sequencer's own events: the sequencer millisecond (R19 to R30, R36), START, STOP, SET SPEED (R21,
R23, R27), RUN PERMIT and E-STOP (R32, R33). -/

namespace Sys2Proof.Machine

/-! ### Ramp (R25, R26) -/

/-- A value moved toward a target by at most `step`. -/
def moveToward (target step x : Int) : Int := if x < target then min target (x + step) else max target (x - step)

/-- One step of the internal ramp toward 1000 × the ramp target (R26). -/
def rampStep (c : DriveSettings) (target ramp : Int) : Int :=
  let t := 1000 * target
  moveToward t (if |ramp| < |t| then c.accelRate else c.decelRate) ramp

/-- The sequencer after one ramp step. -/
def Sequencer.stepRamp (q : Sequencer) (c : DriveSettings) : Sequencer := { q with ramp := rampStep c q.rampTarget q.ramp }

/-- The ramp target in BREAKAWAY and RUN (R25). -/
def Sequencer.runTarget (q : Sequencer) (c : DriveSettings) : Int :=
  match q.runKind, q.direction with
  | .normal, _ => clampTo 0 c.nmax q.hostTarget
  | .creep, .forward => c.creepSpeed
  | .creep, .reverse => -c.creepSpeed

/-! ### The sequencer millisecond (R19) -/

/-- The flux demand at a magnetizing count (R22). -/
def fluxAt (idf : Int) (count time : Nat) : Int := idf * count / time

/-- The magnetizing time expires (R22). -/
def State.magnetized (s : State) : State :=
  (s.setSeq { s.seq with
    breakawayCount := 0, rampTarget := s.seq.runTarget s.cfg, brakeRelease := true, drive := .breakaway }).formEncoders

/-- A step in MAGNETIZING (R22). -/
def State.magnetizingStep (s : State) : State :=
  let n := s.seq.magCount + 1
  let s1 := s.setSeq { s.seq with magCount := n, flux := fluxAt s.cfg.idf n s.cfg.magTime }
  if s.cfg.magTime ≤ n then s1.magnetized else s1

/-- |n| has reached nb (R24). -/
def State.atBreakaway (s : State) : Bool := decide (s.cfg.nb ≤ |s.meas.n|)

/-- A step in BREAKAWAY (R24). -/
def State.breakawayStep (s : State) : State :=
  let s1 := s.setSeq { s.seq.stepRamp s.cfg with breakawayCount := s.seq.breakawayCount + 1 }
  if s.atBreakaway then (s1.setDriveState .run).formEncoders
  else if s.cfg.breakawayTime ≤ s.seq.breakawayCount + 1 then s1.tripPulse .stall
  else s1

/-- The brake set time is over (R30). -/
def State.brakeSetEnd (s : State) : State :=
  (s.setSeq { s.seq with phase := .none, zeroCount := 0, brakeCount := 0, flux := 0 }).enterStopped

/-- A step in DECELERATING (R28). -/
def State.deceleratingStep (s : State) : State :=
  let q := s.seq.stepRamp s.cfg
  s.setSeq { q with phase := if q.ramp = 0 then .atZero else q.phase }

/-- The zero dwell count after a step in AT ZERO (R29). -/
def State.zeroCountNext (s : State) : Nat := if |s.meas.n| ≤ s.cfg.zeroBand then s.seq.zeroCount + 1 else 0

/-- A step in AT ZERO (R29, R30). -/
def State.atZeroStep (s : State) : State :=
  let n := s.zeroCountNext
  if s.cfg.zeroDwell ≤ n then
    let s1 := s.setSeq { s.seq with zeroCount := n, brakeRelease := false, brakeCount := 0, phase := .brakeSetting }
    if s.cfg.brakeSetTime = 0 then s1.brakeSetEnd else s1
  else s.setSeq { s.seq with zeroCount := n }

/-- A step in BRAKE SETTING (R30). -/
def State.brakeSettingStep (s : State) : State :=
  let s1 := s.setSeq { s.seq with brakeCount := s.seq.brakeCount + 1 }
  if s.cfg.brakeSetTime ≤ s.seq.brakeCount + 1 then s1.brakeSetEnd else s1

/-- A step in STOPPING by its phase (R28 to R30). -/
def State.stoppingStep (s : State) : State :=
  match s.seq.phase with
  | .decelerating => s.deceleratingStep
  | .atZero => s.atZeroStep
  | .brakeSetting => s.brakeSettingStep
  | .none => s

/-- BACKROLL after a step in STOPPED (R36). -/
def backrollNext (present : Bool) (speed n : Int) : Bool :=
  if present then decide (speed / 2 < |n|) else decide (speed < |n|)

/-- A step in STOPPED (R36). -/
def State.stoppedStep (s : State) : State :=
  let now := backrollNext s.seq.backroll s.cfg.backrollSpeed s.meas.n
  (s.setSeq { s.seq with backroll := now }).alarmLevel .backroll .first none now

/-- A sequencer millisecond (R19). -/
def State.sequencerStep (s : State) : State :=
  match s.seq.drive with
  | .unconfigured => s
  | .stopped => s.stoppedStep
  | .magnetizing => s.magnetizingStep
  | .breakaway => s.breakawayStep
  | .run => s.setSeq (s.seq.stepRamp s.cfg)
  | .stopping => s.stoppingStep
  | .tripped => s

/-- SEQUENCER_MILLISECOND. -/
def execSequencerMillisecond (s : State) : Host.Outcome State Fault Refusal := .next s.sequencerStep

/-- The magnetizing count reaches the magnetizing time at this step (R22). -/
def State.magnetizingReached (s : State) : Bool :=
  decide (s.seq.drive = .magnetizing) && decide (s.cfg.magTime ≤ s.seq.magCount + 1)

/-- MAGNETIZING_TIME_EXPIRY: the step at which the magnetizing time expires (R22, log 2). -/
def execMagnetizingTimeExpiry (s : State) : Host.Outcome State Fault Refusal :=
  .next (if s.magnetizingReached then s.sequencerStep else s)

/-- The breakaway count reaches the breakaway time at this step (R24). -/
def State.breakawayReached (s : State) : Bool :=
  decide (s.seq.drive = .breakaway) && decide (s.cfg.breakawayTime ≤ s.seq.breakawayCount + 1)

/-- BREAKAWAY_TIME_EXPIRY: the step at which the breakaway count reaches its time (R24, log 2): STALL, or RUN where the speed test,
which comes first, finds |n| at nb. -/
def execBreakawayTimeExpiry (s : State) : Host.Outcome State Fault Refusal :=
  .next (if s.breakawayReached then s.sequencerStep else s)

/-- The zero dwell count reaches the zero-speed dwell at this step (R29). -/
def State.zeroDwellReached (s : State) : Bool :=
  decide (s.seq.drive = .stopping) && decide (s.seq.phase = .atZero) && decide (s.cfg.zeroDwell ≤ s.zeroCountNext)

/-- ZERO_SPEED_DWELL_REACHED: the step at which the zero-speed dwell is reached (R29, log 2). -/
def execZeroSpeedDwellReached (s : State) : Host.Outcome State Fault Refusal :=
  .next (if s.zeroDwellReached then s.sequencerStep else s)

/-- The brake set time is over at this step (R30); with a time of 0 that is the step that enters BRAKE SETTING. -/
def State.brakeSetReached (s : State) : Bool :=
  decide (s.seq.drive = .stopping) &&
  ((decide (s.seq.phase = .brakeSetting) && decide (s.cfg.brakeSetTime ≤ s.seq.brakeCount + 1)) ||
    (s.zeroDwellReached && decide (s.cfg.brakeSetTime = 0)))

/-- BRAKE_SET_TIME_EXPIRY: the step at which the brake set time is over (R30, log 2). -/
def execBrakeSetTimeExpiry (s : State) : Host.Outcome State Fault Refusal :=
  .next (if s.brakeSetReached then s.sequencerStep else s)

/-! ### START, STOP, SET SPEED (R21, R23, R27) -/

/-- A STOP, or a permit drop, in MAGNETIZING (R23, R32). -/
def State.stopMagnetizing (s : State) : State := (s.setSeq { s.seq with flux := 0, magCount := 0 }).enterStopped

/-- The run kind of a code word. -/
def runKindOf (w : Word) : Option RunKind :=
  match w.toNat with
  | 0 => some .normal
  | 1 => some .creep
  | _ => none

/-- The direction of a code word. -/
def directionCode (w : Word) : Option Direction :=
  match w.toNat with
  | 0 => some .forward
  | 1 => some .reverse
  | _ => none

/-- START (R21). -/
def execStart (s : State) : Host.Outcome State Fault Refusal :=
  .next (s.withTake (some .start) fun s k ps =>
    if s.seq.drive ≠ .stopped then s.refuse k .state
    else
      match runKindOf (wordAt ps 0), directionCode (wordAt ps 1) with
      | none, _ => s.refuseInvalid k 0 false
      | _, none => s.refuseInvalid k 1 false
      | some r, some d =>
        if !s.inputs.runPermit then s.refuse k .permit
        else
          s.unlessReset (fun s => s.finish k .ok []) (s.setSeq { s.seq with runKind := r, direction := d }).enterMagnetizing)

/-- STOP (R23). -/
def execStop (s : State) : Host.Outcome State Fault Refusal :=
  .next (s.withTake (some .stop) fun s k _ =>
    match s.seq.drive with
    | .magnetizing => s.unlessReset (fun s => s.finish k .ok []) s.stopMagnetizing
    | .breakaway | .run => s.unlessReset (fun s => s.finish k .ok []) s.enterStopping
    | .stopping | .stopped => s.finish k .noEffect []
    | .unconfigured | .tripped => s.refuse k .state)

/-- The ramp target after a change of the host target (R25). -/
def Sequencer.retarget (q : Sequencer) (c : DriveSettings) : Sequencer :=
  match q.drive with
  | .breakaway | .run => { q with rampTarget := q.runTarget c }
  | _ => q

/-- SET_SPEED (R27). -/
def execSetSpeed (s : State) : Host.Outcome State Fault Refusal :=
  .next (s.withTake (some .setSpeed) fun s k ps =>
    let v := clampTo 0 s.cfg.nmax (intAt ps 0)
    let s1 := s.setSeq ({ s.seq with hostTarget := v }.retarget s.cfg)
    s1.finish k (if v = intAt ps 0 then .ok else .clamped) (if v = intAt ps 0 then [] else [intWord v]))

/-! ### RUN PERMIT and E-STOP (R32, R33) -/

/-- A drop of RUN PERMIT by the drive state and the permit action (R32). -/
def State.permitDrop (s : State) : State :=
  if s.seq.drive.running then
    match s.cfg.permitAction with
    | .trip => (s.setSeq { s.seq with permit := true }).tripRise .permit .first
    | .ramp =>
      match s.seq.drive with
      | .magnetizing => s.stopMagnetizing
      | .breakaway | .run => s.enterStopping
      | _ => s
  else s

/-- RUN_PERMIT_DROP (R32). -/
def execRunPermitDrop (s : State) : Host.Outcome State Fault Refusal :=
  if s.inputs.runPermit then .next (s.setInputs { s.inputs with runPermit := false }).permitDrop else .next s

/-- RUN_PERMIT_RETURN (R32). -/
def execRunPermitReturn (s : State) : Host.Outcome State Fault Refusal :=
  let s1 := s.setInputs { s.inputs with runPermit := true }
  .next ((s1.setSeq { s1.seq with permit := false }).fall .permit .first)

/-- E_STOP_ACTIVE (R33). -/
def execEStopActive (s : State) : Host.Outcome State Fault Refusal :=
  if s.inputs.eStop then .next s
  else
    let s1 := s.setInputs { s.inputs with eStop := true }
    .next ((s1.setSeq { s1.seq with eStop := true }).tripRise .eStop .first)

/-- E_STOP_INACTIVE (R33). -/
def execEStopInactive (s : State) : Host.Outcome State Fault Refusal :=
  let s1 := s.setInputs { s.inputs with eStop := false }
  .next ((s1.setSeq { s1.seq with eStop := false }).fall .eStop .first)

end Sys2Proof.Machine
end

