-- ==== Sys2Proof/Machine/HostBus.lean ====
section
/-! DEFINITION. Resets and start-up (R37, R38, R178), the registers (R175, R176), the host's writes to state and clear words
(R112, R141, R165), and time (R147, R174). -/

namespace Sys2Proof.Machine

/-! ### Resets -/

/-- POWER_ON_RESET (R178, R164, R105). -/
def execPowerOnReset (s : State) : Host.Outcome State Fault Refusal := .next s.performReset

/-- A RESTART written to PORT CONTROL (R37). -/
def State.restartWrite (s : State) : State :=
  if s.seq.drive.idleClass then s.performReset else s.setSeq { s.seq with restartPending := true }

/-- RESTART (R37). -/
def execRestart (s : State) : Host.Outcome State Fault Refusal := .next s.restartWrite

/-- Words 0 of slots 0..7 become FREE and words 0 of the list entries EMPTY (R178, steps 2 and 3). -/
def State.clearStateWords (s : State) : State :=
  let s1 := allEntries.foldl (fun s k => s.writeWord (slotAddr k) (natWord SlotState.free.code)) s
  allEntries.foldl (fun s k => s.writeWord (entryAddr k) (natWord EntryState.empty.code)) s1

/-- The start-up initialisation of the exchange memory (R178, steps 1 to 5). -/
def State.initMemory (s : State) : State :=
  let s1 := (s.writeWords identityAddr identityWords).clearStateWords
  ((s1.writeWords statusAddr (zeros 384)).writeWords (stickyClearAddr 0) (zeros 7)).writeWords mapImageAddr (zeros 397)

/-- START_UP_END (R178). -/
def execStartUpEnd (s : State) : Host.Outcome State Fault Refusal :=
  if s.req.starting then
    let s1 := s.initMemory.setReq { s.req with
      slots := s.req.slots.map fun x => { x with state := .free, cancel := false }
      order := [], updateCount := 0, starting := false }
    .next (s1.raiseNotice noticeStart)
  else .next s

/-! ### Registers (R175, R176) -/

/-- REGISTER_WRITE_OTHER: writes to IDENT, and of a value other than RESTART to PORT CONTROL, are ignored (R176); a 1 to PORT
CONTROL is the RESTART of R37 (R180, log 35). -/
def execRegisterWriteOther (r : OtherRegister) (v : Word) (s : State) : Host.Outcome State Fault Refusal :=
  match r with
  | .ident => .next s
  | .portControl => .next (if v = 1 then s.restartWrite else s)

/-- NOTICE_WRITE (R175). -/
def execNoticeWrite (v : Word) (s : State) : Host.Outcome State Fault Refusal :=
  .next (s.setReq { s.req with notice := s.req.notice &&& ~~~v })

/-- NOTICE_ENABLE_WRITE (R175): positions that name no notice read as zero. -/
def execNoticeEnableWrite (v : Word) (s : State) : Host.Outcome State Fault Refusal :=
  .next (s.setReq { s.req with noticeEnable := v &&& noticeMask })

/-! ### State words and clear words -/

/-- The address is one of the four registers (10.1). -/
def isRegister (a : Nat) : Bool := a == 0x8000 || a == 0x8002 || a == 0x8004 || a == 0x8006

/-- Why a store is no plain store, if it is none. -/
def storeFault (h : HostStore) : Option Fault :=
  if isRegister h.addr then some (.notAPlainStore h.addr)
  else if !h.inMemory then some (.noSuchAddress h.addr)
  else if !h.plain then some (.notAPlainStore h.addr)
  else none

/-- A plain store (09, opening). -/
def State.hostStore (s : State) (h : HostStore) : State := s.writeWord h.addr h.value

/-- The kinds that a write of FREE cancels (R165). -/
def RequestKind.cancellable : RequestKind → Bool
  | .fetchCapture | .fetchNext | .readStored | .readStoredNext => true
  | _ => false

/-- The cancel mark set, ACTIVE written back (R165); a store read still waiting ends at once (R162). -/
def State.cancel (s : State) (k : Fin 8) : State :=
  let s1 := s.setReq (s.req.setSlot k { s.slot k with cancel := true })
  (s1.putSlotState k .active).cancelRead k

/-- A host write to a slot's state word (R165); while STARTING, FREE is written back (R178). -/
def State.slotWrite (s : State) (k : Fin 8) (v : Word) : State :=
  let x := s.slot k
  if s.req.starting then s.writeWord (slotAddr k) (natWord SlotState.free.code)
  else if v = 1 && x.state = .free then
    (s.setReq { s.req with order := s.req.order ++ [k] }).putSlotState k .posted
  else if v = 0 && (x.state = .done || x.state = .refused) then s.putSlotState k .free
  else if v = 0 && x.state = .posted then
    (s.setReq { s.req with order := s.req.order.filter fun j => j ≠ k }).putSlotState k .free
  else if v = 0 && x.state = .active then
    if (x.kind.map RequestKind.cancellable).getD false then s.cancel k else s.putSlotState k .active
  else (s.putSlotState k x.state).misuse

/-- SLOT_STATE_WRITE, after the plain stores that the host has made before it (R165, log 6). -/
def execSlotStateWrite (stores : List HostStore) (k : Fin 8) (v : Word) (s : State) : Host.Outcome State Fault Refusal :=
  match stores.findSome? storeFault with
  | some f => .fault f
  | none => .next ((stores.foldl State.hostStore s).slotWrite k v)

/-- A host write to a list entry's state word (R141); while STARTING, EMPTY is written back (R178). -/
def State.entryWrite (s : State) (k : Fin 8) (v : Word) : State :=
  let e := s.record.listEntry k
  if s.req.starting then s.writeWord (entryAddr k) (natWord EntryState.empty.code)
  else if v = 2 && e.held then s.putEntry k { e with state := .taken }
  else if v = 0 then s.putEntry k ⟨.empty, none, .none⟩
  else (s.putEntry k e).misuse

/-- LIST_ENTRY_STATE_WRITE (R141). -/
def execListEntryStateWrite (k : Fin 8) (v : Word) (s : State) : Host.Outcome State Fault Refusal := .next (s.entryWrite k v)

/-- ALARM_SEEN_CLEAR_WRITE (R112); while STARTING the clear word is only written back (R178). -/
def execAlarmSeenClearWrite (v : Word) (s : State) : Host.Outcome State Fault Refusal :=
  let s1 := if s.req.starting then s else s.setFaults (s.faults.clearSeen v)
  .next (s1.writeWord alarmClearAddr 0)

/-! ### Time (R110, R132, R147, R174; log 4) -/

/-- A timer advanced, held at its limit. -/
def advance (limit us t : Nat) : Nat := min limit (t + us)

/-- The grouping window timer (6.2). -/
def FaultUnit.elapse (us : Nat) (f : FaultUnit) : FaultUnit :=
  if f.windowOpen then { f with timer := advance (1000 * f.windowLen) us f.timer } else f

/-- The window of the program in force, in ms. -/
def RecordUnit.triggerWindow (r : RecordUnit) : Nat := (r.program.map Program.window).getD 0

/-- The window timer of WAIT SECOND (R132). -/
def RecordUnit.elapse (us : Nat) (r : RecordUnit) : RecordUnit :=
  if r.trigState = .waitSecond then { r with windowTimer := advance (1000 * r.triggerWindow) us r.windowTimer } else r

/-- The erase time counts: from the end of the SECTOR ERASE transfer, excluding suspensions (R147, log 26), while the erase is
polled (log 49). -/
def Job.eraseCounts : Job → Bool
  | .eraseEnable | .eraseSend | .suspendSend | .suspendPoll | .resumeSend => false
  | _ => true

/-- The times of the store unit (R147); the erase time only in READY and BUSY (log 49). -/
def StoreUnit.elapse (us : Nat) (u : StoreUnit) : StoreUnit :=
  { u with
    pollElapsed :=
      match u.pollLimit with
      | some l => advance l us u.pollElapsed
      | none => u.pollElapsed
    eraseElapsed :=
      if u.erasePolled && u.job.eraseCounts then advance u.eraseLimit us u.eraseElapsed
      else u.eraseElapsed }

/-- `us` microseconds pass for the timers that run. -/
def State.elapse (s : State) (us : Nat) : State :=
  ((s.setFaults (s.faults.elapse us)).setRecord (s.record.elapse us)).setStore (s.store.elapse us)

/-- The clock at an expiry of the part time counter (R174). -/
def RequestUnit.tick (q : RequestUnit) : RequestUnit :=
  { q with
    partTime := q.partTime + 1
    phase := if 999 ≤ q.phase then 0 else q.phase + 1
    clock := if 999 ≤ q.phase then q.clock + 1 else q.clock
    subMs := 0 }

/-- PART_TIME_TICK (R174). -/
def execPartTimeTick (s : State) : Host.Outcome State Fault Refusal :=
  let s1 := s.elapse (1000 - s.req.subMs)
  .next (s1.setReq s1.req.tick)

/-- A microsecond without a command (log 4): at most 999 pass between two expiries of the part time counter. -/
def State.idleMicrosecond (s : State) : State :=
  if s.req.subMs < 999 then (s.elapse 1).setReq { s.req with subMs := s.req.subMs + 1 } else s

end Sys2Proof.Machine
end

