-- ==== Sys2Proof/Machine/Settings.lean ====
section
/-! DEFINITION. Settings images (R185): their checks (R39, R62, R63, R82, R103, R122, R143, R151), what is read from them, and
the images written by READ SETTINGS. -/

namespace Sys2Proof.Machine

/-! ### Range checks -/

/-- Where a field of an image lies, and what it may hold; no field has a signed range (R179). -/
inductive Field where
  | unsigned (index lo hi : Nat)
  | double (index lo hi : Nat)
  deriving DecidableEq, Repr

/-- The index of the field's (low) word. -/
def Field.index : Field → Nat
  | .unsigned i _ _ => i
  | .double i _ _ => i

/-- The word, or word pair, of the image lies within the field's range. -/
def Field.inRange (ws : List Word) : Field → Bool
  | .unsigned i lo hi => decide (lo ≤ natAt ws i) && decide (natAt ws i ≤ hi)
  | .double i lo hi => decide (lo ≤ nat32At ws i) && decide (nat32At ws i ≤ hi)

/-- The index of the first field out of range, in the order of the list. -/
def firstBad (fs : List Field) (ws : List Word) : Option Nat := (fs.find? fun f => !f.inRange ws).map Field.index

/-- The index of the first check that fails: a check is the index it reports and whether it holds. -/
def firstFailing (checks : List (Nat × Bool)) : Option Nat := (checks.find? fun c => !c.2).map Prod.fst

/-! ### DRIVE (group 0) -/

/-- The fields of the DRIVE image in its order (2.11, 3.10, 4.9, 6.9, R2, R6, 1.3); idf has its range in the cross-field check
(log 23). -/
def driveFields : List Field :=
  [.unsigned 0 0 2, .unsigned 1 1000 4000, .unsigned 2 1000 4000, .unsigned 3 500 1500, .double 4 1024 65536,
    .double 6 100000 10000000, .unsigned 8 100 18000, .unsigned 9 1 10000, .unsigned 10 1 10000, .unsigned 11 50 2000,
    .unsigned 12 10 3000, .unsigned 13 100 30000, .unsigned 14 10 3000, .unsigned 15 0 500, .unsigned 16 1 10000,
    .unsigned 17 0 5000, .unsigned 18 2 2000, .unsigned 19 0 1, .unsigned 20 0 10000, .unsigned 21 0 10000,
    .unsigned 22 0 3000, .unsigned 23 0 3000, .unsigned 24 1 500, .unsigned 25 0 1000] ++
  [.unsigned 26 500 2000, .unsigned 27 500 2000, .unsigned 28 100 3000, .unsigned 30 50 1000,
    .unsigned 31 10 2000, .unsigned 32 0 5000, .unsigned 33 1 8, .unsigned 34 0 65535, .unsigned 35 0 65535,
    .unsigned 36 0 10000, .unsigned 37 0 10000, .unsigned 38 500 577, .unsigned 39 20 100, .unsigned 40 1000 3800,
    .unsigned 41 100 1200, .unsigned 42 100 1300, .unsigned 43 200 1500, .unsigned 44 0 2000, .unsigned 45 10 5000]

/-- The cross-field checks of the DRIVE group in the order of 10.1. -/
def driveChecks (ws : List Word) : List (Nat × Bool) :=
  [(14, decide (natAt ws 12 ≤ natAt ws 14)), (8, decide (natAt ws 14 ≤ natAt ws 8)), (12, decide (natAt ws 15 < natAt ws 12)),
    (29, decide (natAt ws 29 < natAt ws 28)), (40, decide (natAt ws 28 < natAt ws 40)),
    (42, decide (natAt ws 41 < natAt ws 42)), (43, decide (natAt ws 42 < natAt ws 43))]

/-- The pinion set of a code word. -/
def pinionOf (n : Nat) : PinionSet :=
  match n with
  | 0 => .both
  | 1 => .aOnly
  | _ => .bOnly

/-- The DRIVE settings of an image. -/
def DriveSettings.ofImage (ws : List Word) : DriveSettings where
  pinion := pinionOf (natAt ws 0)
  fullScaleA := natAt ws 1
  fullScaleB := natAt ws 2
  vdcFullScale := natAt ws 3
  countsPerRev := nat32At ws 4
  countsPerShell := nat32At ws 6
  nmax := natAt ws 8
  accelRate := natAt ws 9
  decelRate := natAt ws 10
  magTime := natAt ws 11
  nb := natAt ws 12
  breakawayTime := natAt ws 13
  creepSpeed := natAt ws 14
  zeroBand := natAt ws 15
  zeroDwell := natAt ws 16
  brakeSetTime := natAt ws 17
  backrollSpeed := natAt ws 18
  permitAction := if natAt ws 19 = 0 then .ramp else .trip
  kp := natAt ws 20
  ki := natAt ws 21
  lb := natAt ws 22
  lc := natAt ws 23
  rate := natAt ws 24
  share := natAt ws 25
  kA := natAt ws 26
  kB := natAt ws 27
  imax := natAt ws 28
  idf := natAt ws 29
  devLimit := natAt ws 30
  devTime := natAt ws 31
  jamDecel := natAt ws 32
  polePairs := natAt ws 33
  ksA := natAt ws 34
  ksB := natAt ws 35
  kpc := natAt ws 36
  kic := natAt ws 37
  mlim := natAt ws 38
  dmin := natAt ws 39
  overcurrent := natAt ws 40
  undervolt := natAt ws 41
  low := natAt ws 42
  overvolt := natAt ws 43
  disagreeLimit := natAt ws 44
  disagreeTime := natAt ws 45

/-- An integer setting as an unsigned 32-bit quantity in two words. -/
def int32Words (x : Int) : List Word := dwordWords (BitVec.ofInt 32 x)

/-- The image of DRIVE settings (R185). -/
def DriveSettings.image (c : DriveSettings) : List Word :=
  [natWord c.pinion.code, intWord c.fullScaleA, intWord c.fullScaleB, intWord c.vdcFullScale] ++
  int32Words c.countsPerRev ++ int32Words c.countsPerShell ++
  [intWord c.nmax, intWord c.accelRate, intWord c.decelRate, natWord c.magTime, intWord c.nb, natWord c.breakawayTime,
    intWord c.creepSpeed, intWord c.zeroBand, natWord c.zeroDwell, natWord c.brakeSetTime, intWord c.backrollSpeed,
    natWord c.permitAction.code, intWord c.kp, intWord c.ki, intWord c.lb, intWord c.lc, intWord c.rate, intWord c.share] ++
  [intWord c.kA, intWord c.kB, intWord c.imax, intWord c.idf, intWord c.devLimit, natWord c.devTime, intWord c.jamDecel,
    intWord c.polePairs, intWord c.ksA, intWord c.ksB, intWord c.kpc, intWord c.kic, intWord c.mlim, intWord c.dmin,
    intWord c.overcurrent, intWord c.undervolt, intWord c.low, intWord c.overvolt, intWord c.disagreeLimit,
    natWord c.disagreeTime]

/-! ### ENVELOPE (group 1) -/

/-- The fields of breakpoint `k` (3.11). -/
def breakpointFields (k : Nat) : List Field :=
  [.unsigned (1 + 3 * k) 0 20000, .unsigned (2 + 3 * k) 0 3000, .unsigned (3 + 3 * k) 0 3000]

/-- The fields of an ENVELOPE image of N breakpoints, after N itself. -/
def envelopeFields (n : Nat) : List Field := (List.range n).flatMap breakpointFields

/-- Each speed from breakpoint 1 on is greater than the one before (R63). -/
def risingChecks (ws : List Word) (n : Nat) : List (Nat × Bool) :=
  (List.range (n - 1)).map fun j => (4 + 3 * j, decide (natAt ws (1 + 3 * j) < natAt ws (4 + 3 * j)))

/-- The checks of R63 in their order. -/
def envelopeBad (ws : List Word) : Option Nat :=
  let n := natAt ws 0
  if n < 2 || 16 < n then some 0
  else
    match firstBad (envelopeFields n) ws with
    | some i => some i
    | none => firstFailing ((1, decide (natAt ws 1 = 0)) :: risingChecks ws n)

/-- The table of an image (R63). -/
def envelopeOf (ws : List Word) : List Breakpoint :=
  (List.range (natAt ws 0)).map fun k => ⟨natAt ws (1 + 3 * k), natAt ws (2 + 3 * k), natAt ws (3 + 3 * k)⟩

/-- The image of a table (R185); entries beyond N are 0 (log 22). -/
def envelopeImage (bs : List Breakpoint) : List Word :=
  padWords 49 (natWord bs.length :: bs.flatMap fun b => [intWord b.speed, intWord b.lm, intWord b.lg])

/-! ### VIBRATION (group 2) -/

/-- The fields of the VIBRATION image (5.9). -/
def vibrationFields : List Field :=
  (List.range 6).map (fun i => .unsigned i 0 1) ++ [.unsigned 6 0 18000] ++
  (List.range 18).map (fun i => .unsigned (7 + i) 1 65535) ++
  [.unsigned 25 1 64, .unsigned 26 1 64, .unsigned 27 1 255, .unsigned 28 0 1000, .unsigned 29 0 1000, .unsigned 30 0 1000,
    .unsigned 31 0 60000]

/-- The cross-field checks of R103. -/
def vibrationChecks (ws : List Word) : List (Nat × Bool) :=
  (List.range 6).map (fun i => (13 + i, decide (natAt ws (7 + i) ≤ natAt ws (13 + i)))) ++
  [(29, decide (natAt ws 29 ≤ natAt ws 28))]

/-- Six words of an image from word `i` on. -/
def sixAt (ws : List Word) (i : Nat) : Vector Nat 6 := Vector.ofFn fun c => natAt ws (i + c.val)

/-- The VIBRATION settings of an image. -/
def VibSettings.ofImage (ws : List Word) : VibSettings where
  fitted := Vector.ofFn fun c => natAt ws c.val != 0
  watchSpeed := natAt ws 6
  alert := sixAt ws 7
  danger := sixAt ws 13
  sector := sixAt ws 19
  aOn := natAt ws 25
  dOn := natAt ws 26
  off := natAt ws 27
  alertDerate := natAt ws 28
  dangerDerate := natAt ws 29
  lostDerate := natAt ws 30
  dwell := natAt ws 31

/-- The image of VIBRATION settings (R185). -/
def VibSettings.image (v : VibSettings) : List Word :=
  v.fitted.toList.map flagWord ++ [intWord v.watchSpeed] ++ v.alert.toList.map natWord ++ v.danger.toList.map natWord ++
  v.sector.toList.map natWord ++
  [natWord v.aOn, natWord v.dOn, natWord v.off, intWord v.alertDerate, intWord v.dangerDerate, intWord v.lostDerate,
    natWord v.dwell]

/-! ### RECORD (group 3) -/

def recordFields : List Field := [.unsigned 0 0 250, .unsigned 1 0 2047]

def RecordSettings.ofImage (ws : List Word) : RecordSettings := ⟨natAt ws 0, natAt ws 1⟩

def RecordSettings.image (r : RecordSettings) : List Word := [natWord r.window, natWord r.pre]

/-! ### STORE (group 4) -/

/-- The fields of the STORE image before and after the multiple-of-4096 check of the base address (8.5). -/
def storeFieldsFirst : List Field := [.unsigned 0 0 1, .double 1 0 0xFFF000]

def storeFieldsRest : List Field :=
  [.unsigned 3 8 256] ++ (List.range 11).map (fun i => .unsigned (4 + i) 0 255) ++
  [.unsigned 15 1 50, .unsigned 16 10 5000, .unsigned 17 1 10, .unsigned 18 0 1]

/-- The checks of R151 in the order of the image, then the cross-field check; a base address out of its range is reported as word 1
(log 58). -/
def storeBad (ws : List Word) : Option Nat :=
  match firstBad storeFieldsFirst ws with
  | some i => some i
  | none =>
    if nat32At ws 1 % 4096 ≠ 0 then some 1
    else
      match firstBad storeFieldsRest ws with
      | some i => some i
      | none => if 16777216 < nat32At ws 1 + natAt ws 3 * 4096 then some 3 else none

/-- Word `i` as a byte. -/
def byteOfWord (ws : List Word) (i : Nat) : Byte := BitVec.ofNat 8 (natAt ws i)

/-- The STORE settings of an image. -/
def StoreSettings.ofImage (ws : List Word) : StoreSettings where
  present := natAt ws 0 != 0
  base := nat32At ws 1
  ns := natAt ws 3
  opIdent := byteOfWord ws 4
  opStatus := byteOfWord ws 5
  opWriteEnable := byteOfWord ws 6
  opProgram := byteOfWord ws 7
  opErase := byteOfWord ws 8
  opSuspend := byteOfWord ws 9
  opResume := byteOfWord ws 10
  opRead := byteOfWord ws 11
  ident := [byteOfWord ws 12, byteOfWord ws 13, byteOfWord ws 14]
  programLimit := natAt ws 15
  eraseLimit := natAt ws 16
  suspendLimit := natAt ws 17
  suspendSupported := natAt ws 18 != 0

/-- A byte as a word. -/
def byteWord (b : Byte) : Word := natWord b.toNat

/-- The image of STORE settings (R185). -/
def StoreSettings.image (c : StoreSettings) : List Word :=
  [flagWord c.present] ++ nat32Words c.base ++ [natWord c.ns] ++
  [c.opIdent, c.opStatus, c.opWriteEnable, c.opProgram, c.opErase, c.opSuspend, c.opResume, c.opRead].map byteWord ++
  padWords 3 (c.ident.map byteWord) ++
  [natWord c.programLimit, natWord c.eraseLimit, natWord c.suspendLimit, flagWord c.suspendSupported]

/-! ### A group comes into force -/

/-- The measurement unit under a new DRIVE group (R8, R9, R12). -/
def MeasUnit.adopt (m : MeasUnit) (old new : DriveSettings) : MeasUnit :=
  let m1 := if new.countsPerRev = old.countsPerRev then m
    else { m with encoders := m.encoders.map fun e => { e with window := List.replicate 8 0, speedZeroNext := true } }
  let m2 := if new.countsPerShell = old.countsPerShell then m1
    else { m1 with shell := { m1.shell with p := 0, reference := false, valid := false } }
  if new.pinion = old.pinion then m2 else (m2.withN new.pinion).withInUse new.pinion

/-- Motor X leaves the pinion set (R71, R119). -/
def State.leaveSet (s : State) (x : Side) : State :=
  let g := s.regs.get x
  let s1 := s.setReg x { g with
    missing := 0, overcurrent := false, gateFault := false, measLoss := false, limitedCond := false, limitedRun := 0 }
  let s2 := (s1.fall (.overcurrent x) .first).fall (.gateFault x) .first
  let s3 := (s2.fall (.measLoss x) .first).fall .voltageLimited (sideSource x)
  let s4 := (s3.fall (.dcUndervolt x) .first).fall .dcLow (sideSource x)
  (s4.fall (.dcOvervolt x) .first).setCounts x .zero

/-- Motor X enters the pinion set (R71, R119). -/
def State.enterSet (s : State) (x : Side) : State :=
  let g := s.regs.get x
  let s1 := s.setReg x { g with missing := 0, overcurrent := false, measLoss := false, limitedCond := false, limitedRun := 0 }
  let s2 := s1.setCounts x .zero
  if s.inputs.gateFault.get x then (s2.setGateBlock x).gateFaultRise x else s2

/-- What a change of the pinion set does for motor X (R71, R119). -/
def State.adoptMotor (old : PinionSet) (s : State) (x : Side) : State :=
  match old.has x, s.inSet x with
  | true, false => s.leaveSet x
  | false, true => s.enterSet x
  | _, _ => s

/-- A DRIVE group comes into force (R3, R8, R12, R27, R40, R71, R119), but for the departure. DESIGN CHOICE (log 64; unsafe): no rule
orders the rise of a GATE FAULT input found active at an entry (R71), and the record and snapshot that it may bring, against
the other effects; n, position state and host target are re-formed first, then come motor A and motor B. -/
def State.adoptDrive (s : State) (new : DriveSettings) : State :=
  let old := s.cfg
  let s1 := (s.setDrive (some new)).setMeas (s.meas.adopt old new)
  let s2 := (s1.setSeq { s1.seq with hostTarget := min s1.seq.hostTarget new.nmax }).reportPosition
  s.unlessReset (fun s => State.adoptMotor old.pinion s .b) (State.adoptMotor old.pinion s2 .a)

/-- A RECORD group comes into force (R143): with no bank LIVE or POST the first FREE bank becomes LIVE. -/
def State.adoptRecord (s : State) (r : RecordSettings) : State :=
  let u := { s.record with settings := some r }
  s.setRecord (if u.activeBank.isSome then u else u.goLiveFirst allBanks)

/-- A STORE group is accepted (R150, R151), but for the completion and the departure. -/
def State.adoptStore (s : State) (c : StoreSettings) (k : Fin 8) : State :=
  let u := s.store.cleared
  let s1 :=
    if c.present then
      s.changeStore (({ u with state := .scanning, awaiting := some (c, k) }).poll .scanPoll)
    else s.changeStore { u with state := .absent, settings := some c }
  s1.fall .storeFault .first

end Sys2Proof.Machine
end

