-- ==== Sys2Proof/Machine/Requests.lean ====
section
/-! DEFINITION. The takes of the settings, trip, trigger, capture, store and time requests (09), and the frame boundary of a
fetch (R171). -/

namespace Sys2Proof.Machine

/-- REQUEST_UNKNOWN_KIND (R166). -/
def execRequestUnknownKind (s : State) : Host.Outcome State Fault Refusal :=
  .next (s.withTake none fun s k _ => s.refuse k .unknownKind)

/-! ### LOAD SETTINGS, READ SETTINGS (R172, R173) -/

/-- Image length of a group (R185). -/
def imageLength (group : Nat) : Nat :=
  match group with
  | 0 => 46
  | 1 => 49
  | 2 => 32
  | 3 => 2
  | _ => 19

/-- The class of LOAD SETTINGS (9.2): DRIVE and STORE are taken at rest only. -/
def loadClass (group : Nat) (d : DriveState) : Bool := if group = 0 || group = 4 then d.idleClass else true

/-- The first bad parameter word of LOAD SETTINGS (R172). -/
def loadBadParam (ps : List Word) : Option Nat :=
  let g := natAt ps 0
  if 4 < g then some 0
  else if natAt ps 2 ≠ imageLength g then some 2
  else if 4096 < natAt ps 1 + natAt ps 2 then some 1
  else none

/-- The store unit cannot take a STORE group (R151). -/
def StoreUnit.engaged (u : StoreUnit) : Bool :=
  match u.state with
  | .scanning | .busy => true
  | .ready => !u.queue.isEmpty || decide (u.job ≠ .idle) || decide (u.erase ≠ .none)
  | _ => false

/-- The resources of LOAD SETTINGS are held (R168). -/
def State.loadBusy (s : State) (group : Nat) : Bool :=
  s.areaHeld ||
  match group with
  | 1 => s.gov.awaiting.isSome
  | 2 => s.watch.awaiting.isSome
  | 4 => s.store.awaiting.isSome || s.store.engaged
  | _ => false

/-- The first bad word of an image, by group. -/
def imageBad (group : Nat) (ws : List Word) : Option Nat :=
  match group with
  | 0 =>
    match firstBad driveFields ws with
    | some i => some i
    | none => firstFailing (driveChecks ws)
  | 1 => envelopeBad ws
  | 2 =>
    match firstBad vibrationFields ws with
    | some i => some i
    | none => firstFailing (vibrationChecks ws)
  | 3 => firstBad recordFields ws
  | _ => storeBad ws

/-- A DRIVE group that passed: in force at the take (R39, R172). -/
def State.loadDrive (s : State) (k : Fin 8) (ws : List Word) : State :=
  s.unlessReset (fun s => (s.finish k .ok [0]).departureTest) (s.adoptDrive (DriveSettings.ofImage ws))

/-- An ENVELOPE group that passed awaits force (R63). -/
def State.loadEnvelope (s : State) (k : Fin 8) (ws : List Word) : State :=
  (s.setGov { s.gov with awaiting := some (envelopeOf ws, k) }).activate k

/-- A VIBRATION group that passed awaits force (R103). -/
def State.loadVibration (s : State) (k : Fin 8) (ws : List Word) : State :=
  (s.setWatch { s.watch with awaiting := some (VibSettings.ofImage ws, k) }).activate k

/-- A RECORD group that passed: in force at the take (R143). -/
def State.loadRecord (s : State) (k : Fin 8) (ws : List Word) : State :=
  ((s.adoptRecord (RecordSettings.ofImage ws)).finish k .ok [3]).departureTest

/-- A STORE group that passed (R151): present NO in force at the take, present YES when its scan ends. -/
def State.loadStore (s : State) (k : Fin 8) (ws : List Word) : State :=
  let c := StoreSettings.ofImage ws
  let s1 := s.adoptStore c k
  if c.present then s1.activate k else (s1.finish k .ok [4]).departureTest

/-- A group that passed its checks. -/
def State.loadGroup (s : State) (k : Fin 8) (group : Nat) (ws : List Word) : State :=
  match group with
  | 0 => s.loadDrive k ws
  | 1 => s.loadEnvelope k ws
  | 2 => s.loadVibration k ws
  | 3 => s.loadRecord k ws
  | _ => s.loadStore k ws

/-- LOAD_SETTINGS (R172). -/
def execLoadSettings (s : State) : Host.Outcome State Fault Refusal :=
  .next (s.withTake (some .loadSettings) fun s k ps =>
    let group := natAt ps 0
    if !loadClass group s.seq.drive then s.refuse k .state
    else
      match loadBadParam ps with
      | some i => s.refuseInvalid k i false
      | none =>
        if s.loadBusy group then s.refuse k .busy
        else
          let ws := s.areaWords (natAt ps 1) (natAt ps 2)
          let s1 := s.setChain .broken
          match imageBad group ws with
          | some i => s1.refuseInvalid k i true
          | none => s1.loadGroup k group ws)

/-- The image of the group in force (R173). -/
def State.groupImage (s : State) (group : Nat) : Option (List Word) :=
  match group with
  | 0 => s.drive.map DriveSettings.image
  | 1 => s.gov.envelope.map envelopeImage
  | 2 => s.watch.settings.map VibSettings.image
  | 3 => s.record.settings.map RecordSettings.image
  | _ => s.store.settings.map StoreSettings.image

/-- READ_SETTINGS (R173). -/
def execReadSettings (s : State) : Host.Outcome State Fault Refusal :=
  .next (s.withTake (some .readSettings) fun s k ps =>
    let group := natAt ps 0
    if 4 < group then s.refuseInvalid k 0 false
    else if 4096 < natAt ps 1 + imageLength group then s.refuseInvalid k 1 false
    else if s.areaHeld then s.refuse k .busy
    else
      match s.groupImage group with
      | none => s.finish k .noEffect []
      | some ws =>
        ((s.writeArea (natAt ps 1) (padWords (imageLength group) ws)).setChain .broken).finish k .ok
          [natWord group, natWord (imageLength group)])

/-! ### TRIP NOW, TRIP CLEAR (R114, R115, R35) -/

/-- TRIP_NOW (R114). -/
def execTripNow (s : State) : Host.Outcome State Fault Refusal :=
  .next (s.withTake (some .tripNow) fun s k _ =>
    match s.seq.drive with
    | .unconfigured => s.refuse k .state
    | .tripped => s.finish k .noEffect []
    | _ => s.unlessReset (fun s => s.finish k .ok []) (s.tripPulse .hostTrip))

/-- An accepted TRIP CLEAR (R115, R35). -/
def State.clearTrip (s : State) : State :=
  (s.setFaults { s.faults.clearLatched with lock := false }).enterStopped

/-- TRIP_CLEAR (R115). -/
def execTripClear (s : State) : Host.Outcome State Fault Refusal :=
  .next (s.withTake (some .tripClear) fun s k _ =>
    if s.seq.drive ≠ .tripped then s.refuse k .state
    else if s.faults.windowOpen then s.refuse k .isOpen
    else if s.faults.holdsBack then s.refuse k .present
    else s.unlessReset (fun s => s.finish k .ok []) s.clearTrip)

/-! ### Trigger requests (R130, R134) -/

/-- The condition of a code word with its x (R186). -/
def condOf (code x : Nat) : Option TrigCond :=
  match code with
  | 1 => some .vibAlert
  | 2 => some .vibDanger
  | 3 => some .sectorAlert
  | 4 => some .torqueAtLimit
  | 5 => some (.speedBelow x)
  | 6 => some .healthChange
  | 7 => some .voltageLimited
  | 8 => some .manual
  | _ => none

/-- The x word of a condition is out of its range (R130). -/
def badX (code x : Nat) : Bool := decide (code = 5) && decide (20000 < x)

/-- The first bad parameter of ARM TRIGGER (R130). -/
def armBad (ps : List Word) : Option Nat :=
  if (condOf (natAt ps 0) 0).isNone then some 0
  else if badX (natAt ps 0) (natAt ps 1) then some 1
  else if natAt ps 2 ≠ 0 && (condOf (natAt ps 2) 0).isNone then some 2
  else if badX (natAt ps 2) (natAt ps 3) then some 3
  else if natAt ps 4 < 1 || 60000 < natAt ps 4 then some 4
  else if 1 < natAt ps 5 then some 5
  else none

/-- The speed-below flag of a condition at drive speed n (R130, R131). -/
def belowFlag (c : Option TrigCond) (n : Int) : Bool :=
  match c with
  | some (.speedBelow x) => decide (|n| < x)
  | _ => false

/-- The program of parameters that passed (R130). -/
def programOf (ps : List Word) : Program where
  first := (condOf (natAt ps 0) (natAt ps 1)).getD .manual
  second := condOf (natAt ps 2) (natAt ps 3)
  window := natAt ps 4
  repeats := natAt ps 5 != 0

/-- An accepted ARM TRIGGER (R130). -/
def State.arm (s : State) (p : Program) : State :=
  s.setRecord { s.record with
    program := some p, trigState := .waitFirst
    belowFirst := belowFlag (some p.first) s.meas.n, belowSecond := belowFlag p.second s.meas.n }

/-- ARM_TRIGGER (R130). -/
def execArmTrigger (s : State) : Host.Outcome State Fault Refusal :=
  .next (s.withTake (some .armTrigger) fun s k ps =>
    match armBad ps with
    | some i => s.refuseInvalid k i false
    | none => (s.arm (programOf ps)).finish k .ok [])

/-- DISARM_TRIGGER (R134). -/
def execDisarmTrigger (s : State) : Host.Outcome State Fault Refusal :=
  .next (s.withTake (some .disarmTrigger) fun s k _ =>
    if s.record.trigState = .disarmed then s.finish k .noEffect []
    else (s.setRecord { s.record with trigState := .disarmed }).finish k .ok [])

/-- The program waits for MANUAL (R134). -/
def RecordUnit.waitsManual (r : RecordUnit) : Bool :=
  match r.program, r.trigState with
  | some p, .waitFirst => decide (p.first = .manual)
  | some p, .waitSecond => decide (p.second = some .manual)
  | _, _ => false

/-- MANUAL_TRIGGER (R134). -/
def execManualTrigger (s : State) : Host.Outcome State Fault Refusal :=
  .next (s.withTake (some .manualTrigger) fun s k _ =>
    if s.record.waitsManual then (s.takeCond .manual none).finish k .ok [] else s.finish k .noEffect [])

/-! ### Fetches (R170, R171) -/

/-- The bank is FROZEN with the generation (R170, R171). -/
def RecordUnit.frozenAs (r : RecordUnit) (i : Fin 4) (gen : Word) : Bool :=
  decide ((r.bank i).state = .frozen) && decide ((r.bank i).generation = gen)

/-- The extent check of R170: whether the first frame, and whether first frame and count, lie within the valid frames. -/
def Bank.firstValid (b : Bank) (first : Nat) : Bool := decide (b.valid = 2048) || decide (first < b.valid)

def Bank.extentValid (b : Bank) (first count : Nat) : Bool := decide (b.valid = 2048) || decide (first + count ≤ b.valid)

/-- A fetch that passed its checks (R170). -/
def State.startFetch (s : State) (k : Fin 8) (i : Fin 4) (gen : Word) (first count : Nat) : State :=
  (s.setReq { s.req with holder := some k, fetch := some ⟨k, i, gen, first, count, 0⟩ }).activate k

/-- The checks of R170 from the bank on; `firstIndex` and `countIndex` are the indices that an extent failure names. -/
def State.fetchFrom (s : State) (k : Fin 8) (i : Fin 4) (gen : Word) (first count firstIndex countIndex : Nat) : State :=
  if !s.record.frozenAs i gen then s.refuse k .gone
  else if !(s.record.bank i).firstValid first then s.refuseInvalid k firstIndex false
  else if !(s.record.bank i).extentValid first count then s.refuseInvalid k countIndex false
  else s.startFetch k i gen first count

/-- A count of 1..170 (R170). -/
def fetchCount (n : Nat) : Bool := decide (1 ≤ n) && decide (n ≤ 170)

/-- FETCH_CAPTURE (R170). -/
def execFetchCapture (s : State) : Host.Outcome State Fault Refusal :=
  .next (s.withTake (some .fetchCapture) fun s k ps =>
    if h : natAt ps 0 < 4 then
      if 2047 < natAt ps 2 then s.refuseInvalid k 2 false
      else if !fetchCount (natAt ps 3) then s.refuseInvalid k 3 false
      else if s.areaHeld then s.refuse k .busy
      else s.fetchFrom k ⟨natAt ps 0, h⟩ (wordAt ps 1) (natAt ps 2) (natAt ps 3) 2 3
    else s.refuseInvalid k 0 false)

/-- FETCH_NEXT (R169, R170). -/
def execFetchNext (s : State) : Host.Outcome State Fault Refusal :=
  .next (s.withTake (some .fetchNext) fun s k ps =>
    if !fetchCount (natAt ps 0) then s.refuseInvalid k 0 false
    else if s.areaHeld then s.refuse k .busy
    else
      match s.req.chain with
      | .fetch i gen next => s.fetchFrom k i gen next (natAt ps 0) 0 0
      | _ => s.refuse k .order)

/-- The fetch is over. -/
def State.clearFetch (s : State) : State := s.setReq { s.req with fetch := none }

/-- An ACTIVE fetch ends without OK (R171). -/
def State.breakFetch (s : State) (f : Fetch) (rc : ResultCode) : State :=
  (s.clearFetch.complete f.slot .refused rc [0, 0, 0, natWord f.copied]).setChain .broken

/-- The last frame has been copied (R170). -/
def State.endFetch (s : State) (f : Fetch) : State :=
  let next := (f.first + f.count) % 2048
  (s.clearFetch.finish f.slot .ok
    [natWord f.bank.val, f.generation, natWord f.first, natWord f.count, natWord next]).setChain
    (.fetch f.bank f.generation next)

/-- One frame has been copied whole (R170, R171). -/
def State.frameBoundary (s : State) (f : Fetch) : State :=
  let frame := padWords 24 (s.record.frameOf f.bank ((f.first + f.copied) % 2048))
  let f1 := { f with copied := f.copied + 1 }
  let s1 := (s.writeArea (24 * f.copied) frame).setReq { s.req with fetch := some f1 }
  if (s1.slot f.slot).cancel then s1.breakFetch f1 .cancelled
  else if !s1.record.frozenAs f.bank f.generation then s1.breakFetch f1 .gone
  else if f.count ≤ f1.copied then s1.endFetch f1
  else s1

/-- FETCH_FRAME_BOUNDARY (R171). -/
def execFetchFrameBoundary (s : State) : Host.Outcome State Fault Refusal :=
  .next (match s.req.fetch with
    | some f => s.frameBoundary f
    | none => s)

/-- A FROZEN bank is released (R128). DESIGN CHOICE (log 60; unsafe): R128 names no new valid count for a bank that stays FREE and
R125 zeroes the count only where a bank becomes LIVE; the count is kept, and the bank's status words go on showing it. -/
def RecordUnit.release (r : RecordUnit) (i : Fin 4) : RecordUnit :=
  let r1 := r.setBank i { r.bank i with state := .free }
  if r.activeBank.isSome then r1 else r1.goLive i

/-- RELEASE_CAPTURE (R128). -/
def execReleaseCapture (s : State) : Host.Outcome State Fault Refusal :=
  .next (s.withTake (some .releaseCapture) fun s k ps =>
    if h : natAt ps 0 < 4 then
      if s.record.frozenAs ⟨natAt ps 0, h⟩ (wordAt ps 1) then
        (s.setRecord (s.record.release ⟨natAt ps 0, h⟩)).finish k .ok []
      else s.refuse k .gone
    else s.refuseInvalid k 0 false)

/-! ### Store requests (R162, R163) -/

/-- A store read that passed its checks: BUSY, and the port is waited for (R162); its record is chosen at the take (log 54). -/
def State.startRead (s : State) (k : Fin 8) (x : Nat × Nat × Nat) : State :=
  let s1 := s.setReq { s.req with holder := some k }
  let s2 := s1.setStore { s1.store with state := .busy, hostOp := some (.read k x.1 x.2.1 x.2.2) }
  (s2.activate k).serveStore

/-- The checks of a store read from the store state on: STORE, then GONE when no record fits (R162, R168; log 30). -/
def State.readFrom (s : State) (k : Fin 8) (x : Option (Nat × Nat × Nat)) : State :=
  if s.store.state ≠ .ready then s.refuse k .store
  else
    match x with
    | some x => s.startRead k x
    | none => s.refuse k .gone

/-- A store read is refused with BUSY (R168). -/
def State.readBusy (s : State) : Bool := s.areaHeld || decide (s.store.state = .busy)

/-- The record that READ STORED chooses (R162). -/
def StoreUnit.chosen (u : StoreUnit) (selector id : Nat) : Option (Nat × Nat × Nat) :=
  match selector with
  | 0 => newestOf u.validSlots
  | 1 => oldestOf u.validSlots
  | _ => u.validSlots.find? fun x => x.1 == id

/-- READ_STORED (R162). -/
def execReadStored (s : State) : Host.Outcome State Fault Refusal :=
  .next (s.withTake (some .readStored) fun s k ps =>
    if 2 < natAt ps 0 then s.refuseInvalid k 0 false
    else if s.readBusy then s.refuse k .busy
    else s.readFrom k (s.store.chosen (natAt ps 0) (nat32At ps 1)))

/-- The record that READ STORED NEXT chooses (R162). -/
def StoreUnit.neighbour (u : StoreUnit) (direction : Nat) : Option (Nat × Nat × Nat) :=
  let p := u.readPtr.getD 0
  if direction = 1 then oldestOf (u.validSlots.filter fun x => decide (p < x.1))
  else newestOf (u.validSlots.filter fun x => decide (x.1 < p))

/-- READ_STORED_NEXT (R162, R169). -/
def execReadStoredNext (s : State) : Host.Outcome State Fault Refusal :=
  .next (s.withTake (some .readStoredNext) fun s k ps =>
    if 1 < natAt ps 0 then s.refuseInvalid k 0 false
    else if s.readBusy then s.refuse k .busy
    else if s.req.chain ≠ .storeRead then s.refuse k .order
    else s.readFrom k (s.store.neighbour (natAt ps 0)))

/-- An ERASE STORE that passed its checks (R163). -/
def State.startEraseAll (s : State) (k : Fin 8) : State :=
  let u := { s.store with state := .busy, hostOp := some (.eraseAll k (.drain s.store.queue.length)) }
  ((s.setStore u).activate k).serveStore

/-- ERASE_STORE (R163). -/
def execEraseStore (s : State) : Host.Outcome State Fault Refusal :=
  .next (s.withTake (some .eraseStore) fun s k _ =>
    if !s.seq.drive.idleClass then s.refuse k .state
    else if s.store.state = .busy then s.refuse k .busy
    else if s.store.state ≠ .ready then s.refuse k .store
    else s.startEraseAll k)

/-! ### SET TIME (R174) -/

/-- SET_TIME (R174). -/
def execSetTime (s : State) : Host.Outcome State Fault Refusal :=
  .next (s.withTake (some .setTime) fun s k ps =>
    (s.setReq { s.req with clock := joinWords (wordAt ps 0) (wordAt ps 1), phase := 0, clockSet := true }).finish k .ok [])

end Sys2Proof.Machine
end

