-- ==== Sys2Proof/Machine/Events.lean ====
section
/-! DEFINITION. The capture period and its freeze (R123 to R127, R131), the two window expiries (R110, R132), and the events
of the store port (R146, R147). -/

namespace Sys2Proof.Machine

/-! ### Capture period -/

/-- HELD seen and OVERLOAD seen cleared at the take (R85). -/
def ChannelWatch.clearSeen (w : ChannelWatch) : ChannelWatch := { w with heldSeen := false, overloadSeen := false }

/-- The flags of all channels taken: HELD seen, OVERLOAD seen, and what is left (R85, R123). -/
def Watch.heldFlags (w : Watch) : List Bool := w.channels.toList.map (·.heldSeen)

def Watch.overloadFlags (w : Watch) : List Bool := w.channels.toList.map (·.overloadSeen)

def Watch.takeFlags (w : Watch) : Watch := { w with channels := w.channels.map ChannelWatch.clearSeen }

/-- The frame of this period written into bank `i` (R123, R124). -/
def State.writeFrame (s : State) (i : Fin 4) : State :=
  let b := s.record.bank i
  let ws := s.frameWords s.watch.heldFlags s.watch.overloadFlags b.writeIndex
  s.setRecord (s.record.setBank i (b.write ws))

/-- The bank has recorded its post frames (R127). -/
def Bank.postDone (b : Bank) : Bool := decide (b.state = .post) && decide (b.post ≤ b.postWritten)

/-- The frame written and, with the last post frame, the freeze (R124, R127). -/
def State.recordFrame (s : State) : State :=
  match s.record.activeBank with
  | none => s
  | some i =>
    let s1 := s.writeFrame i
    if (s1.record.bank i).postDone then s1.freezeBank i else s1

/-- The speed-below flags of this period, in every trigger state except DISARMED (R131). -/
def RecordUnit.stepBelow (r : RecordUnit) (n : Int) : RecordUnit :=
  match r.program with
  | some p =>
    if r.trigState = .disarmed then r
    else { r with belowFirst := belowFlag (some p.first) n, belowSecond := belowFlag p.second n }
  | none => r

/-- A SPEED BELOW condition is taken at the period that sets its flag (R131). -/
def State.takeBelow (s : State) (c : Option TrigCond) (was now : Bool) : State :=
  match c with
  | some c => if now && !was then s.takeCond c none else s
  | none => s

/-- The SPEED BELOW conditions of a capture period (R129, R131): the first condition's, then the second's where it is another
one (log 50). -/
def State.belowConditions (s : State) : State :=
  let r := s.record
  let s1 := s.setRecord (r.stepBelow s.meas.n)
  match r.program with
  | some p =>
    let s2 := s1.takeBelow (some p.first) r.belowFirst s1.record.belowFirst
    if p.second = some p.first then s2 else s2.takeBelow p.second r.belowSecond s1.record.belowSecond
  | none => s1

/-- A capture period (R123, R124, R127, R131): the frame and the freeze come before the taking of SPEED BELOW (log 57). -/
def State.capturePeriod (s : State) : State :=
  let s1 := s.recordFrame
  (s1.setWatch s1.watch.takeFlags).belowConditions

/-- CAPTURE_PERIOD. -/
def execCapturePeriod (s : State) : Host.Outcome State Fault Refusal := .next s.capturePeriod

/-- The frame of this period is the last post frame (R127). -/
def State.freezeReached (s : State) : Bool :=
  match s.record.activeBank with
  | some i => decide ((s.record.bank i).state = .post) && decide ((s.record.bank i).post ≤ (s.record.bank i).postWritten + 1)
  | none => false

/-- BANK_FREEZE: the capture period at which the post written count reaches the post count (R127, log 2). -/
def execBankFreeze (s : State) : Host.Outcome State Fault Refusal := .next (if s.freezeReached then s.capturePeriod else s)

/-! ### Window expiries -/

/-- GROUPING_WINDOW_EXPIRY (R110). -/
def execGroupingWindowExpiry (s : State) : Host.Outcome State Fault Refusal :=
  .next (if s.faults.windowOpen && decide (1000 * s.faults.windowLen ≤ s.faults.timer) then s.closeWindow else s)

/-- TRIGGER_WINDOW_EXPIRY (R132). -/
def execTriggerWindowExpiry (s : State) : Host.Outcome State Fault Refusal :=
  .next (if decide (s.record.trigState = .waitSecond) && decide (1000 * s.record.triggerWindow ≤ s.record.windowTimer) then
    s.setRecord { s.record with trigState := .waitFirst }
  else s)

/-! ### Store port -/

/-- What the end of a scan brings: the departure from UNCONFIGURED (R20), then the work that is due (R153, steps 5 and 6). -/
def State.scanLeft (s0 s1 : State) : State :=
  if decide (s0.store.state = .scanning) && decide (s1.store.state ≠ .scanning) then s1.departureTest.serveStore else s1

/-- FLASH_TRANSFER_END (R146); with no transfer in progress there is none to end. -/
def execFlashTransferEnd (rx : List Byte) (s : State) : Host.Outcome State Fault Refusal :=
  .next (match s.store.transfer with
    | some t => s.scanLeft ((s.setStore { s.store with transfer := none }).transferDone (received t.rx rx))
    | none => s)

/-- FLASH_STATUS_POLL (R146, R147): a STATUS READ is made; the flash is busy while the lowest bit of the byte it returns is
one. -/
def execFlashStatusPoll (status : Byte) (s : State) : Host.Outcome State Fault Refusal :=
  .next (if status.getLsbD 0 then s.readStatus else s.readStatus.pollClear)

/-- FLASH_TIME_LIMIT (R147). -/
def execFlashTimeLimit (s : State) : Host.Outcome State Fault Refusal :=
  .next (if s.store.limitPassed then s.scanLeft s.pollFailed else s)

end Sys2Proof.Machine
end

