-- ==== Sys2Proof/Machine/Dispatch.lean ====
section
/-! DEFINITION. What each command does to everything but the queue: one arm per command. -/

namespace Sys2Proof.Machine

def exec (i : Instr) (s : State) : Host.Outcome State Fault Refusal :=
  match i with
  | .powerOnReset => Sys2Proof.Machine.execPowerOnReset s
  | .startUpEnd => Sys2Proof.Machine.execStartUpEnd s
  | .restart => Sys2Proof.Machine.execRestart s
  | .registerWriteOther reg v => Sys2Proof.Machine.execRegisterWriteOther reg v s
  | .noticeWrite v => Sys2Proof.Machine.execNoticeWrite v s
  | .noticeEnableWrite v => Sys2Proof.Machine.execNoticeEnableWrite v s
  | .slotStateWrite stores k v => Sys2Proof.Machine.execSlotStateWrite stores k v s
  | .listEntryStateWrite k v => Sys2Proof.Machine.execListEntryStateWrite k v s
  | .stickyErrorClearWrite c v => Sys2Proof.Machine.execStickyErrorClearWrite c v s
  | .alarmSeenClearWrite v => Sys2Proof.Machine.execAlarmSeenClearWrite v s
  | .requestUnknownKind => Sys2Proof.Machine.execRequestUnknownKind s
  | .loadSettings => Sys2Proof.Machine.execLoadSettings s
  | .readSettings => Sys2Proof.Machine.execReadSettings s
  | .start => Sys2Proof.Machine.execStart s
  | .stop => Sys2Proof.Machine.execStop s
  | .setSpeed => Sys2Proof.Machine.execSetSpeed s
  | .limitTorque => Sys2Proof.Machine.execLimitTorque s
  | .tripNow => Sys2Proof.Machine.execTripNow s
  | .tripClear => Sys2Proof.Machine.execTripClear s
  | .armTrigger => Sys2Proof.Machine.execArmTrigger s
  | .disarmTrigger => Sys2Proof.Machine.execDisarmTrigger s
  | .manualTrigger => Sys2Proof.Machine.execManualTrigger s
  | .fetchCapture => Sys2Proof.Machine.execFetchCapture s
  | .fetchNext => Sys2Proof.Machine.execFetchNext s
  | .fetchFrameBoundary => Sys2Proof.Machine.execFetchFrameBoundary s
  | .releaseCapture => Sys2Proof.Machine.execReleaseCapture s
  | .readStored => Sys2Proof.Machine.execReadStored s
  | .readStoredNext => Sys2Proof.Machine.execReadStoredNext s
  | .eraseStore => Sys2Proof.Machine.execEraseStore s
  | .resetSectorMap => Sys2Proof.Machine.execResetSectorMap s
  | .setTime => Sys2Proof.Machine.execSetTime s
  | .partTimeTick => Sys2Proof.Machine.execPartTimeTick s
  | .sampleSetFrame x f => Sys2Proof.Machine.execSampleSetFrame x f s
  | .dcUndervoltCountReached x f => Sys2Proof.Machine.execDcUndervoltCountReached x f s
  | .dcLowCountReached x f => Sys2Proof.Machine.execDcLowCountReached x f s
  | .currentPeriodStart x => Sys2Proof.Machine.execCurrentPeriodStart x s
  | .measLoss x => Sys2Proof.Machine.execMeasLoss x s
  | .gateFaultActive x => Sys2Proof.Machine.execGateFaultActive x s
  | .gateFaultInactive x => Sys2Proof.Machine.execGateFaultInactive x s
  | .voltageLimitedRunReached x => Sys2Proof.Machine.execVoltageLimitedRunReached x s
  | .encoderEdge x e => Sys2Proof.Machine.execEncoderEdge x e s
  | .lineBreakActive x => Sys2Proof.Machine.execLineBreakActive x s
  | .lineBreakRelease x => Sys2Proof.Machine.execLineBreakRelease x s
  | .encoderHealthy x => Sys2Proof.Machine.execEncoderHealthy x s
  | .speedWindowUpdate => Sys2Proof.Machine.execSpeedWindowUpdate s
  | .encoderDisagree => Sys2Proof.Machine.execEncoderDisagree s
  | .shellMarker => Sys2Proof.Machine.execShellMarker s
  | .sensorFrameEnd c f => Sys2Proof.Machine.execSensorFrameEnd c f s
  | .vibrationSamplePeriod => Sys2Proof.Machine.execVibrationSamplePeriod s
  | .heldRunLost c => Sys2Proof.Machine.execHeldRunLost c s
  | .blockEnd => Sys2Proof.Machine.execBlockEnd s
  | .watchMillisecond => Sys2Proof.Machine.execWatchMillisecond s
  | .dangerDwellExpiry g => Sys2Proof.Machine.execDangerDwellExpiry g s
  | .sequencerMillisecond => Sys2Proof.Machine.execSequencerMillisecond s
  | .magnetizingTimeExpiry => Sys2Proof.Machine.execMagnetizingTimeExpiry s
  | .breakawayTimeExpiry => Sys2Proof.Machine.execBreakawayTimeExpiry s
  | .zeroSpeedDwellReached => Sys2Proof.Machine.execZeroSpeedDwellReached s
  | .brakeSetTimeExpiry => Sys2Proof.Machine.execBrakeSetTimeExpiry s
  | .runPermitDrop => Sys2Proof.Machine.execRunPermitDrop s
  | .runPermitReturn => Sys2Proof.Machine.execRunPermitReturn s
  | .eStopActive => Sys2Proof.Machine.execEStopActive s
  | .eStopInactive => Sys2Proof.Machine.execEStopInactive s
  | .governorPeriod => Sys2Proof.Machine.execGovernorPeriod s
  | .torqueDev x => Sys2Proof.Machine.execTorqueDev x s
  | .groupingWindowExpiry => Sys2Proof.Machine.execGroupingWindowExpiry s
  | .capturePeriod => Sys2Proof.Machine.execCapturePeriod s
  | .bankFreeze => Sys2Proof.Machine.execBankFreeze s
  | .triggerWindowExpiry => Sys2Proof.Machine.execTriggerWindowExpiry s
  | .flashTransferEnd rx => Sys2Proof.Machine.execFlashTransferEnd rx s
  | .flashStatusPoll status => Sys2Proof.Machine.execFlashStatusPoll status s
  | .flashTimeLimit => Sys2Proof.Machine.execFlashTimeLimit s
  | .sensorLineIdleRegained c => Sys2Proof.Machine.execSensorLineIdleRegained c s

end Sys2Proof.Machine
end

