-- ==== Sys2Proof/Safety.lean ====
section
/-! DEFINITION. The laws of the device as predicates on the state, and the words in which the statements speak of a request's
answer, of a trip and of settings in range. -/

namespace Sys2Proof.Machine

/-! ### Outputs, lock and drive state (R31, R37, R43, R108) -/

/-- BRAKE RELEASE by drive state and phase (table of R31). -/
def brakeOf : DriveState → StopPhase → Bool
  | .breakaway, _ => true
  | .run, _ => true
  | .stopping, .decelerating => true
  | .stopping, .atZero => true
  | _, _ => false

/-- The outputs follow the drive state as the table of R31 gives. -/
abbrev Sequencer.outputLaw (q : Sequencer) (p : PinionSet) : Prop :=
  q.gate = Pair.ofFn (fun x => q.drive.running && p.has x) ∧ q.brakeRelease = brakeOf q.drive q.phase

/-- The sequencer's part of the laws: outputs (R31), no stopping phase outside STOPPING and one inside it (2.1), and a restart
pending only in the states in which R37 holds it. -/
abbrev Sequencer.law (q : Sequencer) (p : PinionSet) : Prop :=
  q.outputLaw p ∧ (q.phase = .none ↔ q.drive ≠ .stopping) ∧ (q.restartPending = true → q.drive.running = true)

/-- The first-out lock is SET exactly while the drive state is TRIPPED (R108). -/
abbrev lockLaw (lock : Bool) (d : DriveState) : Prop := lock = true ↔ d = .tripped

/-- R31 and R108 together. -/
abbrev State.driveLaw (s : State) : Prop := s.seq.law s.cfg.pinion ∧ lockLaw s.faults.lock s.seq.drive

/-- Tg, T_A, T_B, iq*_A and iq*_B are zero. -/
abbrev Governor.still (g : Governor) : Prop := g.tg = 0 ∧ g.torque = ⟨0, 0⟩ ∧ g.iqRef = ⟨0, 0⟩

/-- Outside BREAKAWAY, RUN and STOPPING the grant, the torques and the q-axis demands are zero (R42, R43). -/
abbrev State.restLaw (s : State) : Prop := s.seq.drive.governed = false → s.gov.still

/-- What R43 leaves at an entry into UNCONFIGURED, STOPPED, MAGNETIZING or TRIPPED. -/
abbrev Governor.atRest (g : Governor) : Prop :=
  g.still ∧ g.td = 0 ∧ g.tp = 0 ∧ g.iacc = 0 ∧ g.hold = false ∧ g.atLimit = false ∧ g.devCount = ⟨0, 0⟩ ∧ g.idRef = 0

/-! ### Capture, records, store, requests, channels -/

/-- The number of banks that are LIVE or POST. -/
def RecordUnit.activeBanks (r : RecordUnit) : Nat := (allBanks.filter fun i => (r.bank i).active).length

/-- At most one capture bank is LIVE or POST (7.3). -/
abbrev State.bankLaw (s : State) : Prop := s.record.activeBanks ≤ 1

/-- The store queue holds at most 4 records (R154). -/
abbrev State.queueLaw (s : State) : Prop := s.store.queue.length ≤ 4

/-- The ids of the records that the list entries hold. -/
def RecordUnit.listIds (r : RecordUnit) : List Nat := r.entries.toList.filterMap ListEntry.id

/-- The id of the open record. -/
def RecordUnit.openId (r : RecordUnit) : List Nat := (r.openRecord.map Record.id).toList

/-- No id appears twice in the list, the open record's id is not in it, and every id lies below the counter (R135). -/
abbrev RecordUnit.idLaw (r : RecordUnit) : Prop :=
  (r.openId ++ r.listIds).Nodup ∧ ∀ i ∈ r.openId ++ r.listIds, i < r.idCounter

/-- The kinds of a record: its first cause's and its follow-ons'. -/
def Record.kinds (r : Record) : List FaultKind := (r.first.map Prod.fst).toList ++ r.followOns.map FollowOn.kind

/-- An open trip record has one first cause and at most 7 follow-ons, all of distinct kinds, which the kind set holds
(R138). -/
def RecordUnit.openLaw (u : RecordUnit) : Prop :=
  ∀ r, u.openRecord = some r →
    r.first.isSome = true ∧ r.followOns.length ≤ 7 ∧ r.kinds.Nodup ∧ ∀ k ∈ r.kinds, k ∈ u.kindSet

/-- The laws of records (R135, R138). -/
def State.recordLaw (s : State) : Prop := s.record.idLaw ∧ s.record.openLaw

/-- A LOST vibration channel has vibration state UNKNOWN (R90). -/
def State.lostLaw (s : State) : Prop := ∀ c, (s.channel c).health = .lost → (s.channel c).vib = .unknown

/-- The request slot of a host operation of the store. -/
def HostOp.slot : HostOp → Fin 8
  | .read k _ _ _ => k
  | .eraseAll k _ => k

/-- The slots of the timed requests that are running: groups awaiting force, the fetch, the store's host operation. -/
def State.running (s : State) : List (Fin 8) :=
  (s.gov.awaiting.map Prod.snd).toList ++ (s.watch.awaiting.map Prod.snd).toList ++
  (s.store.awaiting.map Prod.snd).toList ++ (s.req.fetch.map Fetch.slot).toList ++ (s.store.hostOp.map HostOp.slot).toList

/-- The posting order holds exactly the slots that are POSTED, each once (R166); the slots that are ACTIVE are exactly those of
the timed requests that are running, each once (R166, R167). -/
def State.postingLaw (s : State) : Prop :=
  s.req.order.Nodup ∧ (∀ k, k ∈ s.req.order ↔ (s.slot k).state = .posted) ∧
  s.running.Nodup ∧ (∀ k, k ∈ s.running ↔ (s.slot k).state = .active)

/-- The slot of a store read. -/
def HostOp.readSlot : HostOp → Option (Fin 8)
  | .read k _ _ _ => some k
  | .eraseAll _ _ => none

/-- The step belongs to the scan. -/
def Job.ofScan : Job → Bool
  | .scanPoll | .scanIdent | .scanHeader _ | .scanSlot _ _ => true
  | _ => false

/-- The transfer area is held by the fetch or store read that is running, of which there is at most one; the store port's holder
makes the store BUSY, the scan's steps belong to SCANNING, and nothing is posted or running until start-up has ended (R168, R150,
R178). -/
def State.resourceLaw (s : State) : Prop :=
  s.req.holder = (s.req.fetch.map Fetch.slot).or (s.store.hostOp.bind HostOp.readSlot) ∧
  (s.req.fetch = none ∨ s.store.hostOp.bind HostOp.readSlot = none) ∧
  (s.store.hostOp.isSome = true → s.store.state = .busy) ∧ (s.store.job.ofScan = true → s.store.state = .scanning) ∧
  (s.req.starting = true → s.req.order = [] ∧ s.running = [])

/-- The laws of the request unit. -/
def State.requestLaw (s : State) : Prop := s.postingLaw ∧ s.resourceLaw

/-! ### Answers of requests (R166, R167) -/

/-- The slot at the head of the posting order is `k`, its kind word names `kind`, and `rest` is behind it. -/
abbrev State.atHead (s : State) (kind : Option RequestKind) (k : Fin 8) (rest : List (Fin 8)) : Prop :=
  s.req.order = k :: rest ∧ RequestKind.ofCode (s.kindWord k) = kind

/-- Parameter word `i` of slot `k`. -/
abbrev State.param (s : State) (k : Fin 8) (i : Nat) : Word := s.mem.readWord (slotAddr k + 8 + 2 * i)

/-- The byte address lies in slot `k`'s state word, result code or result words. -/
abbrev inAnswer (k : Fin 8) (a : Nat) : Prop :=
  (slotAddr k ≤ a ∧ a < slotAddr k + 2) ∨ (slotAddr k + 6 ≤ a ∧ a < slotAddr k + 8) ∨
  (slotAddr k + 32 ≤ a ∧ a < slotAddr k + 48)

/-- The blocks other than the request unit and the exchange memory are those of `s`. -/
def State.sameBlocks (s t : State) : Prop :=
  t.pending = s.pending ∧ t.inputs = s.inputs ∧ t.drive = s.drive ∧ t.meas = s.meas ∧ t.seq = s.seq ∧ t.gov = s.gov ∧
  t.regs = s.regs ∧ t.watch = s.watch ∧ t.faults = s.faults ∧ t.level = s.level ∧ t.record = s.record ∧ t.store = s.store

/-- `t` is `s` after the take of slot `k` and its completion: the number has left the order, kind and parameters are copied,
result words, result code and state word are written, the slot's notice is set, the transfer area is released if the slot
held it, and nothing else has changed (R166 to R168). -/
structure State.Answered (s t : State) (k : Fin 8) (rest : List (Fin 8)) (st : SlotState) (rc : ResultCode)
    (results : List Word) : Prop where
  blocks : s.sameBlocks t
  request : t.req = { s.req with
    slots := t.req.slots, order := rest, notice := s.req.notice ||| noticeBit k.val
    holder := if s.req.holder = some k then none else s.req.holder }
  slot : t.slot k = ⟨st, RequestKind.ofCode (s.kindWord k), s.slotParams k, false⟩
  others : ∀ j, j ≠ k → t.slot j = s.slot j
  stateWord : t.mem.readWord (slotAddr k) = natWord st.code
  codeWord : t.mem.readWord (slotAddr k + 6) = natWord rc.code
  resultWords : t.mem.readWords (slotAddr k + 32) 8 = padWords 8 results
  memory : ∀ a, ¬inAnswer k a → t.mem.read a = s.mem.read a

/-- `t` is `s` after the take of slot `k` as a timed request that has become ACTIVE (R166). -/
structure State.Activated (s t : State) (k : Fin 8) (rest : List (Fin 8)) : Prop where
  blocks : s.sameBlocks t
  request : t.req = { s.req with slots := t.req.slots, order := rest }
  slot : t.slot k = ⟨.active, RequestKind.ofCode (s.kindWord k), s.slotParams k, false⟩
  others : ∀ j, j ≠ k → t.slot j = s.slot j
  stateWord : t.mem.readWord (slotAddr k) = natWord SlotState.active.code
  memory : ∀ a, ¬(slotAddr k ≤ a ∧ a < slotAddr k + 2) → t.mem.read a = s.mem.read a

/-- The request of slot `k` stands completed: its words of R167, the unit's own state and the notice. -/
structure State.Completed (t : State) (k : Fin 8) (st : SlotState) (rc : ResultCode) (results : List Word) : Prop where
  slot : (t.slot k).state = st
  stateWord : t.mem.readWord (slotAddr k) = natWord st.code
  codeWord : t.mem.readWord (slotAddr k + 6) = natWord rc.code
  resultWords : t.mem.readWords (slotAddr k + 32) 8 = padWords 8 results
  notice : t.req.notice.getLsbD k.val = true

/-! ### Start-up and the host's writes (R178, R165, R141) -/

/-- The address lies in a region that start-up writes: identity block, status block, clear words, sector map image, or a state
word of a slot or a list entry (R178). -/
abbrev inStartUp (a : Nat) : Prop :=
  a < 0x0040 ∨ (0x0200 ≤ a ∧ a < 0x050E) ∨ (0x2000 ≤ a ∧ a < 0x2000 + 2 * 397) ∨
  (∃ k : Fin 8, slotAddr k ≤ a ∧ a < slotAddr k + 2) ∨ ∃ k : Fin 8, entryAddr k ≤ a ∧ a < entryAddr k + 2

/-- The state word that the part writes at a slot. -/
abbrev State.slotShows (t : State) (k : Fin 8) : Prop := t.mem.readWord (slotAddr k) = natWord (t.slot k).state.code

/-- `t` is `s` but for the posting order, the misuse count, what the unit keeps of slot k, and slot k's state word. -/
def State.slotOnly (s t : State) (k : Fin 8) : Prop :=
  s.sameBlocks t ∧ (∀ j, j ≠ k → t.slot j = s.slot j) ∧
  t.req = { s.req with slots := t.req.slots, order := t.req.order, misuse := t.req.misuse } ∧
  ∀ a, ¬(slotAddr k ≤ a ∧ a < slotAddr k + 2) → t.mem.read a = s.mem.read a

/-- `t` is `s` but for the misuse count, what the record unit keeps of entry k, and entry k's state word. -/
def State.entryOnly (s t : State) (k : Fin 8) : Prop :=
  t = { s with record := t.record, req := { s.req with misuse := t.req.misuse }, mem := t.mem } ∧
  t.record = { s.record with entries := t.record.entries } ∧
  (∀ j, j ≠ k → t.record.listEntry j = s.record.listEntry j) ∧
  t.mem.readWord (entryAddr k) = natWord (t.record.listEntry k).state.code ∧
  ∀ a, ¬(entryAddr k ≤ a ∧ a < entryAddr k + 2) → t.mem.read a = s.mem.read a

/-! ### Samples (R84) -/

/-- The tag of the sample that a take of the receiver gives, case by case as the table of R84 lists them: line error, nothing
received, a clipped head, an overrun, none of these. -/
def Receiver.tagged (r : Receiver) : Tag :=
  if r.lineError = true then .held
  else if r.full = false then .held
  else if r.buffer.map Prod.snd = some .overload then .overload
  else if r.overrun = true then .overrun
  else .none

/-! ### Trips (R34, R43, R108) -/

/-- A trip cause taken now is a first cause, and no restart is pending. -/
abbrev State.tripReady (s : State) : Prop :=
  s.seq.drive ≠ .unconfigured ∧ s.seq.drive ≠ .tripped ∧ s.faults.lock = false ∧ s.seq.restartPending = false

/-- The sequencer after the entry into TRIPPED (R34, R36). -/
def Sequencer.afterTrip (q : Sequencer) : Sequencer :=
  { q with
    gate := ⟨false, false⟩, brakeRelease := false, ramp := 0, rampTarget := 0, flux := 0, magCount := 0
    breakawayCount := 0, zeroCount := 0, brakeCount := 0, phase := .none, drive := .tripped, backroll := false }

/-- The queue, the inputs, the DRIVE settings, the measurement unit and the vibration watch are those of `s`. -/
def State.sameField (s t : State) : Prop :=
  t.pending = s.pending ∧ t.inputs = s.inputs ∧ t.drive = s.drive ∧ t.meas = s.meas ∧ t.watch = s.watch

/-- `t` stands after a first cause of kind `k` taken in `s`: TRIPPED with the outputs inactive (R34), the governor at rest
(R43), the lock SET and the kind latched (R108). -/
structure State.Tripped (s t : State) (k : FaultKind) : Prop where
  seq : t.seq = s.seq.afterTrip
  rest : t.gov.atRest
  lock : t.faults.lock = true
  latched : (t.faults.entry k).latched = true
  settings : t.drive = s.drive
  queue : t.pending = s.pending

/-- The source X of a kind: A first, B second. -/
def sourceOf : Side → Source
  | .a => .first
  | .b => .second

/-! ### Triggers and trigger conditions (R126, R131) -/

/-- What a trigger made in `s` for the record `id` leaves of the capture banks in `t`, and the reference that it returns: a LIVE
bank becomes POST, a POST bank is not restarted, and with neither there is no reference (R126). -/
structure State.Triggered (s t : State) (id : Option Nat) (ref : CaptureRef) : Prop where
  none : s.record.activeBanks = 0 → t.record.banks = s.record.banks ∧ ref = ⟨.none, Option.none, 0, 0, 0, 0⟩
  live : ∀ i : Fin 4, s.record.activeBanks = 1 → (s.record.bank i).state = .live →
    let b := s.record.bank i
    t.record.banks = vset s.record.banks i { b with
      state := .post, trigFrame := b.writeIndex, post := 2048 - b.pre, trigId := id } ∧
    ref = ⟨.pending, some i, b.generation, b.writeIndex, min b.valid b.pre, 2048 - b.pre⟩
  post : ∀ i : Fin 4, s.record.activeBanks = 1 → (s.record.bank i).state = .post →
    let b := s.record.bank i
    let left := b.post - b.postWritten
    t.record.banks = s.record.banks ∧
    ref = ⟨.pending, some i, b.generation, b.writeIndex, min b.valid (2048 - left), left⟩

/-- The program `p` waits for its first condition `c`, its second being MANUAL. -/
abbrev State.waitsFor (s : State) (c : TrigCond) (p : Program) : Prop :=
  s.record.program = some p ∧ p.first = c ∧ p.second = some .manual ∧ s.record.trigState = .waitFirst

/-- The first condition of `p` has been taken in `s`: WAIT SECOND, with its timer at 0 and its deadline (R131). -/
abbrev State.windowBegun (s t : State) (p : Program) : Prop :=
  t.record.trigState = .waitSecond ∧ t.record.windowTimer = 0 ∧
  t.record.deadline = s.req.partTime + BitVec.ofNat 32 p.window

/-! ### Conditions and demands of the vibration watch (R90, R98 to R100) -/

/-- Some fitted channel of group `g` satisfies `p`. -/
def State.someIn (s : State) (g : Side) (p : ChannelWatch → Prop) : Prop :=
  ∃ c, s.watch.fitted c = true ∧ groupOf c = g ∧ p (s.channel c)

/-- Demand, VIB ALERT and dwell of a group stand as its channels ask (R98 to R100). -/
def State.groupLaw (s : State) (g : Side) : Prop :=
  let alert := s.someIn g fun w => w.vib = .alert ∨ w.sectorAlert = true
  let danger := s.someIn g fun w => w.vib = .danger ∨ w.memory = true
  let lost := s.someIn g fun w => w.health = .lost
  let v := s.watch.cfg
  let demand := (s.group g).demand
  demand ≤ 1000 ∧ (alert → demand ≤ v.alertDerate) ∧ (danger → demand ≤ v.dangerDerate) ∧ (lost → demand ≤ v.lostDerate) ∧
  (demand = 1000 ∨ (alert ∧ demand = v.alertDerate) ∨ (danger ∧ demand = v.dangerDerate) ∨ (lost ∧ demand = v.lostDerate)) ∧
  ((s.group g).alert = true ↔ alert ∨ danger) ∧ s.sourcePresent .vibAlert (sourceOf g) = (s.group g).alert ∧
  (¬s.someIn g (fun w => w.vib = .danger) → (s.group g).dwell = 0)

/-- Both groups stand so, and the sensor conditions as the health of the fitted channels asks (R90). -/
def State.vibrationLaw (s : State) : Prop :=
  (∀ g, s.groupLaw g) ∧
  (s.watch.suspect = true ↔ ∃ c, s.watch.fitted c = true ∧ (s.channel c).health = .suspect) ∧
  (s.watch.lost = true ↔ ∃ c, s.watch.fitted c = true ∧ (s.channel c).health = .lost) ∧
  s.sourcePresent .sensorSuspect .first = s.watch.suspect ∧ s.sourcePresent .sensorLost .first = s.watch.lost

/-! ### Store port (R146, R155 to R163) -/

/-- An operation with an address: the opcode, then the address bytes, most significant first (R146). -/
def addressed (op : Byte) (a : Nat) : List Byte :=
  [op, BitVec.ofNat 8 (a / 65536), BitVec.ofNat 8 (a / 256), BitVec.ofNat 8 a]

/-- A transfer of `u` has begun: bytes sent, number of bytes received, and the step of the work that it is. -/
def StoreUnit.sending (u : StoreUnit) (j : Job) (tx : List Byte) (rx : Nat) : StoreUnit :=
  { u with job := j, transfer := some ⟨tx, rx⟩, lastTransfer := some ⟨tx, rx⟩ }

/-- The drive waits in UNCONFIGURED for the STORE group alone, and no trip kind is latched (R20). -/
abbrev State.awaitsStore (s : State) : Prop :=
  s.seq.drive = .unconfigured ∧ s.drive.isSome = true ∧ s.gov.envelope.isSome = true ∧ s.watch.settings.isSome = true ∧
  s.record.settings.isSome = true ∧ s.seq.restartPending = false ∧
  ∀ f ∈ FaultKind.tripKinds, (s.faults.entry f).latched = false

/-- The store unit with no transfer and no foreground poll. -/
def StoreUnit.quiet (u : StoreUnit) : StoreUnit := { u with job := .idle, transfer := none }

/-- The erase of sector `i`, whose entry is `e`, has started: marked ERASING with every slot BLANK, WRITE ENABLE sent, erase time
0 (R155). -/
def StoreUnit.erasing (u : StoreUnit) (i : Nat) (e : Sector) : StoreUnit :=
  { u with
    sectors := u.sectors.set i { e with state := .erasing, slots := List.replicate 15 .blank }, erase := .running
    eraseSector := some i, eraseElapsed := 0 }.sending .eraseEnable [u.cfg.opWriteEnable] 0

/-- A STATUS READ is made at a poll: in a foreground poll, or of the RUNNING erase in the background (R147). -/
abbrev StoreUnit.polls (u : StoreUnit) : Prop :=
  u.job = .scanPoll ∨ u.job = .bodyPoll ∨ u.job = .markPoll ∨ u.job = .openPoll ∨ u.job = .suspendPoll ∨
  (u.job = .idle ∧ u.erase = .running ∧ (u.state = .ready ∨ u.state = .busy))

/-- `t` is `s` but for the store unit, the STORE notice and the store status of the list entry that holds record `id`, which reads
`st` (R142, R154). -/
structure State.RecordEnded (s t : State) (id : Nat) (st : StoreStatus) : Prop where
  others : t = { s with store := t.store, mem := t.mem, req := { s.req with notice := t.req.notice } }
  notice : t.req.notice.getLsbD noticeStore = true
  status : ∀ k, (s.record.listEntry k).state ≠ .empty → (s.record.listEntry k).id = some id →
    t.mem.readWord (storeStatusAddr k) = natWord st.code

/-- `t` stands after the entry into OUT OF SERVICE from `s` (R150, R161): no flash work, the queue ended FAILED, the host
operation refused with STORE, the group of a scan in force and its request completed with STORE, the STORE FAULT and the
notice. -/
structure State.OutOfService (s t : State) : Prop where
  state : t.store.state = .outOfService
  idle : t.store.job = .idle ∧ t.store.transfer = none ∧ t.store.hostOp = none ∧ t.store.queue = []
  failed : s.store.failed + s.store.queue.length ≤ 65535 → t.store.failed = s.store.failed + s.store.queue.length
  fault : t.sourcePresent .storeFault .first = true
  notice : t.req.notice.getLsbD noticeStore = true
  read : ∀ k id sector page, s.store.awaiting = none → s.store.hostOp = some (.read k id sector page) →
    State.Completed t k .refused .store [] ∧ t.req.chain = .broken
  eraseAll : ∀ k phase, s.store.awaiting = none → s.store.hostOp = some (.eraseAll k phase) →
    State.Completed t k .refused .store []
  scan : ∀ c k, s.store.hostOp = none → s.store.awaiting = some (c, k) →
    t.store.settings = some c ∧ t.store.awaiting = none ∧ State.Completed t k .done .store [4]
  others : t.seq = s.seq ∧ t.gov = s.gov ∧ t.regs = s.regs ∧ t.record = s.record ∧ s.sameField t

/-- The take of a store read of slot `k` that gives the record `x` (id, sector, slot): BUSY, and the page is read where the port is
free, ERASE SUSPEND is sent where an erase runs and may be suspended, and else the read waits (R157, R162). -/
structure State.ReadBegun (s t : State) (k : Fin 8) (rest : List (Fin 8)) (x : Nat × Nat × Nat) : Prop where
  slot : (t.slot k).state = .active
  request : t.req.order = rest ∧ t.req.holder = some k ∧ t.req.chain = s.req.chain
  busy : t.store.state = .busy ∧ t.store.hostOp = some (.read k x.1 x.2.1 x.2.2)
  kept : t.store.queue = s.store.queue ∧ t.store.sectors = s.store.sectors ∧ t.store.readPtr = s.store.readPtr
  others : t.seq = s.seq ∧ t.gov = s.gov ∧ t.regs = s.regs ∧ t.faults = s.faults ∧ t.record = s.record ∧ s.sameField t
  memory : ∀ a, ¬(slotAddr k ≤ a ∧ a < slotAddr k + 2) → t.mem.read a = s.mem.read a
  reads : s.store.job = .idle → s.store.erase = .none → t.store.job = .pageRead ∧ t.store.transfer =
    some ⟨addressed s.store.cfg.opRead (s.store.cfg.base + x.2.1 * 4096 + x.2.2 * 256), 256⟩
  suspends : s.store.job = .idle → s.store.erase = .running → s.store.cfg.suspendSupported = true →
    t.store.job = .suspendSend ∧ t.store.transfer = some ⟨[s.store.cfg.opSuspend], 0⟩
  waits : s.store.job = .idle → s.store.erase = .running → s.store.cfg.suspendSupported = false →
    t.store.job = .idle ∧ t.store.transfer = s.store.transfer
  behind : s.store.job ≠ .idle → t.store.job = s.store.job ∧ t.store.transfer = s.store.transfer

/-! ### Settings in range -/

/-- The DRIVE settings lie in the ranges that the statements use (2.11, 3.10, 4.9). -/
abbrev DriveSettings.sane (c : DriveSettings) : Prop :=
  0 ≤ c.lb ∧ 0 ≤ c.lc ∧ 1 ≤ c.rate ∧ 0 ≤ c.share ∧ c.share ≤ 1000 ∧ 500 ≤ c.kA ∧ 500 ≤ c.kB ∧ 100 ≤ c.imax ∧
  0 ≤ c.idf ∧ c.idf < c.imax ∧ 20 ≤ c.dmin ∧ c.dmin ≤ 100 ∧ 500 ≤ c.mlim ∧ c.mlim ≤ 577 ∧ 0 < c.countsPerShell ∧
  0 < c.countsPerRev

/-- The breakpoints of an envelope as its check admits them (3.11): no negative limit, speeds rising, the first at or below a
speed of 0. -/
def envelopeSane (e : List Breakpoint) : Prop :=
  (∀ b ∈ e, 0 ≤ b.lm ∧ 0 ≤ b.lg) ∧ e.Pairwise (fun b b' => b.speed < b'.speed) ∧
  ∀ b, e.head? = some b → b.speed ≤ 0

/-! ### Sample set frames (R1, R2, R68) -/

/-- The frame is the one that link X accepts for the present period (R1). -/
abbrev State.awaits (s : State) (x : Side) (f : SampleFrame) : Prop :=
  (s.meas.links.get x).awaiting = true ∧ f.begunBeforeSync = false

/-- The sample set of a frame shows no overcurrent: phase currents below the level, not saturated, status not FAULT (R68). -/
abbrev SampleSet.calm (v : SampleSet) (level : Int) : Prop :=
  |v.ia| < level ∧ |(-v.ia - v.ic)| < level ∧ |v.ic| < level ∧ v.saturated = false ∧ v.fault = false

/-- Both encoders are LOST only where ENCODER LOSS already stands, so a forming in a running state takes no trip (R120). -/
abbrev State.encodersKnown (s : State) : Prop := s.bothLost = true → s.sourcePresent .encoderLoss .first = true

/-! ### Status block and record image (R179, R182, R183, R186) -/

/-- The value of a limit in the direction that the governor publishes (R47). -/
def Governor.inForce (g : Governor) (l : DirLimit) : Int :=
  if g.limitDir = .regenerating then l.regenerating else l.motoring

/-- A word that reads 0xFFFF for no value (R182). -/
def orNone (x : Option Nat) : Word := match x with
  | some n => natWord n
  | none => 0xFFFF

/-- The code and x words of a trigger condition; x is 0 where the condition has none (log 21). -/
def conditionWords (c : Option TrigCond) : List Word := match c with
  | some (.speedBelow x) => [5, intWord x]
  | some k => [natWord k.code, 0]
  | none => [0, 0]

/-- Words `i` to `i + n - 1` of the status block. -/
def State.statusAt (s : State) (i n : Nat) : List Word := s.mem.readWords (statusAddr + 2 * i) n

/-- Bit `j` of status word `i`. -/
def State.statusBit (s : State) (i j : Nat) : Bool := (s.mem.readWord (statusAddr + 2 * i)).getLsbD j

/-- The status block shows the state in every word but 40 to 63, those of the regulators (R182); words of no table are 0 (R179). The
update count is one event's (log 19); words 269 to 274 are 0 while there is no program (log 56). -/
structure State.StatusShown (s : State) : Prop where
  clock : s.statusAt 0 6 = [s.req.updateCount, loWord s.req.partTime, hiWord s.req.partTime, loWord s.req.clock,
    hiWord s.req.clock, flagWord s.req.clockSet]
  sequencer : s.statusAt 6 9 = [natWord s.seq.drive.code, natWord s.seq.phase.code, natWord s.seq.runKind.code,
    natWord s.seq.direction.code, intWord s.seq.hostTarget, intWord s.seq.rampTarget, intWord (truncDiv s.seq.ramp 1000),
    flagWord s.seq.restartPending, natWord s.req.misuse]
  torques : s.statusAt 15 7 = [intWord s.gov.td, intWord s.gov.tg, intWord s.gov.torque.a, intWord s.gov.torque.b,
    intWord (max (-32767) (min 32767 s.gov.p)), intWord s.gov.i, flagWord s.gov.hold]
  limits : s.statusAt 22 6 = [intWord (s.gov.inForce s.gov.limit.a), intWord (s.gov.inForce s.gov.limit.b),
    natWord s.gov.limitDir.code, intWord s.gov.factor.a, intWord s.gov.factor.b, intWord s.gov.h]
  demands : s.statusAt 28 6 = [intWord s.gov.estimate.a, intWord s.gov.estimate.b, intWord s.gov.idRef,
    intWord s.gov.iqRef.a, intWord s.gov.iqRef.b, flagWord s.gov.atLimit]
  supervision : s.statusAt 34 6 = [natWord s.gov.devCount.a, natWord s.gov.devCount.b, flagWord s.gov.overspeed,
    intWord s.seq.flux, 0, 0]
  measurement : s.statusAt 64 16 = [intWord s.meas.links.a.vdc, intWord s.meas.links.b.vdc, intWord s.meas.n,
    intWord s.meas.encoders.a.speed, intWord s.meas.encoders.b.speed, flagWord s.meas.encoders.a.lost,
    flagWord s.meas.encoders.b.lost, natWord s.meas.shell.position, flagWord s.meas.shell.valid,
    natWord s.meas.shell.sector, 0, 0, 0, 0, 0, 0]
  fitted : ∀ c : Channel, s.watch.fitted c = true →
    let e := (s.receiver c).errors
    s.statusAt (80 + 8 * c.val) 8 = [natWord (s.channel c).level, flagWord (s.channel c).levelValid,
      natWord (s.channel c).health.code, natWord (s.channel c).vib.code, flagWord (s.channel c).sectorAlert,
      natWord (s.channel c).worstSector, natWord (s.channel c).worstValue,
      natWord (e.framing.toNat + 2 * e.parity.toNat + 4 * e.overrun.toNat + 8 * e.missing.toNat + 16 * e.overload.toNat)]
  notFitted : ∀ c : Channel, s.watch.fitted c = false → s.statusAt (80 + 8 * c.val) 8 = [0, 0, 3, 4, 0, 0, 0, 0]
  groups : s.statusAt 128 8 = [intWord (s.group .a).demand, intWord (s.group .b).demand, natWord (s.group .a).dwell,
    natWord (s.group .b).dwell, 0, 0, 0, 0]
  faults : ∀ f : FaultKind, s.statusBit (136 + f.num.val / 16) (f.num.val % 16) = s.present f ∧
    s.statusBit (138 + f.num.val / 16) (f.num.val % 16) = (s.faults.entry f).latched
  seen : ∀ f : FaultKind, 22 ≤ f.num.val → s.statusBit 140 (f.num.val - 22) = (s.faults.entry f).seen
  seenRest : ∀ j, 10 ≤ j → s.statusBit 140 j = false
  window : s.statusAt 141 7 = [flagWord s.faults.lock, flagWord s.faults.windowOpen, loWord s.faults.firstCauseTime,
    hiWord s.faults.firstCauseTime, 0, 0, 0]
  details : ∀ f : FaultKind, s.statusAt (148 + 3 * f.num.val) 3 = [loWord (s.faults.entry f).riseTime,
    hiWord (s.faults.entry f).riseTime, orNone (s.faults.entry f).detail]
  banks : ∀ i : Fin 4, s.statusAt (248 + 5 * i.val) 5 = [natWord (s.record.bank i).state.code,
    (s.record.bank i).generation, natWord (s.record.bank i).valid, orNone (s.record.bank i).trigId,
    orNone ((s.record.bank i).trigId.map (· / 65536))]
  trigger : s.statusAt 268 7 = natWord s.record.trigState.code :: match s.record.program with
    | some p => conditionWords (some p.first) ++ conditionWords p.second ++ [natWord p.window, flagWord p.repeats]
    | none => List.replicate 6 0
  record : s.statusAt 275 9 = [loWord s.record.deadline, hiWord s.record.deadline, natWord s.record.idCounter,
    natWord (s.record.idCounter / 65536), natWord s.record.nextIndex.val, natWord s.record.unposted, 0, 0, 0]
  store : s.statusAt 284 9 = [natWord s.store.state.code, natWord s.store.dropped, natWord s.store.failed,
    natWord s.store.queue.length, orNone s.store.openSector, natWord s.store.nextSlot, natWord s.store.erase.code,
    orNone s.store.eraseSector, natWord s.store.badCount]
  gap : s.statusAt 244 4 = [0, 0, 0, 0]
  rest : s.statusAt 293 91 = List.replicate 91 0

/-- The snapshot `p` holds what the state `s` shows (R137). -/
structure State.SnapshotTaken (s : State) (p : Snapshot) : Prop where
  speeds : p.n = s.meas.n ∧ p.r = truncDiv s.seq.ramp 1000
  torques : p.td = s.gov.td ∧ p.tg = s.gov.tg ∧ p.torque = s.gov.torque ∧ p.estimate = s.gov.estimate
  limits : p.limit = ⟨s.gov.inForce s.gov.limit.a, s.gov.inForce s.gov.limit.b⟩ ∧ p.limitDir = s.gov.limitDir ∧
    p.factor = s.gov.factor
  links : p.vdc = ⟨s.meas.links.a.vdc, s.meas.links.b.vdc⟩ ∧ p.iq = ⟨s.regs.a.iq, s.regs.b.iq⟩ ∧
    p.voltageLimited = ⟨s.regs.a.lastPeriod, s.regs.b.lastPeriod⟩
  shell : p.position = s.meas.shell.position ∧ p.valid = s.meas.shell.valid
  channels : ∀ c : Channel, let w := s.channel c
    p.channels[c.val]? = some ⟨s.watch.fitted c, w.level, w.health, w.vib, w.worstSector, w.worstValue⟩

/-- List entry `k` holds the image of record `o` (R183). -/
structure State.ImageShown (s : State) (k : Fin 8) (o : Record) : Prop where
  head : s.mem.readWords (entryAddr k + 4) 10 = [natWord o.id, natWord (o.id / 65536), flagWord o.first.isNone,
    loWord o.clock, hiWord o.clock, flagWord o.clockSet, loWord o.partTime, hiWord o.partTime, natWord o.drive.code,
    natWord o.runKind.code]
  cause : s.mem.readWords (entryAddr k + 24) 4 = (match o.first with
    | some (f, d) => [natWord f.num.val, orNone d]
    | none => [0xFFFF, 0xFFFF]) ++ [natWord o.followOns.length, natWord o.lostCauses]
  followOns : ∀ i, i < 7 → s.mem.readWords (entryAddr k + 32 + 6 * i) 3 = match o.followOns[i]? with
    | some f => [natWord f.kind.num.val, orNone f.detail, natWord f.offset]
    | none => [0xFFFF, 0xFFFF, 0]
  snapshot : s.mem.readWords (entryAddr k + 74) 19 = [intWord o.snap.n, intWord o.snap.r, intWord o.snap.td,
    intWord o.snap.tg, intWord o.snap.torque.a, intWord o.snap.torque.b, intWord o.snap.estimate.a,
    intWord o.snap.estimate.b, intWord o.snap.limit.a, intWord o.snap.limit.b, natWord o.snap.limitDir.code,
    intWord o.snap.factor.a, intWord o.snap.factor.b, intWord o.snap.vdc.a, intWord o.snap.vdc.b, intWord o.snap.iq.a,
    intWord o.snap.iq.b, natWord o.snap.position, flagWord o.snap.valid]
  channels : ∀ (c : Channel) (v : ChannelSnap), o.snap.channels[c.val]? = some v →
    s.mem.readWords (entryAddr k + 112 + 10 * c.val) 5 =
      if v.fitted then
        [natWord v.level, natWord v.health.code, natWord v.vib.code, natWord v.worstSector, natWord v.worstValue]
      else [0, 3, 4, 0, 0]
  capture : s.mem.readWords (entryAddr k + 172) 6 = [natWord o.ref.status.code, orNone (o.ref.bank.map Fin.val),
    o.ref.generation, natWord o.ref.trigFrame, natWord o.ref.preFrames, natWord o.ref.after]
  storeStatus : s.mem.readWord (entryAddr k + 184) = natWord o.storeStatus.code
  fired : s.mem.readWords (entryAddr k + 186) 5 = match o.fired with
    | some f => conditionWords (some f.first) ++ conditionWords f.second ++ [orNone f.detail]
    | none => List.replicate 5 0
  limited : s.mem.readWord (entryAddr k + 196) =
    natWord (o.snap.voltageLimited.a.toNat + 2 * o.snap.voltageLimited.b.toNat)
  rest : s.mem.readWords (entryAddr k + 198) 31 = List.replicate 29 0 ++ [0xFFFF, 0xFFFF]

/-- The code words of the table of R186. -/
abbrev codesOfTable : Prop :=
  [DriveState.unconfigured, .stopped, .magnetizing, .breakaway, .run, .stopping, .tripped].map DriveState.code =
    [0, 1, 2, 3, 4, 5, 6] ∧
  [StopPhase.none, .decelerating, .atZero, .brakeSetting].map StopPhase.code = [0, 1, 2, 3] ∧
  [RunKind.normal, .creep].map RunKind.code = [0, 1] ∧ [Direction.forward, .reverse].map Direction.code = [0, 1] ∧
  [PinionSet.both, .aOnly, .bOnly].map PinionSet.code = [0, 1, 2] ∧
  [PermitAction.ramp, .trip].map PermitAction.code = [0, 1] ∧
  [LimitDir.motoring, .regenerating].map LimitDir.code = [0, 1] ∧
  [Health.suspect, .healthy, .lost].map Health.code = [0, 1, 2] ∧
  [VibState.normal, .alert, .danger, .unknown].map VibState.code = [0, 1, 2, 3] ∧
  [BankState.free, .live, .post, .frozen].map BankState.code = [0, 1, 2, 3] ∧
  [TrigState.disarmed, .waitFirst, .waitSecond].map TrigState.code = [0, 1, 2] ∧
  [TrigCond.vibAlert, .vibDanger, .sectorAlert, .torqueAtLimit, .speedBelow 0, .healthChange, .voltageLimited,
    .manual].map TrigCond.code = [1, 2, 3, 4, 5, 6, 7, 8] ∧
  [CaptureStatus.none, .pending, .complete].map CaptureStatus.code = [0, 1, 2] ∧
  [StoreStatus.none, .queued, .stored, .failed, .dropped].map StoreStatus.code = [0, 1, 2, 3, 4] ∧
  [StoreState.absent, .scanning, .ready, .busy, .outOfService].map StoreState.code = [0, 1, 2, 3, 4] ∧
  [EraseState.none, .running, .suspended].map EraseState.code = [0, 1, 2] ∧
  [SlotState.free, .posted, .active, .done, .refused].map SlotState.code = [0, 1, 2, 3, 4] ∧
  [EntryState.empty, .filled, .taken].map EntryState.code = [0, 1, 2] ∧
  [ResultCode.ok, .clamped, .noEffect, .state, .busy, .order, .invalid, .gone, .permit, .present, .isOpen, .store,
    .cancelled, .unknownKind].map ResultCode.code = [0, 1, 2, 3, 4, 5, 6, 7, 8, 9, 10, 11, 12, 13] ∧
  (List.range 21).map (fun n => RequestKind.ofCode (natWord n)) = [none, some .loadSettings, some .readSettings,
    some .start, some .stop, some .setSpeed, some .limitTorque, some .tripNow, some .tripClear, some .armTrigger,
    some .disarmTrigger, some .manualTrigger, some .fetchCapture, some .fetchNext, some .releaseCapture,
    some .readStored, some .readStoredNext, some .eraseStore, some .resetSectorMap, some .setTime, none]

/-! ### Settings images (R39, R62, R63, R82, R103, R122, R143, R151, R185) -/

/-- The fields of an image with their ranges, in the order in which they are checked: index of the word, least and greatest value.
Of an ENVELOPE image of `n` breakpoints. idf (word 29 of DRIVE) has no range of its own (log 23). -/
def imageRanges (group n : Nat) : List (Nat × Nat × Nat) :=
  match group with
  | 0 =>
    [(0, 0, 2), (1, 1000, 4000), (2, 1000, 4000), (3, 500, 1500), (4, 1024, 65536), (6, 100000, 10000000), (8, 100, 18000),
      (9, 1, 10000), (10, 1, 10000), (11, 50, 2000), (12, 10, 3000), (13, 100, 30000), (14, 10, 3000), (15, 0, 500),
      (16, 1, 10000), (17, 0, 5000), (18, 2, 2000), (19, 0, 1), (20, 0, 10000), (21, 0, 10000), (22, 0, 3000)] ++
    [(23, 0, 3000), (24, 1, 500), (25, 0, 1000), (26, 500, 2000), (27, 500, 2000), (28, 100, 3000), (30, 50, 1000),
      (31, 10, 2000), (32, 0, 5000), (33, 1, 8), (34, 0, 65535), (35, 0, 65535), (36, 0, 10000), (37, 0, 10000),
      (38, 500, 577), (39, 20, 100), (40, 1000, 3800), (41, 100, 1200), (42, 100, 1300), (43, 200, 1500), (44, 0, 2000),
      (45, 10, 5000)]
  | 1 => (0, 2, 16) :: (List.range n).flatMap fun j => [(1 + 3 * j, 0, 20000), (2 + 3 * j, 0, 3000), (3 + 3 * j, 0, 3000)]
  | 2 =>
    (List.range 6).map (fun i => (i, 0, 1)) ++ [(6, 0, 18000)] ++ (List.range 18).map (fun i => (7 + i, 1, 65535)) ++
    [(25, 1, 64), (26, 1, 64), (27, 1, 255), (28, 0, 1000), (29, 0, 1000), (30, 0, 1000), (31, 0, 60000)]
  | 3 => [(0, 0, 250), (1, 0, 2047)]
  | _ =>
    [(0, 0, 1), (1, 0, 0xFFF000), (3, 8, 256)] ++ (List.range 11).map (fun i => (4 + i, 0, 255)) ++
    [(15, 1, 50), (16, 10, 5000), (17, 1, 10), (18, 0, 1)]

/-- The words of two: E and C of DRIVE, the base address of STORE (R185). -/
abbrev wideField (group i : Nat) : Prop := (group = 0 ∧ (i = 4 ∨ i = 6)) ∨ (group = 4 ∧ i = 1)

/-- The checks between fields, in their order: the index reported, and what must hold. `v` gives the value of a field. -/
def imageChecks (group : Nat) (v : Nat → Nat) : List (Nat × Bool) :=
  match group with
  | 0 =>
    [(14, decide (v 12 ≤ v 14)), (8, decide (v 14 ≤ v 8)), (12, decide (v 15 < v 12)), (29, decide (v 29 < v 28)),
      (40, decide (v 28 < v 40)), (42, decide (v 41 < v 42)), (43, decide (v 42 < v 43))]
  | 1 => (1, decide (v 1 = 0)) :: (List.range (v 0 - 1)).map fun j => (4 + 3 * j, decide (v (1 + 3 * j) < v (4 + 3 * j)))
  | 2 => (List.range 6).map (fun i => (13 + i, decide (v (7 + i) ≤ v (13 + i)))) ++ [(29, decide (v 29 ≤ v 28))]
  | 3 => []
  | _ => [(3, decide (v 1 + v 3 * 4096 ≤ 16777216))]

end Sys2Proof.Machine
end

