-- ==== Sys2Proof/Certificates/Slice0/Obligations.lean ====
section
/-! DEFINITION. The statements for the provers. -/

open Sys2Proof Sys2Proof.Machine

/-! ### The machine -/

/-- A step takes the command at the front of the queue and executes it on the state with the queue's rest; with an empty queue a
microsecond passes, at most 999 between two ticks of the part time counter: the timers that run count it, each held at its
limit, and nothing else changes (the model's choices, log 1 and log 4; which job counts the erase time: log 26, log 49). -/
def Obligations.StepRunsFrontCommand : Prop :=
  (∀ (c : Instr) (rest : List Instr) (s : State), s.pending = c :: rest → step s = exec c (s.setPending rest)) ∧
  (∀ s : State, s.pending = [] → 999 ≤ s.req.subMs → step s = .next s) ∧
  ∀ s : State, s.pending = [] → s.req.subMs < 999 → ∃ t, step s = .next t ∧
    t = { s with
      faults := { s.faults with timer :=
        if s.faults.windowOpen then min (1000 * s.faults.windowLen) (s.faults.timer + 1) else s.faults.timer }
      record := { s.record with windowTimer :=
        if s.record.trigState = .waitSecond then min (1000 * s.record.triggerWindow) (s.record.windowTimer + 1)
        else s.record.windowTimer }
      store := { s.store with
        pollElapsed := (s.store.pollLimit.map fun l => min l (s.store.pollElapsed + 1)).getD s.store.pollElapsed
        eraseElapsed :=
          if s.store.erase = .running ∧ (s.store.state = .ready ∨ s.store.state = .busy) ∧ s.store.job.eraseCounts = true then
            min (1000 * s.store.cfg.eraseLimit) (s.store.eraseElapsed + 1)
          else s.store.eraseElapsed }
      req := { s.req with subMs := s.req.subMs + 1 } }

/-- Every well-formed command answers a next state and leaves the queue as it is; a host store at an odd address, or beyond
the registers, stops by name (10.1; that such a store is an operand of SLOT_STATE_WRITE, and that an event which cannot occur
answers a next state too, are the model's choices, log 6 and log 3). -/
def Obligations.WellFormedCommandsAnswer : Prop :=
  (∀ (c : Instr) (s : State), c.wf = true → ∃ t, exec c s = .next t ∧ t.pending = s.pending) ∧
  ∀ (a : Nat) (w : Word) (k : Fin 8) (v : Word) (s : State), (a % 2 = 1 ∨ 0x8008 ≤ a) →
    exec (.slotStateWrite [⟨a, w⟩] k v) s = .fault (.noSuchAddress a)

/-! ### Laws of the device -/

/-- The laws hold at reset. -/
def Obligations.ResetMeetsLaws : Prop :=
  State.reset.mem.wf = true ∧ State.reset.driveLaw ∧ State.reset.restLaw ∧ State.reset.bankLaw ∧ State.reset.queueLaw ∧
  State.reset.recordLaw ∧ State.reset.lostLaw ∧ State.reset.requestLaw

/-- Every step keeps the canonical form of the exchange memory (log 7 says what an unlisted byte reads as). -/
def Obligations.MemoryCanonicalKept : Prop :=
  ∀ s t : State, s.mem.wf = true → step s = .next t → t.mem.wf = true

/-- Every step keeps the laws of R31 and R108: the outputs follow the drive state, and the lock is SET exactly in TRIPPED. -/
def Obligations.DriveLawKept : Prop := ∀ s t : State, s.driveLaw → step s = .next t → t.driveLaw

/-- Every step keeps the law of 3.2: outside BREAKAWAY, RUN and STOPPING grant, torques and q-axis demands are zero. -/
def Obligations.RestLawKept : Prop := ∀ s t : State, s.restLaw → step s = .next t → t.restLaw

/-- Every step keeps the law of 7.3: at most one capture bank is LIVE or POST. -/
def Obligations.BankLawKept : Prop := ∀ s t : State, s.bankLaw → step s = .next t → t.bankLaw

/-- Every step keeps the law of R154 that the store queue holds at most 4 records. -/
def Obligations.QueueLawKept : Prop := ∀ s t : State, s.queueLaw → step s = .next t → t.queueLaw

/-- Every step keeps the laws of records: ids below the counter and none twice in the list (R135), at most 7 follow-ons, of
distinct kinds (R138). -/
def Obligations.RecordLawKept : Prop := ∀ s t : State, s.recordLaw → step s = .next t → t.recordLaw

/-- Every step keeps the law of R90: a LOST vibration channel has vibration state UNKNOWN. -/
def Obligations.LostLawKept : Prop := ∀ s t : State, s.lostLaw → step s = .next t → t.lostLaw

/-- Every step keeps the laws of the request unit: the posting order holds exactly the POSTED slots, each once (R166), the
ACTIVE slots are those of the running timed requests, and the transfer area's holder is the fetch or store read (R168). -/
def Obligations.RequestLawKept : Prop := ∀ s t : State, s.requestLaw → step s = .next t → t.requestLaw

/-! ### Arithmetic laws -/

/-- The integer square root is the floor of the true square root (3.2). -/
def Obligations.IntegerSquareRootIsFloor : Prop :=
  ∀ n : Nat, isqrt n * isqrt n ≤ n ∧ n < (isqrt n + 1) * (isqrt n + 1)

/-- The split of the grant (R55). With both pinions motor A takes its share, rounded to nearest, halves away from zero, motor B
the rest, and an excess over a motor's limit goes to the other motor; with one pinion its motor takes all. The parts have the
sign of the grant or are 0, add up to it and keep their limits. A governor period in BREAKAWAY, RUN or STOPPING makes this
split; after every governor period the law holds, and outside these states all three are 0. -/
def Obligations.SplitKeepsSumAndLimits : Prop :=
  (∀ (c : DriveSettings) (tg la lb : Int), 0 ≤ c.share → c.share ≤ 1000 → 0 ≤ la → 0 ≤ lb → |tg| ≤ la + lb →
    (c.pinion = .aOnly → lb = 0) → (c.pinion = .bOnly → la = 0) →
    let m := split c tg la lb
    let a := if 0 ≤ tg then (tg * c.share + 500) / 1000 else -((-tg * c.share + 500) / 1000)
    let b := tg - a
    m.a + m.b = tg ∧ |m.a| ≤ la ∧ |m.b| ≤ lb ∧
    (c.pinion = .aOnly → m = ⟨tg, 0⟩) ∧ (c.pinion = .bOnly → m = ⟨0, tg⟩) ∧
    (c.pinion = .both → 0 ≤ tg * a ∧ 0 ≤ tg * b) ∧
    (c.pinion = .both → |a| ≤ la → |b| ≤ lb → m = ⟨a, b⟩) ∧
    (c.pinion = .both → la < |a| →
      m = ⟨signOf tg * la, b + signOf tg * (|a| - la)⟩ ∧ |m.a| = la ∧ |m.b| = |tg| - la) ∧
    (c.pinion = .both → |a| ≤ la → lb < |b| →
      m = ⟨a + signOf tg * (|b| - lb), signOf tg * lb⟩ ∧ |m.b| = lb ∧ |m.a| = |tg| - lb)) ∧
  (∀ s : State, s.seq.drive.governed = true →
    ∃ t, exec .governorPeriod s = .next t ∧ (t.seq.drive = s.seq.drive →
      t.gov.torque = split s.cfg t.gov.tg (t.gov.publishedLimit .a) (t.gov.publishedLimit .b))) ∧
  (∀ s : State, s.seq.drive.governed = false →
    ∃ t, exec .governorPeriod s = .next t ∧ t.gov.tg = 0 ∧ t.gov.torque = ⟨0, 0⟩) ∧
  ∀ s : State, s.cfg.sane → (∀ e, s.gov.envelope = some e → envelopeSane e) →
    (∀ e k, s.gov.awaiting = some (e, k) → envelopeSane e) → 0 ≤ s.gov.h → (∀ x, 0 ≤ (s.watch.groups.get x).demand) →
    ∃ t, exec .governorPeriod s = .next t ∧ t.gov.torque.a + t.gov.torque.b = t.gov.tg ∧
      |t.gov.torque.a| ≤ t.gov.publishedLimit .a ∧ |t.gov.torque.b| ≤ t.gov.publishedLimit .b

/-- The voltage references of an arrival lie within Vmax, each and together (R77), and every duty lies within
dmin..1000 − dmin (R79). And the equations of an arrival that is not blocked: the loops (R76), the voltage limit with the clamp
states and the voltage-limited flag (R77), the inverse transform (R78), the duties (R79); the angle step (R73), and the values
of the sine table that R74 lists. -/
def Obligations.VoltagesAndDutiesInRange : Prop :=
  (∀ (g : Regulator) (c : DriveSettings) (vdc idRef iqRef sin cos : Int), 0 ≤ vdc → 0 ≤ c.mlim →
    |(g.compute c vdc idRef iqRef sin cos).vd| ≤ vdc * c.mlim / 1000 ∧
    |(g.compute c vdc idRef iqRef sin cos).vq| ≤ vdc * c.mlim / 1000 ∧
    (g.compute c vdc idRef iqRef sin cos).vd ^ 2 + (g.compute c vdc idRef iqRef sin cos).vq ^ 2 ≤
      (vdc * c.mlim / 1000) ^ 2) ∧
  (∀ va vb vc vdc dmin : Int, 0 ≤ dmin → dmin ≤ 500 →
    ∀ d ∈ [(dutiesOf va vb vc vdc dmin).a, (dutiesOf va vb vc vdc dmin).b, (dutiesOf va vb vc vdc dmin).c],
      dmin ≤ d ∧ d ≤ 1000 - dmin) ∧
  (∀ (g : Regulator) (c : DriveSettings) (vdc idRef iqRef sin cos : Int), 0 ≤ vdc → 0 ≤ c.mlim →
    let t := g.compute c vdc idRef iqRef sin cos
    let loop := fun (clamp : ClampState) (integ err : Int) =>
      if (clamp = .high ∧ 0 < err) ∨ (clamp = .low ∧ err < 0) then max (-1000000) (min 1000000 integ)
      else max (-1000000) (min 1000000 (integ + err * c.kic))
    let volts := fun err integ : Int => truncDiv (err * c.kpc) 100 + truncDiv integ 1000
    let limited := fun v m : Int => max (-m) (min m v)
    let clampOf := fun v m : Int => if m < v then ClampState.high else if v < -m then .low else .none
    let m := vdc * c.mlim / 1000
    let mq : Int := isqrt (m * m - t.vd * t.vd).toNat
    let vd := volts (idRef - g.id) t.dInt
    let vq := volts (iqRef - g.iq) t.qInt
    t = { g with
      dInt := loop g.dClamp g.dInt (idRef - g.id), qInt := loop g.qClamp g.qInt (iqRef - g.iq)
      vd := limited vd m, vq := limited vq mq, dClamp := clampOf vd m, qClamp := clampOf vq mq
      voltageLimited := g.voltageLimited || decide (m < |vd| ∨ mq < |vq|), pendingDuties := t.pendingDuties } ∧
    let va := truncDiv (t.vd * cos - t.vq * sin) 32768
    let vb := truncDiv (-va + truncDiv (truncDiv (t.vd * sin + t.vq * cos) 32768 * 56756) 32768) 2
    let vc := -va - vb
    let offset := truncDiv (max va (max vb vc) + min va (min vb vc)) 2
    let duty := fun v : Int =>
      let x := (v - offset) * 1000
      let nearest := if 0 ≤ x then (2 * x + vdc) / (2 * vdc) else -((2 * -x + vdc) / (2 * vdc))
      max c.dmin (min (1000 - c.dmin) (500 + nearest))
    (vdc < 50 → t.pendingDuties = some ⟨500, 500, 500⟩) ∧
    (50 ≤ vdc → 0 ≤ c.dmin → c.dmin ≤ 500 → t.pendingDuties = some ⟨duty va, duty vb, duty vc⟩)) ∧
  (∀ g : Regulator, g.computeBlocked = { g with vd := 0, vq := 0, pendingDuties := some ⟨500, 500, 500⟩ }) ∧
  (∀ (s : State) (x : Side),
    let demand := s.gov.iqRef.get x
    let ks := if x = .a then s.cfg.ksA else s.cfg.ksB
    let electrical := truncDiv ((s.meas.encoders.get x).speed * s.cfg.polePairs * 4294967296) 4800000
    let slip := if 0 < s.gov.idRef then truncDiv (demand * ks) s.gov.idRef else 0
    s.steppedAngle x = (s.regs.get x).angle + BitVec.ofInt 32 (electrical + slip)) ∧
  [0, 512, 1024, 2048, 3072].map sineAt = [0, 23170, 32767, 0, -32767] ∧
  ∀ k, k < 4096 → cosineAt k = sineAt ((k + 1024) % 4096) ∧ |sineAt k| ≤ 32767

/-! ### Resets and registers -/

/-- A power-on reset gives every block its reset values; E-STOP and GATE FAULT are read afresh and latched where their inputs
are active (R13, R38, R69, R105). The model's choices: that they rise at the reset event (log 10), that the input levels stay
(log 9), the free value's argument (log 8), that the exchange memory is kept (log 34), the governor's direction and the fault
unit's timer and window length at reset (log 36), the regulators' published values (log 52), and the slots' kinds and
parameters (log 55). -/
def Obligations.PowerOnResetGivesResetValues : Prop :=
  ∀ s : State, ∃ t, exec .powerOnReset s = .next t ∧
    t.pending = s.pending ∧ t.inputs = s.inputs ∧ t.mem = s.mem ∧
    t.drive = none ∧ t.meas = { MeasUnit.reset with encoders := t.meas.encoders } ∧
    (∀ x, t.meas.encoders.get x = { Encoder.reset with touched := s.inputs.lineBreak.get x }) ∧
    t.seq = { Sequencer.reset with eStop := s.inputs.eStop } ∧ t.gov = .reset ∧
    (∀ x, t.regs.get x = { Regulator.reset with gateFault := s.inputs.gateFault.get x }) ∧
    t.watch = .reset ∧ t.level = .reset ∧ t.record = { RecordUnit.reset with resets := s.record.resets + 1 } ∧
    t.store = .reset ∧ t.req = .reset ∧ t.portControl = 0 ∧
    t.faults.lock = false ∧ t.faults.windowOpen = false ∧ t.faults.firstCauseTime = 0 ∧
    (t.faults.entry .eStop).latched = s.inputs.eStop ∧ t.present .eStop = s.inputs.eStop ∧
    (∀ x, (t.faults.entry (.gateFault x)).latched = s.inputs.gateFault.get x ∧
      t.present (.gateFault x) = s.inputs.gateFault.get x) ∧
    ∀ k, k ≠ .eStop → k ≠ .gateFault .a → k ≠ .gateFault .b → t.faults.entry k = FaultEntry.reset

/-- RESTART: performed at once in UNCONFIGURED, STOPPED and TRIPPED, else it only becomes pending, and PORT CONTROL shows it
(R37). A restart pending is performed at the entry into STOPPED that a STOP in MAGNETIZING brings; that the STOP's request then
ends with the reset, without a completion, is the model's choice (log 11), as are the reset's own choices (log 8, log 10). A
restart pending is performed too at the entry into TRIPPED that E-STOP or TRIP NOW brings, and ends the record that the trip
opened (R34, R37). -/
def Obligations.RestartAtRestOrPending : Prop :=
  (∀ s : State, s.seq.drive.idleClass = true → exec .restart s = exec .powerOnReset s) ∧
  (∀ s : State, s.seq.drive.idleClass = false → ∃ t, exec .restart s = .next t ∧
    t = { s with seq := { s.seq with restartPending := true } } ∧ (s.req.starting = false → t.portControl = 2)) ∧
  (∀ (s : State) (k : Fin 8) (rest : List (Fin 8)), s.atHead (some .stop) k rest → s.seq.drive = .magnetizing →
    s.seq.restartPending = true → ∃ t, exec .stop s = .next t ∧ t.seq.drive = .unconfigured ∧
      t.seq.gate = ⟨false, false⟩ ∧ t.seq.brakeRelease = false ∧ t.req = .reset ∧ t.record.resets = s.record.resets + 1) ∧
  (∀ s : State, s.inputs.eStop = false → s.sourcePresent .eStop .first = false → s.seq.drive.running = true →
    s.faults.lock = false → s.seq.restartPending = true →
    exec .eStopActive s = exec .powerOnReset { s with inputs := { s.inputs with eStop := true } }) ∧
  ∀ (s : State) (k : Fin 8) (rest : List (Fin 8)), s.atHead (some .tripNow) k rest →
    s.sourcePresent .hostTrip .first = false → s.seq.drive.running = true → s.faults.lock = false →
    s.seq.restartPending = true → ∃ t, exec .tripNow s = .next t ∧ t.seq.drive = .unconfigured ∧
      t.seq.gate = ⟨false, false⟩ ∧ t.seq.brakeRelease = false ∧ t.req = .reset ∧ t.faults.lock = false ∧
      t.record = { RecordUnit.reset with resets := s.record.resets + 1 } ∧ t.store = .reset

/-- The end of start-up initialises the exchange memory and makes PORT CONTROL read RUNNING (R178). The model's choices: at
any other time there is no start-up to end (log 3), the initialisation is one event (log 34), and the watch's image count goes
on from the map image of zeros (log 18). -/
def Obligations.StartUpInitialises : Prop :=
  (∀ s : State, s.req.starting = true → s.seq.restartPending = false → ∃ t, exec .startUpEnd s = .next t ∧
    t.portControl = 1 ∧
    t.mem.readWords identityAddr 32 = identityWords ∧ (∀ k, t.mem.readWord (slotAddr k) = 0) ∧
    (∀ k, t.mem.readWord (entryAddr k) = 0) ∧ t.mem.readWords statusAddr 384 = List.replicate 384 0 ∧
    (∀ c, t.mem.readWord (stickyClearAddr c) = 0) ∧ t.mem.readWord alarmClearAddr = 0 ∧
    t.mem.readWords mapImageAddr 397 = List.replicate 397 0 ∧
    (∀ a, ¬inStartUp a → t.mem.read a = s.mem.read a) ∧
    (∀ k, t.slot k = { s.slot k with state := .free, cancel := false }) ∧
    t.req = { s.req with
      slots := t.req.slots, order := [], updateCount := 0, starting := false
      notice := s.req.notice ||| noticeBit noticeStart } ∧
    s.sameBlocks t) ∧
  ∀ s : State, s.req.starting = false → exec .startUpEnd s = .next s

/-- The registers (R175, R176, R180). IDENT and PORT CONTROL: what they read as, and writes that are ignored; a 1 written to
PORT CONTROL is the RESTART of R37 (log 35). NOTICE and NOTICE ENABLE: a write of ones clears notices, the enable reads as
written but for the positions that name no notice, a set bit stays set, and the pin follows both. -/
def Obligations.RegistersRule : Prop :=
  identWord = 0x4181 ∧
  (∀ (s : State) (v : Word), exec (.registerWriteOther .ident v) s = .next s) ∧
  (∀ (s : State) (v : Word), v ≠ 1 → exec (.registerWriteOther .portControl v) s = .next s) ∧
  (∀ s : State, exec (.registerWriteOther .portControl 1) s = exec .restart s) ∧
  (∀ s : State, s.req.starting = true → s.portControl = 0) ∧
  (∀ s : State, s.req.starting = false → s.seq.restartPending = true → s.portControl = 2) ∧
  (∀ s : State, s.req.starting = false → s.seq.restartPending = false → s.portControl = 1) ∧
  (∀ (s : State) (v : Word), ∃ t, exec (.noticeWrite v) s = .next t ∧
    t = { s with req := { s.req with notice := t.req.notice } } ∧
    ∀ i, t.req.notice.getLsbD i = (s.req.notice.getLsbD i && !v.getLsbD i)) ∧
  (∀ (s : State) (v : Word), ∃ t, exec (.noticeEnableWrite v) s = .next t ∧
    t = { s with req := { s.req with noticeEnable := t.req.noticeEnable } } ∧
    ∀ i, t.req.noticeEnable.getLsbD i = (v.getLsbD i && decide (i ≤ 12))) ∧
  (∀ (s : State) (n i : Nat), i < 16 → n < 16 →
    (s.raiseNotice n).req.notice.getLsbD i = (s.req.notice.getLsbD i || decide (i = n))) ∧
  ∀ s : State, s.noticePin = true ↔ ∃ i, s.req.notice.getLsbD i = true ∧ s.req.noticeEnable.getLsbD i = true

/-! ### Host writes to state words and clear words -/

/-- A host write to a slot's state word, row by row of the table of R165; plain stores before it are simply stored (09, opening;
that they come with this command is the model's choice, log 6). -/
def Obligations.SlotStateWriteTable : Prop :=
  (∀ (stores : List HostStore) (k : Fin 8) (v : Word) (s : State), stores.all HostStore.plain = true →
    exec (.slotStateWrite stores k v) s =
      exec (.slotStateWrite [] k v) { s with mem := stores.foldl (fun m h => m.writeWord h.addr h.value) s.mem }) ∧
  ∀ (s : State) (k : Fin 8), s.req.starting = false →
    ((s.slot k).state = .free → ∃ t, exec (.slotStateWrite [] k 1) s = .next t ∧ s.slotOnly t k ∧
      t.slot k = { s.slot k with state := .posted } ∧ t.slotShows k ∧ t.req.order = s.req.order ++ [k] ∧
      t.req.misuse = s.req.misuse) ∧
    ((s.slot k).state = .done ∨ (s.slot k).state = .refused → ∃ t, exec (.slotStateWrite [] k 0) s = .next t ∧
      s.slotOnly t k ∧ t.slot k = { s.slot k with state := .free } ∧ t.slotShows k ∧
      t.req.order = s.req.order ∧ t.req.misuse = s.req.misuse) ∧
    ((s.slot k).state = .posted → ∃ t, exec (.slotStateWrite [] k 0) s = .next t ∧ s.slotOnly t k ∧
      t.slot k = { s.slot k with state := .free } ∧ t.slotShows k ∧
      t.req.order = s.req.order.filter (fun j => j ≠ k) ∧ t.req.misuse = s.req.misuse) ∧
    ((s.slot k).state = .active → (s.slot k).kind = some .fetchCapture ∨ (s.slot k).kind = some .fetchNext →
      (∀ id sector page, s.store.hostOp ≠ some (.read k id sector page)) →
      ∃ t, exec (.slotStateWrite [] k 0) s = .next t ∧ s.slotOnly t k ∧
        t.slot k = { s.slot k with cancel := true } ∧ t.slotShows k ∧ t.req.order = s.req.order ∧
        t.req.misuse = s.req.misuse) ∧
    ((s.slot k).state = .active → (s.slot k).kind = some .readStored ∨ (s.slot k).kind = some .readStoredNext →
      ((∃ id sector page, s.store.hostOp = some (.read k id sector page)) → s.store.job = .pageRead →
        ∃ t, exec (.slotStateWrite [] k 0) s = .next t ∧ s.slotOnly t k ∧
          t.slot k = { s.slot k with cancel := true } ∧ t.slotShows k) ∧
      ((∃ id sector page, s.store.hostOp = some (.read k id sector page)) → s.store.job ≠ .pageRead →
        ∃ t, exec (.slotStateWrite [] k 0) s = .next t ∧ State.Completed t k .refused .cancelled [] ∧
          t.store.hostOp = none ∧ t.store.state = .ready ∧ t.req.chain = .broken)) ∧
    ((s.slot k).state = .active → (∀ r, (s.slot k).kind = some r → r.cancellable = false) →
      ∃ t, exec (.slotStateWrite [] k 0) s = .next t ∧ s.slotOnly t k ∧ t.slot k = s.slot k ∧
        t.slotShows k ∧ t.req.order = s.req.order ∧ t.req.misuse = s.req.misuse) ∧
    ∀ v : Word, ¬(v = 1 ∧ (s.slot k).state = .free) → ¬(v = 0 ∧ (s.slot k).state ≠ .free) →
      ∃ t, exec (.slotStateWrite [] k v) s = .next t ∧ s.slotOnly t k ∧ t.slot k = s.slot k ∧
        t.slotShows k ∧ t.req.order = s.req.order ∧
        t.req.misuse = if s.req.misuse < 65535 then s.req.misuse + 1 else 65535

/-- While PORT CONTROL reads STARTING a write to a slot or list state word, or to a clear word, is answered by the value that
start-up gives that word, and the misuse count stays (R178). -/
def Obligations.WritesWhileStarting : Prop :=
  ∀ s : State, s.req.starting = true →
    (∀ (k : Fin 8) (v : Word), ∃ t, exec (.slotStateWrite [] k v) s = .next t ∧ t = { s with mem := t.mem } ∧
      t.mem.readWord (slotAddr k) = 0) ∧
    (∀ (k : Fin 8) (v : Word), ∃ t, exec (.listEntryStateWrite k v) s = .next t ∧ t = { s with mem := t.mem } ∧
      t.mem.readWord (entryAddr k) = 0) ∧
    (∀ (c : Channel) (v : Word), ∃ t, exec (.stickyErrorClearWrite c v) s = .next t ∧ t = { s with mem := t.mem } ∧
      t.mem.readWord (stickyClearAddr c) = 0) ∧
    ∀ v : Word, ∃ t, exec (.alarmSeenClearWrite v) s = .next t ∧ t = { s with mem := t.mem } ∧
      t.mem.readWord alarmClearAddr = 0

/-- A host write to the state word of a list entry, row by row of the table of R141. -/
def Obligations.ListEntryWriteTable : Prop :=
  ∀ (s : State) (k : Fin 8), s.req.starting = false →
    ((s.record.listEntry k).state = .filled ∨ (s.record.listEntry k).state = .taken →
      ∃ t, exec (.listEntryStateWrite k 2) s = .next t ∧ s.entryOnly t k ∧
        t.record.listEntry k = { s.record.listEntry k with state := .taken } ∧ t.req.misuse = s.req.misuse) ∧
    (∃ t, exec (.listEntryStateWrite k 0) s = .next t ∧ s.entryOnly t k ∧
      (t.record.listEntry k).state = .empty ∧ (t.record.listEntry k).id = none ∧ t.req.misuse = s.req.misuse) ∧
    ∀ v : Word, v ≠ 0 → ¬(v = 2 ∧ (s.record.listEntry k).state ≠ .empty) →
      ∃ t, exec (.listEntryStateWrite k v) s = .next t ∧ s.entryOnly t k ∧
        t.record.listEntry k = s.record.listEntry k ∧
        t.req.misuse = if s.req.misuse < 65535 then s.req.misuse + 1 else 65535

/-- The host's writes to the clear words: members and flags written as one leave, the others stay, and the word reads zero
again (R17, R112). -/
def Obligations.ClearWordWrites : Prop :=
  (∀ (s : State) (c : Channel) (v : Word), s.req.starting = false →
    ∃ t, exec (.stickyErrorClearWrite c v) s = .next t ∧ t = { s with meas := t.meas, mem := t.mem } ∧
      t.meas = { s.meas with receivers := t.meas.receivers } ∧ (∀ d, d ≠ c → t.receiver d = s.receiver d) ∧
      t.receiver c = { s.receiver c with errors :=
        { framing := (s.receiver c).errors.framing && !v.getLsbD 0, parity := (s.receiver c).errors.parity && !v.getLsbD 1
          overrun := (s.receiver c).errors.overrun && !v.getLsbD 2, missing := (s.receiver c).errors.missing && !v.getLsbD 3
          overload := (s.receiver c).errors.overload && !v.getLsbD 4 } } ∧
      t.mem.readWord (stickyClearAddr c) = 0 ∧
      ∀ a, ¬(stickyClearAddr c ≤ a ∧ a < stickyClearAddr c + 2) → t.mem.read a = s.mem.read a) ∧
  ∀ (s : State) (v : Word), s.req.starting = false →
    ∃ t, exec (.alarmSeenClearWrite v) s = .next t ∧ t = { s with faults := t.faults, mem := t.mem } ∧
      t.faults = { s.faults with entries := t.faults.entries } ∧
      (∀ k : FaultKind, t.faults.entry k = { s.faults.entry k with
        seen := (s.faults.entry k).seen && !(decide (22 ≤ k.num.val) && v.getLsbD (k.num.val - 22)) }) ∧
      t.mem.readWord alarmClearAddr = 0 ∧ ∀ a, ¬(alarmClearAddr ≤ a ∧ a < alarmClearAddr + 2) → t.mem.read a = s.mem.read a

/-! ### Requests -/

/-- A take whose kind word names no kind is refused with UNKNOWN KIND, and a take that finds no such slot at the head of the
order does not occur (R166; that it then changes nothing is the model's choice, log 3). -/
def Obligations.UnknownKindRefused : Prop :=
  (∀ (s : State) (k : Fin 8) (rest : List (Fin 8)), s.atHead none k rest →
    ∃ t, exec .requestUnknownKind s = .next t ∧ State.Answered s t k rest .refused .unknownKind []) ∧
  ∀ s : State, s.req.order = [] → exec .requestUnknownKind s = .next s

/-- LOAD SETTINGS: class, parameters, resources and the image's own check, in this order; the image is named by word 1 of the
result of a refusal for an image word (R172). BUSY for a held transfer area, for a group that already awaits force, and for
the STORE group in the cases of R151. An image is refused for its first word out of range, in the order of its ranges, and else
for the first check between fields that fails (R39, R62, R63, R82, R103, R122, R143, R151); with none it passes. The model's
choices in what an image's check reports: no range of its own for idf (log 23), word 1 for a STORE base address out of range
(log 58). -/
def Obligations.LoadSettingsRefusals : Prop :=
  ∀ (s : State) (k : Fin 8) (rest : List (Fin 8)), s.atHead (some .loadSettings) k rest →
    let g := (s.param k 0).toNat
    let off := (s.param k 1).toNat
    let len := (s.param k 2).toNat
    ((g = 0 ∨ g = 4) → s.seq.drive.running = true →
      ∃ t, exec .loadSettings s = .next t ∧ State.Answered s t k rest .refused .state []) ∧
    (4 < g → ∃ t, exec .loadSettings s = .next t ∧ State.Answered s t k rest .refused .invalid [0, 0]) ∧
    (g ≤ 4 → (g = 0 ∨ g = 4 → s.seq.drive.running = false) → len ≠ [46, 49, 32, 2, 19].getD g 0 →
      ∃ t, exec .loadSettings s = .next t ∧ State.Answered s t k rest .refused .invalid [2, 0]) ∧
    (g ≤ 4 → (g = 0 ∨ g = 4 → s.seq.drive.running = false) → len = [46, 49, 32, 2, 19].getD g 0 → 4096 < off + len →
      ∃ t, exec .loadSettings s = .next t ∧ State.Answered s t k rest .refused .invalid [1, 0]) ∧
    let engaged := s.store.state = .scanning ∨ s.store.state = .busy ∨
      (s.store.state = .ready ∧ (s.store.queue ≠ [] ∨ s.store.job ≠ .idle ∨ s.store.erase ≠ .none))
    let busy := s.req.holder.isSome = true ∨ (g = 1 ∧ s.gov.awaiting.isSome = true) ∨
      (g = 2 ∧ s.watch.awaiting.isSome = true) ∨ (g = 4 ∧ (s.store.awaiting.isSome = true ∨ engaged))
    (g ≤ 4 → (g = 0 ∨ g = 4 → s.seq.drive.running = false) → len = [46, 49, 32, 2, 19].getD g 0 → off + len ≤ 4096 →
      busy → ∃ t, exec .loadSettings s = .next t ∧ State.Answered s t k rest .refused .busy []) ∧
    (g ≤ 4 → (g = 0 ∨ g = 4 → s.seq.drive.running = false) → len = [46, 49, 32, 2, 19].getD g 0 → off + len ≤ 4096 →
      ¬busy →
      let w := fun i => (s.mem.readWord (transferAddr + 2 * (off + i))).toNat
      let refused := fun i => ∃ t, exec .loadSettings s = .next t ∧
        State.Answered { s with req := { s.req with chain := .broken } } t k rest .refused .invalid [natWord i, 1]
      let image := s.mem.readWords (transferAddr + 2 * off) len
      let v := fun i => if wideField g i then w i + 65536 * w (i + 1) else w i
      let ranges := imageRanges g (w 0)
      let checks := imageChecks g v
      let within := fun r : Nat × Nat × Nat => r.2.1 ≤ v r.1 ∧ v r.1 ≤ r.2.2 ∧ (g = 4 → r.1 = 1 → v 1 % 4096 = 0)
      (∀ i, imageBad g image = some i → refused i) ∧
      (∀ (j : Nat) (r : Nat × Nat × Nat), ranges[j]? = some r → (∀ q ∈ ranges.take j, within q) → ¬within r → refused r.1) ∧
      (∀ (j : Nat) (c : Nat × Bool), checks[j]? = some c → (∀ r ∈ ranges, within r) → (∀ q ∈ checks.take j, q.2 = true) → c.2 = false →
        refused c.1) ∧
      ((∀ r ∈ ranges, within r) → (∀ c ∈ checks, c.2 = true) → imageBad g image = none) ∧
      (g = 0 → 2 < w 0 → refused 0) ∧
      (g = 0 → w 0 ≤ 2 → (w 1 < 1000 ∨ 4000 < w 1) → refused 1) ∧
      (g = 1 → (w 0 < 2 ∨ 16 < w 0) → refused 0) ∧
      (g = 1 → 2 ≤ w 0 → w 0 ≤ 16 → 20000 < w 1 → refused 1) ∧
      (g = 2 → 1 < w 0 → refused 0) ∧
      (g = 2 → (∀ i, i < 6 → w i ≤ 1) → 18000 < w 6 → refused 6) ∧
      (g = 3 → 250 < w 0 → refused 0) ∧
      (g = 3 → w 0 ≤ 250 → 2047 < w 1 → refused 1) ∧
      (g = 4 → 1 < w 0 → refused 0) ∧
      (g = 4 → w 0 ≤ 1 → w 2 ≤ 255 → (w 1 + 65536 * w 2) % 4096 = 0 → w 1 + 65536 * w 2 ≤ 0xFFF000 → (w 3 < 8 ∨ 256 < w 3) →
        refused 3))

/-- LOAD SETTINGS of a DRIVE group that passes its checks: in force at the take, host target clamped, chain BROKEN, DONE with
the group as result word 0 (R39, R40, R172). As the last of the five groups, with the store settled, it brings the departure
from UNCONFIGURED: STOPPED, or, with trip kinds latched, TRIPPED with a record that holds them in kind-number order (R20,
R107). What it changes elsewhere: the windows of the encoders under a new line count, up to the speed 0 of the next update
(R8), the shell position under a new count (R12), drive speed and encoder in use under a new pinion set (R7, R9), the motors
that leave and enter the set (R71, R119), and a GATE FAULT input found active at an entry (R71). The model's choices: the
checks give idf no range of its own (log 23), and a flag of each encoder brings the speed 0 of the next update (log 14). -/
def Obligations.LoadDriveInForce : Prop :=
  ∀ (s : State) (k : Fin 8) (rest : List (Fin 8)), s.atHead (some .loadSettings) k rest → s.param k 0 = 0 →
    s.param k 2 = 46 → (s.param k 1).toNat + 46 ≤ 4096 →
    s.req.holder = none → imageBad 0 (s.mem.readWords (transferAddr + 2 * (s.param k 1).toNat) 46) = none →
    let new := DriveSettings.ofImage (s.mem.readWords (transferAddr + 2 * (s.param k 1).toNat) 46)
    let enters := fun x => s.cfg.pinion.has x = false ∧ new.pinion.has x = true
    let leaves := fun x => s.cfg.pinion.has x = true ∧ new.pinion.has x = false
    let quiet := ∀ x, enters x → s.inputs.gateFault.get x = false
    let others := s.gov.envelope.isSome = true ∧ s.watch.settings.isSome = true ∧ s.record.settings.isSome = true ∧
      s.store.settings.isSome = true ∧ s.store.state ≠ .scanning
    let loaded := fun t : State => exec .loadSettings s = .next t ∧ t.drive = some new ∧ t.req.chain = .broken ∧
      State.Completed t k .done .ok [0] ∧ t.watch = s.watch ∧ t.pending = s.pending ∧ t.inputs = s.inputs
    (quiet → s.seq.drive = .stopped ∨ s.seq.drive = .tripped →
      ∃ t, loaded t ∧ t.seq = { s.seq with hostTarget := min s.seq.hostTarget new.nmax } ∧ t.gov = s.gov ∧
        t.record = s.record ∧ t.store = s.store ∧ ∀ a, ¬inAnswer k a → t.mem.read a = s.mem.read a) ∧
    (quiet → s.seq.drive = .unconfigured → ¬others →
      ∃ t, loaded t ∧ t.seq = { s.seq with hostTarget := min s.seq.hostTarget new.nmax } ∧ t.gov = s.gov ∧
        t.record = s.record ∧ t.store = s.store ∧ ∀ a, ¬inAnswer k a → t.mem.read a = s.mem.read a) ∧
    (quiet → s.seq.drive = .unconfigured → others → s.seq.restartPending = false →
      (∀ f ∈ FaultKind.tripKinds, (s.faults.entry f).latched = false) →
      ∃ t, loaded t ∧ t.gov.atRest ∧ t.record = s.record ∧ t.store = s.store ∧ t.faults.lock = s.faults.lock ∧
        t.seq = { s.seq with
          hostTarget := min s.seq.hostTarget new.nmax, gate := ⟨false, false⟩, drive := .stopped } ∧
        ∀ a, ¬inAnswer k a → t.mem.read a = s.mem.read a) ∧
    (∀ (f : FaultKind) (fs : List FaultKind) (r : RecordSettings), quiet → s.seq.drive = .unconfigured → others →
      s.seq.restartPending = false → s.faults.lock = false →
      (FaultKind.tripKinds.filter fun f => (s.faults.entry f).latched) = f :: fs → fs.length ≤ 7 →
      s.record.settings = some r → r.window ≠ 0 → s.record.idCounter < 0xFFFFFFFF →
      ∃ t, loaded t ∧ t.gov.atRest ∧ t.seq = Sequencer.afterTrip { s.seq with hostTarget := min s.seq.hostTarget new.nmax } ∧
        t.faults.lock = true ∧ t.faults.windowOpen = true ∧ t.faults.firstCauseTime = s.req.partTime ∧
        (∀ j, (t.faults.entry j).latched = (s.faults.entry j).latched) ∧
        (∀ j ∈ FaultKind.tripKinds, (t.faults.entry j).riseTime = (s.faults.entry j).riseTime ∧
          (t.faults.entry j).detail = (s.faults.entry j).detail) ∧
        ∃ o, t.record.openRecord = some o ∧ o.id = s.record.idCounter ∧ o.drive = .stopped ∧
          o.first = some (f, (s.faults.entry f).detail) ∧
          o.followOns = (fs.map fun j => (⟨j, (s.faults.entry j).detail, 0⟩ : FollowOn))) ∧
    (quiet → s.seq.drive = .stopped ∨ s.seq.drive = .tripped ∨ (s.seq.drive = .unconfigured ∧ ¬others) →
      ∃ t, loaded t ∧
        let same := new.pinion = s.cfg.pinion
        let a := s.meas.encoders.a
        let b := s.meas.encoders.b
        let inUse := if a.lost = true then (if b.lost = true then none else some .b) else if b.lost = true then some .a
          else if new.pinion = .bOnly then some Side.b else some Side.a
        let h := if new.countsPerShell = s.cfg.countsPerShell then s.meas.shell
          else { s.meas.shell with p := 0, reference := false, valid := false }
        (∀ x, let e := s.meas.encoders.get x
          t.meas.encoders.get x = { e with
            window := if new.countsPerRev = s.cfg.countsPerRev then e.window else List.replicate 8 0
            speedZeroNext := e.speedZeroNext || decide (new.countsPerRev ≠ s.cfg.countsPerRev)
            speed := if e.lost = true ∧ ¬same then t.meas.n else e.speed }) ∧
        t.meas.n = (if same then s.meas.n
          else if a.lost = true then (if b.lost = true then s.meas.n else b.speed)
          else if b.lost = true then a.speed
          else if new.pinion = .both then truncDiv (a.speed + b.speed) 2
          else if new.pinion = .aOnly then a.speed else b.speed) ∧
        t.meas.shell = (if same ∨ h.inUse = inUse then h
          else { h with inUse := inUse, p := 0, reference := false, valid := false }) ∧
        t.sourcePresent .positionInvalid .first = (t.meas.shell.onceValid && !t.meas.shell.valid) ∧
        t.meas.links = s.meas.links ∧ t.meas.receivers = s.meas.receivers ∧
        (∀ x, leaves x → (t.regs.get x).missing = 0 ∧ (t.regs.get x).overcurrent = false ∧
          (t.regs.get x).gateFault = false ∧ (t.regs.get x).measLoss = false ∧ (t.regs.get x).limitedCond = false ∧
          (t.regs.get x).limitedRun = 0 ∧ t.level.counts.get x = ⟨0, 0, 0⟩ ∧
          (∀ f ∈ [FaultKind.overcurrent x, .gateFault x, .measLoss x, .dcUndervolt x, .dcOvervolt x],
            t.sourcePresent f .first = false) ∧
          t.sourcePresent .voltageLimited (sourceOf x) = false ∧ t.sourcePresent .dcLow (sourceOf x) = false) ∧
        (∀ x, enters x → t.regs.get x = { s.regs.get x with
            missing := 0, overcurrent := false, measLoss := false, limitedCond := false, limitedRun := 0 } ∧
          t.level.counts.get x = ⟨0, 0, 0⟩) ∧
        (∀ x, ¬leaves x → ¬enters x → t.regs.get x = s.regs.get x ∧ t.level.counts.get x = s.level.counts.get x) ∧
        (∀ f, (t.faults.entry f).latched = (s.faults.entry f).latched) ∧
        (new.countsPerRev ≠ s.cfg.countsPerRev → s.seq.restartPending = false → s.inputs.lineBreak = ⟨false, false⟩ →
          (∀ x, (s.meas.encoders.get x).touched = false ∧ (s.meas.encoders.get x).lost = false) →
          ∃ u, exec .speedWindowUpdate t = .next u ∧ ∀ x, (u.meas.encoders.get x).speed = 0)) ∧
    ∀ x : Side, enters x → s.inputs.gateFault.get x = true → s.sourcePresent (.gateFault x) .first = false →
      (s.seq.drive = .stopped → s.tripReady →
        ∃ t, loaded t ∧ State.Tripped { s with
            drive := some new, seq := { s.seq with hostTarget := min s.seq.hostTarget new.nmax } } t (.gateFault x) ∧
          (t.regs.get x).gateBlock = true ∧ (t.regs.get x).gateFault = true ∧ t.present (.gateFault x) = true) ∧
      ((s.seq.drive = .unconfigured ∧ ¬others) ∨
        (s.seq.drive = .tripped ∧ s.faults.lock = true ∧ s.faults.windowOpen = false) →
        ∃ t, loaded t ∧ t.seq = { s.seq with hostTarget := min s.seq.hostTarget new.nmax } ∧
          (t.faults.entry (.gateFault x)).latched = true ∧ t.present (.gateFault x) = true ∧
          (t.regs.get x).gateBlock = true ∧ (t.regs.get x).gateFault = true ∧ t.faults.lock = s.faults.lock ∧
          t.record = s.record ∧ t.store = s.store)

/-- LOAD SETTINGS of the groups that come into force later, and of a RECORD group (R63, R103, R143, R151, R172): the first
RECORD group makes the first FREE bank LIVE (R125); a STORE group starts a scan, or with present NO makes the store ABSENT; as
the last of the five, a RECORD group and a STORE group with present NO bring the departure from UNCONFIGURED, to STOPPED or,
with a trip kind latched, to TRIPPED (R20, R107). A VIBRATION group comes into force at a block end (R18, R104), and a STORE
group at the end of its scan, READY with its open sector or its sector to open, the id counter raised and the queue freed of
old ids (R151, R153); each may bring the departure from UNCONFIGURED (R20). The model's choices: BLOCK_END is the sample
period at block position 255 (log 2), the next slot at the acceptance (log 44), the order of the work at the end of a scan
(log 39), the queue before the sector-ahead erase (log 25). -/
def Obligations.LoadOtherGroups : Prop :=
  (∀ (s : State) (k : Fin 8) (rest : List (Fin 8)), s.atHead (some .loadSettings) k rest → s.req.holder = none →
    let off := (s.param k 1).toNat
    let image := fun n => s.mem.readWords (transferAddr + 2 * off) n
    (s.param k 0 = 1 → s.param k 2 = 49 → off + 49 ≤ 4096 → s.gov.awaiting = none → imageBad 1 (image 49) = none →
      ∃ t, exec .loadSettings s = .next t ∧ State.Activated { s with
        gov := { s.gov with awaiting := some (envelopeOf (image 49), k) }, req := { s.req with chain := .broken } } t k rest) ∧
    (s.param k 0 = 2 → s.param k 2 = 32 → off + 32 ≤ 4096 → s.watch.awaiting = none → imageBad 2 (image 32) = none →
      ∃ t, exec .loadSettings s = .next t ∧ State.Activated { s with
        watch := { s.watch with awaiting := some (VibSettings.ofImage (image 32), k) }
        req := { s.req with chain := .broken } } t k rest) ∧
    let others3 := s.drive.isSome = true ∧ s.gov.envelope.isSome = true ∧ s.watch.settings.isSome = true ∧
      s.store.settings.isSome = true ∧ s.store.state ≠ .scanning
    let others4 := s.drive.isSome = true ∧ s.gov.envelope.isSome = true ∧ s.watch.settings.isSome = true ∧
      s.record.settings.isSome = true
    let latched := ∃ f ∈ FaultKind.tripKinds, (s.faults.entry f).latched = true
    (s.param k 0 = 3 → s.param k 2 = 2 → off + 2 ≤ 4096 → s.seq.drive ≠ .unconfigured ∨ ¬others3 →
      (image 2).getD 0 0 ≤ 250 → (image 2).getD 1 0 ≤ 2047 →
      ∃ t, exec .loadSettings s = .next t ∧
        t.record.settings = some ⟨((image 2).getD 0 0).toNat, ((image 2).getD 1 0).toNat⟩ ∧
        t.record = { s.record with settings := t.record.settings, banks := t.record.banks } ∧
        (s.record.activeBanks ≠ 0 → t.record.banks = s.record.banks) ∧
        (s.record.activeBanks = 0 → ∀ i, (s.record.bank i).state = .free → (∀ j, j < i → (s.record.bank j).state ≠ .free) →
          (∀ j, j ≠ i → t.record.bank j = s.record.bank j) ∧
          t.record.bank i = { s.record.bank i with
            state := .live, generation := (s.record.bank i).generation + 1, writeIndex := 0, valid := 0, postWritten := 0
            trigId := none, pre := ((image 2).getD 1 0).toNat }) ∧
        t.req.chain = .broken ∧
        State.Completed t k .done .ok [3] ∧ t.seq = s.seq ∧ t.gov = s.gov ∧ t.faults = s.faults ∧ t.regs = s.regs ∧
        t.store = s.store ∧ s.sameField t ∧ ∀ a, ¬inAnswer k a → t.mem.read a = s.mem.read a) ∧
    (s.param k 0 = 3 → s.param k 2 = 2 → off + 2 ≤ 4096 → s.seq.drive = .unconfigured → others3 →
      s.seq.restartPending = false → (image 2).getD 0 0 ≤ 250 → (image 2).getD 1 0 ≤ 2047 →
      ∃ t, exec .loadSettings s = .next t ∧
        t.record.settings = some ⟨((image 2).getD 0 0).toNat, ((image 2).getD 1 0).toNat⟩ ∧
        State.Completed t k .done .ok [3] ∧ t.gov.atRest ∧
        (¬latched → t.seq = { s.seq with gate := ⟨false, false⟩, drive := .stopped } ∧
          t.faults.lock = s.faults.lock ∧ t.record.openRecord = s.record.openRecord ∧ t.record.idCounter = s.record.idCounter ∧
          (s.record.activeBanks = 0 → (s.record.bank 0).state = .free → (t.record.bank 0).state = .live ∧
            (t.record.bank 0).pre = ((image 2).getD 1 0).toNat)) ∧
        (latched → s.faults.lock = false → t.seq = s.seq.afterTrip ∧ t.faults.lock = true)) ∧
    (s.param k 0 = 4 → s.param k 2 = 19 → off + 19 ≤ 4096 → s.seq.drive.running = false →
      (s.store.state = .absent ∨ s.store.state = .outOfService ∨
        (s.store.state = .ready ∧ s.store.queue = [] ∧ s.store.job = .idle ∧ s.store.erase = .none)) →
      s.store.awaiting = none → imageBad 4 (image 19) = none →
      let cleared := fun t : State => t.store.sectors = [] ∧ t.store.badCount = 0 ∧ t.store.openSector = none ∧
        t.store.toOpen = none ∧ t.store.erase = .none ∧ t.store.eraseSector = none ∧ t.store.readPtr = none ∧
        t.store.dropped = s.store.dropped ∧ t.store.failed = s.store.failed ∧ t.store.hostOp = none ∧
        t.store.queue = s.store.queue ∧ t.sourcePresent .storeFault .first = false ∧ t.gov = s.gov ∧ s.sameField t
      ((image 19).getD 0 0 = 1 →
        ∃ t, exec .loadSettings s = .next t ∧ cleared t ∧ t.store.state = .scanning ∧
          t.store.awaiting = some (StoreSettings.ofImage (image 19), k) ∧ t.store.settings = s.store.settings ∧
          t.store.job = .scanPoll ∧ t.store.transfer = none ∧ t.store.pollElapsed = 0 ∧ (t.slot k).state = .active ∧
          t.req.notice.getLsbD noticeStore = true ∧ t.seq = s.seq ∧ t.regs = s.regs ∧ t.record = s.record ∧
          ∀ a, ¬(slotAddr k ≤ a ∧ a < slotAddr k + 2) → t.mem.read a = s.mem.read a) ∧
      ((image 19).getD 0 0 = 0 → s.seq.drive = .unconfigured → others4 → s.seq.restartPending = false →
        ∃ t, exec .loadSettings s = .next t ∧ t.store.state = .absent ∧
          t.store.settings = some (StoreSettings.ofImage (image 19)) ∧ State.Completed t k .done .ok [4] ∧ t.gov.atRest ∧
          (¬latched → t.seq = { s.seq with gate := ⟨false, false⟩, drive := .stopped } ∧
            t.faults.lock = s.faults.lock ∧ t.record = s.record) ∧
          (latched → s.faults.lock = false → t.seq = s.seq.afterTrip ∧ t.faults.lock = true)) ∧
      ((image 19).getD 0 0 = 0 → s.seq.drive ≠ .unconfigured ∨ ¬others4 →
        ∃ t, exec .loadSettings s = .next t ∧ cleared t ∧ t.store.state = .absent ∧
          t.store.settings = some (StoreSettings.ofImage (image 19)) ∧ t.store.awaiting = none ∧ t.req.chain = .broken ∧
          State.Completed t k .done .ok [4] ∧ (s.store.state ≠ .absent → t.req.notice.getLsbD noticeStore = true) ∧
          t.seq = s.seq ∧ t.regs = s.regs ∧ t.record = s.record ∧ ∀ a, ¬inAnswer k a → t.mem.read a = s.mem.read a))) ∧
  (∀ (s : State) (v : VibSettings) (k : Fin 8), s.watch.blockPos = 255 → s.watch.awaiting = some (v, k) →
    s.seq.restartPending = false →
    let others := s.drive.isSome = true ∧ s.gov.envelope.isSome = true ∧ s.record.settings.isSome = true ∧
      s.store.settings.isSome = true ∧ s.store.state ≠ .scanning
    ∃ t, exec .blockEnd s = .next t ∧ t.watch.settings = some v ∧ t.watch.awaiting = none ∧
      State.Completed t k .done .ok [2] ∧ t.watch.imageCount = s.watch.imageCount + 2 ∧
      t.mem.readWord mapImageAddr = s.watch.imageCount + 2 ∧ t.vibrationLaw ∧
      (∀ c, s.watch.fitted c ≠ vget v.fitted c → t.channel c = ChannelWatch.reset ∧
        t.receiver c = { Receiver.reset with waitIdle := vget v.fitted c }) ∧
      (∀ c, s.watch.fitted c = true → vget v.fitted c = false → t.mem.readWord (stickyClearAddr c) = 0) ∧
      (∀ c, s.watch.fitted c = true → vget v.fitted c = true →
        ((t.channel c).sectorAlert = true ↔ ∃ e ∈ (t.channel c).map, vget v.sector c ≤ e)) ∧
      (s.seq.drive = .unconfigured → ¬others → t.seq = s.seq) ∧
      (s.seq.drive = .unconfigured → others → (∀ f ∈ FaultKind.tripKinds, (s.faults.entry f).latched = false) →
        t.seq.drive = .stopped)) ∧
  ∀ (s : State) (c : StoreSettings) (k : Fin 8) (i : Nat) (tx rx : List Byte),
    let u := s.store
    let table := u.sectors.modify i fun e => { e with slots := e.slots.set 14 (classifySlot rx) }
    let inForce := fun t : State => exec (.flashTransferEnd rx) s = .next t ∧ t.store.state = .ready ∧
      t.store.settings = some c ∧ t.store.awaiting = none ∧ State.Completed t k .done .ok [4] ∧
      t.req.notice.getLsbD noticeStore = true ∧
      (s.seq.drive ≠ .unconfigured → t.seq = s.seq) ∧ (s.awaitsStore → t.seq.drive = .stopped)
    u.state = .scanning → u.awaiting = some (c, k) → u.transfer = some ⟨tx, 256⟩ → rx.length = 256 → u.toOpen = none →
    u.erase = .none → (s.seq.drive = .unconfigured → s.awaitsStore) →
    (∀ (o q p g : Nat) (e : Sector), u.job = .scanSlot i 15 → (∀ x ∈ table.drop (i + 1), x.state ≠ .full) →
      table[o]? = some e → e.state = .full → e.seq = some q →
      (∀ x ∈ table.eraseIdx o, x.state = .full → x.seq.getD 0 < q) →
      firstBlank e.slots = some p →
      (∀ x ∈ table, x.state ≠ .bad → ∀ y ∈ x.validIds, y.1 ≤ g) →
      (g = 0 ∨ ∃ x ∈ table, x.state ≠ .bad ∧ ∃ y ∈ x.validIds, y.1 = g) →
      ∃ t, inForce t ∧ t.store.openSector = some o ∧ t.store.nextSlot = p ∧
        t.store.sectors[o]? = some { e with state := .opened } ∧
        t.record.idCounter = max s.record.idCounter (1 + g) ∧
        t.store.queue = (u.queue.filter fun r => decide (g < r.id)) ∧
        (u.dropped + (u.queue.filter fun r => decide (r.id ≤ g)).length ≤ 65535 →
          t.store.dropped = u.dropped + (u.queue.filter fun r => decide (r.id ≤ g)).length) ∧
        (t.store.queue ≠ [] → t.store.job = .bodyEnable ∧ t.store.transfer = some ⟨[c.opWriteEnable], 0⟩)) ∧
    ∀ j : Nat, u.job = .scanHeader i → c.ns ≤ i + 1 → u.badCount < 3 → rx = List.replicate 256 0xFF →
      let sectors := u.sectors ++ [⟨.erased, none, List.replicate 15 .blank⟩]
      (∀ x ∈ sectors, x.state = .erased ∨ (x.state = .bad ∧ x.seq = none)) →
      (sectors[j]?).map Sector.state = some .erased → (∀ m, m < j → (sectors[m]?).map Sector.state = some .bad) →
      (∀ x ∈ sectors, x.validIds = []) → u.openSector = none →
      ∃ t, inForce t ∧ t.store.openSector = none ∧ t.store.toOpen = some (j, 1) ∧ t.store.job = .openEnable ∧
        t.store.transfer = some ⟨[c.opWriteEnable], 0⟩ ∧ t.store.queue = u.queue.filter fun r => decide (0 < r.id)

/-- READ SETTINGS (R173): the image of the group in force, or NO EFFECT. The image of settings that were loaded is the image
they were loaded from, word for word; an ENVELOPE image beyond its breakpoints is zeros (log 22). And which word of an image
that passes its checks is which field, for each of the five groups (R185), with the codes of R186 and the two-word values low
word first. -/
def Obligations.ReadSettingsGivesGroupInForce : Prop :=
  (∀ (s : State) (k : Fin 8) (rest : List (Fin 8)), s.atHead (some .readSettings) k rest →
    let g := (s.param k 0).toNat
    let off := (s.param k 1).toNat
    let len := [46, 49, 32, 2, 19].getD g 0
    (4 < g → ∃ t, exec .readSettings s = .next t ∧ State.Answered s t k rest .refused .invalid [0, 0]) ∧
    (g ≤ 4 → 4096 < off + len →
      ∃ t, exec .readSettings s = .next t ∧ State.Answered s t k rest .refused .invalid [1, 0]) ∧
    (g ≤ 4 → off + len ≤ 4096 → s.req.holder.isSome = true →
      ∃ t, exec .readSettings s = .next t ∧ State.Answered s t k rest .refused .busy []) ∧
    (off + len ≤ 4096 → s.req.holder = none → (g = 0 ∧ s.drive = none) ∨ (g = 1 ∧ s.gov.envelope = none) ∨
      (g = 2 ∧ s.watch.settings = none) ∨ (g = 3 ∧ s.record.settings = none) ∨ (g = 4 ∧ s.store.settings = none) →
      ∃ t, exec .readSettings s = .next t ∧ State.Answered s t k rest .done .noEffect []) ∧
    let given := fun ws : List Word => ∃ t, exec .readSettings s = .next t ∧
      State.Completed t k .done .ok [natWord g, natWord len] ∧ t.req.chain = .broken ∧
      t.mem.readWords (transferAddr + 2 * off) len = ws ∧ s.sameBlocks t ∧
      ∀ a, ¬inAnswer k a → ¬(transferAddr + 2 * off ≤ a ∧ a < transferAddr + 2 * off + 2 * len) → t.mem.read a = s.mem.read a
    (∀ c : DriveSettings, g = 0 → off + len ≤ 4096 → s.req.holder = none → s.drive = some c → given c.image) ∧
    (∀ e : List Breakpoint, g = 1 → off + len ≤ 4096 → s.req.holder = none → s.gov.envelope = some e →
      given (envelopeImage e)) ∧
    (∀ v : VibSettings, g = 2 → off + len ≤ 4096 → s.req.holder = none → s.watch.settings = some v → given v.image) ∧
    (∀ r : RecordSettings, g = 3 → off + len ≤ 4096 → s.req.holder = none → s.record.settings = some r →
      given [natWord r.window, natWord r.pre]) ∧
    ∀ c : StoreSettings, g = 4 → off + len ≤ 4096 → s.req.holder = none → s.store.settings = some c → c.ident.length = 3 →
      given c.image) ∧
  (∀ ws : List Word, ws.length = 46 → imageBad 0 ws = none →
    let w := fun i => (ws.getD i 0).toNat
    let d := fun i => w i + 65536 * w (i + 1)
    (DriveSettings.ofImage ws).image = ws ∧
      DriveSettings.ofImage ws = {
        pinion := if w 0 = 0 then .both else if w 0 = 1 then .aOnly else .bOnly, fullScaleA := w 1, fullScaleB := w 2
        vdcFullScale := w 3, countsPerRev := d 4, countsPerShell := d 6, nmax := w 8, accelRate := w 9
        decelRate := w 10, magTime := w 11, nb := w 12, breakawayTime := w 13, creepSpeed := w 14, zeroBand := w 15
        zeroDwell := w 16, brakeSetTime := w 17, backrollSpeed := w 18
        permitAction := if w 19 = 0 then .ramp else .trip, kp := w 20, ki := w 21, lb := w 22, lc := w 23, rate := w 24
        share := w 25, kA := w 26, kB := w 27, imax := w 28, idf := w 29, devLimit := w 30, devTime := w 31
        jamDecel := w 32, polePairs := w 33, ksA := w 34, ksB := w 35, kpc := w 36, kic := w 37, mlim := w 38
        dmin := w 39, overcurrent := w 40, undervolt := w 41, low := w 42, overvolt := w 43, disagreeLimit := w 44
        disagreeTime := w 45 }) ∧
  (∀ ws : List Word, ws.length = 49 → imageBad 1 ws = none →
    let w := fun i => (ws.getD i 0).toNat
    envelopeImage (envelopeOf ws) = ws.take (1 + 3 * natAt ws 0) ++ List.replicate (48 - 3 * natAt ws 0) 0 ∧
      (envelopeOf ws).length = w 0 ∧
      ∀ k, k < w 0 → (envelopeOf ws)[k]? = some { speed := w (1 + 3 * k), lm := w (2 + 3 * k), lg := w (3 + 3 * k) }) ∧
  (∀ ws : List Word, ws.length = 32 → imageBad 2 ws = none →
    let w := fun i => (ws.getD i 0).toNat
    let v := VibSettings.ofImage ws
    v.image = ws ∧
      v = {
        fitted := v.fitted, watchSpeed := w 6, alert := v.alert, danger := v.danger, sector := v.sector, aOn := w 25
        dOn := w 26, off := w 27, alertDerate := w 28, dangerDerate := w 29, lostDerate := w 30, dwell := w 31 } ∧
      ∀ c : Channel, vget v.fitted c = decide (w c.val = 1) ∧ vget v.alert c = w (7 + c.val) ∧
        vget v.danger c = w (13 + c.val) ∧ vget v.sector c = w (19 + c.val)) ∧
  (∀ ws : List Word, ws.length = 2 →
    (RecordSettings.ofImage ws).image = ws ∧
      RecordSettings.ofImage ws = { window := (ws.getD 0 0).toNat, pre := (ws.getD 1 0).toNat }) ∧
  ∀ ws : List Word, ws.length = 19 → imageBad 4 ws = none →
    let w := fun i => (ws.getD i 0).toNat
    let b := fun i => BitVec.ofNat 8 (w i)
    (StoreSettings.ofImage ws).image = ws ∧
      StoreSettings.ofImage ws = {
        present := decide (w 0 = 1), base := w 1 + 65536 * w 2, ns := w 3, opIdent := b 4, opStatus := b 5
        opWriteEnable := b 6, opProgram := b 7, opErase := b 8, opSuspend := b 9, opResume := b 10, opRead := b 11
        ident := [b 12, b 13, b 14], programLimit := w 15, eraseLimit := w 16, suspendLimit := w 17
        suspendSupported := decide (w 18 = 1) }

/-- START (R21): refused outside STOPPED, for a parameter that is no code, and without the permit; else MAGNETIZING with the
gates of the pinion set active, and the governor at rest (R43). With both encoders LOST the drive trips at that entry (R120). -/
def Obligations.StartRule : Prop :=
  ∀ (s : State) (k : Fin 8) (rest : List (Fin 8)), s.atHead (some .start) k rest →
    (s.seq.drive ≠ .stopped → ∃ t, exec .start s = .next t ∧ State.Answered s t k rest .refused .state []) ∧
    (s.seq.drive = .stopped → 1 < (s.param k 0).toNat →
      ∃ t, exec .start s = .next t ∧ State.Answered s t k rest .refused .invalid [0, 0]) ∧
    (s.seq.drive = .stopped → (s.param k 0).toNat ≤ 1 → 1 < (s.param k 1).toNat →
      ∃ t, exec .start s = .next t ∧ State.Answered s t k rest .refused .invalid [1, 0]) ∧
    (s.seq.drive = .stopped → (s.param k 0).toNat ≤ 1 → (s.param k 1).toNat ≤ 1 → s.inputs.runPermit = false →
      ∃ t, exec .start s = .next t ∧ State.Answered s t k rest .refused .permit []) ∧
    (s.seq.drive = .stopped → (s.param k 0).toNat ≤ 1 → (s.param k 1).toNat ≤ 1 → s.inputs.runPermit = true →
      s.bothLost = false →
      ∃ t, exec .start s = .next t ∧
        t.seq = { s.seq with
          runKind := if s.param k 0 = 0 then .normal else .creep
          direction := if s.param k 1 = 0 then .forward else .reverse
          magCount := 0, flux := 0, gate := Pair.ofFn fun x => s.cfg.pinion.has x, drive := .magnetizing
          backroll := false } ∧
        t.gov.atRest ∧ State.Completed t k .done .ok [] ∧
        (∀ x, (t.regs.get x).gateBlock = ((s.regs.get x).gateBlock && ((s.regs.get x).overcurrent || (s.regs.get x).gateFault))) ∧
        t.faults.lock = s.faults.lock ∧ t.record = s.record ∧ t.store = s.store ∧ s.sameField t ∧
        ∀ a, ¬inAnswer k a → t.mem.read a = s.mem.read a) ∧
    (s.seq.drive = .stopped → (s.param k 0).toNat ≤ 1 → (s.param k 1).toNat ≤ 1 → s.inputs.runPermit = true →
      s.bothLost = true → s.tripReady → s.sourcePresent .encoderLoss .first = false →
      ∃ t, exec .start s = .next t ∧ State.Tripped { s with seq := { s.seq with
          runKind := if s.param k 0 = 0 then .normal else .creep
          direction := if s.param k 1 = 0 then .forward else .reverse } } t .encoderLoss ∧
        t.sourcePresent .encoderLoss .first = false ∧ State.Completed t k .done .ok [] ∧ s.sameField t)

/-- STOP by the drive state (table of R23). In BREAKAWAY and RUN both encoders LOST is a trip already taken (R120). -/
def Obligations.StopTable : Prop :=
  ∀ (s : State) (k : Fin 8) (rest : List (Fin 8)), s.atHead (some .stop) k rest →
    (s.seq.drive = .magnetizing → s.seq.restartPending = false →
      ∃ t, exec .stop s = .next t ∧ State.Completed t k .done .ok [] ∧ t.gov.atRest ∧
        t.seq = { s.seq with flux := 0, magCount := 0, gate := ⟨false, false⟩, drive := .stopped } ∧
        t.faults.lock = s.faults.lock ∧ t.record = s.record ∧ t.store = s.store ∧ s.sameField t ∧
        ∀ a, ¬inAnswer k a → t.mem.read a = s.mem.read a) ∧
    (s.seq.drive = .breakaway ∨ s.seq.drive = .run → (s.bothLost = true → s.sourcePresent .encoderLoss .first = true) →
      ∃ t, exec .stop s = .next t ∧ State.Completed t k .done .ok [] ∧ t.gov = s.gov ∧
        t.seq = { s.seq with drive := .stopping, phase := .decelerating, rampTarget := 0, zeroCount := 0, brakeCount := 0 } ∧
        t.faults.lock = s.faults.lock ∧ t.record = s.record ∧ t.store = s.store ∧ t.regs = s.regs ∧ s.sameField t ∧
        ∀ a, ¬inAnswer k a → t.mem.read a = s.mem.read a) ∧
    (s.seq.drive = .stopping ∨ s.seq.drive = .stopped →
      ∃ t, exec .stop s = .next t ∧ State.Answered s t k rest .done .noEffect []) ∧
    (s.seq.drive = .unconfigured ∨ s.seq.drive = .tripped →
      ∃ t, exec .stop s = .next t ∧ State.Answered s t k rest .refused .state [])

/-- SET SPEED and LIMIT TORQUE: the value clamped, OK or CLAMPED with the value taken, and in a NORMAL run the ramp target
formed again (R25, R27, R50). -/
def Obligations.SetSpeedAndLimitTorque : Prop :=
  (∀ (s : State) (k : Fin 8) (rest : List (Fin 8)) (w v : Int), s.atHead (some .setSpeed) k rest →
    w = (s.param k 0).toInt → v = (if w < 0 then 0 else if s.cfg.nmax < w then s.cfg.nmax else w) →
    ∃ t, exec .setSpeed s = .next t ∧
      State.Answered
        { s with seq := { s.seq with
          hostTarget := v
          rampTarget :=
            if (s.seq.drive = .breakaway ∨ s.seq.drive = .run) ∧ s.seq.runKind = .normal then
              (if v < 0 then 0 else if s.cfg.nmax < v then s.cfg.nmax else v)
            else if s.seq.drive = .breakaway ∨ s.seq.drive = .run then
              (if s.seq.direction = .forward then s.cfg.creepSpeed else -s.cfg.creepSpeed)
            else s.seq.rampTarget } }
        t k rest .done (if v = w then .ok else .clamped) (if v = w then [] else [intWord v])) ∧
  ∀ (s : State) (k : Fin 8) (rest : List (Fin 8)) (w v : Int), s.atHead (some .limitTorque) k rest →
    w = (s.param k 0).toInt → v = (if w < 0 then 0 else if 1000 < w then 1000 else w) →
    ∃ t, exec .limitTorque s = .next t ∧
      State.Answered { s with gov := { s.gov with h := v } } t k rest .done (if v = w then .ok else .clamped)
        (if v = w then [] else [intWord v])

/-- TRIP NOW (R114): a first cause of kind HOST TRIP, latched and not present; NO EFFECT in TRIPPED, refused in
UNCONFIGURED. -/
def Obligations.TripNowTable : Prop :=
  ∀ (s : State) (k : Fin 8) (rest : List (Fin 8)), s.atHead (some .tripNow) k rest →
    (s.tripReady → s.sourcePresent .hostTrip .first = false →
      ∃ t, exec .tripNow s = .next t ∧ State.Tripped s t .hostTrip ∧ t.sourcePresent .hostTrip .first = false ∧
        State.Completed t k .done .ok [] ∧ s.sameField t) ∧
    (s.seq.drive = .tripped → ∃ t, exec .tripNow s = .next t ∧ State.Answered s t k rest .done .noEffect []) ∧
    (s.seq.drive = .unconfigured → ∃ t, exec .tripNow s = .next t ∧ State.Answered s t k rest .refused .state [])

/-- TRIP CLEAR (R115): the checks STATE, OPEN and PRESENT in this order; accepted, every latched flag is NO, the lock is CLEAR
and the drive STOPPED (R35). -/
def Obligations.TripClearChecks : Prop :=
  ∀ (s : State) (k : Fin 8) (rest : List (Fin 8)), s.atHead (some .tripClear) k rest →
    (s.seq.drive ≠ .tripped → ∃ t, exec .tripClear s = .next t ∧ State.Answered s t k rest .refused .state []) ∧
    (s.seq.drive = .tripped → s.faults.windowOpen = true →
      ∃ t, exec .tripClear s = .next t ∧ State.Answered s t k rest .refused .isOpen []) ∧
    (s.seq.drive = .tripped → s.faults.windowOpen = false →
      (∃ f ∈ FaultKind.tripKinds, (s.faults.entry f).latched = true ∧ s.present f = true) →
      ∃ t, exec .tripClear s = .next t ∧ State.Answered s t k rest .refused .present []) ∧
    (s.seq.drive = .tripped → s.faults.windowOpen = false → s.seq.restartPending = false →
      (∀ f ∈ FaultKind.tripKinds, (s.faults.entry f).latched = true → s.present f = false) →
      ∃ t, exec .tripClear s = .next t ∧ State.Completed t k .done .ok [] ∧ t.faults.lock = false ∧
        (∀ f, (t.faults.entry f).latched = false) ∧
        t.seq = { s.seq with gate := ⟨false, false⟩, drive := .stopped } ∧ t.gov.atRest ∧ t.record = s.record ∧
          t.store = s.store ∧
        s.sameField t ∧ ∀ a, ¬inAnswer k a → t.mem.read a = s.mem.read a)

/-- ARM TRIGGER (R130): the first bad parameter refused by its index; accepted, the program is replaced and WAIT FIRST. Each
speed-below flag is formed from the drive speed now. That a condition other than SPEED BELOW keeps no x word is the model's
choice (log 21). -/
def Obligations.ArmTriggerRule : Prop :=
  ∀ (s : State) (k : Fin 8) (rest : List (Fin 8)), s.atHead (some .armTrigger) k rest →
    let p := fun i => (s.param k i).toNat
    let named := fun (code x : Nat) => [TrigCond.vibAlert, .vibDanger, .sectorAlert, .torqueAtLimit, .speedBelow x,
      .healthChange, .voltageLimited, .manual][code - 1]?
    let ok0 := 1 ≤ p 0 ∧ p 0 ≤ 8
    let ok1 := p 0 = 5 → p 1 ≤ 20000
    let ok2 := p 2 ≤ 8
    let ok3 := p 2 = 5 → p 3 ≤ 20000
    let ok4 := 1 ≤ p 4 ∧ p 4 ≤ 60000
    let refused := fun i : Word => ∃ t, exec .armTrigger s = .next t ∧ State.Answered s t k rest .refused .invalid [i, 0]
    ((p 0 < 1 ∨ 8 < p 0) → refused 0) ∧
    (p 0 = 5 → 20000 < p 1 → refused 1) ∧
    (ok0 → ok1 → 8 < p 2 → refused 2) ∧
    (ok0 → ok1 → p 2 = 5 → 20000 < p 3 → refused 3) ∧
    (ok0 → ok1 → ok2 → ok3 → (p 4 < 1 ∨ 60000 < p 4) → refused 4) ∧
    (ok0 → ok1 → ok2 → ok3 → ok4 → 1 < p 5 → refused 5) ∧
    (ok0 → ok1 → ok2 → ok3 → ok4 → p 5 ≤ 1 →
      ∃ t, exec .armTrigger s = .next t ∧
        State.Answered
          { s with record := { s.record with
            program := some ⟨(named (p 0) (p 1)).getD .manual, if p 2 = 0 then none else named (p 2) (p 3), p 4,
              decide (p 5 = 1)⟩
            trigState := .waitFirst
            belowFirst := decide (p 0 = 5 ∧ |s.meas.n| < (p 1 : Int))
            belowSecond := decide (p 2 = 5 ∧ |s.meas.n| < (p 3 : Int)) } }
          t k rest .done .ok [])

/-- DISARM TRIGGER and MANUAL TRIGGER (R134), which has no effect without a program too; the firing that a MANUAL TRIGGER brings
makes a trigger, LIVE to POST with its capture reference (R126), and posts a record where the list has room (R133, R140). That
the record shows 0 as the x word of a condition other than SPEED BELOW is the model's choice (log 21). -/
def Obligations.DisarmAndManualTrigger : Prop :=
  (∀ (s : State) (k : Fin 8) (rest : List (Fin 8)), s.atHead (some .disarmTrigger) k rest →
    (s.record.trigState = .disarmed →
      ∃ t, exec .disarmTrigger s = .next t ∧ State.Answered s t k rest .done .noEffect []) ∧
    (s.record.trigState ≠ .disarmed → ∃ t, exec .disarmTrigger s = .next t ∧
      State.Answered { s with record := { s.record with trigState := .disarmed } } t k rest .done .ok [])) ∧
  (∀ (s : State) (k : Fin 8) (rest : List (Fin 8)), s.atHead (some .manualTrigger) k rest → s.record.program = none →
    ∃ t, exec .manualTrigger s = .next t ∧ State.Answered s t k rest .done .noEffect []) ∧
  ∀ (s : State) (k : Fin 8) (rest : List (Fin 8)) (p : Program), s.atHead (some .manualTrigger) k rest →
    s.record.program = some p →
    (¬(s.record.trigState = .waitFirst ∧ p.first = .manual) → ¬(s.record.trigState = .waitSecond ∧ p.second = some .manual) →
      ∃ t, exec .manualTrigger s = .next t ∧ State.Answered s t k rest .done .noEffect []) ∧
    (s.record.trigState = .waitFirst → p.first = .manual → p.second ≠ none →
      ∃ t, exec .manualTrigger s = .next t ∧
        State.Answered
          { s with record := { s.record with
            trigState := .waitSecond, windowTimer := 0, deadline := s.req.partTime + BitVec.ofNat 32 p.window } }
          t k rest .done .ok []) ∧
    let fires := (s.record.trigState = .waitFirst ∧ p.first = .manual ∧ p.second = none) ∨
      (s.record.trigState = .waitSecond ∧ p.second = some .manual)
    let k0 := s.record.nextIndex
    let fired := fun t : State => exec .manualTrigger s = .next t ∧ State.Completed t k .done .ok [] ∧
      t.record.trigState = (if p.repeats then .waitFirst else .disarmed) ∧ t.record.program = some p ∧ t.seq = s.seq ∧
      t.faults = s.faults ∧ t.store = s.store ∧ t.gov = s.gov ∧ t.regs = s.regs ∧ s.sameField t ∧
      t.record.openRecord = s.record.openRecord
    (fires → s.record.idCounter < 0xFFFFFFFF → (s.record.listEntry k0).state = .empty →
      ∃ t, fired t ∧ t.record.idCounter = s.record.idCounter + 1 ∧ t.record.nextIndex = k0 + 1 ∧
        t.record.unposted = s.record.unposted ∧ (t.record.listEntry k0).state = .filled ∧
        (t.record.listEntry k0).id = some s.record.idCounter ∧
        State.Triggered s t (some s.record.idCounter) (t.record.listEntry k0).ref ∧
        (∀ j, j ≠ k0 → t.record.listEntry j = s.record.listEntry j) ∧ t.req.notice.getLsbD noticeRecord = true ∧
        t.mem.readWord (entryAddr k0) = 1 ∧
        t.mem.readWords (entryAddr k0 + 4) 3 = nat32Words s.record.idCounter ++ [1] ∧
        t.mem.readWords (entryAddr k0 + 4 + 2 * 91) 5 =
          [natWord p.first.code, intWord p.first.x] ++
          (match p.second with
            | some c => [natWord c.code, intWord c.x]
            | none => [0, 0]) ++ [0xFFFF]) ∧
    (fires → s.record.idCounter < 0xFFFFFFFF → (s.record.listEntry k0).state ≠ .empty →
      ∃ t, fired t ∧ t.record.idCounter = s.record.idCounter + 1 ∧ t.record.nextIndex = k0 ∧
        t.record.entries = s.record.entries ∧
        (t.record.unposted = if s.record.unposted < 65535 then s.record.unposted + 1 else 65535) ∧
        State.Triggered s t (some s.record.idCounter) s.record.reference) ∧
    (fires → 0xFFFFFFFF ≤ s.record.idCounter →
      ∃ t, fired t ∧ t.record.idCounter = s.record.idCounter ∧ t.record.entries = s.record.entries ∧
        (t.record.unposted = if s.record.unposted < 65535 then s.record.unposted + 1 else 65535) ∧
        State.Triggered s t none s.record.reference)

/-- The takes of FETCH CAPTURE and FETCH NEXT: parameters, transfer area, chain, bank and extent checked in this order (R168 to
R170). -/
def Obligations.FetchTakes : Prop :=
  (∀ (s : State) (k : Fin 8) (rest : List (Fin 8)) (i : Fin 4), s.atHead (some .fetchCapture) k rest →
    let first := (s.param k 2).toNat
    let count := (s.param k 3).toNat
    let b := s.record.bank i
    (3 < (s.param k 0).toNat →
      ∃ t, exec .fetchCapture s = .next t ∧ State.Answered s t k rest .refused .invalid [0, 0]) ∧
    ((s.param k 0).toNat = i.val → 2047 < first →
      ∃ t, exec .fetchCapture s = .next t ∧ State.Answered s t k rest .refused .invalid [2, 0]) ∧
    ((s.param k 0).toNat = i.val → first ≤ 2047 → (count < 1 ∨ 170 < count) →
      ∃ t, exec .fetchCapture s = .next t ∧ State.Answered s t k rest .refused .invalid [3, 0]) ∧
    ((s.param k 0).toNat = i.val → first ≤ 2047 → 1 ≤ count → count ≤ 170 → s.req.holder.isSome = true →
      ∃ t, exec .fetchCapture s = .next t ∧ State.Answered s t k rest .refused .busy []) ∧
    ((s.param k 0).toNat = i.val → first ≤ 2047 → 1 ≤ count → count ≤ 170 → s.req.holder = none →
      ¬(b.state = .frozen ∧ b.generation = s.param k 1) →
      ∃ t, exec .fetchCapture s = .next t ∧ State.Answered s t k rest .refused .gone []) ∧
    ((s.param k 0).toNat = i.val → first ≤ 2047 → 1 ≤ count → count ≤ 170 → s.req.holder = none →
      b.state = .frozen → b.generation = s.param k 1 →
      (b.valid < 2048 → b.valid ≤ first →
        ∃ t, exec .fetchCapture s = .next t ∧ State.Answered s t k rest .refused .invalid [2, 0]) ∧
      (b.valid < 2048 → first < b.valid → b.valid < first + count →
        ∃ t, exec .fetchCapture s = .next t ∧ State.Answered s t k rest .refused .invalid [3, 0]) ∧
      (b.valid = 2048 ∨ first + count ≤ b.valid →
        ∃ t, exec .fetchCapture s = .next t ∧
          State.Activated
            { s with req := { s.req with
              holder := some k, fetch := some ⟨k, i, s.param k 1, first, count, 0⟩ } } t k rest))) ∧
  ∀ (s : State) (k : Fin 8) (rest : List (Fin 8)), s.atHead (some .fetchNext) k rest →
    let count := (s.param k 0).toNat
    let refused := fun (rc : ResultCode) (ws : List Word) =>
      ∃ t, exec .fetchNext s = .next t ∧ State.Answered s t k rest .refused rc ws
    (count < 1 ∨ 170 < count → refused .invalid [0, 0]) ∧
    (1 ≤ count → count ≤ 170 → s.req.holder.isSome = true → refused .busy []) ∧
    (1 ≤ count → count ≤ 170 → s.req.holder = none → (∀ i g n, s.req.chain ≠ .fetch i g n) → refused .order []) ∧
    ∀ (i : Fin 4) (gen : Word) (first : Nat), 1 ≤ count → count ≤ 170 → s.req.holder = none →
      s.req.chain = .fetch i gen first →
      let b := s.record.bank i
      (¬(b.state = .frozen ∧ b.generation = gen) → refused .gone []) ∧
      (b.state = .frozen → b.generation = gen → b.valid < 2048 → b.valid < first + count → refused .invalid [0, 0]) ∧
      (b.state = .frozen → b.generation = gen → b.valid = 2048 ∨ first + count ≤ b.valid →
        ∃ t, exec .fetchNext s = .next t ∧
          State.Activated
            { s with req := { s.req with holder := some k, fetch := some ⟨k, i, gen, first, count, 0⟩ } } t k rest)

/-- A frame boundary of an ACTIVE fetch: the frame copied, then the cancel mark, then the bank; the last one ends the fetch with
OK and sets the chain (R169 to R171). -/
def Obligations.FetchBoundary : Prop :=
  ∀ (s : State) (f : Fetch), s.req.fetch = some f → f.copied < f.count → f.count ≤ 170 → s.req.holder = some f.slot →
    let frozen := (s.record.bank f.bank).state = .frozen ∧ (s.record.bank f.bank).generation = f.generation
    let copied := fun t : State => s.sameBlocks t ∧ t.mem.readWords (transferAddr + 48 * f.copied) 24 =
      padWords 24 (s.record.frameOf f.bank ((f.first + f.copied) % 2048))
    let inFrame := fun a : Nat => transferAddr + 48 * f.copied ≤ a ∧ a < transferAddr + 48 * f.copied + 48
    let elsewhere := fun t : State => ∀ a, ¬inFrame a → ¬inAnswer f.slot a → t.mem.read a = s.mem.read a
    ((s.slot f.slot).cancel = true → ∃ t, exec .fetchFrameBoundary s = .next t ∧ copied t ∧
      State.Completed t f.slot .refused .cancelled [0, 0, 0, natWord (f.copied + 1)] ∧ t.req.chain = .broken ∧
      t.req.fetch = none ∧ t.req.holder = none ∧ elsewhere t) ∧
    ((s.slot f.slot).cancel = false → ¬frozen → ∃ t, exec .fetchFrameBoundary s = .next t ∧ copied t ∧
      State.Completed t f.slot .refused .gone [0, 0, 0, natWord (f.copied + 1)] ∧ t.req.chain = .broken ∧
      t.req.fetch = none ∧ t.req.holder = none ∧ elsewhere t) ∧
    ((s.slot f.slot).cancel = false → frozen → f.copied + 1 < f.count →
      ∃ t, exec .fetchFrameBoundary s = .next t ∧ copied t ∧
        t = { s with mem := t.mem, req := { s.req with fetch := some { f with copied := f.copied + 1 } } } ∧
        ∀ a, ¬inFrame a → t.mem.read a = s.mem.read a) ∧
    ((s.slot f.slot).cancel = false → frozen → f.copied + 1 = f.count →
      ∃ t, exec .fetchFrameBoundary s = .next t ∧ copied t ∧
        State.Completed t f.slot .done .ok
          [natWord f.bank.val, f.generation, natWord f.first, natWord f.count, natWord ((f.first + f.count) % 2048)] ∧
        t.req.chain = .fetch f.bank f.generation ((f.first + f.count) % 2048) ∧ t.req.fetch = none ∧
          t.req.holder = none ∧ elsewhere t)

/-- RELEASE CAPTURE (R128): the bank becomes FREE, or LIVE at once where none is LIVE or POST (R125). That a bank which stays
FREE keeps its valid count is the model's choice (log 60). -/
def Obligations.ReleaseCaptureRule : Prop :=
  ∀ (s : State) (k : Fin 8) (rest : List (Fin 8)) (i : Fin 4), s.atHead (some .releaseCapture) k rest →
    let b := s.record.bank i
    (3 < (s.param k 0).toNat →
      ∃ t, exec .releaseCapture s = .next t ∧ State.Answered s t k rest .refused .invalid [0, 0]) ∧
    ((s.param k 0).toNat = i.val → ¬(b.state = .frozen ∧ b.generation = s.param k 1) →
      ∃ t, exec .releaseCapture s = .next t ∧ State.Answered s t k rest .refused .gone []) ∧
    ((s.param k 0).toNat = i.val → b.state = .frozen → b.generation = s.param k 1 → s.record.activeBanks ≠ 0 →
      ∃ t, exec .releaseCapture s = .next t ∧
        State.Answered { s with record := { s.record with banks := vset s.record.banks i { b with state := .free } } } t k rest
          .done .ok []) ∧
    ((s.param k 0).toNat = i.val → b.state = .frozen → b.generation = s.param k 1 → s.record.activeBanks = 0 →
      ∃ t, exec .releaseCapture s = .next t ∧ State.Completed t k .done .ok [] ∧
        (∀ j, j ≠ i → t.record.bank j = s.record.bank j) ∧
        t.record.bank i = { b with
          state := .live, generation := b.generation + 1, writeIndex := 0, valid := 0, postWritten := 0, trigId := none
          pre := ((s.record.settings.map RecordSettings.pre).getD 0) } ∧ t.seq = s.seq ∧ t.faults = s.faults ∧
        t.gov = s.gov ∧ t.regs = s.regs ∧ t.store = s.store ∧ s.sameField t ∧
        ∀ a, ¬inAnswer k a → t.mem.read a = s.mem.read a)

/-- READ STORED, READ STORED NEXT and ERASE STORE (R162, R163, R168, R169): what is checked at their takes, the record chosen,
the first work where the port is free, the end of a read, a read that waits while an erase or a record's first attempt fails
(R159, R160), and the phases of ERASE STORE. The model's choices: that a read with no record to give is refused at the take
(log 30), that a read's record is chosen at the take (log 54), that a waiting read whose sector becomes BAD ends with GONE at that
event (log 63), that with no erase a read is served before the second attempt of a record (log 62), that the sector after a
failed erase is erased whatever its state (log 29), that the open sector becomes none where ERASE STORE begins to erase (log 53),
that an erase is RUNNING from the event that starts it (log 26), that the eight bytes of the header are compared at the reopening
(log 31). -/
def Obligations.StoreRequestTakes : Prop :=
  (∀ (s : State) (k : Fin 8) (rest : List (Fin 8)), s.atHead (some .readStored) k rest →
    let id := joinWords (s.param k 1) (s.param k 2)
    let all := s.store.validSlots
    let free := s.req.holder = none ∧ s.store.state = .ready
    (2 < (s.param k 0).toNat →
      ∃ t, exec .readStored s = .next t ∧ State.Answered s t k rest .refused .invalid [0, 0]) ∧
    ((s.param k 0).toNat ≤ 2 → (s.req.holder.isSome = true ∨ s.store.state = .busy) →
      ∃ t, exec .readStored s = .next t ∧ State.Answered s t k rest .refused .busy []) ∧
    ((s.param k 0).toNat ≤ 2 → s.req.holder = none → s.store.state ≠ .busy → s.store.state ≠ .ready →
      ∃ t, exec .readStored s = .next t ∧ State.Answered s t k rest .refused .store []) ∧
    ((s.param k 0).toNat ≤ 1 → free → all = [] →
      ∃ t, exec .readStored s = .next t ∧ State.Answered s t k rest .refused .gone []) ∧
    (s.param k 0 = 2 → free → (∀ x ∈ all, x.1 ≠ id.toNat) →
      ∃ t, exec .readStored s = .next t ∧ State.Answered s t k rest .refused .gone []) ∧
    let begins := fun x : Nat × Nat × Nat => ∃ t, exec .readStored s = .next t ∧ State.ReadBegun s t k rest x
    (s.param k 0 = 0 → free → all ≠ [] → ∃ x ∈ all, (∀ y ∈ all, y.1 ≤ x.1) ∧ begins x) ∧
    (s.param k 0 = 1 → free → all ≠ [] → ∃ x ∈ all, (∀ y ∈ all, x.1 ≤ y.1) ∧ begins x) ∧
    (s.param k 0 = 2 → free → (∃ x ∈ all, x.1 = id.toNat) → ∃ x ∈ all, x.1 = id.toNat ∧ begins x)) ∧
  (∀ (s : State) (k : Fin 8) (rest : List (Fin 8)), s.atHead (some .readStoredNext) k rest →
    let all := s.store.validSlots
    let free := s.req.holder = none ∧ s.store.state = .ready ∧ s.req.chain = .storeRead
    (1 < (s.param k 0).toNat →
      ∃ t, exec .readStoredNext s = .next t ∧ State.Answered s t k rest .refused .invalid [0, 0]) ∧
    ((s.param k 0).toNat ≤ 1 → (s.req.holder.isSome = true ∨ s.store.state = .busy) →
      ∃ t, exec .readStoredNext s = .next t ∧ State.Answered s t k rest .refused .busy []) ∧
    ((s.param k 0).toNat ≤ 1 → s.req.holder = none → s.store.state ≠ .busy → s.req.chain ≠ .storeRead →
      ∃ t, exec .readStoredNext s = .next t ∧ State.Answered s t k rest .refused .order []) ∧
    (∀ p : Nat, free → s.store.readPtr = some p →
      (s.param k 0 = 0 ∧ ∀ y ∈ all, p ≤ y.1) ∨ (s.param k 0 = 1 ∧ ∀ y ∈ all, y.1 ≤ p) →
      ∃ t, exec .readStoredNext s = .next t ∧ State.Answered s t k rest .refused .gone []) ∧
    ∀ p : Nat, free → s.store.readPtr = some p →
      let begins := fun x : Nat × Nat × Nat => ∃ t, exec .readStoredNext s = .next t ∧ State.ReadBegun s t k rest x
      (s.param k 0 = 0 → (∃ x ∈ all, x.1 < p) → ∃ x ∈ all, x.1 < p ∧ (∀ y ∈ all, y.1 < p → y.1 ≤ x.1) ∧ begins x) ∧
      (s.param k 0 = 1 → (∃ x ∈ all, p < x.1) → ∃ x ∈ all, p < x.1 ∧ (∀ y ∈ all, p < y.1 → x.1 ≤ y.1) ∧ begins x)) ∧
  (∀ (s : State) (k : Fin 8) (rest : List (Fin 8)), s.atHead (some .eraseStore) k rest →
    let begun := fun t : State => exec .eraseStore s = .next t ∧ (t.slot k).state = .active ∧ t.store.state = .busy ∧
      t.store.queue = s.store.queue ∧ t.req.holder = s.req.holder ∧ t.seq = s.seq ∧ t.faults = s.faults ∧
      t.record = s.record ∧ s.sameField t ∧ ∀ a, ¬(slotAddr k ≤ a ∧ a < slotAddr k + 2) → t.mem.read a = s.mem.read a
    (s.seq.drive.running = true →
      ∃ t, exec .eraseStore s = .next t ∧ State.Answered s t k rest .refused .state []) ∧
    (s.seq.drive.running = false → s.store.state = .busy →
      ∃ t, exec .eraseStore s = .next t ∧ State.Answered s t k rest .refused .busy []) ∧
    (s.seq.drive.running = false → s.store.state ≠ .busy → s.store.state ≠ .ready →
      ∃ t, exec .eraseStore s = .next t ∧ State.Answered s t k rest .refused .store []) ∧
    (s.seq.drive.running = false → s.store.state = .ready →
      ∃ t, begun t ∧ ∃ phase, t.store.hostOp = some (.eraseAll k phase)) ∧
    (s.seq.drive.running = false → s.store.state = .ready → s.store.queue ≠ [] →
      ∃ t, begun t ∧ t.store.hostOp = some (.eraseAll k (.drain s.store.queue.length))) ∧
    (s.seq.drive.running = false → s.store.state = .ready → s.store.queue = [] → s.store.job = .idle →
      s.store.erase = .running → ∃ t, begun t ∧ t.store.hostOp = some (.eraseAll k .settle) ∧ t.store.job = .idle) ∧
    ∀ (i : Nat) (e : Sector), s.seq.drive.running = false → s.store.state = .ready → s.store.queue = [] →
      s.store.job = .idle → s.store.erase = .none → s.store.sectors[i]? = some e → e.state ≠ .bad →
      (∀ m, m < i → s.store.sectorState m = .bad) →
      ∃ t, begun t ∧ t.store =
        { s.store with
          state := .busy, hostOp := some (.eraseAll k (.erase (i + 1))), openSector := none, toOpen := none }.erasing i e) ∧
  (∀ (s : State) (k : Fin 8) (id sector page : Nat) (tx rx : List Byte) (e : Sector),
    let u := s.store
    u.state = .busy → u.hostOp = some (.read k id sector page) → u.job = .pageRead → u.transfer = some ⟨tx, 256⟩ →
    rx.length = 256 → s.req.holder = some k → u.sectors[sector]? = some e →
    let expected := 1 ≤ id ∧ id ≤ 0xFFFFFFFE ∧ rx.take 4 = bytes32 id ∧ rx.drop 252 = bytes32 id
    let ended := fun t : State => exec (.flashTransferEnd rx) s = .next t ∧ t.store.state = .ready ∧
      t.store.hostOp = none ∧ t.req.holder = none ∧ t.store.queue = u.queue ∧
      (List.range 256).map (fun i => t.mem.read (transferAddr + i)) = rx ∧ t.seq = s.seq ∧ t.faults = s.faults ∧
      t.record = s.record ∧ s.sameField t
    ((s.slot k).cancel = true →
      ∃ t, ended t ∧ State.Completed t k .refused .cancelled [] ∧ t.req.chain = .broken ∧ t.store.readPtr = u.readPtr) ∧
    ((s.slot k).cancel = false → expected →
      ∃ t, ended t ∧ State.Completed t k .done .ok
          (nat32Words id ++ [natWord sector, natWord page] ++ nat32Words (e.seq.getD 0)) ∧
        t.req.chain = .storeRead ∧ t.store.readPtr = some id) ∧
    ((s.slot k).cancel = false → ¬expected →
      ∃ t, ended t ∧ State.Completed t k .refused .gone [] ∧ t.req.chain = .broken ∧ t.store.readPtr = u.readPtr ∧
        (t.store.eraseSector ≠ some sector →
          t.store.sectors[sector]? = some { e with slots := e.slots.set (page - 1) .spoiled }))) ∧
  (∀ (s : State) (k : Fin 8) (id sector page i : Nat) (tx rx : List Byte) (e : Sector),
    let u := s.store
    u.state = .busy → u.hostOp = some (.read k id sector page) → s.req.holder = some k → u.eraseSector = some i →
    u.erase = .running → u.sectors[i]? = some e →
    let n := (i + 1) % u.sectors.length
    let failed := u.job = .eraseCheck ∧ u.transfer = some ⟨tx, 256⟩ ∧ rx.length = 256 ∧ rx ≠ List.replicate 256 0xFF
    let late := u.job = .idle ∧ 1000 * u.cfg.eraseLimit ≤ u.eraseElapsed
    let bad := { u with
      sectors := u.sectors.set i { e with state := .bad }, badCount := u.badCount + 1, erase := .none, eraseSector := none
      toOpen := u.toOpen.map fun x : Nat × Nat => if x.1 = i then (n, x.2) else x }
    (∀ e' : Sector, u.badCount < 2 → n ≠ i → u.sectors[n]? = some e' → e'.state ≠ .bad → sector ≠ i →
      (failed → exec (.flashTransferEnd rx) s = .next { s with store := bad.erasing n e' }) ∧
      (late → exec .flashTimeLimit s = .next { s with store := bad.erasing n e' })) ∧
    (∀ e' : Sector, u.badCount < 2 → n ≠ i → u.sectors[n]? = some e' → e'.state ≠ .bad → sector = i →
      let gone := fun t : State => t.store = { bad with state := .ready, hostOp := none }.erasing n e' ∧
        State.Completed t k .refused .gone [] ∧ t.req.chain = .broken ∧ t.req.holder = none ∧ t.seq = s.seq ∧
        t.gov = s.gov ∧ t.regs = s.regs ∧ t.faults = s.faults ∧ t.record = s.record ∧ s.sameField t ∧
        ∀ a, ¬inAnswer k a → t.mem.read a = s.mem.read a
      (failed → ∃ t, exec (.flashTransferEnd rx) s = .next t ∧ gone t) ∧
      (late → ∃ t, exec .flashTimeLimit s = .next t ∧ gone t)) ∧
    (2 ≤ u.badCount →
      (failed → ∃ t, exec (.flashTransferEnd rx) s = .next t ∧ State.OutOfService s t) ∧
      (late → ∃ t, exec .flashTimeLimit s = .next t ∧ State.OutOfService s t))) ∧
  (∀ (s : State) (k : Fin 8) (id sector page o p : Nat) (q : QueuedRecord) (rest : List QueuedRecord) (e : Sector),
    let u := s.store
    u.state = .busy → u.hostOp = some (.read k id sector page) → u.queue = q :: rest → q.attempts = 0 →
    u.openSector = some o → u.sectors[o]? = some e → u.toOpen = none →
    firstBlank (e.slots.set (u.nextSlot - 1) .spoiled) = some p →
    u.job = .bodyPoll ∨ u.job = .markPoll → 1000 * u.cfg.programLimit ≤ u.pollElapsed →
    let again := { u with
      queue := { q with attempts := 1 } :: rest, nextSlot := p
      sectors := u.sectors.set o { e with slots := e.slots.set (u.nextSlot - 1) .spoiled } }
    let reads := again.sending .pageRead (addressed u.cfg.opRead (u.cfg.base + sector * 4096 + page * 256)) 256
    let programs := again.sending .bodyEnable [u.cfg.opWriteEnable] 0
    (u.erase = .none → exec .flashTimeLimit s = .next { s with store := reads }) ∧
    (u.erase = .suspended → exec .flashTimeLimit s = .next { s with store := programs })) ∧
  ∀ (s : State) (k : Fin 8) (i : Nat) (e : Sector) (tx rx : List Byte),
    let u := s.store
    u.state = .busy → u.sectors[i]? = some e →
    let erased := u.job = .eraseCheck ∧ u.transfer = some ⟨tx, 256⟩ ∧ rx = List.replicate 256 0xFF ∧ u.eraseSector = some i
    let failed := u.job = .eraseCheck ∧ u.transfer = some ⟨tx, 256⟩ ∧ rx.length = 256 ∧ rx ≠ List.replicate 256 0xFF ∧
      u.eraseSector = some i
    let done := { u with
      sectors := u.sectors.set i { e with state := .erased, seq := none }, erase := .none, eraseSector := none }
    let bad := { u with
      sectors := u.sectors.set i { e with state := .bad }, badCount := u.badCount + 1, erase := .none, eraseSector := none }
    let ends := fun v : StoreUnit => exec (.flashTransferEnd rx) s = .next { s with store := v }
    (∀ (n : Nat) (e' : Sector), u.hostOp = some (.eraseAll k .settle) → erased → u.toOpen = none →
      done.sectors[n]? = some e' → e'.state ≠ .bad → (∀ m, m < n → done.sectorState m = .bad) →
      ends ({ done with hostOp := some (.eraseAll k (.erase (n + 1))), openSector := none }.erasing n e')) ∧
    (∀ (n : Nat) (e' : Sector), u.hostOp = some (.eraseAll k (.erase (i + 1))) → u.toOpen = none → i < n →
      u.sectors[n]? = some e' → e'.state ≠ .bad → (∀ m, m < n → i < m → u.sectorState m = .bad) →
      (erased → ends ({ done with hostOp := some (.eraseAll k (.erase (n + 1))) }.erasing n e')) ∧
      (failed → u.badCount < 2 → ends ({ bad with hostOp := some (.eraseAll k (.erase (n + 1))) }.erasing n e'))) ∧
    (∀ (next j : Nat), u.hostOp = some (.eraseAll k (.erase next)) → erased → u.sectors.length ≤ next → u.toOpen = none →
      j < u.sectors.length → done.sectorState j = .erased → (∀ m, m < j → done.sectorState m = .bad) →
      ends ({ done with hostOp := some (.eraseAll k .reopen), toOpen := some (j, 1) }.sending .openEnable
        [u.cfg.opWriteEnable] 0)) ∧
    (u.hostOp = some (.eraseAll k .reopen) → u.toOpen = some (i, 1) → u.job = .openRead → u.transfer = some ⟨tx, 8⟩ →
      rx = wordBytes 0x5A3C ++ bytes32 1 ++ wordBytes 0xC35A →
      ∃ t, exec (.flashTransferEnd rx) s = .next t ∧ t.store.state = .ready ∧ t.store.hostOp = none ∧
        t.store.readPtr = none ∧ t.store.openSector = some i ∧ t.store.nextSlot = 1 ∧ t.store.toOpen = none ∧
        t.store.sectors[i]? = some ⟨.opened, some 1, List.replicate 15 .blank⟩ ∧ t.store.queue = u.queue ∧
        State.Completed t k .done .ok [] ∧ t.record = s.record ∧ t.seq = s.seq ∧ t.faults = s.faults ∧
        (s.req.chain = .storeRead → t.req.chain = .broken) ∧ (s.req.chain ≠ .storeRead → t.req.chain = s.req.chain) ∧
        (u.queue ≠ [] → u.erase = .none → t.store.job = .bodyEnable)) ∧
    ∀ (left : Nat) (q : QueuedRecord) (rest : List QueuedRecord) (p : Nat), u.hostOp = some (.eraseAll k (.drain (left + 2))) →
      u.job = .markRead → u.transfer = some ⟨tx, 4⟩ → u.queue = q :: rest → rx = bytes32 q.id → u.openSector = some i →
      u.toOpen = none → u.erase = .none → rest ≠ [] → firstBlank (e.slots.set (u.nextSlot - 1) (.valid q.id)) = some p →
      ∃ t, exec (.flashTransferEnd rx) s = .next t ∧ State.RecordEnded s t q.id .stored ∧ t.store.queue = rest ∧
        t.store.hostOp = some (.eraseAll k (.drain (left + 1))) ∧ t.store.job = .bodyEnable

/-- RESET SECTOR MAP (R102): INVALID for a word that names no channel, NO EFFECT for one that is not fitted, else an empty map
without a visit. And how the map comes about (R95 to R97): the visits, the entry that a closed visit moves, sector alert, worst
sector and worst value; the rise of the sector alert as a trigger condition (R129, R131). -/
def Obligations.ResetSectorMapRule : Prop :=
  (∀ (s : State) (k : Fin 8) (rest : List (Fin 8)) (c : Channel), s.atHead (some .resetSectorMap) k rest →
    (6 ≤ (s.param k 0).toNat → s.param k 0 ≠ 0xFFFF →
      ∃ t, exec .resetSectorMap s = .next t ∧ State.Answered s t k rest .refused .invalid [0, 0]) ∧
    ((s.param k 0).toNat = c.val → s.watch.fitted c = false →
      ∃ t, exec .resetSectorMap s = .next t ∧ State.Answered s t k rest .done .noEffect []) ∧
    ((s.param k 0).toNat = c.val ∨ s.param k 0 = 0xFFFF → s.watch.fitted c = true →
      ∃ t, exec .resetSectorMap s = .next t ∧ State.Completed t k .done .ok [] ∧
        (t.channel c).map = List.replicate 64 0 ∧ (t.channel c).visitSector = none ∧ (t.channel c).visitCount = 0 ∧
        (t.channel c).worstValue = 0 ∧ (t.channel c).health = (s.channel c).health ∧ (t.channel c).vib = (s.channel c).vib ∧
        (t.channel c).worstSector = 0 ∧ (0 < vget s.watch.cfg.sector c → (t.channel c).sectorAlert = false) ∧
        ((∀ g, s.groupLaw g) → ∀ g, t.groupLaw g) ∧
        t.watch.imageCount = s.watch.imageCount + 2 ∧ t.mem.readWord mapImageAddr = s.watch.imageCount + 2 ∧
        (∀ d : Channel, (s.channel d).map.length = 64 → t.mem.readWords (mapImageAddr + 2 * (1 + 66 * d.val)) 66 =
          if s.watch.fitted d = true then
            (t.channel d).map.map natWord ++ [natWord (t.channel d).worstSector, natWord (t.channel d).worstValue]
          else List.replicate 66 0) ∧
        (∀ a, ¬inAnswer k a → ¬(mapImageAddr ≤ a ∧ a < mapImageAddr + 794) → t.mem.read a = s.mem.read a) ∧
        t.seq = s.seq ∧ t.gov = s.gov ∧ t.regs = s.regs ∧ t.meas = s.meas ∧ t.drive = s.drive ∧ t.store = s.store)) ∧
  ∀ (s : State) (c : Channel) (p : Program), s.watch.blockPos < 255 → s.seq.restartPending = false → s.watch.fitted c = true →
    let w := s.channel c
    let r := s.receiver c
    let x := if r.tagged = .held then w.lastGood else (r.buffer.map Prod.fst).getD 0
    let y := (x - (w.mean + truncDiv (x - w.mean) 64)).natAbs
    let enters := s.watch.cfg.watchSpeed ≤ |s.meas.n| ∧ r.tagged ≠ .held
    let here := s.meas.shell.sector
    let visit := fun t : State => ((t.channel c).visitSector, (t.channel c).visitPeak, (t.channel c).visitCount)
    let sameMap := fun t : State => (t.channel c).map = w.map ∧ (t.channel c).sectorAlert = w.sectorAlert ∧
      (t.channel c).worstSector = w.worstSector ∧ (t.channel c).worstValue = w.worstValue
    (s.meas.shell.valid = false →
      ∃ t, exec .vibrationSamplePeriod s = .next t ∧ visit t = (none, 0, 0) ∧ sameMap t) ∧
    (s.meas.shell.valid = true → w.visitSector = some here →
      ∃ t, exec .vibrationSamplePeriod s = .next t ∧ sameMap t ∧
        visit t = (some here, if enters then max w.visitPeak y else w.visitPeak,
          if enters then w.visitCount + 1 else w.visitCount)) ∧
    (s.meas.shell.valid = true → w.visitSector ≠ some here →
      ∃ t, exec .vibrationSamplePeriod s = .next t ∧
        visit t = (some here, if enters then y else 0, if enters then 1 else 0) ∧
        (w.visitSector = none ∨ w.visitCount = 0 → sameMap t) ∧
        ∀ i, w.visitSector = some i → w.visitCount ≠ 0 →
          let entry := w.map.getD i 0
          let mapped := (t.channel c).map
          mapped = w.map.set i ((entry : Int) + truncDiv ((w.visitPeak : Int) - entry) 8).toNat ∧
          ((t.channel c).sectorAlert = true ↔ ∃ e ∈ mapped, vget s.watch.cfg.sector c ≤ e) ∧
          mapped.getD (t.channel c).worstSector 0 = (t.channel c).worstValue ∧
          (∀ e ∈ mapped, e ≤ (t.channel c).worstValue) ∧
          (∀ j, j < (t.channel c).worstSector → mapped.getD j 0 < (t.channel c).worstValue) ∧
          ((t.channel c).sectorAlert = true → w.sectorAlert = false → s.waitsFor .sectorAlert p → s.windowBegun t p))

/-- SET TIME sets the clock, and a tick of the part time counter advances part time, phase and clock, each with its wrap
(R174). The timers that a tick also advances are the model's (log 4). -/
def Obligations.ClockRule : Prop :=
  (∀ (s : State) (k : Fin 8) (rest : List (Fin 8)), s.atHead (some .setTime) k rest →
    ∃ t, exec .setTime s = .next t ∧
      State.Answered
        { s with req := { s.req with clock := joinWords (s.param k 0) (s.param k 1), phase := 0, clockSet := true } }
        t k rest .done .ok []) ∧
  ∀ s : State, ∃ t, exec .partTimeTick s = .next t ∧ t.req.partTime = s.req.partTime + 1 ∧
    (s.req.phase = 999 → t.req.phase = 0 ∧ t.req.clock = s.req.clock + 1) ∧
    (s.req.phase < 999 → t.req.phase = s.req.phase + 1 ∧ t.req.clock = s.req.clock) ∧ t.req.clockSet = s.req.clockSet ∧
    t = { s with
      faults := { s.faults with timer := t.faults.timer }
      record := { s.record with windowTimer := t.record.windowTimer }
      store := { s.store with pollElapsed := t.store.pollElapsed, eraseElapsed := t.store.eraseElapsed }
      req := { s.req with partTime := t.req.partTime, phase := t.req.phase, clock := t.req.clock, subMs := 0 } }

/-! ### Converter links and regulators -/

/-- A sample set frame (R1, R2, R68, R73, R75): scaled, published and handed to the regulator, which publishes its values at
the end (R81); a quiet frame within the levels changes links, regulators, fault set and level watch alone; an overcurrent sets
the gate-block flag and trips. The model's choices: that one event holds the whole arrival, in this order (log 12); that a
frame begun before its period's SYNC is discarded (log 16); that an overcurrent sets the gate-block flag of a motor outside
the pinion set too (log 41). -/
def Obligations.SampleFrameArrival : Prop :=
  (∀ (s : State) (x : Side) (f : SampleFrame), (s.meas.links.get x).awaiting = false ∨ f.begunBeforeSync = true →
    exec (.sampleSetFrame x f) s = .next s) ∧
  ∀ (s : State) (x : Side) (f : SampleFrame), s.awaits x f → s.seq.restartPending = false →
    let ia := truncDiv (f.codeA.toInt * s.cfg.fullScale x) 32768
    let ic := truncDiv (f.codeC.toInt * s.cfg.fullScale x) 32768
    let raw := truncDiv (f.codeDc.toInt * s.cfg.vdcFullScale) 32768
    let vdc := if raw < 0 then 0 else if 1500 < raw then 1500 else raw
    let limit := fun w : Word => w.toInt = 32767 ∨ w.toInt = -32768
    let v : SampleSet := ⟨ia, ic, vdc, decide (limit f.codeA ∨ limit f.codeC), f.fault⟩
    let g := s.regs.get x
    let sin := sineAt (g.angle.toNat / 1048576)
    let cos := cosineAt (g.angle.toNat / 1048576)
    let beta := truncDiv ((ia + 2 * (-ia - ic)) * 18919) 32768
    let id := truncDiv (ia * cos + beta * sin) 32768
    let iq := truncDiv (beta * cos - ia * sin) 32768
    (∃ t, exec (.sampleSetFrame x f) s = .next t ∧
      t.meas = { s.meas with links := s.meas.links.set x ⟨false, vdc, v⟩ } ∧
      (t.regs.get x).arrivalSeen = true ∧ (t.regs.get x).id = id ∧ (t.regs.get x).iq = iq ∧
      (t.regs.get x).iqSum = g.iqSum + iq ∧ (t.regs.get x).iqCount = g.iqCount + 1 ∧
      (t.regs.get x).angle = s.steppedAngle x ∧ t.watch = s.watch ∧ t.drive = s.drive ∧ t.inputs = s.inputs ∧
      (v.calm s.cfg.overcurrent → s.cfg.pinion.has x = false ∨ (vdc ≤ s.cfg.overvolt ∧
          (s.seq.drive.running = false ∨ (s.cfg.undervolt ≤ vdc ∧ s.cfg.low ≤ vdc))) →
        let m : Regulator := { g with
          arrivalSeen := true, id := id, iq := iq, iqSum := g.iqSum + iq, iqCount := g.iqCount + 1 }
        let m' := if g.gateBlock = true ∨ s.seq.gate.get x = false then m.computeBlocked
          else m.compute s.cfg vdc s.gov.idRef (s.gov.iqRef.get x) sin cos
        t = { s with
          meas := t.meas, faults := t.faults, level := t.level
          regs := s.regs.set x { m' with
            angle := s.steppedAngle x, overcurrent := false
            published := ⟨m'.vd, m'.vq, m'.duties, m'.pendingDuties, m'.missing⟩ } } ∧
        ∀ k, (t.faults.entry k).latched = (s.faults.entry k).latched) ∧
      (¬v.calm s.cfg.overcurrent → (t.regs.get x).gateBlock = true) ∧
      (¬v.calm s.cfg.overcurrent → s.cfg.pinion.has x = true → s.tripReady →
        s.sourcePresent (.overcurrent x) .first = false → State.Tripped s t (.overcurrent x)))

/-- The eighth frame below the undervolt level trips (R116); the eighth below the low level raises DC LOW, and the eighth clear
of it ends it (R117). A frame above the overvolt level trips, or is latched only in UNCONFIGURED and in TRIPPED; one at or below
it ends DC OVERVOLT (R118). That the count rows are the frame event itself is the model's choice (log 2). -/
def Obligations.DcLevelCounts : Prop :=
  (∀ (s : State) (x : Side) (f : SampleFrame), s.awaits x f → s.cfg.pinion.has x = true → s.seq.drive.running = true →
    let v := SampleSet.ofFrame s.cfg x f
    let n := s.level.counts.get x
    v.calm s.cfg.overcurrent →
    (v.vdc < s.cfg.undervolt → n.under = 7 → s.tripReady → s.sourcePresent (.dcUndervolt x) .first = false →
      ∃ t, exec (.dcUndervoltCountReached x f) s = .next t ∧ State.Tripped s t (.dcUndervolt x) ∧
        exec (.sampleSetFrame x f) s = .next t) ∧
    (v.vdc < s.cfg.undervolt → n.under < 7 → v.vdc ≤ s.cfg.overvolt →
      ∃ t, exec (.sampleSetFrame x f) s = .next t ∧ (t.level.counts.get x).under = n.under + 1 ∧ t.seq = s.seq ∧
        t.gov = s.gov ∧ t.faults.lock = s.faults.lock ∧ t.record = s.record ∧ t.store = s.store ∧ t.mem = s.mem) ∧
    (s.cfg.undervolt ≤ v.vdc → v.vdc < s.cfg.low → v.vdc ≤ s.cfg.overvolt → n.low = 7 →
      s.sourcePresent .dcLow (sourceOf x) = false →
      ∃ t, exec (.dcLowCountReached x f) s = .next t ∧ exec (.sampleSetFrame x f) s = .next t ∧
        t.sourcePresent .dcLow (sourceOf x) = true ∧ (t.faults.entry .dcLow).seen = true ∧
        (t.faults.entry .dcLow).detail = some (sideCode x) ∧ (t.faults.entry .dcLow).riseTime = s.req.partTime ∧
        t.req.notice.getLsbD noticeAlarm = true ∧ t.seq = s.seq ∧ t.gov = s.gov ∧ t.faults.lock = s.faults.lock ∧
        t.record = s.record ∧ t.store = s.store ∧ t.mem = s.mem) ∧
    (s.cfg.undervolt ≤ v.vdc → s.cfg.low + 10 ≤ v.vdc → v.vdc ≤ s.cfg.overvolt → n.lowClear = 7 →
      s.sourcePresent .dcLow (sourceOf x) = true →
      ∃ t, exec (.dcLowCountReached x f) s = .next t ∧ exec (.sampleSetFrame x f) s = .next t ∧
        t.sourcePresent .dcLow (sourceOf x) = false ∧ (t.level.counts.get x).low = 0 ∧ t.req = s.req ∧ t.seq = s.seq ∧
        t.gov = s.gov ∧ t.record = s.record ∧ t.store = s.store ∧ t.mem = s.mem)) ∧
  ∀ (s : State) (x : Side) (f : SampleFrame), s.awaits x f → s.cfg.pinion.has x = true → s.seq.restartPending = false →
    let v := SampleSet.ofFrame s.cfg x f
    v.calm s.cfg.overcurrent → s.seq.drive.running = false ∨ (s.cfg.undervolt ≤ v.vdc ∧ s.cfg.low ≤ v.vdc) →
    (s.cfg.overvolt < v.vdc → s.tripReady → s.sourcePresent (.dcOvervolt x) .first = false →
      ∃ t, exec (.sampleSetFrame x f) s = .next t ∧ State.Tripped s t (.dcOvervolt x) ∧ t.present (.dcOvervolt x) = true) ∧
    (s.cfg.overvolt < v.vdc →
      s.seq.drive = .unconfigured ∨ (s.seq.drive = .tripped ∧ s.faults.lock = true ∧ s.faults.windowOpen = false) →
      s.sourcePresent (.dcOvervolt x) .first = false →
      ∃ t, exec (.sampleSetFrame x f) s = .next t ∧ (t.faults.entry (.dcOvervolt x)).latched = true ∧
        t.present (.dcOvervolt x) = true ∧ (t.faults.entry (.dcOvervolt x)).riseTime = s.req.partTime ∧ t.seq = s.seq ∧
        t.gov = s.gov ∧ t.faults.lock = s.faults.lock ∧ t.record = s.record ∧ t.store = s.store ∧ t.mem = s.mem) ∧
    (v.vdc ≤ s.cfg.overvolt →
      ∃ t, exec (.sampleSetFrame x f) s = .next t ∧ t.sourcePresent (.dcOvervolt x) .first = false ∧
        (t.faults.entry (.dcOvervolt x)).latched = (s.faults.entry (.dcOvervolt x)).latched ∧ t.seq = s.seq ∧
        t.gov = s.gov ∧ t.faults.lock = s.faults.lock ∧ t.record = s.record ∧ t.store = s.store ∧ t.mem = s.mem)

/-- A current period start (R65, R66): the pending duties come into force, the missing test is made except at the first period,
SYNC opens a new period, and the duties in force are published (R81; at the end of the event, log 52); the third missing period
blocks the gates and trips. That MEAS_LOSS is the period start itself is the model's choice (log 2). -/
def Obligations.CurrentPeriodAndMissingTest : Prop :=
  ∀ (s : State) (x : Side),
    let g := s.regs.get x
    let opened : MeasUnit := { s.meas with links := s.meas.links.set x { s.meas.links.get x with awaiting := true } }
    let duties := g.pendingDuties.getD g.duties
    (g.firstPeriod = true → ∃ t, exec (.currentPeriodStart x) s = .next t ∧ t = { s with
      meas := opened
      regs := s.regs.set x { g with
        duties := duties, pendingDuties := none, arrivalSeen := false, firstPeriod := false
        published := { g.published with duties := duties } } }) ∧
    (g.firstPeriod = false → g.arrivalSeen = true → ∃ t, exec (.currentPeriodStart x) s = .next t ∧
      t = { s with
        meas := opened, faults := t.faults
        regs := s.regs.set x { g with
          duties := duties, pendingDuties := none, arrivalSeen := false, missing := 0, measLoss := false
          published := { g.published with duties := duties } } } ∧
      t.sourcePresent (.measLoss x) .first = false ∧ ∀ k, k ≠ .measLoss x → t.faults.entry k = s.faults.entry k) ∧
    (g.firstPeriod = false → g.arrivalSeen = false → s.cfg.pinion.has x = true → g.missing ≠ 2 → g.missing < 3 →
      ∃ t, exec (.currentPeriodStart x) s = .next t ∧ t = { s with
        meas := opened
        regs := s.regs.set x { g with
          duties := duties, pendingDuties := none, missing := g.missing + 1, angle := s.steppedAngle x
          published := { g.published with duties := duties } } }) ∧
    (g.firstPeriod = false → g.arrivalSeen = false → s.cfg.pinion.has x = true → g.missing = 2 → g.measLoss = false →
      s.tripReady → s.sourcePresent (.measLoss x) .first = false →
      ∃ t, exec (.measLoss x) s = .next t ∧ exec (.currentPeriodStart x) s = .next t ∧
        State.Tripped s t (.measLoss x) ∧ (t.regs.get x).missing = 3 ∧ (t.regs.get x).gateBlock = true ∧
        (t.regs.get x).duties = ⟨500, 500, 500⟩ ∧
        (t.regs.get x).published = { g.published with duties := ⟨500, 500, 500⟩ } ∧
          (t.regs.get x).angle = s.steppedAngle x ∧ t.meas = opened)

/-- GATE FAULT X (R69, R71, R107): active, the gate-block flag is set and the condition trips, or is latched only in
UNCONFIGURED; inactive, the condition falls and the flag stays. That the flag is set for a motor outside the pinion set too, the
fourth clause, and that an input already active changes nothing, the first, are the model's choices (log 41, log 3). -/
def Obligations.GateFaultInput : Prop :=
  ∀ (s : State) (x : Side),
    let raised : Inputs := { s.inputs with gateFault := s.inputs.gateFault.set x true }
    (s.inputs.gateFault.get x = true → exec (.gateFaultActive x) s = .next s) ∧
    (s.inputs.gateFault.get x = false → s.cfg.pinion.has x = true → s.tripReady →
      s.sourcePresent (.gateFault x) .first = false →
      ∃ t, exec (.gateFaultActive x) s = .next t ∧ t.inputs = raised ∧ State.Tripped s t (.gateFault x) ∧
        (t.regs.get x).gateBlock = true ∧ (t.regs.get x).gateFault = true ∧ t.present (.gateFault x) = true) ∧
    (s.inputs.gateFault.get x = false → s.cfg.pinion.has x = true → s.seq.drive = .unconfigured →
      s.sourcePresent (.gateFault x) .first = false →
      ∃ t, exec (.gateFaultActive x) s = .next t ∧
        t = { s with inputs := raised, regs := t.regs, faults := t.faults } ∧ (t.regs.get x).gateBlock = true ∧
        t.faults.lock = s.faults.lock ∧ (t.faults.entry (.gateFault x)).latched = true ∧
        t.present (.gateFault x) = true ∧ ∀ k, k ≠ .gateFault x → t.faults.entry k = s.faults.entry k) ∧
    (s.inputs.gateFault.get x = false → s.cfg.pinion.has x = false →
      ∃ t, exec (.gateFaultActive x) s = .next t ∧ t = { s with inputs := raised, regs := t.regs } ∧
        (t.regs.get x).gateBlock = true) ∧
    ∃ t, exec (.gateFaultInactive x) s = .next t ∧
      t = { s with
        inputs := { s.inputs with gateFault := s.inputs.gateFault.set x false }, faults := t.faults
        regs := s.regs.set x { s.regs.get x with gateFault := false } } ∧
      t.sourcePresent (.gateFault x) .first = false ∧
      (∀ k, (t.faults.entry k).latched = (s.faults.entry k).latched) ∧
      ∀ k, k ≠ .gateFault x → t.faults.entry k = s.faults.entry k

/-! ### Encoders and shell position -/

/-- An edge changes the count by one, modulo 2³²; both lines at once give no direction, and with the line-break input active the
edge is ignored (R4); the marker count follows the encoder in use (R9). The direction comes with the command (log 17). -/
def Obligations.EncoderEdgeCounts : Prop :=
  ∀ (s : State) (x : Side),
    (s.inputs.lineBreak.get x = true → ∀ e, exec (.encoderEdge x e) s = .next s) ∧
    (s.inputs.lineBreak.get x = false →
      ∀ e d, (e = .forward ∧ d = 1) ∨ (e = .backward ∧ d = -1) ∨ (e = .both ∧ d = 0) →
        ∃ t, exec (.encoderEdge x e) s = .next t ∧ t = { s with meas := { s.meas with
          encoders := s.meas.encoders.set x { s.meas.encoders.get x with count := (s.meas.encoders.get x).count + d }
          shell := if s.meas.shell.inUse = some x then { s.meas.shell with p := s.meas.shell.p + d } else s.meas.shell } })

/-- The line-break input (R5 to R7, R9, R120): active, the encoder is LOST at once, the speed and the encoder in use are taken
from the other one; with both LOST in a running state the drive trips, and in the other states the drive speed stays and there
is no encoder in use; its release changes the level alone. That an input already active changes nothing is the model's choice
(log 3). -/
def Obligations.LineBreakInput : Prop :=
  ∀ (s : State) (x : Side),
    let o := otherSide x
    let e := s.meas.encoders.get x
    let lost : Encoder := { e with lost := true, clearTime := 0, touched := true }
    let low : Inputs := { s.inputs with lineBreak := s.inputs.lineBreak.set x true }
    (s.inputs.lineBreak.get x = true → exec (.lineBreakActive x) s = .next s) ∧
    (s.inputs.lineBreak.get x = false → (s.meas.encoders.get o).lost = false →
      ∃ t, exec (.lineBreakActive x) s = .next t ∧
        t = { s with inputs := low, meas := t.meas, faults := t.faults, req := { s.req with notice := t.req.notice } } ∧
        t.meas.encoders.get x = { lost with speed := (s.meas.encoders.get o).speed } ∧
        t.meas.encoders.get o = s.meas.encoders.get o ∧ t.meas.n = (s.meas.encoders.get o).speed ∧
        t.meas.shell = (if s.meas.shell.inUse = some o then s.meas.shell
          else { s.meas.shell with inUse := some o, p := 0, reference := false, valid := false }) ∧
        t.meas.links = s.meas.links ∧ t.meas.receivers = s.meas.receivers ∧
        t.sourcePresent .encoderSingle (sourceOf x) = true ∧ t.sourcePresent .encoderSingle (sourceOf o) = false ∧
        ∀ k, (t.faults.entry k).latched = (s.faults.entry k).latched) ∧
    (s.inputs.lineBreak.get x = false → (s.meas.encoders.get o).lost = true → s.seq.drive.running = true →
      s.tripReady → s.sourcePresent .encoderLoss .first = false →
      ∃ t, exec (.lineBreakActive x) s = .next t ∧ t.inputs = low ∧ State.Tripped s t .encoderLoss ∧
        t.sourcePresent .encoderLoss .first = false ∧ t.meas.n = s.meas.n ∧ t.meas.shell.inUse = none ∧
        t.meas.encoders.get x = { lost with speed := s.meas.n }) ∧
    (s.inputs.lineBreak.get x = false → (s.meas.encoders.get o).lost = true → s.seq.drive.running = false →
      ∃ t, exec (.lineBreakActive x) s = .next t ∧
        t = { s with inputs := low, meas := t.meas, faults := t.faults, req := { s.req with notice := t.req.notice } } ∧
        t.meas.encoders.get x = { lost with speed := s.meas.n } ∧
        t.meas.encoders.get o = { s.meas.encoders.get o with speed := s.meas.n } ∧ t.meas.n = s.meas.n ∧
        t.meas.shell = (if s.meas.shell.inUse = none then s.meas.shell
          else { s.meas.shell with inUse := none, p := 0, reference := false, valid := false }) ∧
        t.meas.links = s.meas.links ∧ t.meas.receivers = s.meas.receivers ∧
        (∀ y, t.sourcePresent .encoderSingle (sourceOf y) = false) ∧ t.sourcePresent .encoderLoss .first = false ∧
        ∀ k, (t.faults.entry k).latched = (s.faults.entry k).latched) ∧
    ∃ t, exec (.lineBreakRelease x) s = .next t ∧
      t = { s with inputs := { s.inputs with lineBreak := s.inputs.lineBreak.set x false } }

/-- The speed window update (R5 to R7): windows, saved counts and speeds of two HEALTHY encoders, the drive speed, and the
clear time of a LOST one up to its 100th clear update; and the shell position that every update forms, with its INVALID state
and condition (R9, R10, R12). The model's choices: the row of a healed encoder is the update itself (log 2), and the order
inside the update, with no position formed from a marker count that makes it INVALID (log 13). -/
def Obligations.SpeedWindowUpdateRule : Prop :=
  (∀ s : State, s.inputs.lineBreak = ⟨false, false⟩ →
    (∀ x, (s.meas.encoders.get x).lost = false ∧ (s.meas.encoders.get x).touched = false ∧
      (s.meas.encoders.get x).speedZeroNext = false) →
    s.seq.restartPending = false →
    ∃ t, exec .speedWindowUpdate s = .next t ∧
      (∀ x, let e := s.meas.encoders.get x
        let w := (e.count - e.saved).toInt :: e.window.dropLast
        let v := truncDiv (w.foldl (· + ·) 0 * 600000) (s.cfg.countsPerRev * 8)
        t.meas.encoders.get x = { e with
          window := w, saved := e.count, speed := if v < -20000 then -20000 else if 20000 < v then 20000 else v }) ∧
      t.meas.n = (match s.cfg.pinion with
        | .both => truncDiv ((t.meas.encoders.get .a).speed + (t.meas.encoders.get .b).speed) 2
        | .aOnly => (t.meas.encoders.get .a).speed
        | .bOnly => (t.meas.encoders.get .b).speed) ∧
      t.meas.links = s.meas.links ∧ t.meas.receivers = s.meas.receivers ∧ t.regs.map Regulator.angle = s.regs.map
        Regulator.angle ∧ t.watch = s.watch ∧ t.drive = s.drive ∧ t.inputs = s.inputs ∧
      (s.cfg.disagreeLimit = 0 →
        t = { s with meas := t.meas, faults := t.faults, level := t.level, req := { s.req with notice := t.req.notice } })) ∧
  (∀ s : State, s.seq.restartPending = false → ∃ t, exec .speedWindowUpdate s = .next t ∧
    let lost := fun x => (t.meas.encoders.get x).lost
    let inUse := if lost .a = true then (if lost .b = true then none else some .b) else if lost .b = true then some .a
      else if s.cfg.pinion = .bOnly then some Side.b else some Side.a
    let h := if s.meas.shell.inUse = inUse then s.meas.shell
      else { s.meas.shell with inUse := inUse, p := 0, reference := false, valid := false }
    let p := h.p.toInt
    let c := s.cfg.countsPerShell
    let position := if 0 ≤ p then (min 65535 (p * 65536 / c)).toNat else (max 0 (c + p) * 65536 / c).toNat
    (c * 105 / 100 < |p| → t.meas.shell = { h with valid := false }) ∧
    (|p| ≤ c * 105 / 100 → h.valid = false → t.meas.shell = h) ∧
    (|p| ≤ c * 105 / 100 → h.valid = true → t.meas.shell = { h with position := position, sector := position / 1024 }) ∧
    t.sourcePresent .positionInvalid .first = (t.meas.shell.onceValid && !t.meas.shell.valid)) ∧
  ∀ (s : State) (x : Side), (s.meas.encoders.get x).lost = true → (s.meas.encoders.get x).touched = false →
    s.inputs.lineBreak.get x = false → s.seq.restartPending = false →
    ((s.meas.encoders.get x).clearTime = 99 →
      ∃ t, exec (.encoderHealthy x) s = .next t ∧ exec .speedWindowUpdate s = .next t ∧
        (t.meas.encoders.get x).lost = false ∧ (t.meas.encoders.get x).clearTime = 100 ∧
        (t.meas.encoders.get x).saved = (s.meas.encoders.get x).count) ∧
    ((s.meas.encoders.get x).clearTime < 99 →
      ∃ t, exec .speedWindowUpdate s = .next t ∧ (t.meas.encoders.get x).lost = true ∧
        (t.meas.encoders.get x).clearTime = (s.meas.encoders.get x).clearTime + 1 ∧
        (t.meas.encoders.get x).speed = t.meas.n ∧ exec (.encoderHealthy x) s = .next s)

/-- ENCODER DISAGREE (R121): with both encoders HEALTHY and both pinions used in a governed state, a difference above the limit
counts, and the update that reaches the disagree time trips. The model's choices: the comparison comes last, on the speeds that
this same update publishes (log 13); ENCODER_DISAGREE is the update itself (log 2). -/
def Obligations.EncoderDisagreeTrips : Prop :=
  ∀ s : State,
    let m := s.meas.update s.cfg s.inputs.lineBreak
    s.cfg.disagreeLimit ≠ 0 → m.encoders.a.lost = false → m.encoders.b.lost = false → s.cfg.pinion = .both →
    (s.seq.drive = .breakaway ∨ s.seq.drive = .run ∨ s.seq.drive = .stopping) →
    (s.cfg.disagreeLimit < |(m.encoders.a.speed - m.encoders.b.speed)| → s.cfg.disagreeTime ≤ s.level.disagree + 1 →
      s.tripReady → s.sourcePresent .encoderDisagree .first = false →
      ∃ t, exec .encoderDisagree s = .next t ∧ exec .speedWindowUpdate s = .next t ∧
        State.Tripped s t .encoderDisagree ∧ t.sourcePresent .encoderDisagree .first = false ∧ t.level.disagree = 0 ∧
        t.meas = m) ∧
    (s.cfg.disagreeLimit < |(m.encoders.a.speed - m.encoders.b.speed)| → s.level.disagree + 1 < s.cfg.disagreeTime →
      ∃ t, exec .speedWindowUpdate s = .next t ∧ t.level.disagree = s.level.disagree + 1 ∧ t.seq = s.seq) ∧
    (|(m.encoders.a.speed - m.encoders.b.speed)| ≤ s.cfg.disagreeLimit → 0 < s.cfg.disagreeTime →
      ∃ t, exec .speedWindowUpdate s = .next t ∧ t.level.disagree = 0 ∧ t.seq = s.seq)

/-- SHELL MARKER: the four cases of R11, with the position formed again (R10), the MARKER SLIP and POSITION INVALID conditions
reported (R11, R12) and the map image rewritten (R101), whose count gains 2 in the one event (the model's choice, log 19). -/
def Obligations.ShellMarkerCases : Prop :=
  ∀ s : State,
    let h := s.meas.shell
    let p := h.p.toInt
    let c := s.cfg.countsPerShell
    (h.inUse = none → exec .shellMarker s = .next s) ∧
    (h.inUse ≠ none → ∃ t, exec .shellMarker s = .next t ∧
      t = { s with
        meas := { s.meas with shell := t.meas.shell }, faults := t.faults
        watch := { s.watch with imageCount := s.watch.imageCount + 2 }, req := { s.req with notice := t.req.notice }
        mem := t.mem } ∧
      t.meas.shell.inUse = h.inUse ∧ t.meas.shell.p = 0 ∧
      (h.reference = false → t.meas.shell.reference = true ∧ t.meas.shell.valid = true ∧ t.meas.shell.onceValid = true ∧
        t.meas.shell.slip = h.slip ∧ t.meas.shell.position = 0 ∧ t.meas.shell.sector = 0) ∧
      (h.reference = true → |p| < c / 2 → t.meas.shell.reference = true ∧ t.meas.shell.valid = h.valid ∧
        t.meas.shell.onceValid = h.onceValid ∧ t.meas.shell.slip = h.slip ∧
        (h.valid = true → t.meas.shell.position = 0 ∧ t.meas.shell.sector = 0) ∧
        (h.valid = false → t.meas.shell.position = h.position ∧ t.meas.shell.sector = h.sector)) ∧
      (h.reference = true → c / 2 ≤ |p| → t.meas.shell.reference = true ∧ t.meas.shell.valid = true ∧
        t.meas.shell.onceValid = true ∧ t.meas.shell.slip = decide (c * 2 / 100 < |(|p| - c)|) ∧
        t.meas.shell.position = 0 ∧ t.meas.shell.sector = 0) ∧
      t.sourcePresent .markerSlip .first = t.meas.shell.slip ∧
      t.sourcePresent .positionInvalid .first = (h.onceValid && !t.meas.shell.valid) ∧
      (h.reference = false ∨ c / 2 ≤ |p| → t.sourcePresent .positionInvalid .first = false) ∧
      t.mem.readWord mapImageAddr = s.watch.imageCount + 2 ∧
      (∀ ch : Channel, s.watch.fitted ch = true → (s.channel ch).map.length = 64 →
        t.mem.readWords (mapImageAddr + 2 + 132 * ch.val) 66 = (s.channel ch).map.map natWord ++
          [natWord (s.channel ch).worstSector, natWord (s.channel ch).worstValue]) ∧
      (∀ ch : Channel, s.watch.fitted ch = false →
        t.mem.readWords (mapImageAddr + 2 + 132 * ch.val) 66 = List.replicate 66 0) ∧
      ∀ a, ¬(mapImageAddr ≤ a ∧ a < mapImageAddr + 794) → t.mem.read a = s.mem.read a)

/-! ### Sensor link and vibration watch -/

/-- The end of a sensor frame on a fitted channel: the four cases of R15, and the wait for the idle level after a framing
error (R14); a frame on a channel that waits, or that is not fitted, is not received (R14, R18). That an idle level regained
on a channel not fitted changes nothing is the model's choice (log 3). -/
def Obligations.SensorFrameCases : Prop :=
  (∀ (s : State) (c : Channel) (f : SensorFrame), s.watch.fitted c = true → (s.receiver c).waitIdle = false →
    let r := s.receiver c
    let ones := (List.range 16).countP (fun i => f.data.getLsbD i) + (if f.okBit then 1 else 0) +
      (if f.overloadBit then 1 else 0) + (if f.parity then 1 else 0)
    ∃ t, exec (.sensorFrameEnd c f) s = .next t ∧ t = { s with meas := { s.meas with receivers := t.meas.receivers } } ∧
      (∀ d, d ≠ c → t.receiver d = s.receiver d) ∧
      (f.stopIdle = false → t.receiver c = { r with
        lineError := true, waitIdle := true, errors := { r.errors with framing := true } }) ∧
      (f.stopIdle = true → ones % 2 = 1 → t.receiver c = { r with
        lineError := true, errors := { r.errors with parity := true } }) ∧
      (f.stopIdle = true → ones % 2 = 0 → f.okBit = false → f.overloadBit = false → t.receiver c = r) ∧
      (f.stopIdle = true → ones % 2 = 0 → f.okBit = true ∨ f.overloadBit = true → t.receiver c = { r with
        buffer := some (f.data.toInt, if f.overloadBit then .overload else .ok), full := true
        overrun := r.overrun || r.full, lineError := false
        errors := { r.errors with
          overrun := r.errors.overrun || r.full, overload := r.errors.overload || f.overloadBit } })) ∧
  (∀ (s : State) (c : Channel) (f : SensorFrame), s.watch.fitted c = false ∨ (s.receiver c).waitIdle = true →
    exec (.sensorFrameEnd c f) s = .next s) ∧
  (∀ (s : State) (c : Channel), s.watch.fitted c = true → ∃ t, exec (.sensorLineIdleRegained c) s = .next t ∧
    t = { s with meas := { s.meas with receivers := t.meas.receivers } } ∧
    t.receiver c = { s.receiver c with waitIdle := false } ∧ ∀ d, d ≠ c → t.receiver d = s.receiver d) ∧
  ∀ (s : State) (c : Channel), s.watch.fitted c = false → exec (.sensorLineIdleRegained c) s = .next s

/-- A vibration sample period (R16, R83 to R90): block position and quarter count advance, each fitted receiver is taken and its
sample tagged by the cases of R84 (`Receiver.tagged`), the tag sets last good value, held run and seen flags (R85), each sample
enters mean and sum of squares, a held run of 32 makes the channel LOST, and a block end forms the level. Then the
health after a block (R89, R90), the vibration state and its counts (R91 to R93), the danger memory (R94), and the trigger
conditions taken there (R129, R131). The model's choices: the runs at a held run of 32 (log 43), SAMPLE REQUEST kept as a flag
(log 32), the expiry rows as the sample period itself (log 2). -/
def Obligations.VibrationSampleRule : Prop :=
  (∀ s : State, s.seq.restartPending = false → s.watch.awaiting = none → s.watch.settings.isSome = true →
    s.watch.cfg.dwell = 0 →
    let tagOf := fun c => (s.receiver c).tagged
    let sample := fun c => if tagOf c = .held then (s.channel c).lastGood else ((s.receiver c).buffer.map Prod.fst).getD 0
    let mean := fun c => (s.channel c).mean + truncDiv (sample c - (s.channel c).mean) 64
    let sum := fun c => (s.channel c).sumSq + ((sample c - mean c) ^ 2).toNat
    let ran := fun t : State =>
      t.watch.blockPos = (s.watch.blockPos + 1) % 256 ∧ t.watch.quarter = (s.watch.quarter + 1) % 4 ∧
      t.watch.sampleRequest = true ∧ t.seq = s.seq ∧ t.gov = s.gov ∧ t.regs = s.regs ∧ t.drive = s.drive ∧
      t.meas = { s.meas with receivers := t.meas.receivers } ∧
      (∀ c, t.receiver c = if s.watch.fitted c then { s.receiver c with
        full := false, overrun := false, lineError := false
        errors := { (s.receiver c).errors with missing := (s.receiver c).errors.missing || !(s.receiver c).full } }
        else s.receiver c) ∧
      ∀ c, s.watch.fitted c = true → (t.channel c).mean = mean c ∧
        (t.channel c).lastGood = (if tagOf c = .none ∨ tagOf c = .overrun then sample c else (s.channel c).lastGood) ∧
        (t.channel c).heldRun = (if tagOf c = .held then min 32 ((s.channel c).heldRun + 1) else 0) ∧
        (t.channel c).heldSeen = ((s.channel c).heldSeen || decide (tagOf c = .held)) ∧
        (t.channel c).overloadSeen = ((s.channel c).overloadSeen || decide (tagOf c = .overload))
    (s.watch.blockPos < 255 → ∃ t, exec .vibrationSamplePeriod s = .next t ∧ ran t ∧
      (∀ c, s.watch.fitted c = true → (t.channel c).sumSq = sum c ∧
        (t.channel c).held = (s.channel c).held + (if tagOf c = .held then 1 else 0) ∧
        (t.channel c).errs = (s.channel c).errs + (if tagOf c = .overload ∨ tagOf c = .overrun then 1 else 0)) ∧
      (s.watch.quarter = 3 → exec .watchMillisecond s = .next t ∧ (t.group .a).dwell = 0 ∧ (t.group .b).dwell = 0)) ∧
    (s.watch.blockPos < 255 → ∀ c : Channel, s.watch.fitted c = true → tagOf c = .held → (s.channel c).heldRun = 31 →
      (s.channel c).health ≠ .lost →
      ∃ t, exec (.heldRunLost c) s = .next t ∧ exec .vibrationSamplePeriod s = .next t ∧
        (t.channel c).health = .lost ∧ (t.channel c).vib = .unknown ∧ (t.channel c).goodRun = 0 ∧
        (t.channel c).badRun = 0 ∧
        (t.channel c).memory = ((s.channel c).memory || decide ((s.channel c).vib = .danger)) ∧
        t.sourcePresent .sensorLost .first = true) ∧
    (s.watch.blockPos = 255 → ∃ t, exec .blockEnd s = .next t ∧ exec .vibrationSamplePeriod s = .next t ∧ ran t ∧
      ∀ c, s.watch.fitted c = true → (t.channel c).level = isqrt (sum c / 256) ∧
        (t.channel c).levelValid = decide ((s.channel c).held + (if tagOf c = .held then 1 else 0) ≤ 64) ∧
        (t.channel c).sumSq = 0 ∧ (t.channel c).held = 0 ∧ (t.channel c).errs = 0)) ∧
  (∀ (s : State) (c : Channel) (p : Program), s.watch.blockPos = 255 → s.watch.awaiting = none →
    s.seq.restartPending = false → s.watch.fitted c = true →
    let w := s.channel c
    let r := s.receiver c
    let x := if r.tagged = .held then w.lastGood else (r.buffer.map Prod.fst).getD 0
    let m := w.mean + truncDiv (x - w.mean) 64
    let level := isqrt ((w.sumSq + ((x - m) ^ 2).toNat) / 256)
    let held := w.held + (if r.tagged = .held then 1 else 0)
    let bad := 8 < held + w.errs + (if r.tagged = .overload ∨ r.tagged = .overrun then 1 else 0)
    let runs := fun t : State => ((t.channel c).health, (t.channel c).goodRun, (t.channel c).badRun)
    let counts := fun t : State =>
      ((t.channel c).vib, (t.channel c).alertOn, (t.channel c).dangerOn, (t.channel c).offCount)
    let up := fun n : Nat => if n < 255 then n + 1 else 255
    let v := s.watch.cfg
    let la := vget s.watch.cfg.alert c
    let ld := vget s.watch.cfg.danger c
    r.tagged ≠ .held ∨ w.heldRun < 31 →
    let evaluated := fun t : State => held ≤ 64 ∧ v.watchSpeed ≤ |s.meas.n| ∧ (t.channel c).health ≠ .lost
    ∃ t, exec .blockEnd s = .next t ∧
      (w.health = .suspect → ¬bad →
        runs t = if 15 ≤ w.goodRun then (.healthy, 0, 0) else (.suspect, w.goodRun + 1, 0)) ∧
      (w.health = .suspect → bad → runs t = if 3 ≤ w.badRun then (.lost, 0, 0) else (.suspect, 0, w.badRun + 1)) ∧
      (w.health = .healthy → ¬bad → runs t = (.healthy, w.goodRun, w.badRun)) ∧
      (w.health = .healthy → bad → runs t = (.suspect, 0, 1)) ∧
      (w.health = .lost → ¬bad →
        runs t = if 15 ≤ w.goodRun then (.suspect, 0, 0) else (.lost, w.goodRun + 1, w.badRun)) ∧
      (w.health = .lost → bad → runs t = (.lost, 0, w.badRun)) ∧
      (w.health ≠ .lost → (t.channel c).health = .lost → counts t = (.unknown, 0, 0, 0)) ∧
      ((w.health = .lost ∨ (t.channel c).health ≠ .lost) → ¬evaluated t →
        counts t = (w.vib, w.alertOn, w.dangerOn, w.offCount)) ∧
      (evaluated t → w.vib = .normal ∨ w.vib = .unknown →
        let known := w.vib = .normal
        let a := if la ≤ level then up (if known then w.alertOn else 0) else 0
        let d := if ld ≤ level then up (if known then w.dangerOn else 0) else 0
        counts t = if v.dOn ≤ d then (.danger, 0, 0, 0) else if v.aOn ≤ a then (.alert, 0, 0, 0)
          else (.normal, a, d, if known then w.offCount else 0)) ∧
      (evaluated t → w.vib = .alert →
        let d := if ld ≤ level then up w.dangerOn else 0
        let o := if level < la * 9 / 10 then up w.offCount else 0
        counts t = if v.dOn ≤ d then (.danger, 0, 0, 0) else if v.off ≤ o then (.normal, 0, 0, 0)
          else (.alert, w.alertOn, d, o)) ∧
      (evaluated t → w.vib = .danger →
        let o := if level < ld * 9 / 10 then up w.offCount else 0
        counts t = if v.off ≤ o then (.alert, 0, 0, 0) else (.danger, w.alertOn, w.dangerOn, o)) ∧
      ((t.channel c).memory = true ↔
        (w.memory = true ∨ (w.health ≠ .lost ∧ (t.channel c).health = .lost ∧ w.vib = .danger)) ∧
        ¬(evaluated t ∧ (t.channel c).health = .healthy ∧ (t.channel c).vib = .normal)) ∧
      ((t.channel c).health ≠ w.health → s.waitsFor .healthChange p → s.windowBegun t p) ∧
      (w.vib = .normal → (t.channel c).vib = .alert → s.waitsFor .vibAlert p → s.windowBegun t p) ∧
      (w.vib ≠ .danger → (t.channel c).vib = .danger → s.waitsFor .vibDanger p → s.windowBegun t p)) ∧
  ∀ (s : State) (c : Channel) (p : Program), s.watch.blockPos < 255 → s.seq.restartPending = false → s.watch.fitted c = true →
    (s.receiver c).tagged = .held → (s.channel c).heldRun = 31 → (s.channel c).health ≠ .lost → s.waitsFor .healthChange p →
    ∃ t, exec (.heldRunLost c) s = .next t ∧ s.windowBegun t p

/-- The danger dwell (R100): at a watch millisecond in a governed state the timer of a group in DANGER counts, and the one
that reaches the dwell setting trips VIB DANGER as a pulse; with no channel in DANGER it is 0. `u` is the state after the
samples of the period. And at every sample period demand, VIB ALERT, dwell and the sensor conditions of both groups stay as
their channels ask (R90, R98 to R100). The model's choices: the expiry rows are the sample period itself (log 2). -/
def Obligations.DangerDwellTrips : Prop :=
  (∀ (s : State) (g : Side), s.watch.blockPos < 255 → s.watch.quarter = 3 →
    let u := s.takeSamples.advanceBlock
    (∃ c, u.watch.fitted c = true ∧ groupOf c = g ∧ (u.channel c).vib = .danger) →
    (s.seq.drive = .breakaway ∨ s.seq.drive = .run ∨ s.seq.drive = .stopping) → s.watch.cfg.dwell ≠ 0 →
    ((u.group g).dwell + 1 < s.watch.cfg.dwell →
      (u.group (otherSide g)).dwell + 1 < s.watch.cfg.dwell →
      ∃ t, exec .watchMillisecond s = .next t ∧ (t.group g).dwell = (u.group g).dwell + 1 ∧ t.seq = s.seq ∧
        t.gov = s.gov) ∧
    (s.watch.cfg.dwell ≤ (u.group g).dwell + 1 → (u.group (otherSide g)).dwell + 1 < s.watch.cfg.dwell → s.tripReady →
      u.sourcePresent (.vibDanger g) .first = false →
      ∃ t, exec (.dangerDwellExpiry g) s = .next t ∧ exec .vibrationSamplePeriod s = .next t ∧
        State.Tripped s t (.vibDanger g) ∧ t.sourcePresent (.vibDanger g) .first = false ∧ (t.group g).dwell = 0)) ∧
  ∀ s : State, s.vibrationLaw →
    (∃ t, exec .vibrationSamplePeriod s = .next t ∧ t.vibrationLaw) ∧
    ∀ (k : Fin 8) (rest : List (Fin 8)), s.atHead (some .resetSectorMap) k rest →
      ∃ t, exec .resetSectorMap s = .next t ∧ t.vibrationLaw

/-! ### Sequencer -/

/-- A sequencer millisecond by the drive state where no count reaches its time (R19, R22, R24, R26, R28 to R30, R36): the ramp
moves toward 1000 times its target, counts count, and only BACKROLL can be reported. -/
def Obligations.SequencerMillisecondTable : Prop :=
  ∀ s : State,
    let c := s.cfg
    let q := s.seq
    let target := 1000 * q.rampTarget
    let step := if |q.ramp| < |target| then c.accelRate else c.decelRate
    let ramp := if q.ramp < target then min target (q.ramp + step) else max target (q.ramp - step)
    let dwelt := if |s.meas.n| ≤ c.zeroBand then q.zeroCount + 1 else 0
    let becomes := fun q' : Sequencer => ∃ t, exec .sequencerMillisecond s = .next t ∧ t = { s with seq := q' }
    (q.drive = .unconfigured ∨ q.drive = .tripped → becomes q) ∧
    (q.drive = .stopped → ∃ t, exec .sequencerMillisecond s = .next t ∧
      let b := if q.backroll then decide (c.backrollSpeed / 2 < |s.meas.n|) else decide (c.backrollSpeed < |s.meas.n|)
      t = { s with seq := { q with backroll := b }, faults := t.faults, req := { s.req with notice := t.req.notice } } ∧
      t.sourcePresent .backroll .first = b ∧ ∀ k, k ≠ .backroll → t.faults.entry k = s.faults.entry k) ∧
    (q.drive = .magnetizing → q.magCount + 1 < c.magTime → becomes { q with
      magCount := q.magCount + 1, flux := c.idf * ((q.magCount + 1 : Nat) : Int) / (c.magTime : Int) }) ∧
    (q.drive = .breakaway → |s.meas.n| < c.nb → q.breakawayCount + 1 < c.breakawayTime → becomes { q with
      ramp := ramp, breakawayCount := q.breakawayCount + 1 }) ∧
    (q.drive = .breakaway → c.nb ≤ |s.meas.n| → s.encodersKnown →
      ∃ t, exec .sequencerMillisecond s = .next t ∧
        t.seq = { q with ramp := ramp, breakawayCount := q.breakawayCount + 1, drive := .run } ∧ t.gov = s.gov ∧
        t.regs = s.regs ∧ t.record = s.record ∧ t.store = s.store ∧ t.faults.lock = s.faults.lock ∧ t.mem = s.mem ∧
        s.sameField t) ∧
    (q.drive = .run → becomes { q with ramp := ramp }) ∧
    (q.drive = .stopping → q.phase = .decelerating → becomes { q with
      ramp := ramp, phase := if ramp = 0 then .atZero else .decelerating }) ∧
    (q.drive = .stopping → q.phase = .atZero → dwelt < c.zeroDwell → becomes { q with zeroCount := dwelt }) ∧
    (q.drive = .stopping → q.phase = .brakeSetting → q.brakeCount + 1 < c.brakeSetTime → becomes { q with
      brakeCount := q.brakeCount + 1 })

/-- The expiries of the sequencer (R22, R24, R29, R30), each being the millisecond at which its count reaches its time (log
2): MAGNETIZING goes on to BREAKAWAY with the brake released, BREAKAWAY ends in STALL, or in RUN where the same step finds |n|
at nb, AT ZERO sets the brake, and the end of the brake set time enters STOPPED, with a time of 0 at the very step that does.
-/
def Obligations.SequencerExpiries : Prop :=
  ∀ s : State,
    let c := s.cfg
    let q := s.seq
    let dwelt := if |s.meas.n| ≤ c.zeroBand then q.zeroCount + 1 else 0
    (q.drive = .magnetizing → c.magTime ≤ q.magCount + 1 → s.encodersKnown →
      ∃ t, exec .magnetizingTimeExpiry s = .next t ∧ exec .sequencerMillisecond s = .next t ∧ t.gov = s.gov ∧
        t.faults.lock = s.faults.lock ∧ t.record = s.record ∧ t.store = s.store ∧ t.regs = s.regs ∧ t.mem = s.mem ∧
        s.sameField t ∧
        t.seq = { q with
          magCount := q.magCount + 1, flux := c.idf * ((q.magCount + 1 : Nat) : Int) / (c.magTime : Int)
          breakawayCount := 0, brakeRelease := true, drive := .breakaway
          rampTarget :=
            if q.runKind = .normal then
              (if q.hostTarget < 0 then 0 else if c.nmax < q.hostTarget then c.nmax else q.hostTarget)
            else if q.direction = .forward then c.creepSpeed else -c.creepSpeed }) ∧
    (q.drive = .breakaway → |s.meas.n| < c.nb → c.breakawayTime ≤ q.breakawayCount + 1 → s.tripReady →
      s.sourcePresent .stall .first = false →
      ∃ t, exec .breakawayTimeExpiry s = .next t ∧ exec .sequencerMillisecond s = .next t ∧
        State.Tripped s t .stall ∧ t.sourcePresent .stall .first = false ∧ s.sameField t) ∧
    (q.drive = .stopping → q.phase = .atZero → c.zeroDwell ≤ dwelt → c.brakeSetTime ≠ 0 →
      ∃ t, exec .zeroSpeedDwellReached s = .next t ∧ exec .sequencerMillisecond s = .next t ∧ t = { s with seq := { q with
        zeroCount := dwelt, brakeRelease := false, brakeCount := 0, phase := .brakeSetting } }) ∧
    (q.drive = .stopping → q.phase = .brakeSetting → c.brakeSetTime ≤ q.brakeCount + 1 → q.restartPending = false →
      ∃ t, exec .brakeSetTimeExpiry s = .next t ∧ exec .sequencerMillisecond s = .next t ∧ t.gov.atRest ∧
        t.record = s.record ∧ t.store = s.store ∧ t.mem = s.mem ∧ t.faults.lock = s.faults.lock ∧ s.sameField t ∧
        t.seq = { q with
          phase := .none, zeroCount := 0, brakeCount := 0, flux := 0, gate := ⟨false, false⟩, drive := .stopped }) ∧
    (q.drive = .stopping → q.phase = .brakeSetting → c.brakeSetTime ≤ q.brakeCount + 1 → q.restartPending = true →
      ∃ t, exec .brakeSetTimeExpiry s = .next t ∧ t.seq.drive = .unconfigured ∧ t.req = .reset) ∧
    (q.drive = .breakaway → c.nb ≤ |s.meas.n| → c.breakawayTime ≤ q.breakawayCount + 1 → s.encodersKnown →
      ∃ t, exec .breakawayTimeExpiry s = .next t ∧ exec .sequencerMillisecond s = .next t ∧ t.seq.drive = .run ∧
        t.gov = s.gov ∧ t.regs = s.regs ∧ t.record = s.record ∧ t.faults.lock = s.faults.lock ∧ s.sameField t) ∧
    (q.drive = .stopping → q.phase = .atZero → c.zeroDwell ≤ dwelt → c.brakeSetTime = 0 → q.restartPending = false →
      ∃ t, exec .zeroSpeedDwellReached s = .next t ∧ exec .brakeSetTimeExpiry s = .next t ∧
        exec .sequencerMillisecond s = .next t ∧ t.gov.atRest ∧ t.record = s.record ∧ t.store = s.store ∧
        t.mem = s.mem ∧ t.faults.lock = s.faults.lock ∧ s.sameField t ∧ t.seq = { q with
          phase := .none, zeroCount := 0, brakeCount := 0, brakeRelease := false, flux := 0, gate := ⟨false, false⟩
          drive := .stopped }) ∧
    (q.drive = .stopping → q.phase = .atZero → c.zeroDwell ≤ dwelt → c.brakeSetTime = 0 → q.restartPending = true →
      ∃ t, exec .brakeSetTimeExpiry s = .next t ∧ t.seq.drive = .unconfigured ∧ t.req = .reset) ∧
    (q.drive ≠ .magnetizing → exec .magnetizingTimeExpiry s = .next s) ∧
    (q.drive ≠ .breakaway → exec .breakawayTimeExpiry s = .next s) ∧
    (q.drive ≠ .stopping → exec .zeroSpeedDwellReached s = .next s ∧ exec .brakeSetTimeExpiry s = .next s)

/-- RUN PERMIT and E-STOP by drive state and permit action (R32, R33). That a permit already dropped and an E-STOP already
active change nothing is the model's choice (log 3). -/
def Obligations.PermitAndEStop : Prop :=
  ∀ s : State,
    let off : State := { s with inputs := { s.inputs with runPermit := false } }
    let absent : State := { off with seq := { s.seq with permit := true } }
    (s.inputs.runPermit = false → exec .runPermitDrop s = .next s) ∧
    (s.inputs.runPermit = true → s.seq.drive.running = false ∨ (s.cfg.permitAction = .ramp ∧ s.seq.drive = .stopping) →
      ∃ t, exec .runPermitDrop s = .next t ∧ t = off) ∧
    (s.inputs.runPermit = true → s.cfg.permitAction = .ramp → s.seq.drive = .magnetizing → s.seq.restartPending = false →
      ∃ t, exec .runPermitDrop s = .next t ∧ t.inputs = off.inputs ∧ t.gov.atRest ∧ t.record = s.record ∧ off.sameField t ∧
        t.mem = s.mem ∧
        t.seq = { s.seq with flux := 0, magCount := 0, gate := ⟨false, false⟩, drive := .stopped }) ∧
    (s.inputs.runPermit = true → s.cfg.permitAction = .ramp → s.seq.drive = .breakaway ∨ s.seq.drive = .run →
      s.encodersKnown →
      ∃ t, exec .runPermitDrop s = .next t ∧ t.inputs = off.inputs ∧ t.gov = s.gov ∧ t.record = s.record ∧ off.sameField t ∧
        t.regs = s.regs ∧ t.mem = s.mem ∧
        t.seq = { s.seq with drive := .stopping, phase := .decelerating, rampTarget := 0, zeroCount := 0, brakeCount := 0 }) ∧
    (s.inputs.runPermit = true → s.cfg.permitAction = .trip → s.seq.drive.running = true → s.tripReady →
      s.sourcePresent .permit .first = false →
      ∃ t, exec .runPermitDrop s = .next t ∧ t.inputs = off.inputs ∧ State.Tripped absent t .permit ∧
        t.present .permit = true ∧ off.sameField t) ∧
    (∃ t, exec .runPermitReturn s = .next t ∧
      t = { s with
        inputs := { s.inputs with runPermit := true }, seq := { s.seq with permit := false }, faults := t.faults } ∧
      t.sourcePresent .permit .first = false ∧
      (∀ k, (t.faults.entry k).latched = (s.faults.entry k).latched) ∧
      ∀ k, k ≠ .permit → t.faults.entry k = s.faults.entry k) ∧
    (s.inputs.eStop = true → exec .eStopActive s = .next s) ∧
    (s.inputs.eStop = false → s.sourcePresent .eStop .first = false →
      ∃ t, exec .eStopActive s = .next t ∧ t.inputs = { s.inputs with eStop := true } ∧
        (s.tripReady → State.Tripped { s with seq := { s.seq with eStop := true } } t .eStop ∧ t.present .eStop = true) ∧
        (s.seq.drive = .unconfigured ∨ (s.seq.drive = .tripped ∧ s.faults.lock = true ∧ s.faults.windowOpen = false) →
          t = { s with inputs := t.inputs, seq := { s.seq with eStop := true }, faults := t.faults } ∧
          t.faults.lock = s.faults.lock ∧ (t.faults.entry .eStop).latched = true ∧ t.present .eStop = true ∧
          ∀ k, k ≠ .eStop → t.faults.entry k = s.faults.entry k)) ∧
    ∃ t, exec .eStopInactive s = .next t ∧
      t = { s with
        inputs := { s.inputs with eStop := false }, seq := { s.seq with eStop := false }, faults := t.faults } ∧
      t.sourcePresent .eStop .first = false ∧ (∀ k, (t.faults.entry k).latched = (s.faults.entry k).latched) ∧
      ∀ k, k ≠ .eStop → t.faults.entry k = s.faults.entry k

/-- What the record unit does at a first cause, at a follow-on and at the expiry of the grouping window (R108, R109, R126,
R135 to R140, R110), shown at E-STOP, with the snapshot (R137), the trigger that a first cause makes (R126) and what the store
does with the record handed over: its body begins, or the erase that runs is suspended, or the record waits, or it ends
DROPPED at a full queue (R154, R156, R157); the image of the posted record with the store's answer (R139, R183); a grouping
window of 0, with which the record is closed at once (R110); and the trigger window's expiry (R132). That the window timers
count microseconds, and that the expiry of a window that is not open changes nothing, are the model's choices (log 4, log 3).
-/
def Obligations.TripRecordLife : Prop :=
  (∀ (s : State) (r : RecordSettings), s.inputs.eStop = false → s.sourcePresent .eStop .first = false → s.tripReady →
    s.record.settings = some r → r.window ≠ 0 → s.record.idCounter < 0xFFFFFFFF →
    ∃ t, exec .eStopActive s = .next t ∧ ∃ o, t.record.openRecord = some o ∧ o.id = s.record.idCounter ∧
      o.first = some (.eStop, none) ∧ o.followOns = [] ∧ o.lostCauses = 0 ∧ o.drive = s.seq.drive ∧
      o.runKind = s.seq.runKind ∧ o.clock = s.req.clock ∧ o.clockSet = s.req.clockSet ∧ o.partTime = s.req.partTime ∧
      o.fired = none ∧ o.storeStatus = .queued ∧ s.SnapshotTaken o.snap ∧ t.record.kindSet = [.eStop] ∧
      t.record.idCounter = s.record.idCounter + 1 ∧ t.faults.windowOpen = true ∧ t.faults.windowLen = r.window ∧
      t.faults.firstCauseTime = s.req.partTime ∧ t.faults.timer = 0 ∧
      State.Triggered s t (some s.record.idCounter) o.ref ∧
      t.record.entries = s.record.entries ∧ t.store = s.store ∧ t.mem = s.mem) ∧
  (∀ (s : State) (r : RecordSettings), s.inputs.eStop = false → s.sourcePresent .eStop .first = false → s.tripReady →
    s.record.settings = some r → r.window = 0 → s.record.idCounter < 0xFFFFFFFF →
    let queues := decide (s.store.state ≠ .absent ∧ s.store.state ≠ .outOfService ∧ s.store.queue.length < 4)
    ∃ t, exec .eStopActive s = .next t ∧ t.seq.drive = .tripped ∧ t.faults.lock = true ∧ t.faults.windowOpen = false ∧
      t.record.openRecord = none ∧ t.record.kindSet = [] ∧ t.record.idCounter = s.record.idCounter + 1 ∧
      (queues = true → t.store.queue.map QueuedRecord.id = s.store.queue.map QueuedRecord.id ++ [s.record.idCounter]) ∧
      ∃ o : Record, o.id = s.record.idCounter ∧ o.first = some (.eStop, none) ∧ o.followOns = [] ∧ o.lostCauses = 0 ∧
        o.drive = s.seq.drive ∧ o.runKind = s.seq.runKind ∧ o.clock = s.req.clock ∧ o.clockSet = s.req.clockSet ∧
        o.partTime = s.req.partTime ∧ o.fired = none ∧ s.SnapshotTaken o.snap ∧
        o.storeStatus = (if queues then .queued else if s.store.state = .absent then .none else .dropped) ∧
        State.Triggered s t (some s.record.idCounter) o.ref ∧
        ((s.record.listEntry s.record.nextIndex).state = .empty →
          t.record.listEntry s.record.nextIndex = ⟨.filled, some o.id, o.ref⟩ ∧ t.ImageShown s.record.nextIndex o)) ∧
  (∀ (s : State) (o : Record), s.inputs.eStop = false → s.sourcePresent .eStop .first = false → s.seq.drive = .tripped →
    s.faults.lock = true → s.faults.windowOpen = true → s.record.openRecord = some o →
    ∃ t, exec .eStopActive s = .next t ∧ (t.faults.entry .eStop).latched = true ∧ t.seq.drive = .tripped ∧
      (.eStop ∈ s.record.kindSet → t.record = s.record) ∧
      (.eStop ∉ s.record.kindSet → o.followOns.length < 7 →
        t.record = { s.record with
          kindSet := s.record.kindSet ++ [.eStop]
          openRecord := some { o with followOns := o.followOns ++ [⟨.eStop, none, s.faults.timer / 1000⟩] } }) ∧
      (.eStop ∉ s.record.kindSet → 7 ≤ o.followOns.length →
        t.record = { s.record with
          kindSet := s.record.kindSet ++ [.eStop], openRecord := some { o with lostCauses := o.lostCauses + 1 } })) ∧
  (∀ (s : State) (o : Record), s.faults.windowOpen = true → 1000 * s.faults.windowLen ≤ s.faults.timer →
    s.record.openRecord = some o →
    ∃ t, exec .groupingWindowExpiry s = .next t ∧ t.faults.windowOpen = false ∧ t.faults.lock = s.faults.lock ∧
      t.record.openRecord = none ∧ t.record.kindSet = [] ∧ t.seq = s.seq ∧ t.gov = s.gov ∧
      ((s.record.listEntry s.record.nextIndex).state = .empty →
        t.record.listEntry s.record.nextIndex = ⟨.filled, some o.id, o.ref⟩ ∧
        t.record.nextIndex = s.record.nextIndex + 1 ∧ t.req.notice.getLsbD noticeRecord = true ∧
        t.mem.readWord (entryAddr s.record.nextIndex) = 1 ∧
        t.ImageShown s.record.nextIndex { o with
          storeStatus := if s.store.state = .absent then .none
            else if s.store.state = .outOfService ∨ 4 ≤ s.store.queue.length then .dropped else .queued }) ∧
      ((s.record.listEntry s.record.nextIndex).state ≠ .empty →
        t.record.nextIndex = s.record.nextIndex ∧ t.record.entries = s.record.entries ∧
        t.record.unposted = if s.record.unposted < 65535 then s.record.unposted + 1 else 65535) ∧
      (s.store.state = .absent → t.store = s.store) ∧
      (s.store.state = .scanning ∨ s.store.state = .ready ∨ s.store.state = .busy → s.store.queue.length < 4 →
        t.store.queue.map QueuedRecord.id = s.store.queue.map QueuedRecord.id ++ [o.id]) ∧
      (s.store.state = .ready → s.store.queue = [] → s.store.job = .idle → s.store.blankSlot.isSome = true →
        (s.store.erase ≠ .running →
          t.store.job = .bodyEnable ∧ t.store.transfer = some ⟨[s.store.cfg.opWriteEnable], 0⟩) ∧
        (s.store.erase = .running → s.store.cfg.suspendSupported = true →
          t.store.job = .suspendSend ∧ t.store.transfer = some ⟨[s.store.cfg.opSuspend], 0⟩) ∧
        (s.store.erase = .running → s.store.cfg.suspendSupported = false →
          t.store = { s.store with queue := t.store.queue })) ∧
      (s.store.state = .outOfService ∨ (s.store.state ≠ .absent ∧ 4 ≤ s.store.queue.length) →
        t.store = { s.store with dropped := if s.store.dropped < 65535 then s.store.dropped + 1 else 65535 } ∧
        t.req.notice.getLsbD noticeStore = true ∧
        (s.sourcePresent .storeFault .second = false → (t.faults.entry .storeFault).seen = true ∧
          (t.faults.entry .storeFault).detail = some 1 ∧ t.sourcePresent .storeFault .second = false))) ∧
  (∀ s : State, s.faults.windowOpen = false → exec .groupingWindowExpiry s = .next s) ∧
  (∀ s : State, s.record.trigState = .waitSecond → 1000 * s.record.triggerWindow ≤ s.record.windowTimer →
    ∃ t, exec .triggerWindowExpiry s = .next t ∧ t = { s with record := { s.record with trigState := .waitFirst } }) ∧
  ∀ s : State, s.record.trigState ≠ .waitSecond → exec .triggerWindowExpiry s = .next s

/-! ### Governor -/

/-- A governor period (R41 to R46, R50, R56, R57, R59 to R61, R80): what it takes, the factors, the regulator of speed, the
hold flag, the current demands and the deviation counts, the idle states; the ENVELOPE that comes into force (R64); the status
block word by word, with the code words (R81, R177, R179, R182, R186); the trips TORQUE DEV, JAM and OVERSPEED; the periods at
which a deviation count or a limited run reaches its time; the trigger conditions taken there (R129). The model's choices: the
expiry rows are the governor period itself (log 2), the reports come in the order TORQUE DEV A, B, JAM, OVERSPEED and before
the end of LOAD SETTINGS (log 20), the values a regulator publishes at its arrival (log 52), a rewrite of the status block is
one event (log 19), a condition without an x shows 0 (log 21), and so do the words of the trigger program while there is none
(log 56). -/
def Obligations.GovernorPeriodRule : Prop :=
  (∀ s : State, s.seq.restartPending = false → s.gov.awaiting = none →
    ∃ t, exec .governorPeriod s = .next t ∧
      (∀ x, (t.regs.get x).iqSum = 0 ∧ (t.regs.get x).iqCount = 0 ∧ (t.regs.get x).voltageLimited = false ∧
        (t.regs.get x).lastPeriod = (s.regs.get x).voltageLimited) ∧
      (∀ x, t.gov.demand.get x = (s.watch.groups.get x).demand ∧
        t.gov.factor.get x = min s.gov.h (s.watch.groups.get x).demand ∧
        t.gov.estimate.get x = if (s.regs.get x).iqCount = 0 then s.gov.estimate.get x
          else truncDiv (truncDiv (s.regs.get x).iqSum (s.regs.get x).iqCount * s.cfg.k x) 1000) ∧
      t.gov.history = s.meas.n :: s.gov.history.dropLast ∧
      t.gov.overspeed = decide (s.cfg.nmax * 110 / 100 < |s.meas.n|) ∧
      (s.req.starting = false → t.req.updateCount = s.req.updateCount + 2 ∧
        t.mem.readWord statusAddr = s.req.updateCount + 2) ∧
      t.meas = s.meas ∧ t.watch = s.watch ∧ t.drive = s.drive ∧ t.inputs = s.inputs ∧
      (s.seq.drive.governed = false → t.gov.still ∧ t.gov.td = 0 ∧ t.gov.iacc = 0 ∧
        t.gov.limit = ⟨⟨0, 0⟩, ⟨0, 0⟩⟩ ∧
        (|s.meas.n| ≤ s.cfg.nmax * 110 / 100 → t.seq = s.seq ∧
          t.gov.idRef = if s.seq.drive = .magnetizing then s.seq.flux else 0)) ∧
      (s.seq.drive.governed = true → t.gov.e = s.seq.r - s.meas.n ∧ t.gov.p = truncDiv (t.gov.e * s.cfg.kp) 100 ∧
        (t.seq.drive = s.seq.drive →
          t.gov.iacc = (let raw := if s.gov.hold then s.gov.iacc else s.gov.iacc + t.gov.e * s.cfg.ki
            if raw < -6000000 then -6000000 else if 6000000 < raw then 6000000 else raw) ∧
          t.gov.i = truncDiv t.gov.iacc 1000 ∧
          t.gov.td = (let raw := t.gov.p + t.gov.i
            if raw < -6000 then -6000 else if 6000 < raw then 6000 else raw) ∧
          t.gov.idRef = s.cfg.idf ∧ t.gov.tp = t.gov.tg ∧
          (∀ x, t.gov.iqRef.get x =
            let bound : Int := isqrt (s.cfg.imax * s.cfg.imax - s.cfg.idf * s.cfg.idf).toNat
            let wanted := truncDiv (t.gov.torque.get x * 1000) (s.cfg.k x)
            if wanted < -bound then -bound else if bound < wanted then bound else wanted) ∧
          t.gov.hold = decide (|t.gov.tg| < |t.gov.td| ∧ 0 < t.gov.e * t.gov.td) ∧
          ∀ x, t.gov.devCount.get x =
            let n := if (s.regs.get x).voltageLimited = true then s.gov.devCount.get x
              else if s.cfg.devLimit < |(t.gov.estimate.get x - s.gov.torque.get x)| then s.gov.devCount.get x + 1 else 0
            if s.cfg.pinion.has x = true then (if s.cfg.devTime ≤ n then 0 else n) else 0))) ∧
  (∀ (s : State) (x : Side), s.tripReady → s.seq.drive.governed = true → s.cfg.pinion.has x = true →
    (s.regs.get x).voltageLimited = false → s.cfg.devTime ≤ s.gov.devCount.get x + 1 →
    s.cfg.devLimit < |((if (s.regs.get x).iqCount = 0 then s.gov.estimate.get x
      else truncDiv (truncDiv (s.regs.get x).iqSum (s.regs.get x).iqCount * s.cfg.k x) 1000) - s.gov.torque.get x)| →
    s.sourcePresent (.torqueDev x) .first = false →
    ∃ t, exec (.torqueDev x) s = .next t ∧ exec .governorPeriod s = .next t ∧ State.Tripped s t (.torqueDev x) ∧
      t.sourcePresent (.torqueDev x) .first = false) ∧
  (∀ (s : State) (x : Side), s.seq.restartPending = false → s.gov.awaiting = none → s.cfg.pinion.has x = true →
    (s.regs.get x).voltageLimited = true →
    (s.regs.get x).limitedRun = 1999 → s.sourcePresent .voltageLimited (sourceOf x) = false →
    ∃ t, exec (.voltageLimitedRunReached x) s = .next t ∧ exec .governorPeriod s = .next t ∧
      (t.regs.get x).limitedRun = 2000 ∧ t.sourcePresent .voltageLimited (sourceOf x) = true ∧
      (t.faults.entry .voltageLimited).seen = true) ∧
  (∀ s : State, s.seq.restartPending = false → s.gov.awaiting = none →
    let g := s.governorValues (s.regs.map Regulator.handOver) (s.watch.groups.map GroupWatch.demand)
    let fast := s.cfg.nmax * 110 / 100 < |s.meas.n|
    (s.tripReady → s.seq.drive.governed = true → g.atLimit = true → s.cfg.jamDecel ≠ 0 →
      s.cfg.jamDecel < signOf g.tg * (s.gov.history.getLastD 0 - s.meas.n) → s.sourcePresent .jam .first = false →
      ∃ t, exec .governorPeriod s = .next t ∧ State.Tripped s t .jam ∧ t.sourcePresent .jam .first = false) ∧
    (s.tripReady → fast → s.sourcePresent .overspeed .first = false →
      ∃ t, exec .governorPeriod s = .next t ∧ State.Tripped s t .overspeed ∧ t.present .overspeed = true) ∧
    (s.seq.drive = .unconfigured → fast → s.sourcePresent .overspeed .first = false →
      ∃ t, exec .governorPeriod s = .next t ∧ t.seq = s.seq ∧ t.faults.lock = s.faults.lock ∧
        (t.faults.entry .overspeed).latched = true ∧ t.present .overspeed = true) ∧
    (¬fast → ∃ t, exec .governorPeriod s = .next t ∧ t.sourcePresent .overspeed .first = false) ∧
    (∀ p : Program, s.waitsFor .torqueAtLimit p → s.gov.atLimit = false → g.atLimit = true →
      ∃ t, exec .governorPeriod s = .next t ∧ s.windowBegun t p) ∧
    (∀ (x : Side) (p : Program), s.waitsFor .voltageLimited p → (s.regs.get x).voltageLimited = true →
      (s.regs.get x).lastPeriod = false → ∃ t, exec .governorPeriod s = .next t ∧ s.windowBegun t p) ∧
    (s.req.starting = false → ∃ t, exec .governorPeriod s = .next t ∧ t.StatusShown) ∧
    (s.req.starting = false → ∃ t, exec .governorPeriod s = .next t ∧ ∀ x : Side,
      let r := s.regs.get x
      let v := r.published
      t.mem.readWords (statusAddr + 2 * (40 + 12 * sideCode x)) 12 =
        [intWord r.id, intWord r.iq, intWord v.vd, intWord v.vq, intWord v.duties.a, intWord v.duties.b, intWord v.duties.c] ++
        (match v.pendingDuties with
          | some d => [intWord d.a, intWord d.b, intWord d.c]
          | none => [0, 0, 0]) ++
        [flagWord r.gateBlock ||| (flagWord r.voltageLimited <<< 1), natWord v.missing])) ∧
  codesOfTable ∧
  ∀ (s : State) (e : List Breakpoint) (k : Fin 8), s.gov.awaiting = some (e, k) → s.seq.restartPending = false →
    let l := envelopeAt e |s.meas.n|
    let others := s.drive.isSome = true ∧ s.watch.settings.isSome = true ∧ s.record.settings.isSome = true ∧
      s.store.settings.isSome = true ∧ s.store.state ≠ .scanning
    ∃ t, exec .governorPeriod s = .next t ∧ t.gov.envelope = some e ∧ t.gov.awaiting = none ∧
      State.Completed t k .done .ok [1] ∧
      (s.seq.drive.governed = true →
        let base := fun limit : Int =>
          let l0 := if s.seq.runKind = .creep then s.cfg.lc else limit
          if s.seq.drive = .breakaway ∧ |s.meas.n| < s.cfg.nb then max l0 s.cfg.lb else l0
        t.gov.l0 = ⟨base l.motoring, base l.regenerating⟩) ∧
      (s.seq.drive = .unconfigured → ¬others → t.seq = s.seq) ∧
      (s.seq.drive = .unconfigured → others → |s.meas.n| ≤ s.cfg.nmax * 110 / 100 →
        (∀ f ∈ FaultKind.tripKinds, (s.faults.entry f).latched = false) → t.seq.drive = .stopped)

/-- Under settings in range a governor period in BREAKAWAY, RUN or STOPPING leaves a grant within the total limit, torques that
add up to it and keep their own limits, and current demands within the circle of imax (R51, R54 to R56). The envelope between
two breakpoints and from the last one on (R48), and where the period ends in no trip the grant itself: limits of both directions
(R47, R49, R51), clamped demand, rate step (R52), freeze (R53), final clamp and at-limit flag (R54). -/
def Obligations.GrantAndDemandsWithinLimits : Prop :=
  (∀ s : State, s.seq.drive.governed = true → s.seq.restartPending = false → s.gov.awaiting = none → s.cfg.sane →
    (∀ e, s.gov.envelope = some e → envelopeSane e) → 0 ≤ s.gov.h → (∀ x, 0 ≤ (s.watch.groups.get x).demand) →
    ∃ t, exec .governorPeriod s = .next t ∧
      let la := t.gov.publishedLimit .a
      let lb := t.gov.publishedLimit .b
      0 ≤ la ∧ 0 ≤ lb ∧ |t.gov.tg| ≤ la + lb ∧ t.gov.torque.a + t.gov.torque.b = t.gov.tg ∧
      |t.gov.torque.a| ≤ la ∧ |t.gov.torque.b| ≤ lb ∧
      (∀ x, t.gov.idRef ^ 2 + (t.gov.iqRef.get x) ^ 2 ≤ s.cfg.imax ^ 2) ∧
      (t.seq.drive = s.seq.drive →
        let c := s.cfg
        let n := s.meas.n
        let env := envelopeAt (s.gov.envelope.getD []) |n|
        let base := fun limit : Int =>
          let l := if s.seq.runKind = .creep then c.lc else limit
          if s.seq.drive = .breakaway ∧ |n| < c.nb then max l c.lb else l
        let factor := fun x => min s.gov.h (s.watch.groups.get x).demand
        let limit := fun (x : Side) (d : LimitDir) => if c.pinion.has x = true then
          base (if d = .regenerating then env.regenerating else env.motoring) * factor x / 1000 else 0
        let dir := fun torque : Int => if torque * n < 0 then LimitDir.regenerating else .motoring
        let total := fun torque : Int => limit .a (dir torque) + limit .b (dir torque)
        let clamped := fun torque : Int => signOf torque * min |torque| (total torque)
        let tp := s.gov.tp
        let tc := clamped t.gov.td
        let stepped := if |tp| < |tc| ∨ tc * tp < 0 then tp + max (-c.rate) (min c.rate (tc - tp)) else tc
        let frozen := (c.pinion.has .a && s.regs.a.voltageLimited) || (c.pinion.has .b && s.regs.b.voltageLimited)
        let tr := if frozen then (if tp = 0 ∨ stepped * tp < 0 then 0
          else if |tp| < |stepped| then tp else stepped) else stepped
        (∀ x d, (t.gov.limit.get x).get d = limit x d) ∧ t.gov.tg = clamped tr ∧ t.gov.tp = clamped tr ∧
        t.gov.limitDir = dir t.gov.tg ∧
        t.gov.atLimit = decide (t.gov.tg ≠ 0 ∧ |t.gov.tg| = total t.gov.tg))) ∧
  (∀ (before after : List Breakpoint) (b b' : Breakpoint) (v : Int), envelopeSane (before ++ b :: b' :: after) →
    b.speed ≤ v → v < b'.speed →
    envelopeAt (before ++ b :: b' :: after) v =
      ⟨b.lm + truncDiv ((b'.lm - b.lm) * (v - b.speed)) (b'.speed - b.speed),
        b.lg + truncDiv ((b'.lg - b.lg) * (v - b.speed)) (b'.speed - b.speed)⟩) ∧
  ∀ (before : List Breakpoint) (b : Breakpoint) (v : Int), envelopeSane (before ++ [b]) → b.speed ≤ v →
    envelopeAt (before ++ [b]) v = ⟨b.lm, b.lg⟩

/-! ### Capture and store -/

/-- A capture period (R85, R123, R124, R127, R129, R131): the frame of R184 goes to the bank that is LIVE or POST, and the
last post frame freezes it, completes the capture references to it and lets the next FREE bank in ring order go LIVE (R125);
the flags taken are cleared, and with a program armed the frame is written all the same. SPEED BELOW is taken at the period
that sets its flag (R131), and fires a program without a second condition (R133), with the reference of its trigger (R126).
The model's choices: BANK_FREEZE is the capture period itself (log 2), and SPEED BELOW is taken after this period's frame (log
57). -/
def Obligations.CapturePeriodAndFreeze : Prop :=
  (∀ s : State,
    let still := s.record.trigState = .disarmed ∨ s.record.program = none
    let flags := fun t : State => t.watch = { s.watch with channels := t.watch.channels } ∧
      ∀ c, t.channel c = { s.channel c with heldSeen := false, overloadSeen := false }
    (still → s.record.activeBanks = 0 →
      ∃ t, exec .capturePeriod s = .next t ∧ flags t ∧ t = { s with watch := t.watch }) ∧
    ∀ i : Fin 4,
      let b := s.record.bank i
      let level := fun c : Channel => if s.watch.fitted c then natWord (s.channel c).level else 0
      let limit := fun l : DirLimit => if s.gov.limitDir = .regenerating then l.regenerating else l.motoring
      let first := [natWord (b.writeIndex + 2048 * s.seq.drive.code + 16384 * s.seq.runKind.code),
        BitVec.ofNat 16 s.req.partTime.toNat, intWord s.meas.n, intWord (truncDiv s.seq.ramp 1000), intWord s.gov.td,
        intWord s.gov.tg, intWord s.gov.torque.a, intWord s.gov.torque.b, intWord s.gov.estimate.a,
        intWord s.gov.estimate.b, intWord (limit s.gov.limit.a), intWord (limit s.gov.limit.b),
        intWord s.meas.links.a.vdc, intWord s.meas.links.b.vdc, intWord s.regs.a.iq, intWord s.regs.b.iq, level 0, level 1,
        level 2, level 3, level 4, level 5, natWord s.meas.shell.position]
      let written := fun t : State => ∃ w : Word, t.record.frameOf i b.writeIndex = first ++ [w] ∧
        (∀ c : Channel, w.getLsbD c.val = (s.channel c).heldSeen ∧ w.getLsbD (6 + c.val) = (s.channel c).overloadSeen) ∧
        w.getLsbD 12 = s.regs.a.lastPeriod ∧ w.getLsbD 13 = s.regs.b.lastPeriod ∧ w.getLsbD 14 = s.meas.shell.valid ∧
        w.getLsbD 15 = decide (s.gov.limitDir = .regenerating)
      let valid := if b.valid < 2048 then b.valid + 1 else 2048
      (b.state = .live ∨ b.state = .post → s.record.activeBanks = 1 → ∃ t, exec .capturePeriod s = .next t ∧ flags t ∧
        written t ∧ (t.record.bank i).writeIndex = (b.writeIndex + 1) % 2048 ∧ (t.record.bank i).valid = valid ∧
        (∀ j, j ≠ b.writeIndex → t.record.frameOf i j = s.record.frameOf i j) ∧
        (∀ m, m ≠ i → (t.record.bank m).frames = (s.record.bank m).frames) ∧ t.seq = s.seq ∧ t.gov = s.gov ∧
        t.regs = s.regs ∧ t.meas = s.meas ∧ t.faults = s.faults ∧ t.store = s.store) ∧
      (still → b.state = .live → s.record.activeBanks = 1 → ∃ t, exec .capturePeriod s = .next t ∧ flags t ∧
        t = { s with watch := t.watch, record := { s.record with banks := t.record.banks } } ∧
        (∀ j, j ≠ i → t.record.bank j = s.record.bank j) ∧
        t.record.bank i = { b with
          frames := (t.record.bank i).frames, writeIndex := (b.writeIndex + 1) % 2048, valid := valid } ∧ written t ∧
        ∀ j, j ≠ b.writeIndex → t.record.frameOf i j = s.record.frameOf i j) ∧
      (still → b.state = .post → s.record.activeBanks = 1 → b.postWritten + 1 < b.post → ∃ t, exec .capturePeriod s = .next t ∧
        flags t ∧ t = { s with watch := t.watch, record := { s.record with banks := t.record.banks } } ∧
        (∀ j, j ≠ i → t.record.bank j = s.record.bank j) ∧
        t.record.bank i = { b with
          frames := (t.record.bank i).frames, writeIndex := (b.writeIndex + 1) % 2048, valid := valid
          postWritten := b.postWritten + 1 } ∧ written t ∧ exec .bankFreeze s = .next s) ∧
      (still → b.state = .post → s.record.activeBanks = 1 → b.postWritten + 1 = b.post →
        let frozen := fun t : State => exec .bankFreeze s = .next t ∧ exec .capturePeriod s = .next t ∧ flags t ∧ written t ∧
          (t.record.bank i).state = .frozen ∧ (t.record.bank i).postWritten = b.post ∧ (t.record.bank i).valid = valid ∧
          (t.record.bank i).generation = b.generation ∧ (t.record.bank i).trigId = b.trigId ∧
          (∀ k : Fin 8, (s.record.listEntry k).state ≠ .empty → (s.record.listEntry k).ref.status = .pending →
            (s.record.listEntry k).ref.bank = some i → (s.record.listEntry k).ref.generation = b.generation →
            (t.record.listEntry k).ref.status = .complete ∧
            t.mem.readWord (captureStatusAddr k) = natWord CaptureStatus.complete.code) ∧
          (∀ o : Record, s.record.openRecord = some o → o.ref.status = .pending → o.ref.bank = some i →
            o.ref.generation = b.generation → t.record.openRecord = some { o with ref := { o.ref with status := .complete } }) ∧
          t.req.notice.getLsbD noticeCapture = true ∧ t.seq = s.seq ∧ t.gov = s.gov ∧ t.faults = s.faults ∧
          t.store = s.store
        (∀ j : Fin 4, j ≠ i → (s.record.bank j).state = .free →
          (∀ m : Fin 4, m ≠ i → m - i < j - i → (s.record.bank m).state ≠ .free) →
          ∃ t, frozen t ∧ (∀ m, m ≠ i → m ≠ j → t.record.bank m = s.record.bank m) ∧
            t.record.bank j = { s.record.bank j with
              state := .live, generation := (s.record.bank j).generation + 1, writeIndex := 0, valid := 0, postWritten := 0
              trigId := none, pre := (s.record.settings.map RecordSettings.pre).getD 0 }) ∧
        ((∀ j : Fin 4, (s.record.bank j).state ≠ .free) →
          ∃ t, frozen t ∧ (∀ m, m ≠ i → t.record.bank m = s.record.bank m) ∧ t.record.activeBanks = 0))) ∧
  ∀ (s : State) (p : Program) (x : Int), s.record.program = some p → p.first = .speedBelow x →
    s.record.trigState = .waitFirst → s.record.activeBanks ≤ 1 →
    (x ≤ |s.meas.n| → ∃ t, exec .capturePeriod s = .next t ∧ t.record.belowFirst = false ∧ t.record.trigState = .waitFirst) ∧
    (|s.meas.n| < x → s.record.belowFirst = true →
      ∃ t, exec .capturePeriod s = .next t ∧ t.record.belowFirst = true ∧ t.record.trigState = .waitFirst) ∧
    (|s.meas.n| < x → s.record.belowFirst = false → p.second = some .manual →
      ∃ t, exec .capturePeriod s = .next t ∧ t.record.belowFirst = true ∧ s.windowBegun t p) ∧
    (|s.meas.n| < x → s.record.belowFirst = false → p.second = none → s.record.idCounter < 0xFFFFFFFF →
      (s.record.listEntry s.record.nextIndex).state = .empty →
      let posted := fun (t : State) (ref : CaptureRef) => exec .capturePeriod s = .next t ∧ t.record.belowFirst = true ∧
        t.record.trigState = (if p.repeats then .waitFirst else .disarmed) ∧
        t.record.idCounter = s.record.idCounter + 1 ∧
        t.record.listEntry s.record.nextIndex = ⟨.filled, some s.record.idCounter, ref⟩ ∧
        t.req.notice.getLsbD noticeRecord = true ∧ t.seq = s.seq ∧ t.faults = s.faults
      (s.record.activeBanks = 0 → ∃ t, posted t ⟨.none, none, 0, 0, 0, 0⟩ ∧ t.record.banks = s.record.banks) ∧
      ∀ i : Fin 4,
        let b := s.record.bank i
        let index := (b.writeIndex + 1) % 2048
        let valid := if b.valid < 2048 then b.valid + 1 else 2048
        b.state = .live → s.record.activeBanks = 1 →
        ∃ t, posted t ⟨.pending, some i, b.generation, index, min valid b.pre, 2048 - b.pre⟩ ∧
          t.record.bank i = { b with
            frames := (t.record.bank i).frames, writeIndex := index, valid := valid, state := .post, trigFrame := index
            post := 2048 - b.pre, trigId := some s.record.idCounter })

/-- Events of the store port: the operations of storing, opening, erasing and suspension with their bytes, the polls, the
read-backs and the failures (R146, R147, R155 to R161), and the steps of the scan (R152, R153). The model's choices: a poll is
one event with its status byte, and its STATUS READ a transfer of its own within it (log 27); bytes not received are outside
these clauses, which give each read its full number (log 28); a header's eight bytes are programmed (log 31); the failed
erase's following sector is not opened before it is erased (log 29); the erase time at a suspension (log 26); the scan's busy
poll has the greater of both limits (log 38); the queue goes before the sector-ahead erase (log 25); an event that finds no
work of its kind changes nothing (log 3). -/
def Obligations.StorePortEvents : Prop :=
  ∀ s : State,
    let u := s.store
    let c := u.cfg
    let page := fun sector number : Nat => c.base + sector * 4096 + number * 256
    let used := page (u.openSector.getD 0) u.nextSlot
    let body := u.head.image.flatMap wordBytes
    let mark := bytes32 u.head.id
    let header := fun seq : Nat => wordBytes 0x5A3C ++ bytes32 seq ++ wordBytes 0xC35A
    let enable := fun (v : StoreUnit) (j : Job) => v.sending j [c.opWriteEnable] 0
    let ends := fun (rx : List Byte) (v : StoreUnit) => exec (.flashTransferEnd rx) s = .next { s with store := v }
    let ready := u.state = .ready ∧ u.hostOp = none
    -- no transfer, and the transfers that receive nothing
    (∀ rx : List Byte, u.transfer = none → exec (.flashTransferEnd rx) s = .next s) ∧
    (∀ rx : List Byte, u.transfer.isSome = true →
      (u.job = .bodyEnable → ends rx (u.sending .bodyProgram (addressed c.opProgram used ++ body) 0)) ∧
      (u.job = .markEnable → ends rx (u.sending .markProgram (addressed c.opProgram (used + 252) ++ mark) 0)) ∧
      (u.job = .bodyProgram → ends rx { u with job := .bodyPoll, transfer := none, pollElapsed := 0 }) ∧
      (u.job = .markProgram → ends rx { u with job := .markPoll, transfer := none, pollElapsed := 0 }) ∧
      (u.job = .openProgram → ends rx { u with job := .openPoll, transfer := none, pollElapsed := 0 }) ∧
      (u.job = .suspendSend → ends rx { u with job := .suspendPoll, transfer := none, pollElapsed := 0 }) ∧
      (∀ i q : Nat, u.job = .openEnable → u.toOpen = some (i, q) →
        ends rx (u.sending .openProgram (addressed c.opProgram (page i 0) ++ header q) 0)) ∧
      (∀ i : Nat, u.job = .eraseEnable → u.eraseSector = some i →
        ends rx (u.sending .eraseSend (addressed c.opErase (page i 0)) 0)) ∧
      (u.job = .eraseSend → ready → u.erase = .running →
        u.queue = [] ∨ u.blankSlot = none ∨ c.suspendSupported = false → ends rx u.quiet) ∧
      (u.job = .eraseSend → ready → u.erase = .running → u.queue ≠ [] → u.blankSlot.isSome = true →
        c.suspendSupported = true → ends rx (u.sending .suspendSend [c.opSuspend] 0)) ∧
      (u.job = .resumeSend → ready → u.queue = [] ∨ u.blankSlot = none ∨ c.suspendSupported = false →
        ends rx { u.quiet with erase := .running })) ∧
    -- polls
    (∀ st : Byte, (u.polls → st.getLsbD 0 = true →
        exec (.flashStatusPoll st) s = .next { s with store := { u with lastTransfer := some ⟨[c.opStatus], 1⟩ } }) ∧
      (¬u.polls → exec (.flashStatusPoll st) s = .next s) ∧
      let clear := fun v : StoreUnit => exec (.flashStatusPoll st) s = .next { s with store := v }
      (st.getLsbD 0 = false → u.job = .bodyPoll → clear (u.sending .bodyRead (addressed c.opRead used) 256)) ∧
      (st.getLsbD 0 = false → u.job = .markPoll → clear (u.sending .markRead (addressed c.opRead (used + 252)) 4)) ∧
      (∀ i q : Nat, st.getLsbD 0 = false → u.job = .openPoll → u.toOpen = some (i, q) →
        clear (u.sending .openRead (addressed c.opRead (page i 0)) 8)) ∧
      (∀ i : Nat, st.getLsbD 0 = false → u.job = .idle → u.erase = .running → u.state = .ready ∨ u.state = .busy →
        u.eraseSector = some i → clear (u.sending .eraseCheck (addressed c.opRead (page i 0)) 256)) ∧
      (st.getLsbD 0 = false → u.job = .suspendPoll → ready → u.queue ≠ [] → u.blankSlot.isSome = true →
        clear (enable { u with erase := .suspended } .bodyEnable)) ∧
      (∀ (k : Fin 8) (id sector number : Nat), st.getLsbD 0 = false → u.job = .suspendPoll → u.state = .busy →
        u.hostOp = some (.read k id sector number) → u.queue = [] →
        clear ({ u with erase := .suspended }.sending .pageRead (addressed c.opRead (page sector number)) 256)) ∧
      (st.getLsbD 0 = false → u.job = .scanPoll → clear (u.sending .scanIdent [c.opIdent] 3))) ∧
    -- the read-backs of a record, and its two attempts
    (∀ (tx rx : List Byte) (q : QueuedRecord) (rest : List QueuedRecord) (o : Nat) (e : Sector), u.queue = q :: rest →
      u.openSector = some o → u.sectors[o]? = some e → u.toOpen = none → ready → u.erase ≠ .running →
      let slots := fun x : FlashSlot => e.slots.set (u.nextSlot - 1) x
      let spoiled := { u with
        queue := { q with attempts := 1 } :: rest, sectors := u.sectors.set o { e with slots := slots .spoiled } }
      (u.job = .bodyRead → u.transfer = some ⟨tx, 256⟩ → body.length = 256 → rx = body →
        ends rx (enable u .markEnable)) ∧
      (∀ p : Nat, q.attempts = 0 → firstBlank (slots .spoiled) = some p →
        let again := enable { spoiled with nextSlot := p } .bodyEnable
        (u.job = .bodyRead → u.transfer = some ⟨tx, 256⟩ → rx.length = 256 → rx ≠ body → ends rx again) ∧
        (u.job = .markRead → u.transfer = some ⟨tx, 4⟩ → rx.length = 4 → rx ≠ mark → ends rx again) ∧
        (u.job = .bodyPoll ∨ u.job = .markPoll → 1000 * c.programLimit ≤ u.pollElapsed →
          exec .flashTimeLimit s = .next { s with store := again })) ∧
      (∀ (n q0 : Nat) (e' : Sector), q.attempts = 0 → firstBlank (slots .spoiled) = none → e.seq = some q0 →
        q0 + 1 < 0xFFFFFFFF → n = (o + 1) % u.sectors.length → n ≠ o → u.sectors[n]? = some e' → e'.state = .erased →
        u.job = .bodyRead → u.transfer = some ⟨tx, 256⟩ → rx.length = 256 → rx ≠ body →
        ends rx (enable { spoiled with
          sectors := u.sectors.set o { e with state := .full, slots := slots .spoiled }, openSector := none
          toOpen := some (n, q0 + 1) } .openEnable)) ∧
      (u.job = .markRead → u.transfer = some ⟨tx, 4⟩ → rx = bytes32 q.id →
        let stored := fun t : State => exec (.flashTransferEnd rx) s = .next t ∧ State.RecordEnded s t q.id .stored ∧
          t.store.queue = rest ∧ t.store.dropped = u.dropped ∧ t.store.failed = u.failed
        (∀ p : Nat, firstBlank (slots (.valid q.id)) = some p →
          ∃ t, stored t ∧ t.store.nextSlot = p ∧ t.store.sectors[o]? = some { e with slots := slots (.valid q.id) } ∧
            (rest ≠ [] → t.store.job = .bodyEnable ∧ t.store.transfer = some ⟨[c.opWriteEnable], 0⟩) ∧
            (rest = [] → u.erase = .suspended → t.store.job = .resumeSend ∧ t.store.transfer = some ⟨[c.opResume], 0⟩)) ∧
        ∀ (n q0 : Nat) (e' : Sector), firstBlank (slots (.valid q.id)) = none → e.seq = some q0 → q0 + 1 < 0xFFFFFFFF →
          n = (o + 1) % u.sectors.length → n ≠ o → u.sectors[n]? = some e' → e'.state ≠ .bad →
          ∃ t, stored t ∧ t.store.openSector = none ∧ t.store.toOpen = some (n, q0 + 1) ∧
            t.store.sectors[o]? = some { e with state := .full, slots := slots (.valid q.id) } ∧
            (e'.state = .erased → t.store.job = .openEnable ∧ t.store.transfer = some ⟨[c.opWriteEnable], 0⟩) ∧
            (e'.state ≠ .erased → u.erase = .none → t.store.job = .eraseEnable ∧ t.store.eraseSector = some n)) ∧
      (q.attempts = 1 →
        (u.job = .bodyRead → u.transfer = some ⟨tx, 256⟩ → rx.length = 256 → rx ≠ body →
          ∃ t, exec (.flashTransferEnd rx) s = .next t ∧ State.OutOfService s t) ∧
        (u.job = .markRead → u.transfer = some ⟨tx, 4⟩ → rx.length = 4 → rx ≠ mark →
          ∃ t, exec (.flashTransferEnd rx) s = .next t ∧ State.OutOfService s t) ∧
        (u.job = .bodyPoll ∨ u.job = .markPoll → 1000 * c.programLimit ≤ u.pollElapsed →
          ∃ t, exec .flashTimeLimit s = .next t ∧ State.OutOfService s t))) ∧
    -- opening a sector
    (∀ (tx rx : List Byte) (i q : Nat) (e : Sector), u.toOpen = some (i, q) → u.sectors[i]? = some e → u.openSector = none →
      ready → u.erase ≠ .running → q < 0xFFFFFFFF →
      let n := (i + 1) % u.sectors.length
      let opened := { u with
        sectors := u.sectors.set i ⟨.opened, some q, List.replicate 15 .blank⟩, openSector := some i, nextSlot := 1
        toOpen := none }
      let bad := { u with
        sectors := u.sectors.set i { e with state := .bad }, badCount := u.badCount + 1, toOpen := some (n, q) }
      let failing := (u.job = .openRead ∧ u.transfer = some ⟨tx, 8⟩ ∧ rx.length = 8 ∧ rx ≠ header q)
      let late := u.job = .openPoll ∧ 1000 * c.programLimit ≤ u.pollElapsed
      (u.job = .openRead → u.transfer = some ⟨tx, 8⟩ → rx = header q → u.queue ≠ [] → ends rx (enable opened .bodyEnable)) ∧
      (∀ e' : Sector, u.job = .openRead → u.transfer = some ⟨tx, 8⟩ → rx = header q → u.queue = [] → u.erase = .none →
        n ≠ i → u.sectors[n]? = some e' → e'.state ≠ .bad →
        (e'.state = .erased → ends rx opened.quiet) ∧ (e'.state ≠ .erased → ends rx (opened.erasing n e'))) ∧
      (∀ e' : Sector, u.badCount < 2 → n ≠ i → u.sectors[n]? = some e' → e'.state = .erased →
        (failing → ends rx (enable bad .openEnable)) ∧
        (late → exec .flashTimeLimit s = .next { s with store := enable bad .openEnable })) ∧
      (∀ e' : Sector, u.badCount < 2 → n ≠ i → u.sectors[n]? = some e' → e'.state ≠ .erased → e'.state ≠ .bad →
        u.erase = .none → failing → ends rx (bad.erasing n e')) ∧
      (2 ≤ u.badCount →
        (failing → ∃ t, exec (.flashTransferEnd rx) s = .next t ∧ State.OutOfService s t) ∧
        (late → ∃ t, exec .flashTimeLimit s = .next t ∧ State.OutOfService s t))) ∧
    -- the end of an erase
    (∀ (tx rx : List Byte) (i : Nat) (e : Sector), u.eraseSector = some i → u.sectors[i]? = some e → ready →
      u.erase = .running →
      let n := (i + 1) % u.sectors.length
      let checked := u.job = .eraseCheck ∧ u.transfer = some ⟨tx, 256⟩ ∧ rx.length = 256
      let blank := rx = List.replicate 256 0xFF
      let late := u.job = .idle ∧ 1000 * c.eraseLimit ≤ u.eraseElapsed
      let done := { u with
        sectors := u.sectors.set i { e with state := .erased, seq := none }, erase := .none, eraseSector := none }
      let bad := { u with
        sectors := u.sectors.set i { e with state := .bad }, badCount := u.badCount + 1, erase := .none, eraseSector := none }
      (checked → blank → u.queue = [] ∨ u.blankSlot = none →
        (∀ q : Nat, u.toOpen = some (i, q) → q < 0xFFFFFFFF → ends rx (enable done .openEnable)) ∧
        (∀ o : Nat, u.toOpen = none → u.openSector = some o → (o + 1) % u.sectors.length = i → e.state ≠ .bad → o ≠ i →
          ends rx done.quiet)) ∧
      (checked → blank → u.queue ≠ [] → u.blankSlot.isSome = true → u.openSector ≠ some i → u.toOpen = none →
        ends rx (enable done .bodyEnable)) ∧
      (∀ e' : Sector, u.badCount < 2 → n ≠ i → u.sectors[n]? = some e' → e'.state ≠ .bad →
        let follows := { bad with toOpen := u.toOpen.map fun x : Nat × Nat => if x.1 = i then (n, x.2) else x }.erasing n e'
        (checked → ¬blank → ends rx follows) ∧ (late → exec .flashTimeLimit s = .next { s with store := follows })) ∧
      (2 ≤ u.badCount →
        (checked → ¬blank → ∃ t, exec (.flashTransferEnd rx) s = .next t ∧ State.OutOfService s t) ∧
        (late → ∃ t, exec .flashTimeLimit s = .next t ∧ State.OutOfService s t))) ∧
    -- time limits
    (u.limitPassed = false → exec .flashTimeLimit s = .next s) ∧
    (¬u.polls → exec .flashTimeLimit s = .next s) ∧
    (u.job = .suspendPoll → u.state = .ready ∨ u.state = .busy →
      1000 * c.suspendLimit ≤ u.pollElapsed → ∃ t, exec .flashTimeLimit s = .next t ∧ State.OutOfService s t) ∧
    (u.state = .scanning → u.job = .scanPoll → s.seq.drive ≠ .unconfigured → u.hostOp = none →
      1000 * max c.programLimit c.eraseLimit ≤ u.pollElapsed →
      ∃ t, exec .flashTimeLimit s = .next t ∧ State.OutOfService s t) ∧
    -- the scan: identity, headers, slots
    (∀ (tx rx : List Byte), u.state = .scanning →
      (u.job = .scanIdent → u.transfer = some ⟨tx, 3⟩ → c.ident.length = 3 → rx = c.ident →
        ends rx ({ u with sectors := [], badCount := 0 }.sending (.scanHeader 0) (addressed c.opRead (page 0 0)) 256)) ∧
      (∀ (d : StoreSettings) (k : Fin 8), u.job = .scanIdent → u.transfer = some ⟨tx, 3⟩ → rx.length = 3 → rx ≠ c.ident →
        u.awaiting = some (d, k) → s.seq.drive ≠ .unconfigured →
        ∃ t, exec (.flashTransferEnd rx) s = .next t ∧ t.store.state = .absent ∧ t.store.settings = some d ∧
          t.store.awaiting = none ∧ t.store.queue = [] ∧ t.store.job = .idle ∧ t.store.transfer = none ∧
          (u.dropped + u.queue.length ≤ 65535 → t.store.dropped = u.dropped + u.queue.length) ∧
          State.Completed t k .done .store [4] ∧ t.req.notice.getLsbD noticeStore = true ∧ t.seq = s.seq) ∧
      (∀ (i : Nat) (e : Sector), u.job = .scanHeader i → u.transfer = some ⟨tx, 256⟩ → rx.length = 256 →
        (rx = List.replicate 256 0xFF ∧ e = ⟨.erased, none, List.replicate 15 .blank⟩) ∨
          (∃ q, 1 ≤ q ∧ q ≤ 0xFFFFFFFE ∧ rx.take 8 = header q ∧
            ((∀ e' ∈ u.sectors, e'.state = .bad ∨ e'.seq ≠ some q) ∧ e = ⟨.full, some q, List.replicate 15 .blank⟩ ∨
              (∃ e' ∈ u.sectors, e'.state ≠ .bad ∧ e'.seq = some q) ∧ e = ⟨.bad, none, []⟩)) ∨
          (rx ≠ List.replicate 256 0xFF ∧ (rx.take 2 ≠ wordBytes 0x5A3C ∨ (rx.drop 6).take 2 ≠ wordBytes 0xC35A) ∧
            e = ⟨.bad, none, []⟩) →
        let v := { u with
          sectors := u.sectors ++ [e], badCount := u.badCount + if e.state = SectorState.bad then 1 else 0 }
        (i + 1 < c.ns → ends rx (v.sending (.scanHeader (i + 1)) (addressed c.opRead (page (i + 1) 0)) 256)) ∧
        (c.ns ≤ i + 1 → v.badCount < 3 → ∀ j : Nat, j < v.sectors.length → v.sectorState j = .full →
          (∀ m, m < j → v.sectorState m ≠ .full) →
          ends rx (v.sending (.scanSlot j 1) (addressed c.opRead (page j 1)) 256)) ∧
        (c.ns ≤ i + 1 → 3 ≤ v.badCount → s.seq.drive ≠ .unconfigured → u.hostOp = none →
          ∃ t, exec (.flashTransferEnd rx) s = .next t ∧ State.OutOfService s t)) ∧
      ∀ (i number : Nat) (x : FlashSlot), u.job = .scanSlot i number → u.transfer = some ⟨tx, 256⟩ → rx.length = 256 →
        (rx = List.replicate 256 0xFF ∧ x = .blank) ∨
          (∃ id, 1 ≤ id ∧ id ≤ 0xFFFFFFFE ∧ rx.take 4 = bytes32 id ∧ rx.drop 252 = bytes32 id ∧ x = .valid id) ∨
          (rx ≠ List.replicate 256 0xFF ∧ rx.take 4 ≠ rx.drop 252 ∧ x = .spoiled) →
        let v := { u with sectors := u.sectors.modify i fun e => { e with slots := e.slots.set (number - 1) x } }
        (number < 15 → ends rx (v.sending (.scanSlot i (number + 1)) (addressed c.opRead (page i (number + 1))) 256)) ∧
        (15 ≤ number → ∀ j : Nat, j < v.sectors.length → i < j → v.sectorState j = .full →
          (∀ m, m < j → i < m → v.sectorState m ≠ .full) →
          ends rx (v.sending (.scanSlot j 1) (addressed c.opRead (page j 1)) 256)))
end

