-- ==== Sys2Proof/Laws/State.lean ====
section
/-! SUPPORT. What replacing one block of the state does to each of its fields, and the values of pairs and vectors after a
replacement. -/

namespace Sys2Proof.Machine

/-! ### setPending -/

@[simp] theorem State.setPending_pending (s : State) (x : List Instr) : (s.setPending x).pending = x := rfl
@[simp] theorem State.setPending_inputs (s : State) (x : List Instr) : (s.setPending x).inputs = s.inputs := rfl
@[simp] theorem State.setPending_drive (s : State) (x : List Instr) : (s.setPending x).drive = s.drive := rfl
@[simp] theorem State.setPending_meas (s : State) (x : List Instr) : (s.setPending x).meas = s.meas := rfl
@[simp] theorem State.setPending_seq (s : State) (x : List Instr) : (s.setPending x).seq = s.seq := rfl
@[simp] theorem State.setPending_gov (s : State) (x : List Instr) : (s.setPending x).gov = s.gov := rfl
@[simp] theorem State.setPending_regs (s : State) (x : List Instr) : (s.setPending x).regs = s.regs := rfl
@[simp] theorem State.setPending_watch (s : State) (x : List Instr) : (s.setPending x).watch = s.watch := rfl
@[simp] theorem State.setPending_faults (s : State) (x : List Instr) : (s.setPending x).faults = s.faults := rfl
@[simp] theorem State.setPending_level (s : State) (x : List Instr) : (s.setPending x).level = s.level := rfl
@[simp] theorem State.setPending_record (s : State) (x : List Instr) : (s.setPending x).record = s.record := rfl
@[simp] theorem State.setPending_store (s : State) (x : List Instr) : (s.setPending x).store = s.store := rfl
@[simp] theorem State.setPending_req (s : State) (x : List Instr) : (s.setPending x).req = s.req := rfl
@[simp] theorem State.setPending_mem (s : State) (x : List Instr) : (s.setPending x).mem = s.mem := rfl

/-! ### setInputs -/

@[simp] theorem State.setInputs_pending (s : State) (x : Inputs) : (s.setInputs x).pending = s.pending := rfl
@[simp] theorem State.setInputs_inputs (s : State) (x : Inputs) : (s.setInputs x).inputs = x := rfl
@[simp] theorem State.setInputs_drive (s : State) (x : Inputs) : (s.setInputs x).drive = s.drive := rfl
@[simp] theorem State.setInputs_meas (s : State) (x : Inputs) : (s.setInputs x).meas = s.meas := rfl
@[simp] theorem State.setInputs_seq (s : State) (x : Inputs) : (s.setInputs x).seq = s.seq := rfl
@[simp] theorem State.setInputs_gov (s : State) (x : Inputs) : (s.setInputs x).gov = s.gov := rfl
@[simp] theorem State.setInputs_regs (s : State) (x : Inputs) : (s.setInputs x).regs = s.regs := rfl
@[simp] theorem State.setInputs_watch (s : State) (x : Inputs) : (s.setInputs x).watch = s.watch := rfl
@[simp] theorem State.setInputs_faults (s : State) (x : Inputs) : (s.setInputs x).faults = s.faults := rfl
@[simp] theorem State.setInputs_level (s : State) (x : Inputs) : (s.setInputs x).level = s.level := rfl
@[simp] theorem State.setInputs_record (s : State) (x : Inputs) : (s.setInputs x).record = s.record := rfl
@[simp] theorem State.setInputs_store (s : State) (x : Inputs) : (s.setInputs x).store = s.store := rfl
@[simp] theorem State.setInputs_req (s : State) (x : Inputs) : (s.setInputs x).req = s.req := rfl
@[simp] theorem State.setInputs_mem (s : State) (x : Inputs) : (s.setInputs x).mem = s.mem := rfl

/-! ### setDrive -/

@[simp] theorem State.setDrive_pending (s : State) (x : Option DriveSettings) : (s.setDrive x).pending = s.pending := rfl
@[simp] theorem State.setDrive_inputs (s : State) (x : Option DriveSettings) : (s.setDrive x).inputs = s.inputs := rfl
@[simp] theorem State.setDrive_drive (s : State) (x : Option DriveSettings) : (s.setDrive x).drive = x := rfl
@[simp] theorem State.setDrive_meas (s : State) (x : Option DriveSettings) : (s.setDrive x).meas = s.meas := rfl
@[simp] theorem State.setDrive_seq (s : State) (x : Option DriveSettings) : (s.setDrive x).seq = s.seq := rfl
@[simp] theorem State.setDrive_gov (s : State) (x : Option DriveSettings) : (s.setDrive x).gov = s.gov := rfl
@[simp] theorem State.setDrive_regs (s : State) (x : Option DriveSettings) : (s.setDrive x).regs = s.regs := rfl
@[simp] theorem State.setDrive_watch (s : State) (x : Option DriveSettings) : (s.setDrive x).watch = s.watch := rfl
@[simp] theorem State.setDrive_faults (s : State) (x : Option DriveSettings) : (s.setDrive x).faults = s.faults := rfl
@[simp] theorem State.setDrive_level (s : State) (x : Option DriveSettings) : (s.setDrive x).level = s.level := rfl
@[simp] theorem State.setDrive_record (s : State) (x : Option DriveSettings) : (s.setDrive x).record = s.record := rfl
@[simp] theorem State.setDrive_store (s : State) (x : Option DriveSettings) : (s.setDrive x).store = s.store := rfl
@[simp] theorem State.setDrive_req (s : State) (x : Option DriveSettings) : (s.setDrive x).req = s.req := rfl
@[simp] theorem State.setDrive_mem (s : State) (x : Option DriveSettings) : (s.setDrive x).mem = s.mem := rfl

/-! ### setMeas -/

@[simp] theorem State.setMeas_pending (s : State) (x : MeasUnit) : (s.setMeas x).pending = s.pending := rfl
@[simp] theorem State.setMeas_inputs (s : State) (x : MeasUnit) : (s.setMeas x).inputs = s.inputs := rfl
@[simp] theorem State.setMeas_drive (s : State) (x : MeasUnit) : (s.setMeas x).drive = s.drive := rfl
@[simp] theorem State.setMeas_meas (s : State) (x : MeasUnit) : (s.setMeas x).meas = x := rfl
@[simp] theorem State.setMeas_seq (s : State) (x : MeasUnit) : (s.setMeas x).seq = s.seq := rfl
@[simp] theorem State.setMeas_gov (s : State) (x : MeasUnit) : (s.setMeas x).gov = s.gov := rfl
@[simp] theorem State.setMeas_regs (s : State) (x : MeasUnit) : (s.setMeas x).regs = s.regs := rfl
@[simp] theorem State.setMeas_watch (s : State) (x : MeasUnit) : (s.setMeas x).watch = s.watch := rfl
@[simp] theorem State.setMeas_faults (s : State) (x : MeasUnit) : (s.setMeas x).faults = s.faults := rfl
@[simp] theorem State.setMeas_level (s : State) (x : MeasUnit) : (s.setMeas x).level = s.level := rfl
@[simp] theorem State.setMeas_record (s : State) (x : MeasUnit) : (s.setMeas x).record = s.record := rfl
@[simp] theorem State.setMeas_store (s : State) (x : MeasUnit) : (s.setMeas x).store = s.store := rfl
@[simp] theorem State.setMeas_req (s : State) (x : MeasUnit) : (s.setMeas x).req = s.req := rfl
@[simp] theorem State.setMeas_mem (s : State) (x : MeasUnit) : (s.setMeas x).mem = s.mem := rfl

/-! ### setSeq -/

@[simp] theorem State.setSeq_pending (s : State) (x : Sequencer) : (s.setSeq x).pending = s.pending := rfl
@[simp] theorem State.setSeq_inputs (s : State) (x : Sequencer) : (s.setSeq x).inputs = s.inputs := rfl
@[simp] theorem State.setSeq_drive (s : State) (x : Sequencer) : (s.setSeq x).drive = s.drive := rfl
@[simp] theorem State.setSeq_meas (s : State) (x : Sequencer) : (s.setSeq x).meas = s.meas := rfl
@[simp] theorem State.setSeq_seq (s : State) (x : Sequencer) : (s.setSeq x).seq = x := rfl
@[simp] theorem State.setSeq_gov (s : State) (x : Sequencer) : (s.setSeq x).gov = s.gov := rfl
@[simp] theorem State.setSeq_regs (s : State) (x : Sequencer) : (s.setSeq x).regs = s.regs := rfl
@[simp] theorem State.setSeq_watch (s : State) (x : Sequencer) : (s.setSeq x).watch = s.watch := rfl
@[simp] theorem State.setSeq_faults (s : State) (x : Sequencer) : (s.setSeq x).faults = s.faults := rfl
@[simp] theorem State.setSeq_level (s : State) (x : Sequencer) : (s.setSeq x).level = s.level := rfl
@[simp] theorem State.setSeq_record (s : State) (x : Sequencer) : (s.setSeq x).record = s.record := rfl
@[simp] theorem State.setSeq_store (s : State) (x : Sequencer) : (s.setSeq x).store = s.store := rfl
@[simp] theorem State.setSeq_req (s : State) (x : Sequencer) : (s.setSeq x).req = s.req := rfl
@[simp] theorem State.setSeq_mem (s : State) (x : Sequencer) : (s.setSeq x).mem = s.mem := rfl

/-! ### setGov -/

@[simp] theorem State.setGov_pending (s : State) (x : Governor) : (s.setGov x).pending = s.pending := rfl
@[simp] theorem State.setGov_inputs (s : State) (x : Governor) : (s.setGov x).inputs = s.inputs := rfl
@[simp] theorem State.setGov_drive (s : State) (x : Governor) : (s.setGov x).drive = s.drive := rfl
@[simp] theorem State.setGov_meas (s : State) (x : Governor) : (s.setGov x).meas = s.meas := rfl
@[simp] theorem State.setGov_seq (s : State) (x : Governor) : (s.setGov x).seq = s.seq := rfl
@[simp] theorem State.setGov_gov (s : State) (x : Governor) : (s.setGov x).gov = x := rfl
@[simp] theorem State.setGov_regs (s : State) (x : Governor) : (s.setGov x).regs = s.regs := rfl
@[simp] theorem State.setGov_watch (s : State) (x : Governor) : (s.setGov x).watch = s.watch := rfl
@[simp] theorem State.setGov_faults (s : State) (x : Governor) : (s.setGov x).faults = s.faults := rfl
@[simp] theorem State.setGov_level (s : State) (x : Governor) : (s.setGov x).level = s.level := rfl
@[simp] theorem State.setGov_record (s : State) (x : Governor) : (s.setGov x).record = s.record := rfl
@[simp] theorem State.setGov_store (s : State) (x : Governor) : (s.setGov x).store = s.store := rfl
@[simp] theorem State.setGov_req (s : State) (x : Governor) : (s.setGov x).req = s.req := rfl
@[simp] theorem State.setGov_mem (s : State) (x : Governor) : (s.setGov x).mem = s.mem := rfl

/-! ### setRegs -/

@[simp] theorem State.setRegs_pending (s : State) (x : Pair Regulator) : (s.setRegs x).pending = s.pending := rfl
@[simp] theorem State.setRegs_inputs (s : State) (x : Pair Regulator) : (s.setRegs x).inputs = s.inputs := rfl
@[simp] theorem State.setRegs_drive (s : State) (x : Pair Regulator) : (s.setRegs x).drive = s.drive := rfl
@[simp] theorem State.setRegs_meas (s : State) (x : Pair Regulator) : (s.setRegs x).meas = s.meas := rfl
@[simp] theorem State.setRegs_seq (s : State) (x : Pair Regulator) : (s.setRegs x).seq = s.seq := rfl
@[simp] theorem State.setRegs_gov (s : State) (x : Pair Regulator) : (s.setRegs x).gov = s.gov := rfl
@[simp] theorem State.setRegs_regs (s : State) (x : Pair Regulator) : (s.setRegs x).regs = x := rfl
@[simp] theorem State.setRegs_watch (s : State) (x : Pair Regulator) : (s.setRegs x).watch = s.watch := rfl
@[simp] theorem State.setRegs_faults (s : State) (x : Pair Regulator) : (s.setRegs x).faults = s.faults := rfl
@[simp] theorem State.setRegs_level (s : State) (x : Pair Regulator) : (s.setRegs x).level = s.level := rfl
@[simp] theorem State.setRegs_record (s : State) (x : Pair Regulator) : (s.setRegs x).record = s.record := rfl
@[simp] theorem State.setRegs_store (s : State) (x : Pair Regulator) : (s.setRegs x).store = s.store := rfl
@[simp] theorem State.setRegs_req (s : State) (x : Pair Regulator) : (s.setRegs x).req = s.req := rfl
@[simp] theorem State.setRegs_mem (s : State) (x : Pair Regulator) : (s.setRegs x).mem = s.mem := rfl

/-! ### setWatch -/

@[simp] theorem State.setWatch_pending (s : State) (x : Watch) : (s.setWatch x).pending = s.pending := rfl
@[simp] theorem State.setWatch_inputs (s : State) (x : Watch) : (s.setWatch x).inputs = s.inputs := rfl
@[simp] theorem State.setWatch_drive (s : State) (x : Watch) : (s.setWatch x).drive = s.drive := rfl
@[simp] theorem State.setWatch_meas (s : State) (x : Watch) : (s.setWatch x).meas = s.meas := rfl
@[simp] theorem State.setWatch_seq (s : State) (x : Watch) : (s.setWatch x).seq = s.seq := rfl
@[simp] theorem State.setWatch_gov (s : State) (x : Watch) : (s.setWatch x).gov = s.gov := rfl
@[simp] theorem State.setWatch_regs (s : State) (x : Watch) : (s.setWatch x).regs = s.regs := rfl
@[simp] theorem State.setWatch_watch (s : State) (x : Watch) : (s.setWatch x).watch = x := rfl
@[simp] theorem State.setWatch_faults (s : State) (x : Watch) : (s.setWatch x).faults = s.faults := rfl
@[simp] theorem State.setWatch_level (s : State) (x : Watch) : (s.setWatch x).level = s.level := rfl
@[simp] theorem State.setWatch_record (s : State) (x : Watch) : (s.setWatch x).record = s.record := rfl
@[simp] theorem State.setWatch_store (s : State) (x : Watch) : (s.setWatch x).store = s.store := rfl
@[simp] theorem State.setWatch_req (s : State) (x : Watch) : (s.setWatch x).req = s.req := rfl
@[simp] theorem State.setWatch_mem (s : State) (x : Watch) : (s.setWatch x).mem = s.mem := rfl

/-! ### setFaults -/

@[simp] theorem State.setFaults_pending (s : State) (x : FaultUnit) : (s.setFaults x).pending = s.pending := rfl
@[simp] theorem State.setFaults_inputs (s : State) (x : FaultUnit) : (s.setFaults x).inputs = s.inputs := rfl
@[simp] theorem State.setFaults_drive (s : State) (x : FaultUnit) : (s.setFaults x).drive = s.drive := rfl
@[simp] theorem State.setFaults_meas (s : State) (x : FaultUnit) : (s.setFaults x).meas = s.meas := rfl
@[simp] theorem State.setFaults_seq (s : State) (x : FaultUnit) : (s.setFaults x).seq = s.seq := rfl
@[simp] theorem State.setFaults_gov (s : State) (x : FaultUnit) : (s.setFaults x).gov = s.gov := rfl
@[simp] theorem State.setFaults_regs (s : State) (x : FaultUnit) : (s.setFaults x).regs = s.regs := rfl
@[simp] theorem State.setFaults_watch (s : State) (x : FaultUnit) : (s.setFaults x).watch = s.watch := rfl
@[simp] theorem State.setFaults_faults (s : State) (x : FaultUnit) : (s.setFaults x).faults = x := rfl
@[simp] theorem State.setFaults_level (s : State) (x : FaultUnit) : (s.setFaults x).level = s.level := rfl
@[simp] theorem State.setFaults_record (s : State) (x : FaultUnit) : (s.setFaults x).record = s.record := rfl
@[simp] theorem State.setFaults_store (s : State) (x : FaultUnit) : (s.setFaults x).store = s.store := rfl
@[simp] theorem State.setFaults_req (s : State) (x : FaultUnit) : (s.setFaults x).req = s.req := rfl
@[simp] theorem State.setFaults_mem (s : State) (x : FaultUnit) : (s.setFaults x).mem = s.mem := rfl

/-! ### setLevel -/

@[simp] theorem State.setLevel_pending (s : State) (x : LevelWatch) : (s.setLevel x).pending = s.pending := rfl
@[simp] theorem State.setLevel_inputs (s : State) (x : LevelWatch) : (s.setLevel x).inputs = s.inputs := rfl
@[simp] theorem State.setLevel_drive (s : State) (x : LevelWatch) : (s.setLevel x).drive = s.drive := rfl
@[simp] theorem State.setLevel_meas (s : State) (x : LevelWatch) : (s.setLevel x).meas = s.meas := rfl
@[simp] theorem State.setLevel_seq (s : State) (x : LevelWatch) : (s.setLevel x).seq = s.seq := rfl
@[simp] theorem State.setLevel_gov (s : State) (x : LevelWatch) : (s.setLevel x).gov = s.gov := rfl
@[simp] theorem State.setLevel_regs (s : State) (x : LevelWatch) : (s.setLevel x).regs = s.regs := rfl
@[simp] theorem State.setLevel_watch (s : State) (x : LevelWatch) : (s.setLevel x).watch = s.watch := rfl
@[simp] theorem State.setLevel_faults (s : State) (x : LevelWatch) : (s.setLevel x).faults = s.faults := rfl
@[simp] theorem State.setLevel_level (s : State) (x : LevelWatch) : (s.setLevel x).level = x := rfl
@[simp] theorem State.setLevel_record (s : State) (x : LevelWatch) : (s.setLevel x).record = s.record := rfl
@[simp] theorem State.setLevel_store (s : State) (x : LevelWatch) : (s.setLevel x).store = s.store := rfl
@[simp] theorem State.setLevel_req (s : State) (x : LevelWatch) : (s.setLevel x).req = s.req := rfl
@[simp] theorem State.setLevel_mem (s : State) (x : LevelWatch) : (s.setLevel x).mem = s.mem := rfl

/-! ### setRecord -/

@[simp] theorem State.setRecord_pending (s : State) (x : RecordUnit) : (s.setRecord x).pending = s.pending := rfl
@[simp] theorem State.setRecord_inputs (s : State) (x : RecordUnit) : (s.setRecord x).inputs = s.inputs := rfl
@[simp] theorem State.setRecord_drive (s : State) (x : RecordUnit) : (s.setRecord x).drive = s.drive := rfl
@[simp] theorem State.setRecord_meas (s : State) (x : RecordUnit) : (s.setRecord x).meas = s.meas := rfl
@[simp] theorem State.setRecord_seq (s : State) (x : RecordUnit) : (s.setRecord x).seq = s.seq := rfl
@[simp] theorem State.setRecord_gov (s : State) (x : RecordUnit) : (s.setRecord x).gov = s.gov := rfl
@[simp] theorem State.setRecord_regs (s : State) (x : RecordUnit) : (s.setRecord x).regs = s.regs := rfl
@[simp] theorem State.setRecord_watch (s : State) (x : RecordUnit) : (s.setRecord x).watch = s.watch := rfl
@[simp] theorem State.setRecord_faults (s : State) (x : RecordUnit) : (s.setRecord x).faults = s.faults := rfl
@[simp] theorem State.setRecord_level (s : State) (x : RecordUnit) : (s.setRecord x).level = s.level := rfl
@[simp] theorem State.setRecord_record (s : State) (x : RecordUnit) : (s.setRecord x).record = x := rfl
@[simp] theorem State.setRecord_store (s : State) (x : RecordUnit) : (s.setRecord x).store = s.store := rfl
@[simp] theorem State.setRecord_req (s : State) (x : RecordUnit) : (s.setRecord x).req = s.req := rfl
@[simp] theorem State.setRecord_mem (s : State) (x : RecordUnit) : (s.setRecord x).mem = s.mem := rfl

/-! ### setStore -/

@[simp] theorem State.setStore_pending (s : State) (x : StoreUnit) : (s.setStore x).pending = s.pending := rfl
@[simp] theorem State.setStore_inputs (s : State) (x : StoreUnit) : (s.setStore x).inputs = s.inputs := rfl
@[simp] theorem State.setStore_drive (s : State) (x : StoreUnit) : (s.setStore x).drive = s.drive := rfl
@[simp] theorem State.setStore_meas (s : State) (x : StoreUnit) : (s.setStore x).meas = s.meas := rfl
@[simp] theorem State.setStore_seq (s : State) (x : StoreUnit) : (s.setStore x).seq = s.seq := rfl
@[simp] theorem State.setStore_gov (s : State) (x : StoreUnit) : (s.setStore x).gov = s.gov := rfl
@[simp] theorem State.setStore_regs (s : State) (x : StoreUnit) : (s.setStore x).regs = s.regs := rfl
@[simp] theorem State.setStore_watch (s : State) (x : StoreUnit) : (s.setStore x).watch = s.watch := rfl
@[simp] theorem State.setStore_faults (s : State) (x : StoreUnit) : (s.setStore x).faults = s.faults := rfl
@[simp] theorem State.setStore_level (s : State) (x : StoreUnit) : (s.setStore x).level = s.level := rfl
@[simp] theorem State.setStore_record (s : State) (x : StoreUnit) : (s.setStore x).record = s.record := rfl
@[simp] theorem State.setStore_store (s : State) (x : StoreUnit) : (s.setStore x).store = x := rfl
@[simp] theorem State.setStore_req (s : State) (x : StoreUnit) : (s.setStore x).req = s.req := rfl
@[simp] theorem State.setStore_mem (s : State) (x : StoreUnit) : (s.setStore x).mem = s.mem := rfl

/-! ### setReq -/

@[simp] theorem State.setReq_pending (s : State) (x : RequestUnit) : (s.setReq x).pending = s.pending := rfl
@[simp] theorem State.setReq_inputs (s : State) (x : RequestUnit) : (s.setReq x).inputs = s.inputs := rfl
@[simp] theorem State.setReq_drive (s : State) (x : RequestUnit) : (s.setReq x).drive = s.drive := rfl
@[simp] theorem State.setReq_meas (s : State) (x : RequestUnit) : (s.setReq x).meas = s.meas := rfl
@[simp] theorem State.setReq_seq (s : State) (x : RequestUnit) : (s.setReq x).seq = s.seq := rfl
@[simp] theorem State.setReq_gov (s : State) (x : RequestUnit) : (s.setReq x).gov = s.gov := rfl
@[simp] theorem State.setReq_regs (s : State) (x : RequestUnit) : (s.setReq x).regs = s.regs := rfl
@[simp] theorem State.setReq_watch (s : State) (x : RequestUnit) : (s.setReq x).watch = s.watch := rfl
@[simp] theorem State.setReq_faults (s : State) (x : RequestUnit) : (s.setReq x).faults = s.faults := rfl
@[simp] theorem State.setReq_level (s : State) (x : RequestUnit) : (s.setReq x).level = s.level := rfl
@[simp] theorem State.setReq_record (s : State) (x : RequestUnit) : (s.setReq x).record = s.record := rfl
@[simp] theorem State.setReq_store (s : State) (x : RequestUnit) : (s.setReq x).store = s.store := rfl
@[simp] theorem State.setReq_req (s : State) (x : RequestUnit) : (s.setReq x).req = x := rfl
@[simp] theorem State.setReq_mem (s : State) (x : RequestUnit) : (s.setReq x).mem = s.mem := rfl

/-! ### setMem -/

@[simp] theorem State.setMem_pending (s : State) (x : Memory) : (s.setMem x).pending = s.pending := rfl
@[simp] theorem State.setMem_inputs (s : State) (x : Memory) : (s.setMem x).inputs = s.inputs := rfl
@[simp] theorem State.setMem_drive (s : State) (x : Memory) : (s.setMem x).drive = s.drive := rfl
@[simp] theorem State.setMem_meas (s : State) (x : Memory) : (s.setMem x).meas = s.meas := rfl
@[simp] theorem State.setMem_seq (s : State) (x : Memory) : (s.setMem x).seq = s.seq := rfl
@[simp] theorem State.setMem_gov (s : State) (x : Memory) : (s.setMem x).gov = s.gov := rfl
@[simp] theorem State.setMem_regs (s : State) (x : Memory) : (s.setMem x).regs = s.regs := rfl
@[simp] theorem State.setMem_watch (s : State) (x : Memory) : (s.setMem x).watch = s.watch := rfl
@[simp] theorem State.setMem_faults (s : State) (x : Memory) : (s.setMem x).faults = s.faults := rfl
@[simp] theorem State.setMem_level (s : State) (x : Memory) : (s.setMem x).level = s.level := rfl
@[simp] theorem State.setMem_record (s : State) (x : Memory) : (s.setMem x).record = s.record := rfl
@[simp] theorem State.setMem_store (s : State) (x : Memory) : (s.setMem x).store = s.store := rfl
@[simp] theorem State.setMem_req (s : State) (x : Memory) : (s.setMem x).req = s.req := rfl
@[simp] theorem State.setMem_mem (s : State) (x : Memory) : (s.setMem x).mem = x := rfl

/-! ### Pairs -/

@[simp] theorem Pair.get_set_same {α : Type} (p : Pair α) (x : Side) (v : α) : (p.set x v).get x = v := by
  cases x <;> rfl

theorem Pair.get_set_other {α : Type} (p : Pair α) {x y : Side} (v : α) (h : y ≠ x) : (p.set x v).get y = p.get y := by
  cases x <;> cases y <;> first | rfl | exact absurd rfl h

@[simp] theorem Pair.get_a {α : Type} (p : Pair α) : p.get .a = p.a := rfl
@[simp] theorem Pair.get_b {α : Type} (p : Pair α) : p.get .b = p.b := rfl

theorem Pair.ext_get {α : Type} {p q : Pair α} (h : ∀ x, p.get x = q.get x) : p = q := by
  cases p
  cases q
  simpa using And.intro (h .a) (h .b)

end Sys2Proof.Machine
end

