-- ==== Sys2Proof/Laws/Memory.lean ====
section
/-! SUPPORT. The exchange memory: what is read after a write, and the canonical form, which every write keeps. -/

namespace Sys2Proof.Machine

/-! ### Reading after a write -/

theorem Memory.read_append (m m' : Memory) (x : Nat) (h : ∀ c ∈ m, c.1 ≠ x) : Memory.read (m ++ m') x = Memory.read m' x := by
  induction m with
  | nil => rfl
  | cons c m ih =>
    have hc : x ≠ c.1 := fun e => h c (by simp) e.symm
    simp only [List.cons_append, Memory.read, hc, if_false]
    exact ih fun d hd => h d (by simp [hd])

theorem Memory.read_filter (p : Nat → Bool) (m : Memory) (x : Nat) (h : p x = true) :
    Memory.read (m.filter fun c => p c.1) x = Memory.read m x := by
  induction m with
  | nil => rfl
  | cons c m ih =>
    by_cases hc : x = c.1
    · subst hc
      simp [h, Memory.read]
    · by_cases hp : p c.1
      · simp [hp, Memory.read, hc, ih]
      · simp [hp, Memory.read, hc, ih]

theorem Memory.read_none (m : Memory) (x : Nat) (h : ∀ c ∈ m, c.1 ≠ x) : Memory.read m x = Memory.unlisted := by
  have := Memory.read_append m [] x h
  simpa [Memory.read] using this

theorem Memory.cells_ge (a : Nat) (bs : List Byte) : ∀ c ∈ Memory.cells a bs, a ≤ c.1 ∧ c.1 < a + bs.length := by
  induction bs generalizing a with
  | nil => simp [Memory.cells]
  | cons b bs ih =>
    intro c hc
    simp only [Memory.cells] at hc
    split at hc
    · have := ih (a + 1) c hc
      simp only [List.length_cons]
      omega
    · rcases List.mem_cons.mp hc with rfl | hc
      · simp
      · have := ih (a + 1) c hc
        simp only [List.length_cons]
        omega

theorem Memory.read_cells (a : Nat) (bs : List Byte) (i : Nat) (h : i < bs.length) (m : Memory) :
    Memory.read (Memory.cells a bs ++ m.filter fun c => decide (a + bs.length ≤ c.1)) (a + i) = bs[i] := by
  induction bs generalizing a i with
  | nil => exact absurd h (by simp)
  | cons b bs ih =>
    have hl : a + (b :: bs).length = a + 1 + bs.length := by simp only [List.length_cons]; omega
    simp only [Memory.cells, hl]
    cases i with
    | zero =>
      by_cases hb : b = Memory.unlisted
      · rw [if_pos hb]
        refine (Memory.read_none _ _ ?_).trans (by simp [hb])
        intro c hc
        rcases List.mem_append.mp hc with hc | hc
        · have := Memory.cells_ge _ _ c hc
          omega
        · have := (List.mem_filter.mp hc).2
          simp only [decide_eq_true_eq] at this
          omega
      · rw [if_neg hb]
        simp [Memory.read]
    | succ i =>
      have hi : i < bs.length := by simpa using h
      have he : a + (i + 1) = a + 1 + i := by omega
      by_cases hb : b = Memory.unlisted
      · rw [if_pos hb, he, ih (a + 1) i hi]
        simp
      · rw [if_neg hb, he]
        have hne : a + 1 + i ≠ a := by omega
        simp only [List.cons_append, Memory.read, hne, if_false]
        rw [ih (a + 1) i hi]
        simp

/-- A byte that was written reads as written. -/
theorem Memory.read_blit_inside (m : Memory) (a : Nat) (bs : List Byte) (i : Nat) (h : i < bs.length) :
    (m.blit a bs).read (a + i) = bs[i] := by
  unfold Memory.blit
  rw [Memory.read_append _ _ _ (by
    intro c hc
    have := (List.mem_filter.mp hc).2
    simp only [decide_eq_true_eq] at this
    omega)]
  exact Memory.read_cells a bs i h m

/-- Every byte outside the run that was written reads as before. -/
theorem Memory.read_blit_outside (m : Memory) (a : Nat) (bs : List Byte) (x : Nat) (h : x < a ∨ a + bs.length ≤ x) :
    (m.blit a bs).read x = m.read x := by
  unfold Memory.blit
  rcases h with h | h
  · have key : ∀ l : Memory, (∀ c ∈ l, x < c.1) →
        Memory.read (m.filter (fun c => decide (c.1 < a)) ++ l) x = Memory.read m x := by
      intro l hl
      induction m with
      | nil => exact Memory.read_none _ _ fun c hc => by have := hl c (by simpa using hc); omega
      | cons c m ih =>
        by_cases hc : x = c.1
        · simp [← hc, h, Memory.read]
        · by_cases hp : c.1 < a
          · simpa [List.filter_cons, hp, Memory.read, hc] using ih
          · simpa [List.filter_cons, hp, Memory.read, hc] using ih
    apply key
    intro c hc
    rcases List.mem_append.mp hc with hc | hc
    · have := Memory.cells_ge _ _ c hc
      omega
    · have := (List.mem_filter.mp hc).2
      simp only [decide_eq_true_eq] at this
      omega
  · rw [Memory.read_append _ _ _ (by
      intro c hc
      have := (List.mem_filter.mp hc).2
      simp only [decide_eq_true_eq] at this
      omega), Memory.read_append _ _ _ (by
      intro c hc
      have := Memory.cells_ge _ _ c hc
      omega)]
    exact Memory.read_filter (fun y => decide (a + bs.length ≤ y)) m x (by simpa using h)

theorem length_flatMap_wordBytes (ws : List Word) : (ws.flatMap wordBytes).length = 2 * ws.length := by
  induction ws with
  | nil => rfl
  | cons w ws ih =>
    simp only [List.flatMap_cons, List.length_append, ih, List.length_cons]
    simp [wordBytes]
    omega

@[simp] theorem joinBytes_wordBytes (w : Word) : joinBytes (w.extractLsb' 0 8) (w.extractLsb' 8 8) = w := by
  apply BitVec.eq_of_getLsbD_eq
  intro i hi
  have key : (joinBytes (w.extractLsb' 0 8) (w.extractLsb' 8 8)).getLsbD i =
      if i < 8 then (w.extractLsb' 0 8).getLsbD i else (w.extractLsb' 8 8).getLsbD (i - 8) :=
    BitVec.getLsbD_append
  rw [key]
  by_cases h : i < 8
  · simp [h]
  · have h1 : i - 8 < 8 := by omega
    have h2 : 8 + (i - 8) = i := by omega
    simp [h, h1, h2]

theorem flatMap_wordBytes_getElem (ws : List Word) (i : Nat) (h : i < ws.length) :
    (ws.flatMap wordBytes)[2 * i]? = some (ws[i].extractLsb' 0 8) ∧
    (ws.flatMap wordBytes)[2 * i + 1]? = some (ws[i].extractLsb' 8 8) := by
  induction ws generalizing i with
  | nil => exact absurd h (by simp)
  | cons w ws ih =>
    cases i with
    | zero => simp [wordBytes]
    | succ i =>
      have := ih i (by simpa using h)
      have e1 : 2 * (i + 1) = 2 * i + 2 := by omega
      have e2 : 2 * (i + 1) + 1 = 2 * i + 1 + 2 := by omega
      simpa [List.flatMap_cons, wordBytes, e1, e2] using this

/-- A word that was written reads as written. -/
theorem Memory.readWord_writeWords_inside (m : Memory) (a : Nat) (ws : List Word) (i : Nat) (h : i < ws.length) :
    (m.writeWords a ws).readWord (a + 2 * i) = ws[i] := by
  have hl := length_flatMap_wordBytes ws
  have hb := flatMap_wordBytes_getElem ws i h
  have h0 : 2 * i < (ws.flatMap wordBytes).length := by omega
  have h1 : 2 * i + 1 < (ws.flatMap wordBytes).length := by omega
  unfold Memory.readWord Memory.writeWords
  rw [Memory.read_blit_inside _ _ _ _ h0, Nat.add_assoc, Memory.read_blit_inside _ _ _ _ h1]
  rw [List.getElem?_eq_getElem h0, List.getElem?_eq_getElem h1] at hb
  rw [Option.some.inj hb.1, Option.some.inj hb.2, joinBytes_wordBytes]

/-- Every byte outside the words that were written reads as before. -/
theorem Memory.read_writeWords_outside (m : Memory) (a : Nat) (ws : List Word) (x : Nat)
    (h : x < a ∨ a + 2 * ws.length ≤ x) : (m.writeWords a ws).read x = m.read x :=
  Memory.read_blit_outside _ _ _ _ (by rw [length_flatMap_wordBytes]; exact h)

/-- A word that the write does not touch reads as before. -/
theorem Memory.readWord_writeWords_outside (m : Memory) (a : Nat) (ws : List Word) (x : Nat)
    (h : x + 2 ≤ a ∨ a + 2 * ws.length ≤ x) : (m.writeWords a ws).readWord x = m.readWord x := by
  unfold Memory.readWord
  rw [Memory.read_writeWords_outside _ _ _ _ (by omega), Memory.read_writeWords_outside _ _ _ _ (by omega)]

@[simp] theorem Memory.readWord_writeWord_same (m : Memory) (a : Nat) (w : Word) : (m.writeWord a w).readWord a = w := by
  simpa [Memory.writeWord] using Memory.readWord_writeWords_inside m a [w] 0 (by simp)

theorem Memory.readWord_writeWord_other (m : Memory) (a : Nat) (w : Word) (x : Nat) (h : x + 2 ≤ a ∨ a + 2 ≤ x) :
    (m.writeWord a w).readWord x = m.readWord x :=
  Memory.readWord_writeWords_outside m a [w] x (by simpa using h)

theorem Memory.readWords_length (m : Memory) (a n : Nat) : (m.readWords a n).length = n := by
  induction n generalizing a with
  | zero => rfl
  | succ n ih => simp [Memory.readWords, ih]

theorem Memory.readWords_getElem? (m : Memory) (a n i : Nat) (h : i < n) :
    (m.readWords a n)[i]? = some (m.readWord (a + 2 * i)) := by
  induction n generalizing a i with
  | zero => exact absurd h (by simp)
  | succ n ih =>
    cases i with
    | zero => simp [Memory.readWords]
    | succ i =>
      have := ih (a + 2) i (by omega)
      simpa [Memory.readWords, Nat.mul_add, Nat.add_assoc, Nat.add_comm, Nat.add_left_comm] using this

/-- The words written read as written. -/
theorem Memory.readWords_writeWords_same (m : Memory) (a : Nat) (ws : List Word) :
    (m.writeWords a ws).readWords a ws.length = ws := by
  apply List.ext_getElem?
  intro i
  by_cases h : i < ws.length
  · rw [Memory.readWords_getElem? _ _ _ _ h, Memory.readWord_writeWords_inside _ _ _ _ h, List.getElem?_eq_getElem h]
  · rw [List.getElem?_eq_none (by rw [Memory.readWords_length]; omega), List.getElem?_eq_none (by omega)]

/-- Words that the write does not touch read as before. -/
theorem Memory.readWords_writeWords_outside (m : Memory) (a : Nat) (ws : List Word) (x n : Nat)
    (h : x + 2 * n ≤ a ∨ a + 2 * ws.length ≤ x) : (m.writeWords a ws).readWords x n = m.readWords x n := by
  apply List.ext_getElem?
  intro i
  by_cases hi : i < n
  · rw [Memory.readWords_getElem? _ _ _ _ hi, Memory.readWords_getElem? _ _ _ _ hi,
      Memory.readWord_writeWords_outside _ _ _ _ (by omega)]
  · rw [List.getElem?_eq_none (by rw [Memory.readWords_length]; omega),
      List.getElem?_eq_none (by rw [Memory.readWords_length]; omega)]

@[simp] theorem padWords_length (n : Nat) (ws : List Word) : (padWords n ws).length = n := by
  simp [padWords]

/-! ### The canonical form -/

theorem Memory.wf_iff (m : Memory) :
    m.wf = true ↔ m.Pairwise (fun c d => c.1 < d.1) ∧ ∀ c ∈ m, c.2 ≠ Memory.unlisted := by
  have rises : ∀ (a : Nat) (m : Memory),
      Memory.risesFrom a m = true ↔ (∀ c ∈ m, a < c.1) ∧ m.Pairwise fun c d => c.1 < d.1 := by
    intro a m
    induction m generalizing a with
    | nil => simp [Memory.risesFrom]
    | cons c m ih =>
      simp only [Memory.risesFrom, Bool.and_eq_true, decide_eq_true_eq, ih, List.mem_cons, forall_eq_or_imp,
        List.pairwise_cons]
      constructor
      · rintro ⟨h, h1, h2⟩
        exact ⟨⟨h, fun d hd => Nat.lt_trans h (h1 d hd)⟩, h1, h2⟩
      · rintro ⟨⟨h, _⟩, h1, h2⟩
        exact ⟨h, h1, h2⟩
  cases m with
  | nil => simp [Memory.wf]
  | cons c m =>
    simp only [Memory.wf, Bool.and_eq_true, rises, List.pairwise_cons, List.all_eq_true, bne_iff_ne, ne_eq]

theorem Memory.cells_canonical (a : Nat) (bs : List Byte) :
    (Memory.cells a bs).Pairwise (fun c d => c.1 < d.1) ∧ ∀ c ∈ Memory.cells a bs, c.2 ≠ Memory.unlisted := by
  induction bs generalizing a with
  | nil => simp [Memory.cells]
  | cons b bs ih =>
    simp only [Memory.cells]
    split
    · exact ih (a + 1)
    · rename_i hb
      refine ⟨List.pairwise_cons.mpr ⟨fun c hc => ?_, (ih (a + 1)).1⟩, ?_⟩
      · have := Memory.cells_ge _ _ c hc
        simp only
        omega
      · intro c hc
        rcases List.mem_cons.mp hc with rfl | hc
        · exact hb
        · exact (ih (a + 1)).2 c hc

/-- A run of bytes written keeps the canonical form. -/
@[simp] theorem Memory.blit_wf (m : Memory) (a : Nat) (bs : List Byte) (h : m.wf = true) : (m.blit a bs).wf = true := by
  rw [Memory.wf_iff] at h ⊢
  obtain ⟨h1, h2⟩ := h
  have c := Memory.cells_canonical a bs
  refine ⟨?_, ?_⟩
  · unfold Memory.blit
    refine List.pairwise_append.mpr ⟨h1.filter _, List.pairwise_append.mpr ⟨c.1, h1.filter _, ?_⟩, ?_⟩
    · intro x hx y hy
      have hx := Memory.cells_ge _ _ x hx
      have hy := (List.mem_filter.mp hy).2
      simp only [decide_eq_true_eq] at hy
      omega
    · intro x hx y hy
      have hx := (List.mem_filter.mp hx).2
      simp only [decide_eq_true_eq] at hx
      rcases List.mem_append.mp hy with hy | hy
      · have hy := Memory.cells_ge _ _ y hy
        omega
      · have hy := (List.mem_filter.mp hy).2
        simp only [decide_eq_true_eq] at hy
        omega
  · intro x hx
    unfold Memory.blit at hx
    rcases List.mem_append.mp hx with hx | hx
    · exact h2 x (List.mem_filter.mp hx).1
    · rcases List.mem_append.mp hx with hx | hx
      · exact c.2 x hx
      · exact h2 x (List.mem_filter.mp hx).1

@[simp] theorem Memory.writeWords_wf (m : Memory) (a : Nat) (ws : List Word) (h : m.wf = true) : (m.writeWords a ws).wf = true :=
  Memory.blit_wf _ _ _ h

@[simp] theorem Memory.writeWord_wf (m : Memory) (a : Nat) (w : Word) (h : m.wf = true) : (m.writeWord a w).wf = true :=
  Memory.writeWords_wf _ _ _ h

end Sys2Proof.Machine
end

