-- ==== Sys2Proof/Laws/Folds.lean ====
section
/-! SUPPORT. What a fold of steps over a list leaves unchanged: what each of its steps leaves unchanged. -/

namespace Sys2Proof.Machine

theorem foldl_keeps {α β γ : Type} (F : β → γ) (f : β → α → β) (h : ∀ b a, F (f b a) = F b) (l : List α) (b : β) :
    F (l.foldl f b) = F b := by
  induction l generalizing b with
  | nil => rfl
  | cons a l ih => rw [List.foldl_cons, ih, h]

theorem foldl_holds {α β : Type} (P : β → Prop) (f : β → α → β) (h : ∀ b a, P b → P (f b a)) (l : List α) (b : β) (hb : P b) :
    P (l.foldl f b) := by
  induction l generalizing b with
  | nil => exact hb
  | cons a l ih => exact ih _ (h b a hb)

section fields

variable {α : Type} (f : State → α → State) (l : List α) (s : State)

@[simp] theorem foldl_pending (h : ∀ s a, (f s a).pending = s.pending) : (l.foldl f s).pending = s.pending := foldl_keeps State.pending f h l s
@[simp] theorem foldl_inputs (h : ∀ s a, (f s a).inputs = s.inputs) : (l.foldl f s).inputs = s.inputs := foldl_keeps State.inputs f h l s
@[simp] theorem foldl_drive (h : ∀ s a, (f s a).drive = s.drive) : (l.foldl f s).drive = s.drive := foldl_keeps State.drive f h l s
@[simp] theorem foldl_meas (h : ∀ s a, (f s a).meas = s.meas) : (l.foldl f s).meas = s.meas := foldl_keeps State.meas f h l s
@[simp] theorem foldl_seq (h : ∀ s a, (f s a).seq = s.seq) : (l.foldl f s).seq = s.seq := foldl_keeps State.seq f h l s
@[simp] theorem foldl_gov (h : ∀ s a, (f s a).gov = s.gov) : (l.foldl f s).gov = s.gov := foldl_keeps State.gov f h l s
@[simp] theorem foldl_regs (h : ∀ s a, (f s a).regs = s.regs) : (l.foldl f s).regs = s.regs := foldl_keeps State.regs f h l s
@[simp] theorem foldl_watch (h : ∀ s a, (f s a).watch = s.watch) : (l.foldl f s).watch = s.watch := foldl_keeps State.watch f h l s
@[simp] theorem foldl_faults (h : ∀ s a, (f s a).faults = s.faults) : (l.foldl f s).faults = s.faults := foldl_keeps State.faults f h l s
@[simp] theorem foldl_level (h : ∀ s a, (f s a).level = s.level) : (l.foldl f s).level = s.level := foldl_keeps State.level f h l s
@[simp] theorem foldl_record (h : ∀ s a, (f s a).record = s.record) : (l.foldl f s).record = s.record := foldl_keeps State.record f h l s
@[simp] theorem foldl_store (h : ∀ s a, (f s a).store = s.store) : (l.foldl f s).store = s.store := foldl_keeps State.store f h l s
@[simp] theorem foldl_req (h : ∀ s a, (f s a).req = s.req) : (l.foldl f s).req = s.req := foldl_keeps State.req f h l s
@[simp] theorem foldl_mem (h : ∀ s a, (f s a).mem = s.mem) : (l.foldl f s).mem = s.mem := foldl_keeps State.mem f h l s
@[simp] theorem foldl_lock (h : ∀ s a, (f s a).faults.lock = s.faults.lock) : (l.foldl f s).faults.lock = s.faults.lock :=
  foldl_keeps (fun s : State => s.faults.lock) f h l s
@[simp] theorem foldl_windowOpen (h : ∀ s a, (f s a).faults.windowOpen = s.faults.windowOpen) : (l.foldl f s).faults.windowOpen = s.faults.windowOpen :=
  foldl_keeps (fun s : State => s.faults.windowOpen) f h l s
@[simp] theorem foldl_resets (h : ∀ s a, (f s a).record.resets = s.record.resets) : (l.foldl f s).record.resets = s.record.resets :=
  foldl_keeps (fun s : State => s.record.resets) f h l s
@[simp] theorem foldl_restartPending (h : ∀ s a, (f s a).seq.restartPending = s.seq.restartPending) : (l.foldl f s).seq.restartPending = s.seq.restartPending :=
  foldl_keeps (fun s : State => s.seq.restartPending) f h l s

@[simp] theorem foldl_mem_wf (h : ∀ s a, s.mem.wf = true → (f s a).mem.wf = true) (hs : s.mem.wf = true) :
    (l.foldl f s).mem.wf = true :=
  foldl_holds (fun s => s.mem.wf = true) f h l s hs

end fields

end Sys2Proof.Machine
end

