-- ==== Sys2Proof/Laws/FrameStore.lean ====
section
/-! SUPPORT. Frames of the operations on the exchange memory, the flags, the request slots, the record list and the store unit:
what each leaves unchanged, and that each keeps the canonical form of the exchange memory. -/

namespace Sys2Proof.Machine

@[simp] theorem State.writeWords_frame (s : State) (a : Nat) (ws : List Word) :
    (s.writeWords a ws).pending = s.pending ∧ (s.writeWords a ws).inputs = s.inputs ∧
    (s.writeWords a ws).drive = s.drive ∧ (s.writeWords a ws).meas = s.meas ∧ (s.writeWords a ws).seq = s.seq ∧
    (s.writeWords a ws).gov = s.gov ∧ (s.writeWords a ws).regs = s.regs ∧ (s.writeWords a ws).watch = s.watch ∧
    (s.writeWords a ws).faults = s.faults ∧ (s.writeWords a ws).level = s.level ∧
    (s.writeWords a ws).record = s.record ∧ (s.writeWords a ws).store = s.store ∧ (s.writeWords a ws).req = s.req := by
  simp only [State.writeWords]
  repeat' (first | split | simp)

@[simp] theorem State.writeWords_mem_wf (s : State) (a : Nat) (ws : List Word) (hm : s.mem.wf = true) :
    (s.writeWords a ws).mem.wf = true := by
  simp only [State.writeWords]
  repeat' (first | split | (simp (maxDischargeDepth := 40) +contextual [hm]; done) | simp (maxDischargeDepth := 40) [hm])

@[simp] theorem State.writeWord_frame (s : State) (a : Nat) (w : Word) :
    (s.writeWord a w).pending = s.pending ∧ (s.writeWord a w).inputs = s.inputs ∧ (s.writeWord a w).drive = s.drive ∧
    (s.writeWord a w).meas = s.meas ∧ (s.writeWord a w).seq = s.seq ∧ (s.writeWord a w).gov = s.gov ∧
    (s.writeWord a w).regs = s.regs ∧ (s.writeWord a w).watch = s.watch ∧ (s.writeWord a w).faults = s.faults ∧
    (s.writeWord a w).level = s.level ∧ (s.writeWord a w).record = s.record ∧ (s.writeWord a w).store = s.store ∧
    (s.writeWord a w).req = s.req := by
  simp only [State.writeWord]
  repeat' (first | split | simp)

@[simp] theorem State.writeWord_mem_wf (s : State) (a : Nat) (w : Word) (hm : s.mem.wf = true) :
    (s.writeWord a w).mem.wf = true := by
  simp only [State.writeWord]
  repeat' (first | split | (simp (maxDischargeDepth := 40) +contextual [hm]; done) | simp (maxDischargeDepth := 40) [hm])

@[simp] theorem State.raiseNotice_frame (s : State) (i : Nat) :
    (s.raiseNotice i).pending = s.pending ∧ (s.raiseNotice i).inputs = s.inputs ∧ (s.raiseNotice i).drive = s.drive ∧
    (s.raiseNotice i).meas = s.meas ∧ (s.raiseNotice i).seq = s.seq ∧ (s.raiseNotice i).gov = s.gov ∧
    (s.raiseNotice i).regs = s.regs ∧ (s.raiseNotice i).watch = s.watch ∧ (s.raiseNotice i).faults = s.faults ∧
    (s.raiseNotice i).level = s.level ∧ (s.raiseNotice i).record = s.record ∧ (s.raiseNotice i).store = s.store ∧
    (s.raiseNotice i).mem = s.mem := by
  simp only [State.raiseNotice]
  repeat' (first | split | simp)

@[simp] theorem State.setEntry_frame (s : State) (k : FaultKind) (e : FaultEntry) :
    (s.setEntry k e).pending = s.pending ∧ (s.setEntry k e).inputs = s.inputs ∧ (s.setEntry k e).drive = s.drive ∧
    (s.setEntry k e).meas = s.meas ∧ (s.setEntry k e).seq = s.seq ∧ (s.setEntry k e).gov = s.gov ∧
    (s.setEntry k e).regs = s.regs ∧ (s.setEntry k e).watch = s.watch ∧ (s.setEntry k e).level = s.level ∧
    (s.setEntry k e).record = s.record ∧ (s.setEntry k e).store = s.store ∧ (s.setEntry k e).req = s.req ∧
    (s.setEntry k e).mem = s.mem := by
  simp only [State.setEntry]
  repeat' (first | split | simp)

@[simp] theorem State.fall_frame (s : State) (k : FaultKind) (src : Source) :
    (s.fall k src).pending = s.pending ∧ (s.fall k src).inputs = s.inputs ∧ (s.fall k src).drive = s.drive ∧
    (s.fall k src).meas = s.meas ∧ (s.fall k src).seq = s.seq ∧ (s.fall k src).gov = s.gov ∧
    (s.fall k src).regs = s.regs ∧ (s.fall k src).watch = s.watch ∧ (s.fall k src).level = s.level ∧
    (s.fall k src).record = s.record ∧ (s.fall k src).store = s.store ∧ (s.fall k src).req = s.req ∧
    (s.fall k src).mem = s.mem := by
  simp only [State.fall]
  repeat' (first | split | simp)

@[simp] theorem State.alarmRise_frame (s : State) (k : FaultKind) (src : Source) (d : Option Nat) :
    (s.alarmRise k src d).pending = s.pending ∧ (s.alarmRise k src d).inputs = s.inputs ∧
    (s.alarmRise k src d).drive = s.drive ∧ (s.alarmRise k src d).meas = s.meas ∧ (s.alarmRise k src d).seq = s.seq ∧
    (s.alarmRise k src d).gov = s.gov ∧ (s.alarmRise k src d).regs = s.regs ∧ (s.alarmRise k src d).watch = s.watch ∧
    (s.alarmRise k src d).level = s.level ∧ (s.alarmRise k src d).record = s.record ∧
    (s.alarmRise k src d).store = s.store ∧ (s.alarmRise k src d).mem = s.mem := by
  simp only [State.alarmRise]
  repeat' (first | split | simp)

@[simp] theorem State.alarmPulse_frame (s : State) (k : FaultKind) (src : Source) (d : Option Nat) :
    (s.alarmPulse k src d).pending = s.pending ∧ (s.alarmPulse k src d).inputs = s.inputs ∧
    (s.alarmPulse k src d).drive = s.drive ∧ (s.alarmPulse k src d).meas = s.meas ∧
    (s.alarmPulse k src d).seq = s.seq ∧ (s.alarmPulse k src d).gov = s.gov ∧ (s.alarmPulse k src d).regs = s.regs ∧
    (s.alarmPulse k src d).watch = s.watch ∧ (s.alarmPulse k src d).level = s.level ∧
    (s.alarmPulse k src d).record = s.record ∧ (s.alarmPulse k src d).store = s.store ∧
    (s.alarmPulse k src d).mem = s.mem := by
  simp only [State.alarmPulse]
  repeat' (first | split | simp)

@[simp] theorem State.alarmLevel_frame (s : State) (k : FaultKind) (src : Source) (d : Option Nat) (now : Bool) :
    (s.alarmLevel k src d now).pending = s.pending ∧ (s.alarmLevel k src d now).inputs = s.inputs ∧
    (s.alarmLevel k src d now).drive = s.drive ∧ (s.alarmLevel k src d now).meas = s.meas ∧
    (s.alarmLevel k src d now).seq = s.seq ∧ (s.alarmLevel k src d now).gov = s.gov ∧
    (s.alarmLevel k src d now).regs = s.regs ∧ (s.alarmLevel k src d now).watch = s.watch ∧
    (s.alarmLevel k src d now).level = s.level ∧ (s.alarmLevel k src d now).record = s.record ∧
    (s.alarmLevel k src d now).store = s.store ∧ (s.alarmLevel k src d now).mem = s.mem := by
  simp only [State.alarmLevel]
  repeat' (first | split | simp)

@[simp] theorem State.rewriteStatus_frame (s : State) :
    (s.rewriteStatus).pending = s.pending ∧ (s.rewriteStatus).inputs = s.inputs ∧ (s.rewriteStatus).drive = s.drive ∧
    (s.rewriteStatus).meas = s.meas ∧ (s.rewriteStatus).seq = s.seq ∧ (s.rewriteStatus).gov = s.gov ∧
    (s.rewriteStatus).regs = s.regs ∧ (s.rewriteStatus).watch = s.watch ∧ (s.rewriteStatus).faults = s.faults ∧
    (s.rewriteStatus).level = s.level ∧ (s.rewriteStatus).record = s.record ∧ (s.rewriteStatus).store = s.store := by
  simp only [State.rewriteStatus]
  repeat' (first | split | simp)

@[simp] theorem State.rewriteStatus_mem_wf (s : State) (hm : s.mem.wf = true) :
    (s.rewriteStatus).mem.wf = true := by
  simp only [State.rewriteStatus]
  repeat' (first | split | (simp (maxDischargeDepth := 40) +contextual [hm]; done) | simp (maxDischargeDepth := 40) [hm])

@[simp] theorem State.rewriteMap_frame (s : State) :
    (s.rewriteMap).pending = s.pending ∧ (s.rewriteMap).inputs = s.inputs ∧ (s.rewriteMap).drive = s.drive ∧
    (s.rewriteMap).meas = s.meas ∧ (s.rewriteMap).seq = s.seq ∧ (s.rewriteMap).gov = s.gov ∧
    (s.rewriteMap).regs = s.regs ∧ (s.rewriteMap).faults = s.faults ∧ (s.rewriteMap).level = s.level ∧
    (s.rewriteMap).record = s.record ∧ (s.rewriteMap).store = s.store ∧ (s.rewriteMap).req = s.req := by
  simp only [State.rewriteMap]
  repeat' (first | split | simp)

@[simp] theorem State.rewriteMap_mem_wf (s : State) (hm : s.mem.wf = true) :
    (s.rewriteMap).mem.wf = true := by
  simp only [State.rewriteMap]
  repeat' (first | split | (simp (maxDischargeDepth := 40) +contextual [hm]; done) | simp (maxDischargeDepth := 40) [hm])

@[simp] theorem State.putSlotState_frame (s : State) (k : Fin 8) (st : SlotState) :
    (s.putSlotState k st).pending = s.pending ∧ (s.putSlotState k st).inputs = s.inputs ∧
    (s.putSlotState k st).drive = s.drive ∧ (s.putSlotState k st).meas = s.meas ∧ (s.putSlotState k st).seq = s.seq ∧
    (s.putSlotState k st).gov = s.gov ∧ (s.putSlotState k st).regs = s.regs ∧ (s.putSlotState k st).watch = s.watch ∧
    (s.putSlotState k st).faults = s.faults ∧ (s.putSlotState k st).level = s.level ∧
    (s.putSlotState k st).record = s.record ∧ (s.putSlotState k st).store = s.store := by
  simp only [State.putSlotState]
  repeat' (first | split | simp)

@[simp] theorem State.putSlotState_mem_wf (s : State) (k : Fin 8) (st : SlotState) (hm : s.mem.wf = true) :
    (s.putSlotState k st).mem.wf = true := by
  simp only [State.putSlotState]
  repeat' (first | split | (simp (maxDischargeDepth := 40) +contextual [hm]; done) | simp (maxDischargeDepth := 40) [hm])

@[simp] theorem State.misuse_frame (s : State) :
    (s.misuse).pending = s.pending ∧ (s.misuse).inputs = s.inputs ∧ (s.misuse).drive = s.drive ∧
    (s.misuse).meas = s.meas ∧ (s.misuse).seq = s.seq ∧ (s.misuse).gov = s.gov ∧ (s.misuse).regs = s.regs ∧
    (s.misuse).watch = s.watch ∧ (s.misuse).faults = s.faults ∧ (s.misuse).level = s.level ∧
    (s.misuse).record = s.record ∧ (s.misuse).store = s.store ∧ (s.misuse).mem = s.mem := by
  simp only [State.misuse]
  repeat' (first | split | simp)

@[simp] theorem State.complete_frame (s : State) (k : Fin 8) (st : SlotState) (rc : ResultCode) (results : List Word) :
    (s.complete k st rc results).pending = s.pending ∧ (s.complete k st rc results).inputs = s.inputs ∧
    (s.complete k st rc results).drive = s.drive ∧ (s.complete k st rc results).meas = s.meas ∧
    (s.complete k st rc results).seq = s.seq ∧ (s.complete k st rc results).gov = s.gov ∧
    (s.complete k st rc results).regs = s.regs ∧ (s.complete k st rc results).watch = s.watch ∧
    (s.complete k st rc results).faults = s.faults ∧ (s.complete k st rc results).level = s.level ∧
    (s.complete k st rc results).record = s.record ∧ (s.complete k st rc results).store = s.store := by
  simp only [State.complete]
  repeat' (first | split | simp)

@[simp] theorem State.complete_mem_wf (s : State) (k : Fin 8) (st : SlotState) (rc : ResultCode) (results : List Word) (hm : s.mem.wf = true) :
    (s.complete k st rc results).mem.wf = true := by
  simp only [State.complete]
  repeat' (first | split | (simp (maxDischargeDepth := 40) +contextual [hm]; done) | simp (maxDischargeDepth := 40) [hm])

@[simp] theorem State.finish_frame (s : State) (k : Fin 8) (rc : ResultCode) (results : List Word) :
    (s.finish k rc results).pending = s.pending ∧ (s.finish k rc results).inputs = s.inputs ∧
    (s.finish k rc results).drive = s.drive ∧ (s.finish k rc results).meas = s.meas ∧
    (s.finish k rc results).seq = s.seq ∧ (s.finish k rc results).gov = s.gov ∧
    (s.finish k rc results).regs = s.regs ∧ (s.finish k rc results).watch = s.watch ∧
    (s.finish k rc results).faults = s.faults ∧ (s.finish k rc results).level = s.level ∧
    (s.finish k rc results).record = s.record ∧ (s.finish k rc results).store = s.store := by
  simp only [State.finish]
  repeat' (first | split | simp)

@[simp] theorem State.finish_mem_wf (s : State) (k : Fin 8) (rc : ResultCode) (results : List Word) (hm : s.mem.wf = true) :
    (s.finish k rc results).mem.wf = true := by
  simp only [State.finish]
  repeat' (first | split | (simp (maxDischargeDepth := 40) +contextual [hm]; done) | simp (maxDischargeDepth := 40) [hm])

@[simp] theorem State.refuse_frame (s : State) (k : Fin 8) (rc : ResultCode) :
    (s.refuse k rc).pending = s.pending ∧ (s.refuse k rc).inputs = s.inputs ∧ (s.refuse k rc).drive = s.drive ∧
    (s.refuse k rc).meas = s.meas ∧ (s.refuse k rc).seq = s.seq ∧ (s.refuse k rc).gov = s.gov ∧
    (s.refuse k rc).regs = s.regs ∧ (s.refuse k rc).watch = s.watch ∧ (s.refuse k rc).faults = s.faults ∧
    (s.refuse k rc).level = s.level ∧ (s.refuse k rc).record = s.record ∧ (s.refuse k rc).store = s.store := by
  simp only [State.refuse]
  repeat' (first | split | simp)

@[simp] theorem State.refuse_mem_wf (s : State) (k : Fin 8) (rc : ResultCode) (hm : s.mem.wf = true) :
    (s.refuse k rc).mem.wf = true := by
  simp only [State.refuse]
  repeat' (first | split | (simp (maxDischargeDepth := 40) +contextual [hm]; done) | simp (maxDischargeDepth := 40) [hm])

@[simp] theorem State.refuseInvalid_frame (s : State) (k : Fin 8) (index : Nat) (image : Bool) :
    (s.refuseInvalid k index image).pending = s.pending ∧ (s.refuseInvalid k index image).inputs = s.inputs ∧
    (s.refuseInvalid k index image).drive = s.drive ∧ (s.refuseInvalid k index image).meas = s.meas ∧
    (s.refuseInvalid k index image).seq = s.seq ∧ (s.refuseInvalid k index image).gov = s.gov ∧
    (s.refuseInvalid k index image).regs = s.regs ∧ (s.refuseInvalid k index image).watch = s.watch ∧
    (s.refuseInvalid k index image).faults = s.faults ∧ (s.refuseInvalid k index image).level = s.level ∧
    (s.refuseInvalid k index image).record = s.record ∧ (s.refuseInvalid k index image).store = s.store := by
  simp only [State.refuseInvalid]
  repeat' (first | split | simp)

@[simp] theorem State.refuseInvalid_mem_wf (s : State) (k : Fin 8) (index : Nat) (image : Bool) (hm : s.mem.wf = true) :
    (s.refuseInvalid k index image).mem.wf = true := by
  simp only [State.refuseInvalid]
  repeat' (first | split | (simp (maxDischargeDepth := 40) +contextual [hm]; done) | simp (maxDischargeDepth := 40) [hm])

@[simp] theorem State.activate_frame (s : State) (k : Fin 8) :
    (s.activate k).pending = s.pending ∧ (s.activate k).inputs = s.inputs ∧ (s.activate k).drive = s.drive ∧
    (s.activate k).meas = s.meas ∧ (s.activate k).seq = s.seq ∧ (s.activate k).gov = s.gov ∧
    (s.activate k).regs = s.regs ∧ (s.activate k).watch = s.watch ∧ (s.activate k).faults = s.faults ∧
    (s.activate k).level = s.level ∧ (s.activate k).record = s.record ∧ (s.activate k).store = s.store := by
  simp only [State.activate]
  repeat' (first | split | simp)

@[simp] theorem State.activate_mem_wf (s : State) (k : Fin 8) (hm : s.mem.wf = true) :
    (s.activate k).mem.wf = true := by
  simp only [State.activate]
  repeat' (first | split | (simp (maxDischargeDepth := 40) +contextual [hm]; done) | simp (maxDischargeDepth := 40) [hm])

@[simp] theorem State.takeSlot_frame (s : State) (k : Fin 8) (rest : List (Fin 8)) :
    (s.takeSlot k rest).pending = s.pending ∧ (s.takeSlot k rest).inputs = s.inputs ∧
    (s.takeSlot k rest).drive = s.drive ∧ (s.takeSlot k rest).meas = s.meas ∧ (s.takeSlot k rest).seq = s.seq ∧
    (s.takeSlot k rest).gov = s.gov ∧ (s.takeSlot k rest).regs = s.regs ∧ (s.takeSlot k rest).watch = s.watch ∧
    (s.takeSlot k rest).faults = s.faults ∧ (s.takeSlot k rest).level = s.level ∧
    (s.takeSlot k rest).record = s.record ∧ (s.takeSlot k rest).store = s.store ∧ (s.takeSlot k rest).mem = s.mem := by
  simp only [State.takeSlot]
  repeat' (first | split | simp)

@[simp] theorem State.setChain_frame (s : State) (c : Chain) :
    (s.setChain c).pending = s.pending ∧ (s.setChain c).inputs = s.inputs ∧ (s.setChain c).drive = s.drive ∧
    (s.setChain c).meas = s.meas ∧ (s.setChain c).seq = s.seq ∧ (s.setChain c).gov = s.gov ∧
    (s.setChain c).regs = s.regs ∧ (s.setChain c).watch = s.watch ∧ (s.setChain c).faults = s.faults ∧
    (s.setChain c).level = s.level ∧ (s.setChain c).record = s.record ∧ (s.setChain c).store = s.store ∧
    (s.setChain c).mem = s.mem := by
  simp only [State.setChain]
  repeat' (first | split | simp)

@[simp] theorem State.breakStoreChain_frame (s : State) :
    (s.breakStoreChain).pending = s.pending ∧ (s.breakStoreChain).inputs = s.inputs ∧
    (s.breakStoreChain).drive = s.drive ∧ (s.breakStoreChain).meas = s.meas ∧ (s.breakStoreChain).seq = s.seq ∧
    (s.breakStoreChain).gov = s.gov ∧ (s.breakStoreChain).regs = s.regs ∧ (s.breakStoreChain).watch = s.watch ∧
    (s.breakStoreChain).faults = s.faults ∧ (s.breakStoreChain).level = s.level ∧
    (s.breakStoreChain).record = s.record ∧ (s.breakStoreChain).store = s.store ∧ (s.breakStoreChain).mem = s.mem := by
  simp only [State.breakStoreChain]
  repeat' (first | split | simp)

@[simp] theorem State.writeArea_frame (s : State) (off : Nat) (ws : List Word) :
    (s.writeArea off ws).pending = s.pending ∧ (s.writeArea off ws).inputs = s.inputs ∧
    (s.writeArea off ws).drive = s.drive ∧ (s.writeArea off ws).meas = s.meas ∧ (s.writeArea off ws).seq = s.seq ∧
    (s.writeArea off ws).gov = s.gov ∧ (s.writeArea off ws).regs = s.regs ∧ (s.writeArea off ws).watch = s.watch ∧
    (s.writeArea off ws).faults = s.faults ∧ (s.writeArea off ws).level = s.level ∧
    (s.writeArea off ws).record = s.record ∧ (s.writeArea off ws).store = s.store ∧ (s.writeArea off ws).req = s.req := by
  simp only [State.writeArea]
  repeat' (first | split | simp)

@[simp] theorem State.writeArea_mem_wf (s : State) (off : Nat) (ws : List Word) (hm : s.mem.wf = true) :
    (s.writeArea off ws).mem.wf = true := by
  simp only [State.writeArea]
  repeat' (first | split | (simp (maxDischargeDepth := 40) +contextual [hm]; done) | simp (maxDischargeDepth := 40) [hm])

@[simp] theorem State.putEntry_frame (s : State) (k : Fin 8) (e : ListEntry) :
    (s.putEntry k e).pending = s.pending ∧ (s.putEntry k e).inputs = s.inputs ∧ (s.putEntry k e).drive = s.drive ∧
    (s.putEntry k e).meas = s.meas ∧ (s.putEntry k e).seq = s.seq ∧ (s.putEntry k e).gov = s.gov ∧
    (s.putEntry k e).regs = s.regs ∧ (s.putEntry k e).watch = s.watch ∧ (s.putEntry k e).faults = s.faults ∧
    (s.putEntry k e).level = s.level ∧ (s.putEntry k e).store = s.store ∧ (s.putEntry k e).req = s.req := by
  simp only [State.putEntry]
  repeat' (first | split | simp)

@[simp] theorem State.putEntry_mem_wf (s : State) (k : Fin 8) (e : ListEntry) (hm : s.mem.wf = true) :
    (s.putEntry k e).mem.wf = true := by
  simp only [State.putEntry]
  repeat' (first | split | (simp (maxDischargeDepth := 40) +contextual [hm]; done) | simp (maxDischargeDepth := 40) [hm])

@[simp] theorem State.postRecord_frame (s : State) (r : Record) :
    (s.postRecord r).pending = s.pending ∧ (s.postRecord r).inputs = s.inputs ∧ (s.postRecord r).drive = s.drive ∧
    (s.postRecord r).meas = s.meas ∧ (s.postRecord r).seq = s.seq ∧ (s.postRecord r).gov = s.gov ∧
    (s.postRecord r).regs = s.regs ∧ (s.postRecord r).watch = s.watch ∧ (s.postRecord r).faults = s.faults ∧
    (s.postRecord r).level = s.level ∧ (s.postRecord r).store = s.store := by
  simp only [State.postRecord]
  repeat' (first | split | simp)

@[simp] theorem State.postRecord_mem_wf (s : State) (r : Record) (hm : s.mem.wf = true) :
    (s.postRecord r).mem.wf = true := by
  simp only [State.postRecord]
  repeat' (first | split | (simp (maxDischargeDepth := 40) +contextual [hm]; done) | simp (maxDischargeDepth := 40) [hm])

@[simp] theorem State.noteStoreEntry_frame (id : Nat) (st : StoreStatus) (s : State) (k : Fin 8) :
    (State.noteStoreEntry id st s k).pending = s.pending ∧ (State.noteStoreEntry id st s k).inputs = s.inputs ∧
    (State.noteStoreEntry id st s k).drive = s.drive ∧ (State.noteStoreEntry id st s k).meas = s.meas ∧
    (State.noteStoreEntry id st s k).seq = s.seq ∧ (State.noteStoreEntry id st s k).gov = s.gov ∧
    (State.noteStoreEntry id st s k).regs = s.regs ∧ (State.noteStoreEntry id st s k).watch = s.watch ∧
    (State.noteStoreEntry id st s k).faults = s.faults ∧ (State.noteStoreEntry id st s k).level = s.level ∧
    (State.noteStoreEntry id st s k).record = s.record ∧ (State.noteStoreEntry id st s k).store = s.store ∧
    (State.noteStoreEntry id st s k).req = s.req := by
  simp only [State.noteStoreEntry]
  repeat' (first | split | simp)

@[simp] theorem State.noteStoreEntry_mem_wf (id : Nat) (st : StoreStatus) (s : State) (k : Fin 8) (hm : s.mem.wf = true) :
    (State.noteStoreEntry id st s k).mem.wf = true := by
  simp only [State.noteStoreEntry]
  repeat' (first | split | (simp (maxDischargeDepth := 40) +contextual [hm]; done) | simp (maxDischargeDepth := 40) [hm])

@[simp] theorem State.noteStoreEnd_frame (s : State) (id : Nat) (st : StoreStatus) :
    (s.noteStoreEnd id st).pending = s.pending ∧ (s.noteStoreEnd id st).inputs = s.inputs ∧
    (s.noteStoreEnd id st).drive = s.drive ∧ (s.noteStoreEnd id st).meas = s.meas ∧
    (s.noteStoreEnd id st).seq = s.seq ∧ (s.noteStoreEnd id st).gov = s.gov ∧ (s.noteStoreEnd id st).regs = s.regs ∧
    (s.noteStoreEnd id st).watch = s.watch ∧ (s.noteStoreEnd id st).faults = s.faults ∧
    (s.noteStoreEnd id st).level = s.level ∧ (s.noteStoreEnd id st).record = s.record ∧
    (s.noteStoreEnd id st).store = s.store ∧ (s.noteStoreEnd id st).req = s.req := by
  simp only [State.noteStoreEnd]
  repeat' (first | split | simp)

@[simp] theorem State.noteStoreEnd_mem_wf (s : State) (id : Nat) (st : StoreStatus) (hm : s.mem.wf = true) :
    (s.noteStoreEnd id st).mem.wf = true := by
  simp only [State.noteStoreEnd]
  repeat' (first | split | (simp (maxDischargeDepth := 40) +contextual [hm]; done) | simp (maxDischargeDepth := 40) [hm])

@[simp] theorem State.completeEntry_frame (i : Fin 4) (gen : Word) (s : State) (k : Fin 8) :
    (State.completeEntry i gen s k).pending = s.pending ∧ (State.completeEntry i gen s k).inputs = s.inputs ∧
    (State.completeEntry i gen s k).drive = s.drive ∧ (State.completeEntry i gen s k).meas = s.meas ∧
    (State.completeEntry i gen s k).seq = s.seq ∧ (State.completeEntry i gen s k).gov = s.gov ∧
    (State.completeEntry i gen s k).regs = s.regs ∧ (State.completeEntry i gen s k).watch = s.watch ∧
    (State.completeEntry i gen s k).faults = s.faults ∧ (State.completeEntry i gen s k).level = s.level ∧
    (State.completeEntry i gen s k).store = s.store := by
  simp only [State.completeEntry]
  repeat' (first | split | simp)

@[simp] theorem State.completeEntry_mem_wf (i : Fin 4) (gen : Word) (s : State) (k : Fin 8) (hm : s.mem.wf = true) :
    (State.completeEntry i gen s k).mem.wf = true := by
  simp only [State.completeEntry]
  repeat' (first | split | (simp (maxDischargeDepth := 40) +contextual [hm]; done) | simp (maxDischargeDepth := 40) [hm])

@[simp] theorem State.freezeBank_frame (s : State) (i : Fin 4) :
    (s.freezeBank i).pending = s.pending ∧ (s.freezeBank i).inputs = s.inputs ∧ (s.freezeBank i).drive = s.drive ∧
    (s.freezeBank i).meas = s.meas ∧ (s.freezeBank i).seq = s.seq ∧ (s.freezeBank i).gov = s.gov ∧
    (s.freezeBank i).regs = s.regs ∧ (s.freezeBank i).watch = s.watch ∧ (s.freezeBank i).faults = s.faults ∧
    (s.freezeBank i).level = s.level ∧ (s.freezeBank i).store = s.store := by
  simp only [State.freezeBank]
  repeat' (first | split | simp)

@[simp] theorem State.freezeBank_mem_wf (s : State) (i : Fin 4) (hm : s.mem.wf = true) :
    (s.freezeBank i).mem.wf = true := by
  simp only [State.freezeBank]
  repeat' (first | split | (simp (maxDischargeDepth := 40) +contextual [hm]; done) | simp (maxDischargeDepth := 40) [hm])

@[simp] theorem State.serveStore_frame (s : State) :
    (s.serveStore).pending = s.pending ∧ (s.serveStore).inputs = s.inputs ∧ (s.serveStore).drive = s.drive ∧
    (s.serveStore).meas = s.meas ∧ (s.serveStore).seq = s.seq ∧ (s.serveStore).gov = s.gov ∧
    (s.serveStore).regs = s.regs ∧ (s.serveStore).watch = s.watch ∧ (s.serveStore).faults = s.faults ∧
    (s.serveStore).level = s.level ∧ (s.serveStore).record = s.record ∧ (s.serveStore).req = s.req ∧
    (s.serveStore).mem = s.mem := by
  simp only [State.serveStore]
  repeat' (first | split | simp)

@[simp] theorem State.changeStore_frame (s : State) (u : StoreUnit) :
    (s.changeStore u).pending = s.pending ∧ (s.changeStore u).inputs = s.inputs ∧ (s.changeStore u).drive = s.drive ∧
    (s.changeStore u).meas = s.meas ∧ (s.changeStore u).seq = s.seq ∧ (s.changeStore u).gov = s.gov ∧
    (s.changeStore u).regs = s.regs ∧ (s.changeStore u).watch = s.watch ∧ (s.changeStore u).faults = s.faults ∧
    (s.changeStore u).level = s.level ∧ (s.changeStore u).record = s.record ∧ (s.changeStore u).mem = s.mem := by
  simp only [State.changeStore]
  repeat' (first | split | simp)

@[simp] theorem State.countDropped_frame (s : State) :
    (s.countDropped).pending = s.pending ∧ (s.countDropped).inputs = s.inputs ∧ (s.countDropped).drive = s.drive ∧
    (s.countDropped).meas = s.meas ∧ (s.countDropped).seq = s.seq ∧ (s.countDropped).gov = s.gov ∧
    (s.countDropped).regs = s.regs ∧ (s.countDropped).watch = s.watch ∧ (s.countDropped).level = s.level ∧
    (s.countDropped).record = s.record ∧ (s.countDropped).mem = s.mem := by
  simp only [State.countDropped]
  repeat' (first | split | simp)

@[simp] theorem State.countFailed_frame (s : State) :
    (s.countFailed).pending = s.pending ∧ (s.countFailed).inputs = s.inputs ∧ (s.countFailed).drive = s.drive ∧
    (s.countFailed).meas = s.meas ∧ (s.countFailed).seq = s.seq ∧ (s.countFailed).gov = s.gov ∧
    (s.countFailed).regs = s.regs ∧ (s.countFailed).watch = s.watch ∧ (s.countFailed).level = s.level ∧
    (s.countFailed).record = s.record ∧ (s.countFailed).mem = s.mem := by
  simp only [State.countFailed]
  repeat' (first | split | simp)

@[simp] theorem State.countEnd_frame (s : State) (st : StoreStatus) :
    (s.countEnd st).pending = s.pending ∧ (s.countEnd st).inputs = s.inputs ∧ (s.countEnd st).drive = s.drive ∧
    (s.countEnd st).meas = s.meas ∧ (s.countEnd st).seq = s.seq ∧ (s.countEnd st).gov = s.gov ∧
    (s.countEnd st).regs = s.regs ∧ (s.countEnd st).watch = s.watch ∧ (s.countEnd st).level = s.level ∧
    (s.countEnd st).record = s.record ∧ (s.countEnd st).mem = s.mem := by
  simp only [State.countEnd]
  repeat' (first | split | simp)

@[simp] theorem State.endRecord_frame (s : State) (id : Nat) (st : StoreStatus) :
    (s.endRecord id st).pending = s.pending ∧ (s.endRecord id st).inputs = s.inputs ∧
    (s.endRecord id st).drive = s.drive ∧ (s.endRecord id st).meas = s.meas ∧ (s.endRecord id st).seq = s.seq ∧
    (s.endRecord id st).gov = s.gov ∧ (s.endRecord id st).regs = s.regs ∧ (s.endRecord id st).watch = s.watch ∧
    (s.endRecord id st).level = s.level ∧ (s.endRecord id st).record = s.record := by
  simp only [State.endRecord]
  repeat' (first | split | simp)

@[simp] theorem State.endRecord_mem_wf (s : State) (id : Nat) (st : StoreStatus) (hm : s.mem.wf = true) :
    (s.endRecord id st).mem.wf = true := by
  simp only [State.endRecord]
  repeat' (first | split | (simp (maxDischargeDepth := 40) +contextual [hm]; done) | simp (maxDischargeDepth := 40) [hm])

@[simp] theorem State.endHead_frame (st : StoreStatus) (s : State) (r : QueuedRecord) :
    (State.endHead st s r).pending = s.pending ∧ (State.endHead st s r).inputs = s.inputs ∧
    (State.endHead st s r).drive = s.drive ∧ (State.endHead st s r).meas = s.meas ∧
    (State.endHead st s r).seq = s.seq ∧ (State.endHead st s r).gov = s.gov ∧ (State.endHead st s r).regs = s.regs ∧
    (State.endHead st s r).watch = s.watch ∧ (State.endHead st s r).level = s.level ∧
    (State.endHead st s r).record = s.record := by
  simp only [State.endHead]
  repeat' (first | split | simp)

@[simp] theorem State.endHead_mem_wf (st : StoreStatus) (s : State) (r : QueuedRecord) (hm : s.mem.wf = true) :
    (State.endHead st s r).mem.wf = true := by
  simp only [State.endHead]
  repeat' (first | split | (simp (maxDischargeDepth := 40) +contextual [hm]; done) | simp (maxDischargeDepth := 40) [hm])

@[simp] theorem State.endQueue_frame (s : State) (st : StoreStatus) :
    (s.endQueue st).pending = s.pending ∧ (s.endQueue st).inputs = s.inputs ∧ (s.endQueue st).drive = s.drive ∧
    (s.endQueue st).meas = s.meas ∧ (s.endQueue st).seq = s.seq ∧ (s.endQueue st).gov = s.gov ∧
    (s.endQueue st).regs = s.regs ∧ (s.endQueue st).watch = s.watch ∧ (s.endQueue st).level = s.level ∧
    (s.endQueue st).record = s.record := by
  simp only [State.endQueue]
  repeat' (first | split | simp)

@[simp] theorem State.endQueue_mem_wf (s : State) (st : StoreStatus) (hm : s.mem.wf = true) :
    (s.endQueue st).mem.wf = true := by
  simp only [State.endQueue]
  repeat' (first | split | (simp (maxDischargeDepth := 40) +contextual [hm]; done) | simp (maxDischargeDepth := 40) [hm])

@[simp] theorem State.storeInForce_frame (s : State) (rc : ResultCode) :
    (s.storeInForce rc).pending = s.pending ∧ (s.storeInForce rc).inputs = s.inputs ∧
    (s.storeInForce rc).drive = s.drive ∧ (s.storeInForce rc).meas = s.meas ∧ (s.storeInForce rc).seq = s.seq ∧
    (s.storeInForce rc).gov = s.gov ∧ (s.storeInForce rc).regs = s.regs ∧ (s.storeInForce rc).watch = s.watch ∧
    (s.storeInForce rc).faults = s.faults ∧ (s.storeInForce rc).level = s.level ∧
    (s.storeInForce rc).record = s.record := by
  simp only [State.storeInForce]
  repeat' (first | split | simp)

@[simp] theorem State.storeInForce_mem_wf (s : State) (rc : ResultCode) (hm : s.mem.wf = true) :
    (s.storeInForce rc).mem.wf = true := by
  simp only [State.storeInForce]
  repeat' (first | split | (simp (maxDischargeDepth := 40) +contextual [hm]; done) | simp (maxDischargeDepth := 40) [hm])

@[simp] theorem State.endHostOp_frame (s : State) (op : Option HostOp) :
    (s.endHostOp op).pending = s.pending ∧ (s.endHostOp op).inputs = s.inputs ∧ (s.endHostOp op).drive = s.drive ∧
    (s.endHostOp op).meas = s.meas ∧ (s.endHostOp op).seq = s.seq ∧ (s.endHostOp op).gov = s.gov ∧
    (s.endHostOp op).regs = s.regs ∧ (s.endHostOp op).watch = s.watch ∧ (s.endHostOp op).faults = s.faults ∧
    (s.endHostOp op).level = s.level ∧ (s.endHostOp op).record = s.record ∧ (s.endHostOp op).store = s.store := by
  simp only [State.endHostOp]
  repeat' (first | split | simp)

@[simp] theorem State.endHostOp_mem_wf (s : State) (op : Option HostOp) (hm : s.mem.wf = true) :
    (s.endHostOp op).mem.wf = true := by
  simp only [State.endHostOp]
  repeat' (first | split | (simp (maxDischargeDepth := 40) +contextual [hm]; done) | simp (maxDischargeDepth := 40) [hm])

@[simp] theorem State.storeOut_frame (s : State) :
    (s.storeOut).pending = s.pending ∧ (s.storeOut).inputs = s.inputs ∧ (s.storeOut).drive = s.drive ∧
    (s.storeOut).meas = s.meas ∧ (s.storeOut).seq = s.seq ∧ (s.storeOut).gov = s.gov ∧ (s.storeOut).regs = s.regs ∧
    (s.storeOut).watch = s.watch ∧ (s.storeOut).level = s.level ∧ (s.storeOut).record = s.record := by
  simp only [State.storeOut]
  repeat' (first | split | simp)

@[simp] theorem State.storeOut_mem_wf (s : State) (hm : s.mem.wf = true) :
    (s.storeOut).mem.wf = true := by
  simp only [State.storeOut]
  repeat' (first | split | (simp (maxDischargeDepth := 40) +contextual [hm]; done) | simp (maxDischargeDepth := 40) [hm])

@[simp] theorem State.storeGoOn_frame (s : State) (u : StoreUnit) :
    (s.storeGoOn u).pending = s.pending ∧ (s.storeGoOn u).inputs = s.inputs ∧ (s.storeGoOn u).drive = s.drive ∧
    (s.storeGoOn u).meas = s.meas ∧ (s.storeGoOn u).seq = s.seq ∧ (s.storeGoOn u).gov = s.gov ∧
    (s.storeGoOn u).regs = s.regs ∧ (s.storeGoOn u).watch = s.watch ∧ (s.storeGoOn u).level = s.level ∧
    (s.storeGoOn u).record = s.record := by
  simp only [State.storeGoOn]
  repeat' (first | split | simp)

@[simp] theorem State.storeGoOn_mem_wf (s : State) (u : StoreUnit) (hm : s.mem.wf = true) :
    (s.storeGoOn u).mem.wf = true := by
  simp only [State.storeGoOn]
  repeat' (first | split | (simp (maxDischargeDepth := 40) +contextual [hm]; done) | simp (maxDischargeDepth := 40) [hm])

@[simp] theorem State.handOver_frame (s : State) (r : Record) :
    (s.handOver r).pending = s.pending ∧ (s.handOver r).inputs = s.inputs ∧ (s.handOver r).drive = s.drive ∧
    (s.handOver r).meas = s.meas ∧ (s.handOver r).seq = s.seq ∧ (s.handOver r).gov = s.gov ∧
    (s.handOver r).regs = s.regs ∧ (s.handOver r).watch = s.watch ∧ (s.handOver r).level = s.level ∧
    (s.handOver r).record = s.record ∧ (s.handOver r).mem = s.mem := by
  simp only [State.handOver]
  repeat' (first | split | simp)

@[simp] theorem State.storeDone_frame (s : State) :
    (s.storeDone).pending = s.pending ∧ (s.storeDone).inputs = s.inputs ∧ (s.storeDone).drive = s.drive ∧
    (s.storeDone).meas = s.meas ∧ (s.storeDone).seq = s.seq ∧ (s.storeDone).gov = s.gov ∧
    (s.storeDone).regs = s.regs ∧ (s.storeDone).watch = s.watch ∧ (s.storeDone).level = s.level ∧
    (s.storeDone).record = s.record := by
  simp only [State.storeDone]
  repeat' (first | split | simp)

@[simp] theorem State.storeDone_mem_wf (s : State) (hm : s.mem.wf = true) :
    (s.storeDone).mem.wf = true := by
  simp only [State.storeDone]
  repeat' (first | split | (simp (maxDischargeDepth := 40) +contextual [hm]; done) | simp (maxDischargeDepth := 40) [hm])

@[simp] theorem State.storeFailed_frame (s : State) :
    (s.storeFailed).pending = s.pending ∧ (s.storeFailed).inputs = s.inputs ∧ (s.storeFailed).drive = s.drive ∧
    (s.storeFailed).meas = s.meas ∧ (s.storeFailed).seq = s.seq ∧ (s.storeFailed).gov = s.gov ∧
    (s.storeFailed).regs = s.regs ∧ (s.storeFailed).watch = s.watch ∧ (s.storeFailed).level = s.level ∧
    (s.storeFailed).record = s.record := by
  simp only [State.storeFailed]
  repeat' (first | split | simp)

@[simp] theorem State.storeFailed_mem_wf (s : State) (hm : s.mem.wf = true) :
    (s.storeFailed).mem.wf = true := by
  simp only [State.storeFailed]
  repeat' (first | split | (simp (maxDischargeDepth := 40) +contextual [hm]; done) | simp (maxDischargeDepth := 40) [hm])

@[simp] theorem State.eraseDone_frame (s : State) :
    (s.eraseDone).pending = s.pending ∧ (s.eraseDone).inputs = s.inputs ∧ (s.eraseDone).drive = s.drive ∧
    (s.eraseDone).meas = s.meas ∧ (s.eraseDone).seq = s.seq ∧ (s.eraseDone).gov = s.gov ∧
    (s.eraseDone).regs = s.regs ∧ (s.eraseDone).watch = s.watch ∧ (s.eraseDone).level = s.level ∧
    (s.eraseDone).record = s.record := by
  simp only [State.eraseDone]
  repeat' (first | split | simp)

@[simp] theorem State.eraseDone_mem_wf (s : State) (hm : s.mem.wf = true) :
    (s.eraseDone).mem.wf = true := by
  simp only [State.eraseDone]
  repeat' (first | split | (simp (maxDischargeDepth := 40) +contextual [hm]; done) | simp (maxDischargeDepth := 40) [hm])

/-- A waiting read that ends leaves every block but the store unit, the request unit and the exchange memory, and of the store
unit it changes the state and the host operation only. -/
@[simp] theorem State.endWaitingRead_frame (s : State) (k : Fin 8) (rc : ResultCode) :
    (s.endWaitingRead k rc).pending = s.pending ∧ (s.endWaitingRead k rc).inputs = s.inputs ∧
    (s.endWaitingRead k rc).drive = s.drive ∧ (s.endWaitingRead k rc).meas = s.meas ∧
    (s.endWaitingRead k rc).seq = s.seq ∧ (s.endWaitingRead k rc).gov = s.gov ∧
    (s.endWaitingRead k rc).regs = s.regs ∧ (s.endWaitingRead k rc).watch = s.watch ∧
    (s.endWaitingRead k rc).faults = s.faults ∧ (s.endWaitingRead k rc).level = s.level ∧
    (s.endWaitingRead k rc).record = s.record ∧
    (s.endWaitingRead k rc).store = { s.store with state := .ready, hostOp := none } := by
  simp [State.endWaitingRead]

@[simp] theorem State.endWaitingRead_mem_wf (s : State) (k : Fin 8) (rc : ResultCode) (hm : s.mem.wf = true) :
    (s.endWaitingRead k rc).mem.wf = true := by
  simp [State.endWaitingRead, hm]

/-- Everything that `dropBadRead` can do: nothing, or end the read that waits for a page of sector `i`. -/
theorem State.dropBadRead_cases (s : State) (i : Nat) :
    (s.dropBadRead i = s ∧ ∀ k id page, s.store.hostOp ≠ some (.read k id i page)) ∨
    ∃ k id page, s.store.hostOp = some (.read k id i page) ∧ s.dropBadRead i = s.endWaitingRead k .gone := by
  unfold State.dropBadRead
  split
  next k id sector page h =>
    split
    next hi => exact .inr ⟨k, id, page, by rw [h, hi], rfl⟩
    next hi => exact .inl ⟨rfl, fun k' id' page' h' => hi (by rw [h] at h'; cases h'; rfl)⟩
  next h => exact .inl ⟨rfl, fun k id page h' => h k id i page h'⟩

@[simp] theorem State.dropBadRead_frame (s : State) (i : Nat) :
    (s.dropBadRead i).pending = s.pending ∧ (s.dropBadRead i).inputs = s.inputs ∧ (s.dropBadRead i).drive = s.drive ∧
    (s.dropBadRead i).meas = s.meas ∧ (s.dropBadRead i).seq = s.seq ∧ (s.dropBadRead i).gov = s.gov ∧
    (s.dropBadRead i).regs = s.regs ∧ (s.dropBadRead i).watch = s.watch ∧ (s.dropBadRead i).faults = s.faults ∧
    (s.dropBadRead i).level = s.level ∧ (s.dropBadRead i).record = s.record := by
  obtain ⟨h, -⟩ | ⟨k, id, page, -, h⟩ := s.dropBadRead_cases i <;> rw [h] <;> simp

@[simp] theorem State.dropBadRead_store_frame (s : State) (i : Nat) :
    (s.dropBadRead i).store.sectors = s.store.sectors ∧ (s.dropBadRead i).store.badCount = s.store.badCount ∧
    (s.dropBadRead i).store.openSector = s.store.openSector ∧ (s.dropBadRead i).store.nextSlot = s.store.nextSlot ∧
    (s.dropBadRead i).store.toOpen = s.store.toOpen ∧ (s.dropBadRead i).store.erase = s.store.erase ∧
    (s.dropBadRead i).store.eraseSector = s.store.eraseSector ∧
    (s.dropBadRead i).store.eraseElapsed = s.store.eraseElapsed ∧ (s.dropBadRead i).store.queue = s.store.queue ∧
    (s.dropBadRead i).store.readPtr = s.store.readPtr ∧ (s.dropBadRead i).store.dropped = s.store.dropped ∧
    (s.dropBadRead i).store.failed = s.store.failed ∧ (s.dropBadRead i).store.settings = s.store.settings ∧
    (s.dropBadRead i).store.awaiting = s.store.awaiting ∧ (s.dropBadRead i).store.job = s.store.job ∧
    (s.dropBadRead i).store.transfer = s.store.transfer ∧ (s.dropBadRead i).store.pollElapsed = s.store.pollElapsed ∧
    (s.dropBadRead i).store.lastTransfer = s.store.lastTransfer := by
  obtain ⟨h, -⟩ | ⟨k, id, page, -, h⟩ := s.dropBadRead_cases i <;> rw [h] <;> simp

@[simp] theorem State.dropBadRead_mem_wf (s : State) (i : Nat) (hm : s.mem.wf = true) : (s.dropBadRead i).mem.wf = true := by
  obtain ⟨h, -⟩ | ⟨k, id, page, -, h⟩ := s.dropBadRead_cases i <;> rw [h] <;> simp [hm]

/-- R160: after sector `i` has become BAD no store read names it. -/
theorem State.dropBadRead_not_read (s : State) (i : Nat) (k : Fin 8) (id page : Nat) :
    (s.dropBadRead i).store.hostOp ≠ some (.read k id i page) := by
  obtain ⟨h, hn⟩ | ⟨k', id', page', -, h⟩ := s.dropBadRead_cases i <;> rw [h]
  · exact hn k id page
  · simp

@[simp] theorem State.eraseFailed_frame (s : State) :
    (s.eraseFailed).pending = s.pending ∧ (s.eraseFailed).inputs = s.inputs ∧ (s.eraseFailed).drive = s.drive ∧
    (s.eraseFailed).meas = s.meas ∧ (s.eraseFailed).seq = s.seq ∧ (s.eraseFailed).gov = s.gov ∧
    (s.eraseFailed).regs = s.regs ∧ (s.eraseFailed).watch = s.watch ∧ (s.eraseFailed).level = s.level ∧
    (s.eraseFailed).record = s.record := by
  simp only [State.eraseFailed]
  repeat' (first | split | simp)

@[simp] theorem State.eraseFailed_mem_wf (s : State) (hm : s.mem.wf = true) :
    (s.eraseFailed).mem.wf = true := by
  simp only [State.eraseFailed]
  repeat' (first | split | (simp (maxDischargeDepth := 40) +contextual [hm]; done) | simp (maxDischargeDepth := 40) [hm])

@[simp] theorem State.eraseAllDone_frame (s : State) (k : Fin 8) :
    (s.eraseAllDone k).pending = s.pending ∧ (s.eraseAllDone k).inputs = s.inputs ∧
    (s.eraseAllDone k).drive = s.drive ∧ (s.eraseAllDone k).meas = s.meas ∧ (s.eraseAllDone k).seq = s.seq ∧
    (s.eraseAllDone k).gov = s.gov ∧ (s.eraseAllDone k).regs = s.regs ∧ (s.eraseAllDone k).watch = s.watch ∧
    (s.eraseAllDone k).faults = s.faults ∧ (s.eraseAllDone k).level = s.level ∧ (s.eraseAllDone k).record = s.record := by
  simp only [State.eraseAllDone]
  repeat' (first | split | simp)

@[simp] theorem State.eraseAllDone_mem_wf (s : State) (k : Fin 8) (hm : s.mem.wf = true) :
    (s.eraseAllDone k).mem.wf = true := by
  simp only [State.eraseAllDone]
  repeat' (first | split | (simp (maxDischargeDepth := 40) +contextual [hm]; done) | simp (maxDischargeDepth := 40) [hm])

@[simp] theorem State.openDone_frame (s : State) :
    (s.openDone).pending = s.pending ∧ (s.openDone).inputs = s.inputs ∧ (s.openDone).drive = s.drive ∧
    (s.openDone).meas = s.meas ∧ (s.openDone).seq = s.seq ∧ (s.openDone).gov = s.gov ∧ (s.openDone).regs = s.regs ∧
    (s.openDone).watch = s.watch ∧ (s.openDone).faults = s.faults ∧ (s.openDone).level = s.level ∧
    (s.openDone).record = s.record := by
  simp only [State.openDone]
  repeat' (first | split | simp)

@[simp] theorem State.openDone_mem_wf (s : State) (hm : s.mem.wf = true) :
    (s.openDone).mem.wf = true := by
  simp only [State.openDone]
  repeat' (first | split | (simp (maxDischargeDepth := 40) +contextual [hm]; done) | simp (maxDischargeDepth := 40) [hm])

@[simp] theorem State.openFailed_frame (s : State) :
    (s.openFailed).pending = s.pending ∧ (s.openFailed).inputs = s.inputs ∧ (s.openFailed).drive = s.drive ∧
    (s.openFailed).meas = s.meas ∧ (s.openFailed).seq = s.seq ∧ (s.openFailed).gov = s.gov ∧
    (s.openFailed).regs = s.regs ∧ (s.openFailed).watch = s.watch ∧ (s.openFailed).level = s.level ∧
    (s.openFailed).record = s.record := by
  simp only [State.openFailed]
  repeat' (first | split | simp)

@[simp] theorem State.openFailed_mem_wf (s : State) (hm : s.mem.wf = true) :
    (s.openFailed).mem.wf = true := by
  simp only [State.openFailed]
  repeat' (first | split | (simp (maxDischargeDepth := 40) +contextual [hm]; done) | simp (maxDischargeDepth := 40) [hm])

@[simp] theorem State.endRead_frame (s : State) (k : Fin 8) (rc : ResultCode) (results : List Word) :
    (s.endRead k rc results).pending = s.pending ∧ (s.endRead k rc results).inputs = s.inputs ∧
    (s.endRead k rc results).drive = s.drive ∧ (s.endRead k rc results).meas = s.meas ∧
    (s.endRead k rc results).seq = s.seq ∧ (s.endRead k rc results).gov = s.gov ∧
    (s.endRead k rc results).regs = s.regs ∧ (s.endRead k rc results).watch = s.watch ∧
    (s.endRead k rc results).faults = s.faults ∧ (s.endRead k rc results).level = s.level ∧
    (s.endRead k rc results).record = s.record := by
  simp only [State.endRead]
  repeat' (first | split | simp)

@[simp] theorem State.endRead_mem_wf (s : State) (k : Fin 8) (rc : ResultCode) (results : List Word) (hm : s.mem.wf = true) :
    (s.endRead k rc results).mem.wf = true := by
  simp only [State.endRead]
  repeat' (first | split | (simp (maxDischargeDepth := 40) +contextual [hm]; done) | simp (maxDischargeDepth := 40) [hm])

@[simp] theorem State.pageReadDone_frame (s : State) (bs : List Byte) (k : Fin 8) (id sector page : Nat) :
    (s.pageReadDone bs k id sector page).pending = s.pending ∧
    (s.pageReadDone bs k id sector page).inputs = s.inputs ∧ (s.pageReadDone bs k id sector page).drive = s.drive ∧
    (s.pageReadDone bs k id sector page).meas = s.meas ∧ (s.pageReadDone bs k id sector page).seq = s.seq ∧
    (s.pageReadDone bs k id sector page).gov = s.gov ∧ (s.pageReadDone bs k id sector page).regs = s.regs ∧
    (s.pageReadDone bs k id sector page).watch = s.watch ∧ (s.pageReadDone bs k id sector page).faults = s.faults ∧
    (s.pageReadDone bs k id sector page).level = s.level ∧ (s.pageReadDone bs k id sector page).record = s.record := by
  simp only [State.pageReadDone]
  repeat' (first | split | simp)

@[simp] theorem State.pageReadDone_mem_wf (s : State) (bs : List Byte) (k : Fin 8) (id sector page : Nat) (hm : s.mem.wf = true) :
    (s.pageReadDone bs k id sector page).mem.wf = true := by
  simp only [State.pageReadDone]
  repeat' (first | split | (simp (maxDischargeDepth := 40) +contextual [hm]; done) | simp (maxDischargeDepth := 40) [hm])

@[simp] theorem State.cancelRead_frame (s : State) (k : Fin 8) :
    (s.cancelRead k).pending = s.pending ∧ (s.cancelRead k).inputs = s.inputs ∧ (s.cancelRead k).drive = s.drive ∧
    (s.cancelRead k).meas = s.meas ∧ (s.cancelRead k).seq = s.seq ∧ (s.cancelRead k).gov = s.gov ∧
    (s.cancelRead k).regs = s.regs ∧ (s.cancelRead k).watch = s.watch ∧ (s.cancelRead k).faults = s.faults ∧
    (s.cancelRead k).level = s.level ∧ (s.cancelRead k).record = s.record := by
  simp only [State.cancelRead]
  repeat' (first | split | simp)

@[simp] theorem State.cancelRead_mem_wf (s : State) (k : Fin 8) (hm : s.mem.wf = true) :
    (s.cancelRead k).mem.wf = true := by
  simp only [State.cancelRead]
  repeat' (first | split | (simp (maxDischargeDepth := 40) +contextual [hm]; done) | simp (maxDischargeDepth := 40) [hm])

@[simp] theorem State.scanAbsent_frame (s : State) :
    (s.scanAbsent).pending = s.pending ∧ (s.scanAbsent).inputs = s.inputs ∧ (s.scanAbsent).drive = s.drive ∧
    (s.scanAbsent).meas = s.meas ∧ (s.scanAbsent).seq = s.seq ∧ (s.scanAbsent).gov = s.gov ∧
    (s.scanAbsent).regs = s.regs ∧ (s.scanAbsent).watch = s.watch ∧ (s.scanAbsent).level = s.level ∧
    (s.scanAbsent).record = s.record := by
  simp only [State.scanAbsent]
  repeat' (first | split | simp)

@[simp] theorem State.scanAbsent_mem_wf (s : State) (hm : s.mem.wf = true) :
    (s.scanAbsent).mem.wf = true := by
  simp only [State.scanAbsent]
  repeat' (first | split | (simp (maxDischargeDepth := 40) +contextual [hm]; done) | simp (maxDischargeDepth := 40) [hm])

@[simp] theorem State.dropStored_frame (s : State) (greatest : Nat) :
    (s.dropStored greatest).pending = s.pending ∧ (s.dropStored greatest).inputs = s.inputs ∧
    (s.dropStored greatest).drive = s.drive ∧ (s.dropStored greatest).meas = s.meas ∧
    (s.dropStored greatest).seq = s.seq ∧ (s.dropStored greatest).gov = s.gov ∧
    (s.dropStored greatest).regs = s.regs ∧ (s.dropStored greatest).watch = s.watch ∧
    (s.dropStored greatest).level = s.level ∧ (s.dropStored greatest).record = s.record := by
  simp only [State.dropStored]
  repeat' (first | split | simp)

@[simp] theorem State.dropStored_mem_wf (s : State) (greatest : Nat) (hm : s.mem.wf = true) :
    (s.dropStored greatest).mem.wf = true := by
  simp only [State.dropStored]
  repeat' (first | split | (simp (maxDischargeDepth := 40) +contextual [hm]; done) | simp (maxDischargeDepth := 40) [hm])

@[simp] theorem State.scanDone_frame (s : State) :
    (s.scanDone).pending = s.pending ∧ (s.scanDone).inputs = s.inputs ∧ (s.scanDone).drive = s.drive ∧
    (s.scanDone).meas = s.meas ∧ (s.scanDone).seq = s.seq ∧ (s.scanDone).gov = s.gov ∧ (s.scanDone).regs = s.regs ∧
    (s.scanDone).watch = s.watch ∧ (s.scanDone).level = s.level := by
  simp only [State.scanDone]
  repeat' (first | split | simp)

@[simp] theorem State.scanDone_mem_wf (s : State) (hm : s.mem.wf = true) :
    (s.scanDone).mem.wf = true := by
  simp only [State.scanDone]
  repeat' (first | split | (simp (maxDischargeDepth := 40) +contextual [hm]; done) | simp (maxDischargeDepth := 40) [hm])

@[simp] theorem State.scanSector_frame (s : State) (u : StoreUnit) (i : Nat) :
    (s.scanSector u i).pending = s.pending ∧ (s.scanSector u i).inputs = s.inputs ∧
    (s.scanSector u i).drive = s.drive ∧ (s.scanSector u i).meas = s.meas ∧ (s.scanSector u i).seq = s.seq ∧
    (s.scanSector u i).gov = s.gov ∧ (s.scanSector u i).regs = s.regs ∧ (s.scanSector u i).watch = s.watch ∧
    (s.scanSector u i).level = s.level := by
  simp only [State.scanSector]
  repeat' (first | split | simp)

@[simp] theorem State.scanSector_mem_wf (s : State) (u : StoreUnit) (i : Nat) (hm : s.mem.wf = true) :
    (s.scanSector u i).mem.wf = true := by
  simp only [State.scanSector]
  repeat' (first | split | (simp (maxDischargeDepth := 40) +contextual [hm]; done) | simp (maxDischargeDepth := 40) [hm])

@[simp] theorem State.scanHeaderDone_frame (s : State) (bs : List Byte) (i : Nat) :
    (s.scanHeaderDone bs i).pending = s.pending ∧ (s.scanHeaderDone bs i).inputs = s.inputs ∧
    (s.scanHeaderDone bs i).drive = s.drive ∧ (s.scanHeaderDone bs i).meas = s.meas ∧
    (s.scanHeaderDone bs i).seq = s.seq ∧ (s.scanHeaderDone bs i).gov = s.gov ∧
    (s.scanHeaderDone bs i).regs = s.regs ∧ (s.scanHeaderDone bs i).watch = s.watch ∧
    (s.scanHeaderDone bs i).level = s.level := by
  simp only [State.scanHeaderDone]
  repeat' (first | split | simp)

@[simp] theorem State.scanHeaderDone_mem_wf (s : State) (bs : List Byte) (i : Nat) (hm : s.mem.wf = true) :
    (s.scanHeaderDone bs i).mem.wf = true := by
  simp only [State.scanHeaderDone]
  repeat' (first | split | (simp (maxDischargeDepth := 40) +contextual [hm]; done) | simp (maxDischargeDepth := 40) [hm])

@[simp] theorem State.scanSlotDone_frame (s : State) (bs : List Byte) (i page : Nat) :
    (s.scanSlotDone bs i page).pending = s.pending ∧ (s.scanSlotDone bs i page).inputs = s.inputs ∧
    (s.scanSlotDone bs i page).drive = s.drive ∧ (s.scanSlotDone bs i page).meas = s.meas ∧
    (s.scanSlotDone bs i page).seq = s.seq ∧ (s.scanSlotDone bs i page).gov = s.gov ∧
    (s.scanSlotDone bs i page).regs = s.regs ∧ (s.scanSlotDone bs i page).watch = s.watch ∧
    (s.scanSlotDone bs i page).level = s.level := by
  simp only [State.scanSlotDone]
  repeat' (first | split | simp)

@[simp] theorem State.scanSlotDone_mem_wf (s : State) (bs : List Byte) (i page : Nat) (hm : s.mem.wf = true) :
    (s.scanSlotDone bs i page).mem.wf = true := by
  simp only [State.scanSlotDone]
  repeat' (first | split | (simp (maxDischargeDepth := 40) +contextual [hm]; done) | simp (maxDischargeDepth := 40) [hm])

@[simp] theorem State.scanIdentDone_frame (s : State) (bs : List Byte) :
    (s.scanIdentDone bs).pending = s.pending ∧ (s.scanIdentDone bs).inputs = s.inputs ∧
    (s.scanIdentDone bs).drive = s.drive ∧ (s.scanIdentDone bs).meas = s.meas ∧ (s.scanIdentDone bs).seq = s.seq ∧
    (s.scanIdentDone bs).gov = s.gov ∧ (s.scanIdentDone bs).regs = s.regs ∧ (s.scanIdentDone bs).watch = s.watch ∧
    (s.scanIdentDone bs).level = s.level ∧ (s.scanIdentDone bs).record = s.record := by
  simp only [State.scanIdentDone]
  repeat' (first | split | simp)

@[simp] theorem State.scanIdentDone_mem_wf (s : State) (bs : List Byte) (hm : s.mem.wf = true) :
    (s.scanIdentDone bs).mem.wf = true := by
  simp only [State.scanIdentDone]
  repeat' (first | split | (simp (maxDischargeDepth := 40) +contextual [hm]; done) | simp (maxDischargeDepth := 40) [hm])

@[simp] theorem State.transferDone_frame (s : State) (bs : List Byte) :
    (s.transferDone bs).pending = s.pending ∧ (s.transferDone bs).inputs = s.inputs ∧
    (s.transferDone bs).drive = s.drive ∧ (s.transferDone bs).meas = s.meas ∧ (s.transferDone bs).seq = s.seq ∧
    (s.transferDone bs).gov = s.gov ∧ (s.transferDone bs).regs = s.regs ∧ (s.transferDone bs).watch = s.watch ∧
    (s.transferDone bs).level = s.level := by
  simp only [State.transferDone]
  repeat' (first | split | simp)

@[simp] theorem State.transferDone_mem_wf (s : State) (bs : List Byte) (hm : s.mem.wf = true) :
    (s.transferDone bs).mem.wf = true := by
  simp only [State.transferDone]
  repeat' (first | split | (simp (maxDischargeDepth := 40) +contextual [hm]; done) | simp (maxDischargeDepth := 40) [hm])

@[simp] theorem State.pollClear_frame (s : State) :
    (s.pollClear).pending = s.pending ∧ (s.pollClear).inputs = s.inputs ∧ (s.pollClear).drive = s.drive ∧
    (s.pollClear).meas = s.meas ∧ (s.pollClear).seq = s.seq ∧ (s.pollClear).gov = s.gov ∧
    (s.pollClear).regs = s.regs ∧ (s.pollClear).watch = s.watch ∧ (s.pollClear).faults = s.faults ∧
    (s.pollClear).level = s.level ∧ (s.pollClear).record = s.record ∧ (s.pollClear).req = s.req ∧
    (s.pollClear).mem = s.mem := by
  simp only [State.pollClear]
  repeat' (first | split | simp)

@[simp] theorem State.pollFailed_frame (s : State) :
    (s.pollFailed).pending = s.pending ∧ (s.pollFailed).inputs = s.inputs ∧ (s.pollFailed).drive = s.drive ∧
    (s.pollFailed).meas = s.meas ∧ (s.pollFailed).seq = s.seq ∧ (s.pollFailed).gov = s.gov ∧
    (s.pollFailed).regs = s.regs ∧ (s.pollFailed).watch = s.watch ∧ (s.pollFailed).level = s.level ∧
    (s.pollFailed).record = s.record := by
  simp only [State.pollFailed]
  repeat' (first | split | simp)

@[simp] theorem State.pollFailed_mem_wf (s : State) (hm : s.mem.wf = true) :
    (s.pollFailed).mem.wf = true := by
  simp only [State.pollFailed]
  repeat' (first | split | (simp (maxDischargeDepth := 40) +contextual [hm]; done) | simp (maxDischargeDepth := 40) [hm])

end Sys2Proof.Machine
end

