-- ==== Sys2Proof/Laws/FrameTrips.lean ====
section
/-! SUPPORT. Frames of the operations on records, entries into drive states and trip causes:
what each leaves unchanged, and that each keeps the canonical form of the exchange memory. -/

namespace Sys2Proof.Machine

@[simp] theorem State.openTrip_frame (s : State) (k : FaultKind) (d : Option Nat) :
    (s.openTrip k d).pending = s.pending ∧ (s.openTrip k d).inputs = s.inputs ∧ (s.openTrip k d).drive = s.drive ∧
    (s.openTrip k d).meas = s.meas ∧ (s.openTrip k d).seq = s.seq ∧ (s.openTrip k d).gov = s.gov ∧
    (s.openTrip k d).regs = s.regs ∧ (s.openTrip k d).watch = s.watch ∧ (s.openTrip k d).faults = s.faults ∧
    (s.openTrip k d).level = s.level ∧ (s.openTrip k d).store = s.store ∧ (s.openTrip k d).req = s.req ∧
    (s.openTrip k d).mem = s.mem := by
  simp only [State.openTrip]
  repeat' (first | split | simp)

@[simp] theorem State.closeRecord_frame (s : State) :
    (s.closeRecord).pending = s.pending ∧ (s.closeRecord).inputs = s.inputs ∧ (s.closeRecord).drive = s.drive ∧
    (s.closeRecord).meas = s.meas ∧ (s.closeRecord).seq = s.seq ∧ (s.closeRecord).gov = s.gov ∧
    (s.closeRecord).regs = s.regs ∧ (s.closeRecord).watch = s.watch ∧ (s.closeRecord).level = s.level := by
  simp only [State.closeRecord]
  repeat' (first | split | simp)

@[simp] theorem State.closeRecord_mem_wf (s : State) (hm : s.mem.wf = true) :
    (s.closeRecord).mem.wf = true := by
  simp only [State.closeRecord]
  repeat' (first | split | simp (maxDischargeDepth := 40) +contextual [hm])

@[simp] theorem State.fire_frame (s : State) (p : Program) (detail : Option Nat) :
    (s.fire p detail).pending = s.pending ∧ (s.fire p detail).inputs = s.inputs ∧ (s.fire p detail).drive = s.drive ∧
    (s.fire p detail).meas = s.meas ∧ (s.fire p detail).seq = s.seq ∧ (s.fire p detail).gov = s.gov ∧
    (s.fire p detail).regs = s.regs ∧ (s.fire p detail).watch = s.watch ∧ (s.fire p detail).faults = s.faults ∧
    (s.fire p detail).level = s.level ∧ (s.fire p detail).store = s.store := by
  simp only [State.fire]
  repeat' (first | split | simp)

@[simp] theorem State.fire_mem_wf (s : State) (p : Program) (detail : Option Nat) (hm : s.mem.wf = true) :
    (s.fire p detail).mem.wf = true := by
  simp only [State.fire]
  repeat' (first | split | simp (maxDischargeDepth := 40) +contextual [hm])

@[simp] theorem State.openTriggerWindow_frame (s : State) (p : Program) :
    (s.openTriggerWindow p).pending = s.pending ∧ (s.openTriggerWindow p).inputs = s.inputs ∧
    (s.openTriggerWindow p).drive = s.drive ∧ (s.openTriggerWindow p).meas = s.meas ∧
    (s.openTriggerWindow p).seq = s.seq ∧ (s.openTriggerWindow p).gov = s.gov ∧
    (s.openTriggerWindow p).regs = s.regs ∧ (s.openTriggerWindow p).watch = s.watch ∧
    (s.openTriggerWindow p).faults = s.faults ∧ (s.openTriggerWindow p).level = s.level ∧
    (s.openTriggerWindow p).store = s.store ∧ (s.openTriggerWindow p).req = s.req ∧
    (s.openTriggerWindow p).mem = s.mem := by
  simp only [State.openTriggerWindow]
  repeat' (first | split | simp)

@[simp] theorem State.takeCond_frame (s : State) (c : TrigCond) (detail : Option Nat) :
    (s.takeCond c detail).pending = s.pending ∧ (s.takeCond c detail).inputs = s.inputs ∧
    (s.takeCond c detail).drive = s.drive ∧ (s.takeCond c detail).meas = s.meas ∧ (s.takeCond c detail).seq = s.seq ∧
    (s.takeCond c detail).gov = s.gov ∧ (s.takeCond c detail).regs = s.regs ∧ (s.takeCond c detail).watch = s.watch ∧
    (s.takeCond c detail).faults = s.faults ∧ (s.takeCond c detail).level = s.level ∧
    (s.takeCond c detail).store = s.store := by
  simp only [State.takeCond]
  repeat' (first | split | simp)

@[simp] theorem State.takeCond_mem_wf (s : State) (c : TrigCond) (detail : Option Nat) (hm : s.mem.wf = true) :
    (s.takeCond c detail).mem.wf = true := by
  simp only [State.takeCond]
  repeat' (first | split | simp (maxDischargeDepth := 40) +contextual [hm])

@[simp] theorem State.setReg_frame (s : State) (x : Side) (g : Regulator) :
    (s.setReg x g).pending = s.pending ∧ (s.setReg x g).inputs = s.inputs ∧ (s.setReg x g).drive = s.drive ∧
    (s.setReg x g).meas = s.meas ∧ (s.setReg x g).seq = s.seq ∧ (s.setReg x g).gov = s.gov ∧
    (s.setReg x g).watch = s.watch ∧ (s.setReg x g).faults = s.faults ∧ (s.setReg x g).level = s.level ∧
    (s.setReg x g).record = s.record ∧ (s.setReg x g).store = s.store ∧ (s.setReg x g).req = s.req ∧
    (s.setReg x g).mem = s.mem := by
  simp only [State.setReg]
  repeat' (first | split | simp)

@[simp] theorem State.setGateBlock_frame (s : State) (x : Side) :
    (s.setGateBlock x).pending = s.pending ∧ (s.setGateBlock x).inputs = s.inputs ∧
    (s.setGateBlock x).drive = s.drive ∧ (s.setGateBlock x).meas = s.meas ∧ (s.setGateBlock x).seq = s.seq ∧
    (s.setGateBlock x).gov = s.gov ∧ (s.setGateBlock x).watch = s.watch ∧ (s.setGateBlock x).faults = s.faults ∧
    (s.setGateBlock x).level = s.level ∧ (s.setGateBlock x).record = s.record ∧ (s.setGateBlock x).store = s.store ∧
    (s.setGateBlock x).req = s.req ∧ (s.setGateBlock x).mem = s.mem := by
  simp only [State.setGateBlock]
  repeat' (first | split | simp)

@[simp] theorem State.gatesOff_frame (s : State) :
    (s.gatesOff).pending = s.pending ∧ (s.gatesOff).inputs = s.inputs ∧ (s.gatesOff).drive = s.drive ∧
    (s.gatesOff).meas = s.meas ∧ (s.gatesOff).gov = s.gov ∧ (s.gatesOff).watch = s.watch ∧
    (s.gatesOff).faults = s.faults ∧ (s.gatesOff).level = s.level ∧ (s.gatesOff).record = s.record ∧
    (s.gatesOff).store = s.store ∧ (s.gatesOff).req = s.req ∧ (s.gatesOff).mem = s.mem := by
  simp only [State.gatesOff]
  repeat' (first | split | simp)

@[simp] theorem State.levelAtRest_frame (s : State) :
    (s.levelAtRest).pending = s.pending ∧ (s.levelAtRest).inputs = s.inputs ∧ (s.levelAtRest).drive = s.drive ∧
    (s.levelAtRest).meas = s.meas ∧ (s.levelAtRest).seq = s.seq ∧ (s.levelAtRest).gov = s.gov ∧
    (s.levelAtRest).regs = s.regs ∧ (s.levelAtRest).watch = s.watch ∧ (s.levelAtRest).record = s.record ∧
    (s.levelAtRest).store = s.store ∧ (s.levelAtRest).req = s.req ∧ (s.levelAtRest).mem = s.mem := by
  simp only [State.levelAtRest]
  repeat' (first | split | simp)

@[simp] theorem State.formSingle_frame (s : State) :
    (s.formSingle).pending = s.pending ∧ (s.formSingle).inputs = s.inputs ∧ (s.formSingle).drive = s.drive ∧
    (s.formSingle).meas = s.meas ∧ (s.formSingle).seq = s.seq ∧ (s.formSingle).gov = s.gov ∧
    (s.formSingle).regs = s.regs ∧ (s.formSingle).watch = s.watch ∧ (s.formSingle).level = s.level ∧
    (s.formSingle).record = s.record ∧ (s.formSingle).store = s.store ∧ (s.formSingle).mem = s.mem := by
  simp only [State.formSingle]
  repeat' (first | split | simp)

@[simp] theorem State.encodersAtRest_frame (s : State) :
    (s.encodersAtRest).pending = s.pending ∧ (s.encodersAtRest).inputs = s.inputs ∧
    (s.encodersAtRest).drive = s.drive ∧ (s.encodersAtRest).meas = s.meas ∧ (s.encodersAtRest).seq = s.seq ∧
    (s.encodersAtRest).gov = s.gov ∧ (s.encodersAtRest).regs = s.regs ∧ (s.encodersAtRest).watch = s.watch ∧
    (s.encodersAtRest).level = s.level ∧ (s.encodersAtRest).record = s.record ∧ (s.encodersAtRest).store = s.store ∧
    (s.encodersAtRest).mem = s.mem := by
  simp only [State.encodersAtRest]
  repeat' (first | split | simp)

@[simp] theorem State.backrollOff_frame (s : State) :
    (s.backrollOff).pending = s.pending ∧ (s.backrollOff).inputs = s.inputs ∧ (s.backrollOff).drive = s.drive ∧
    (s.backrollOff).meas = s.meas ∧ (s.backrollOff).gov = s.gov ∧ (s.backrollOff).regs = s.regs ∧
    (s.backrollOff).watch = s.watch ∧ (s.backrollOff).level = s.level ∧ (s.backrollOff).record = s.record ∧
    (s.backrollOff).store = s.store ∧ (s.backrollOff).req = s.req ∧ (s.backrollOff).mem = s.mem := by
  simp only [State.backrollOff]
  repeat' (first | split | simp)

@[simp] theorem State.setDriveState_frame (s : State) (d : DriveState) :
    (s.setDriveState d).pending = s.pending ∧ (s.setDriveState d).inputs = s.inputs ∧
    (s.setDriveState d).drive = s.drive ∧ (s.setDriveState d).meas = s.meas ∧ (s.setDriveState d).gov = s.gov ∧
    (s.setDriveState d).regs = s.regs ∧ (s.setDriveState d).watch = s.watch ∧ (s.setDriveState d).faults = s.faults ∧
    (s.setDriveState d).level = s.level ∧ (s.setDriveState d).record = s.record ∧
    (s.setDriveState d).store = s.store ∧ (s.setDriveState d).req = s.req ∧ (s.setDriveState d).mem = s.mem := by
  simp only [State.setDriveState]
  repeat' (first | split | simp)

@[simp] theorem State.restEntry_frame (s : State) :
    (s.restEntry).pending = s.pending ∧ (s.restEntry).inputs = s.inputs ∧ (s.restEntry).drive = s.drive ∧
    (s.restEntry).meas = s.meas ∧ (s.restEntry).seq = s.seq ∧ (s.restEntry).regs = s.regs ∧
    (s.restEntry).watch = s.watch ∧ (s.restEntry).record = s.record ∧ (s.restEntry).store = s.store ∧
    (s.restEntry).mem = s.mem := by
  simp only [State.restEntry]
  repeat' (first | split | simp)

@[simp] theorem State.resetBlocks_frame (s : State) :
    (s.resetBlocks).pending = s.pending ∧ (s.resetBlocks).inputs = s.inputs ∧ (s.resetBlocks).mem = s.mem := by
  simp only [State.resetBlocks]
  repeat' (first | split | simp)

@[simp] theorem State.latchRise_frame (s : State) (k : FaultKind) (src : Source) (d : Option Nat) :
    (s.latchRise k src d).pending = s.pending ∧ (s.latchRise k src d).inputs = s.inputs ∧
    (s.latchRise k src d).drive = s.drive ∧ (s.latchRise k src d).meas = s.meas ∧ (s.latchRise k src d).seq = s.seq ∧
    (s.latchRise k src d).gov = s.gov ∧ (s.latchRise k src d).regs = s.regs ∧ (s.latchRise k src d).watch = s.watch ∧
    (s.latchRise k src d).level = s.level ∧ (s.latchRise k src d).record = s.record ∧
    (s.latchRise k src d).store = s.store ∧ (s.latchRise k src d).req = s.req ∧ (s.latchRise k src d).mem = s.mem := by
  simp only [State.latchRise]
  repeat' (first | split | simp)

@[simp] theorem State.freshGateFault_frame (s : State) (x : Side) :
    (s.freshGateFault x).pending = s.pending ∧ (s.freshGateFault x).inputs = s.inputs ∧
    (s.freshGateFault x).drive = s.drive ∧ (s.freshGateFault x).meas = s.meas ∧ (s.freshGateFault x).seq = s.seq ∧
    (s.freshGateFault x).gov = s.gov ∧ (s.freshGateFault x).watch = s.watch ∧ (s.freshGateFault x).level = s.level ∧
    (s.freshGateFault x).record = s.record ∧ (s.freshGateFault x).store = s.store ∧ (s.freshGateFault x).req = s.req ∧
    (s.freshGateFault x).mem = s.mem := by
  simp only [State.freshGateFault]
  repeat' (first | split | simp)

@[simp] theorem State.freshEStop_frame (s : State) :
    (s.freshEStop).pending = s.pending ∧ (s.freshEStop).inputs = s.inputs ∧ (s.freshEStop).drive = s.drive ∧
    (s.freshEStop).meas = s.meas ∧ (s.freshEStop).gov = s.gov ∧ (s.freshEStop).regs = s.regs ∧
    (s.freshEStop).watch = s.watch ∧ (s.freshEStop).level = s.level ∧ (s.freshEStop).record = s.record ∧
    (s.freshEStop).store = s.store ∧ (s.freshEStop).req = s.req ∧ (s.freshEStop).mem = s.mem := by
  simp only [State.freshEStop]
  repeat' (first | split | simp)

@[simp] theorem State.performReset_frame (s : State) :
    (s.performReset).pending = s.pending ∧ (s.performReset).inputs = s.inputs ∧ (s.performReset).mem = s.mem := by
  simp only [State.performReset]
  repeat' (first | split | simp)

@[simp] theorem State.pendingRestart_frame (s : State) :
    (s.pendingRestart).pending = s.pending ∧ (s.pendingRestart).inputs = s.inputs ∧ (s.pendingRestart).mem = s.mem := by
  simp only [State.pendingRestart]
  repeat' (first | split | simp)

@[simp] theorem State.enterStopped_frame (s : State) :
    (s.enterStopped).pending = s.pending ∧ (s.enterStopped).inputs = s.inputs ∧ (s.enterStopped).mem = s.mem := by
  simp only [State.enterStopped]
  repeat' (first | split | simp)

@[simp] theorem State.enterTripped_frame (s : State) :
    (s.enterTripped).pending = s.pending ∧ (s.enterTripped).inputs = s.inputs ∧ (s.enterTripped).mem = s.mem := by
  simp only [State.enterTripped]
  repeat' (first | split | simp)

@[simp] theorem State.closeWindow_frame (s : State) :
    (s.closeWindow).pending = s.pending ∧ (s.closeWindow).inputs = s.inputs ∧ (s.closeWindow).drive = s.drive ∧
    (s.closeWindow).meas = s.meas ∧ (s.closeWindow).seq = s.seq ∧ (s.closeWindow).gov = s.gov ∧
    (s.closeWindow).regs = s.regs ∧ (s.closeWindow).watch = s.watch ∧ (s.closeWindow).level = s.level := by
  simp only [State.closeWindow]
  repeat' (first | split | simp)

@[simp] theorem State.closeWindow_mem_wf (s : State) (hm : s.mem.wf = true) :
    (s.closeWindow).mem.wf = true := by
  simp only [State.closeWindow]
  repeat' (first | split | simp (maxDischargeDepth := 40) +contextual [hm])

@[simp] theorem State.closeIfZero_frame (s : State) :
    (s.closeIfZero).pending = s.pending ∧ (s.closeIfZero).inputs = s.inputs ∧ (s.closeIfZero).drive = s.drive ∧
    (s.closeIfZero).meas = s.meas ∧ (s.closeIfZero).seq = s.seq ∧ (s.closeIfZero).gov = s.gov ∧
    (s.closeIfZero).regs = s.regs ∧ (s.closeIfZero).watch = s.watch ∧ (s.closeIfZero).level = s.level := by
  simp only [State.closeIfZero]
  repeat' (first | split | simp)

@[simp] theorem State.closeIfZero_mem_wf (s : State) (hm : s.mem.wf = true) :
    (s.closeIfZero).mem.wf = true := by
  simp only [State.closeIfZero]
  repeat' (first | split | simp (maxDischargeDepth := 40) +contextual [hm])

@[simp] theorem State.openWindow_frame (s : State) :
    (s.openWindow).pending = s.pending ∧ (s.openWindow).inputs = s.inputs ∧ (s.openWindow).drive = s.drive ∧
    (s.openWindow).meas = s.meas ∧ (s.openWindow).seq = s.seq ∧ (s.openWindow).gov = s.gov ∧
    (s.openWindow).regs = s.regs ∧ (s.openWindow).watch = s.watch ∧ (s.openWindow).level = s.level ∧
    (s.openWindow).record = s.record ∧ (s.openWindow).store = s.store ∧ (s.openWindow).req = s.req ∧
    (s.openWindow).mem = s.mem := by
  simp only [State.openWindow]
  repeat' (first | split | simp)

@[simp] theorem State.firstCause_frame (s : State) (k : FaultKind) (d : Option Nat) :
    (s.firstCause k d).pending = s.pending ∧ (s.firstCause k d).inputs = s.inputs ∧ (s.firstCause k d).mem = s.mem := by
  simp only [State.firstCause]
  repeat' (first | split | simp)

@[simp] theorem State.followOnCause_frame (s : State) (k : FaultKind) (d : Option Nat) (offset : Nat) :
    (s.followOnCause k d offset).pending = s.pending ∧ (s.followOnCause k d offset).inputs = s.inputs ∧
    (s.followOnCause k d offset).drive = s.drive ∧ (s.followOnCause k d offset).meas = s.meas ∧
    (s.followOnCause k d offset).seq = s.seq ∧ (s.followOnCause k d offset).gov = s.gov ∧
    (s.followOnCause k d offset).regs = s.regs ∧ (s.followOnCause k d offset).watch = s.watch ∧
    (s.followOnCause k d offset).faults = s.faults ∧ (s.followOnCause k d offset).level = s.level ∧
    (s.followOnCause k d offset).store = s.store ∧ (s.followOnCause k d offset).req = s.req ∧
    (s.followOnCause k d offset).mem = s.mem := by
  simp only [State.followOnCause]
  repeat' (first | split | simp)

@[simp] theorem State.tripCause_frame (s : State) (k : FaultKind) (d : Option Nat) :
    (s.tripCause k d).pending = s.pending ∧ (s.tripCause k d).inputs = s.inputs := by
  simp only [State.tripCause]
  repeat' (first | split | simp)

@[simp] theorem State.tripCause_mem_wf (s : State) (k : FaultKind) (d : Option Nat) (hm : s.mem.wf = true) :
    (s.tripCause k d).mem.wf = true := by
  simp only [State.tripCause]
  repeat' (first | split | simp (maxDischargeDepth := 40) +contextual [hm])

@[simp] theorem State.tripRise_frame (s : State) (k : FaultKind) (src : Source) :
    (s.tripRise k src).pending = s.pending ∧ (s.tripRise k src).inputs = s.inputs := by
  simp only [State.tripRise]
  repeat' (first | split | simp)

@[simp] theorem State.tripRise_mem_wf (s : State) (k : FaultKind) (src : Source) (hm : s.mem.wf = true) :
    (s.tripRise k src).mem.wf = true := by
  simp only [State.tripRise]
  repeat' (first | split | simp (maxDischargeDepth := 40) +contextual [hm])

@[simp] theorem State.tripPulse_frame (s : State) (k : FaultKind) :
    (s.tripPulse k).pending = s.pending ∧ (s.tripPulse k).inputs = s.inputs := by
  simp only [State.tripPulse]
  repeat' (first | split | simp)

@[simp] theorem State.tripPulse_mem_wf (s : State) (k : FaultKind) (hm : s.mem.wf = true) :
    (s.tripPulse k).mem.wf = true := by
  simp only [State.tripPulse]
  repeat' (first | split | simp (maxDischargeDepth := 40) +contextual [hm])

@[simp] theorem State.tripLevel_frame (s : State) (k : FaultKind) (now : Bool) :
    (s.tripLevel k now).pending = s.pending ∧ (s.tripLevel k now).inputs = s.inputs := by
  simp only [State.tripLevel]
  repeat' (first | split | simp)

@[simp] theorem State.tripLevel_mem_wf (s : State) (k : FaultKind) (now : Bool) (hm : s.mem.wf = true) :
    (s.tripLevel k now).mem.wf = true := by
  simp only [State.tripLevel]
  repeat' (first | split | simp (maxDischargeDepth := 40) +contextual [hm])

@[simp] theorem State.formEncoders_frame (s : State) :
    (s.formEncoders).pending = s.pending ∧ (s.formEncoders).inputs = s.inputs := by
  simp only [State.formEncoders]
  repeat' (first | split | simp)

@[simp] theorem State.formEncoders_mem_wf (s : State) (hm : s.mem.wf = true) :
    (s.formEncoders).mem.wf = true := by
  simp only [State.formEncoders]
  repeat' (first | split | simp (maxDischargeDepth := 40) +contextual [hm])

@[simp] theorem State.enterMagnetizing_frame (s : State) :
    (s.enterMagnetizing).pending = s.pending ∧ (s.enterMagnetizing).inputs = s.inputs := by
  simp only [State.enterMagnetizing]
  repeat' (first | split | simp)

@[simp] theorem State.enterMagnetizing_mem_wf (s : State) (hm : s.mem.wf = true) :
    (s.enterMagnetizing).mem.wf = true := by
  simp only [State.enterMagnetizing]
  repeat' (first | split | simp (maxDischargeDepth := 40) +contextual [hm])

@[simp] theorem State.enterStopping_frame (s : State) :
    (s.enterStopping).pending = s.pending ∧ (s.enterStopping).inputs = s.inputs := by
  simp only [State.enterStopping]
  repeat' (first | split | simp)

@[simp] theorem State.enterStopping_mem_wf (s : State) (hm : s.mem.wf = true) :
    (s.enterStopping).mem.wf = true := by
  simp only [State.enterStopping]
  repeat' (first | split | simp (maxDischargeDepth := 40) +contextual [hm])

@[simp] theorem State.takeLatched_frame (s : State) (k : FaultKind) :
    (s.takeLatched k).pending = s.pending ∧ (s.takeLatched k).inputs = s.inputs ∧ (s.takeLatched k).mem = s.mem := by
  simp only [State.takeLatched]
  repeat' (first | split | simp)

@[simp] theorem State.departureTest_frame (s : State) :
    (s.departureTest).pending = s.pending ∧ (s.departureTest).inputs = s.inputs := by
  simp only [State.departureTest]
  repeat' (first | split | simp)

@[simp] theorem State.departureTest_mem_wf (s : State) (hm : s.mem.wf = true) :
    (s.departureTest).mem.wf = true := by
  simp only [State.departureTest]
  repeat' (first | split | simp (maxDischargeDepth := 40) +contextual [hm])

end Sys2Proof.Machine
end

