-- ==== Sys2Proof/Laws/Vectors.lean ====
section
/-! SUPPORT. Places of vectors, and the sides and kinds that fault entries are kept under. -/

namespace Sys2Proof.Machine

@[simp] theorem vget_vset_same {α : Type} {n : Nat} (v : Vector α n) (i : Fin n) (x : α) : vget (vset v i x) i = x := by
  simp [vget, vset]

theorem vget_vset_other {α : Type} {n : Nat} (v : Vector α n) {i j : Fin n} (x : α) (h : j ≠ i) :
    vget (vset v i x) j = vget v j := by
  have h' : i.val ≠ j.val := fun e => h (Fin.ext e.symm)
  simp [vget, vset, Vector.getElem_set, h']

theorem vget_vset {α : Type} {n : Nat} (v : Vector α n) (i j : Fin n) (x : α) :
    vget (vset v i x) j = if j = i then x else vget v j := by
  by_cases h : j = i
  · subst h
    simp
  · simp [h, vget_vset_other v x h]

@[simp] theorem vget_map {α β : Type} {n : Nat} (f : α → β) (v : Vector α n) (i : Fin n) :
    vget (v.map f) i = f (vget v i) := by
  simp [vget]

@[simp] theorem vget_replicate {α : Type} {n : Nat} (x : α) (i : Fin n) : vget (Vector.replicate n x) i = x := by
  simp [vget]

/-- Two kinds of one number are one kind (6.1). -/
theorem FaultKind.num_inj {k j : FaultKind} (h : k.num = j.num) : k = j := by
  cases k <;> cases j <;>
    (try rename_i x; cases x) <;> (try rename_i y; cases y) <;> first | rfl | exact absurd h (by decide)

@[simp] theorem FaultUnit.entry_setEntry_same (f : FaultUnit) (k : FaultKind) (e : FaultEntry) :
    (f.setEntry k e).entry k = e := by
  simp [FaultUnit.entry, FaultUnit.setEntry]

theorem FaultUnit.entry_setEntry_other (f : FaultUnit) {k j : FaultKind} (e : FaultEntry) (h : j ≠ k) :
    (f.setEntry k e).entry j = f.entry j := by
  have h' : j.num ≠ k.num := fun e => h (FaultKind.num_inj e)
  simp [FaultUnit.entry, FaultUnit.setEntry, vget_vset_other _ _ h']

@[simp] theorem FaultUnit.setEntry_lock (f : FaultUnit) (k : FaultKind) (e : FaultEntry) :
    (f.setEntry k e).lock = f.lock := rfl

@[simp] theorem FaultUnit.setEntry_windowOpen (f : FaultUnit) (k : FaultKind) (e : FaultEntry) :
    (f.setEntry k e).windowOpen = f.windowOpen := rfl

@[simp] theorem FaultUnit.setEntry_timer (f : FaultUnit) (k : FaultKind) (e : FaultEntry) :
    (f.setEntry k e).timer = f.timer := rfl

@[simp] theorem FaultUnit.setEntry_windowLen (f : FaultUnit) (k : FaultKind) (e : FaultEntry) :
    (f.setEntry k e).windowLen = f.windowLen := rfl

@[simp] theorem FaultUnit.setEntry_firstCauseTime (f : FaultUnit) (k : FaultKind) (e : FaultEntry) :
    (f.setEntry k e).firstCauseTime = f.firstCauseTime := rfl

@[simp] theorem FaultEntry.source_setSource (e : FaultEntry) (s : Source) (v : Bool) : (e.setSource s v).source s = v := by
  cases s <;> rfl

theorem FaultEntry.source_setSource_other (e : FaultEntry) {s t : Source} (v : Bool) (h : t ≠ s) :
    (e.setSource s v).source t = e.source t := by
  cases s <;> cases t <;> first | rfl | exact absurd rfl h

@[simp] theorem FaultEntry.setSource_latched (e : FaultEntry) (s : Source) (v : Bool) :
    (e.setSource s v).latched = e.latched := by
  cases s <;> rfl

@[simp] theorem FaultEntry.setSource_seen (e : FaultEntry) (s : Source) (v : Bool) : (e.setSource s v).seen = e.seen := by
  cases s <;> rfl

end Sys2Proof.Machine
end

