-- ==== Sys2Proof/Laws/UnitsStore.lean ====
section
/-! SUPPORT. Frames of the operations on one block: the request unit, the record unit, the store unit, the sequencer, the fault unit,
a regulator, the governor and a bank. -/

namespace Sys2Proof.Machine

@[simp] theorem FaultUnit.setEntry_frame (f : FaultUnit) (k : FaultKind) (e : FaultEntry) :
    (f.setEntry k e).lock = f.lock ∧ (f.setEntry k e).windowOpen = f.windowOpen ∧
    (f.setEntry k e).firstCauseTime = f.firstCauseTime ∧ (f.setEntry k e).timer = f.timer ∧
    (f.setEntry k e).windowLen = f.windowLen := by
  simp only [FaultUnit.setEntry]
  repeat' (first | split | simp)

@[simp] theorem FaultUnit.clearSeen_frame (f : FaultUnit) (w : Word) :
    (f.clearSeen w).lock = f.lock ∧ (f.clearSeen w).windowOpen = f.windowOpen ∧
    (f.clearSeen w).firstCauseTime = f.firstCauseTime ∧ (f.clearSeen w).timer = f.timer ∧
    (f.clearSeen w).windowLen = f.windowLen := by
  simp only [FaultUnit.clearSeen]
  repeat' (first | split | simp)

@[simp] theorem FaultUnit.clearLatched_frame (f : FaultUnit) :
    (f.clearLatched).lock = f.lock ∧ (f.clearLatched).windowOpen = f.windowOpen ∧
    (f.clearLatched).firstCauseTime = f.firstCauseTime ∧ (f.clearLatched).timer = f.timer ∧
    (f.clearLatched).windowLen = f.windowLen := by
  simp only [FaultUnit.clearLatched]
  repeat' (first | split | simp)

@[simp] theorem RequestUnit.setSlot_frame (q : RequestUnit) (k : Fin 8) (x : Slot) :
    (q.setSlot k x).order = q.order ∧ (q.setSlot k x).holder = q.holder ∧ (q.setSlot k x).fetch = q.fetch ∧
    (q.setSlot k x).chain = q.chain ∧ (q.setSlot k x).misuse = q.misuse ∧ (q.setSlot k x).notice = q.notice ∧
    (q.setSlot k x).noticeEnable = q.noticeEnable ∧ (q.setSlot k x).starting = q.starting ∧
    (q.setSlot k x).updateCount = q.updateCount ∧ (q.setSlot k x).partTime = q.partTime ∧
    (q.setSlot k x).clock = q.clock ∧ (q.setSlot k x).phase = q.phase ∧ (q.setSlot k x).clockSet = q.clockSet ∧
    (q.setSlot k x).subMs = q.subMs := by
  simp only [RequestUnit.setSlot]
  repeat' (first | split | simp)

@[simp] theorem RequestUnit.release_frame (q : RequestUnit) (k : Fin 8) :
    (q.release k).slots = q.slots ∧ (q.release k).order = q.order ∧ (q.release k).fetch = q.fetch ∧
    (q.release k).chain = q.chain ∧ (q.release k).misuse = q.misuse ∧ (q.release k).notice = q.notice ∧
    (q.release k).noticeEnable = q.noticeEnable ∧ (q.release k).starting = q.starting ∧
    (q.release k).updateCount = q.updateCount ∧ (q.release k).partTime = q.partTime ∧ (q.release k).clock = q.clock ∧
    (q.release k).phase = q.phase ∧ (q.release k).clockSet = q.clockSet ∧ (q.release k).subMs = q.subMs := by
  simp only [RequestUnit.release]
  repeat' (first | split | simp)

@[simp] theorem RecordUnit.setBank_frame (r : RecordUnit) (i : Fin 4) (b : Bank) :
    (r.setBank i b).program = r.program ∧ (r.setBank i b).trigState = r.trigState ∧
    (r.setBank i b).deadline = r.deadline ∧ (r.setBank i b).windowTimer = r.windowTimer ∧
    (r.setBank i b).belowFirst = r.belowFirst ∧ (r.setBank i b).belowSecond = r.belowSecond ∧
    (r.setBank i b).openRecord = r.openRecord ∧ (r.setBank i b).kindSet = r.kindSet ∧
    (r.setBank i b).idCounter = r.idCounter ∧ (r.setBank i b).nextIndex = r.nextIndex ∧
    (r.setBank i b).entries = r.entries ∧ (r.setBank i b).unposted = r.unposted ∧
    (r.setBank i b).settings = r.settings ∧ (r.setBank i b).resets = r.resets := by
  simp only [RecordUnit.setBank]
  repeat' (first | split | simp)

@[simp] theorem Bank.write_frame (b : Bank) (ws : List Word) :
    (b.write ws).state = b.state ∧ (b.write ws).generation = b.generation ∧ (b.write ws).pre = b.pre ∧
    (b.write ws).post = b.post ∧ (b.write ws).trigFrame = b.trigFrame ∧ (b.write ws).trigId = b.trigId := by
  simp only [Bank.write]
  repeat' (first | split | simp)

@[simp] theorem Bank.goLive_frame (b : Bank) (pre : Nat) :
    (b.goLive pre).frames = b.frames ∧ (b.goLive pre).post = b.post ∧ (b.goLive pre).trigFrame = b.trigFrame := by
  simp only [Bank.goLive]
  repeat' (first | split | simp)

@[simp] theorem RecordUnit.goLive_frame (r : RecordUnit) (i : Fin 4) :
    (r.goLive i).program = r.program ∧ (r.goLive i).trigState = r.trigState ∧ (r.goLive i).deadline = r.deadline ∧
    (r.goLive i).windowTimer = r.windowTimer ∧ (r.goLive i).belowFirst = r.belowFirst ∧
    (r.goLive i).belowSecond = r.belowSecond ∧ (r.goLive i).openRecord = r.openRecord ∧
    (r.goLive i).kindSet = r.kindSet ∧ (r.goLive i).idCounter = r.idCounter ∧ (r.goLive i).nextIndex = r.nextIndex ∧
    (r.goLive i).entries = r.entries ∧ (r.goLive i).unposted = r.unposted ∧ (r.goLive i).settings = r.settings ∧
    (r.goLive i).resets = r.resets := by
  simp only [RecordUnit.goLive]
  repeat' (first | split | simp)

@[simp] theorem RecordUnit.goLiveFirst_frame (r : RecordUnit) (is : List (Fin 4)) :
    (r.goLiveFirst is).program = r.program ∧ (r.goLiveFirst is).trigState = r.trigState ∧
    (r.goLiveFirst is).deadline = r.deadline ∧ (r.goLiveFirst is).windowTimer = r.windowTimer ∧
    (r.goLiveFirst is).belowFirst = r.belowFirst ∧ (r.goLiveFirst is).belowSecond = r.belowSecond ∧
    (r.goLiveFirst is).openRecord = r.openRecord ∧ (r.goLiveFirst is).kindSet = r.kindSet ∧
    (r.goLiveFirst is).idCounter = r.idCounter ∧ (r.goLiveFirst is).nextIndex = r.nextIndex ∧
    (r.goLiveFirst is).entries = r.entries ∧ (r.goLiveFirst is).unposted = r.unposted ∧
    (r.goLiveFirst is).settings = r.settings ∧ (r.goLiveFirst is).resets = r.resets := by
  simp only [RecordUnit.goLiveFirst]
  repeat' (first | split | simp)

@[simp] theorem Bank.trigger_frame (b : Bank) (id : Option Nat) :
    (b.trigger id).generation = b.generation ∧ (b.trigger id).frames = b.frames ∧
    (b.trigger id).writeIndex = b.writeIndex ∧ (b.trigger id).valid = b.valid ∧ (b.trigger id).pre = b.pre ∧
    (b.trigger id).postWritten = b.postWritten := by
  simp only [Bank.trigger]
  repeat' (first | split | simp)

@[simp] theorem RecordUnit.trigger_frame (r : RecordUnit) (id : Option Nat) :
    (r.trigger id).program = r.program ∧ (r.trigger id).trigState = r.trigState ∧
    (r.trigger id).deadline = r.deadline ∧ (r.trigger id).windowTimer = r.windowTimer ∧
    (r.trigger id).belowFirst = r.belowFirst ∧ (r.trigger id).belowSecond = r.belowSecond ∧
    (r.trigger id).openRecord = r.openRecord ∧ (r.trigger id).kindSet = r.kindSet ∧
    (r.trigger id).idCounter = r.idCounter ∧ (r.trigger id).nextIndex = r.nextIndex ∧
    (r.trigger id).entries = r.entries ∧ (r.trigger id).unposted = r.unposted ∧ (r.trigger id).settings = r.settings ∧
    (r.trigger id).resets = r.resets := by
  simp only [RecordUnit.trigger]
  repeat' (first | split | simp)

@[simp] theorem RecordUnit.setListEntry_frame (r : RecordUnit) (k : Fin 8) (e : ListEntry) :
    (r.setListEntry k e).banks = r.banks ∧ (r.setListEntry k e).program = r.program ∧
    (r.setListEntry k e).trigState = r.trigState ∧ (r.setListEntry k e).deadline = r.deadline ∧
    (r.setListEntry k e).windowTimer = r.windowTimer ∧ (r.setListEntry k e).belowFirst = r.belowFirst ∧
    (r.setListEntry k e).belowSecond = r.belowSecond ∧ (r.setListEntry k e).openRecord = r.openRecord ∧
    (r.setListEntry k e).kindSet = r.kindSet ∧ (r.setListEntry k e).idCounter = r.idCounter ∧
    (r.setListEntry k e).nextIndex = r.nextIndex ∧ (r.setListEntry k e).unposted = r.unposted ∧
    (r.setListEntry k e).settings = r.settings ∧ (r.setListEntry k e).resets = r.resets := by
  simp only [RecordUnit.setListEntry]
  repeat' (first | split | simp)

@[simp] theorem StoreUnit.send_frame (u : StoreUnit) (job : Job) (tx : List Byte) (rx : Nat) :
    (u.send job tx rx).state = u.state ∧ (u.send job tx rx).sectors = u.sectors ∧
    (u.send job tx rx).badCount = u.badCount ∧ (u.send job tx rx).openSector = u.openSector ∧
    (u.send job tx rx).nextSlot = u.nextSlot ∧ (u.send job tx rx).toOpen = u.toOpen ∧
    (u.send job tx rx).erase = u.erase ∧ (u.send job tx rx).eraseSector = u.eraseSector ∧
    (u.send job tx rx).eraseElapsed = u.eraseElapsed ∧ (u.send job tx rx).queue = u.queue ∧
    (u.send job tx rx).readPtr = u.readPtr ∧ (u.send job tx rx).hostOp = u.hostOp ∧
    (u.send job tx rx).dropped = u.dropped ∧ (u.send job tx rx).failed = u.failed ∧
    (u.send job tx rx).settings = u.settings ∧ (u.send job tx rx).awaiting = u.awaiting ∧
    (u.send job tx rx).pollElapsed = u.pollElapsed := by
  simp only [StoreUnit.send]
  repeat' (first | split | simp)

@[simp] theorem StoreUnit.poll_frame (u : StoreUnit) (job : Job) :
    (u.poll job).state = u.state ∧ (u.poll job).sectors = u.sectors ∧ (u.poll job).badCount = u.badCount ∧
    (u.poll job).openSector = u.openSector ∧ (u.poll job).nextSlot = u.nextSlot ∧ (u.poll job).toOpen = u.toOpen ∧
    (u.poll job).erase = u.erase ∧ (u.poll job).eraseSector = u.eraseSector ∧
    (u.poll job).eraseElapsed = u.eraseElapsed ∧ (u.poll job).queue = u.queue ∧ (u.poll job).readPtr = u.readPtr ∧
    (u.poll job).hostOp = u.hostOp ∧ (u.poll job).dropped = u.dropped ∧ (u.poll job).failed = u.failed ∧
    (u.poll job).settings = u.settings ∧ (u.poll job).awaiting = u.awaiting ∧
    (u.poll job).lastTransfer = u.lastTransfer := by
  simp only [StoreUnit.poll]
  repeat' (first | split | simp)

@[simp] theorem StoreUnit.rest_frame (u : StoreUnit) :
    (u.rest).state = u.state ∧ (u.rest).sectors = u.sectors ∧ (u.rest).badCount = u.badCount ∧
    (u.rest).openSector = u.openSector ∧ (u.rest).nextSlot = u.nextSlot ∧ (u.rest).toOpen = u.toOpen ∧
    (u.rest).erase = u.erase ∧ (u.rest).eraseSector = u.eraseSector ∧ (u.rest).eraseElapsed = u.eraseElapsed ∧
    (u.rest).queue = u.queue ∧ (u.rest).readPtr = u.readPtr ∧ (u.rest).hostOp = u.hostOp ∧
    (u.rest).dropped = u.dropped ∧ (u.rest).failed = u.failed ∧ (u.rest).settings = u.settings ∧
    (u.rest).awaiting = u.awaiting ∧ (u.rest).pollElapsed = u.pollElapsed ∧
    (u.rest).lastTransfer = u.lastTransfer := by
  simp only [StoreUnit.rest]
  repeat' (first | split | simp)

@[simp] theorem StoreUnit.sendIdent_frame (u : StoreUnit) :
    (u.sendIdent).state = u.state ∧ (u.sendIdent).sectors = u.sectors ∧ (u.sendIdent).badCount = u.badCount ∧
    (u.sendIdent).openSector = u.openSector ∧ (u.sendIdent).nextSlot = u.nextSlot ∧ (u.sendIdent).toOpen = u.toOpen ∧
    (u.sendIdent).erase = u.erase ∧ (u.sendIdent).eraseSector = u.eraseSector ∧
    (u.sendIdent).eraseElapsed = u.eraseElapsed ∧ (u.sendIdent).queue = u.queue ∧ (u.sendIdent).readPtr = u.readPtr ∧
    (u.sendIdent).hostOp = u.hostOp ∧ (u.sendIdent).dropped = u.dropped ∧ (u.sendIdent).failed = u.failed ∧
    (u.sendIdent).settings = u.settings ∧ (u.sendIdent).awaiting = u.awaiting ∧
    (u.sendIdent).pollElapsed = u.pollElapsed := by
  simp only [StoreUnit.sendIdent]
  repeat' (first | split | simp)

@[simp] theorem StoreUnit.sendRead_frame (u : StoreUnit) (job : Job) (addr n : Nat) :
    (u.sendRead job addr n).state = u.state ∧ (u.sendRead job addr n).sectors = u.sectors ∧
    (u.sendRead job addr n).badCount = u.badCount ∧ (u.sendRead job addr n).openSector = u.openSector ∧
    (u.sendRead job addr n).nextSlot = u.nextSlot ∧ (u.sendRead job addr n).toOpen = u.toOpen ∧
    (u.sendRead job addr n).erase = u.erase ∧ (u.sendRead job addr n).eraseSector = u.eraseSector ∧
    (u.sendRead job addr n).eraseElapsed = u.eraseElapsed ∧ (u.sendRead job addr n).queue = u.queue ∧
    (u.sendRead job addr n).readPtr = u.readPtr ∧ (u.sendRead job addr n).hostOp = u.hostOp ∧
    (u.sendRead job addr n).dropped = u.dropped ∧ (u.sendRead job addr n).failed = u.failed ∧
    (u.sendRead job addr n).settings = u.settings ∧ (u.sendRead job addr n).awaiting = u.awaiting ∧
    (u.sendRead job addr n).pollElapsed = u.pollElapsed := by
  simp only [StoreUnit.sendRead]
  repeat' (first | split | simp)

@[simp] theorem StoreUnit.sendEnable_frame (u : StoreUnit) (job : Job) :
    (u.sendEnable job).state = u.state ∧ (u.sendEnable job).sectors = u.sectors ∧
    (u.sendEnable job).badCount = u.badCount ∧ (u.sendEnable job).openSector = u.openSector ∧
    (u.sendEnable job).nextSlot = u.nextSlot ∧ (u.sendEnable job).toOpen = u.toOpen ∧
    (u.sendEnable job).erase = u.erase ∧ (u.sendEnable job).eraseSector = u.eraseSector ∧
    (u.sendEnable job).eraseElapsed = u.eraseElapsed ∧ (u.sendEnable job).queue = u.queue ∧
    (u.sendEnable job).readPtr = u.readPtr ∧ (u.sendEnable job).hostOp = u.hostOp ∧
    (u.sendEnable job).dropped = u.dropped ∧ (u.sendEnable job).failed = u.failed ∧
    (u.sendEnable job).settings = u.settings ∧ (u.sendEnable job).awaiting = u.awaiting ∧
    (u.sendEnable job).pollElapsed = u.pollElapsed := by
  simp only [StoreUnit.sendEnable]
  repeat' (first | split | simp)

@[simp] theorem StoreUnit.sendProgram_frame (u : StoreUnit) (job : Job) (addr : Nat) (bs : List Byte) :
    (u.sendProgram job addr bs).state = u.state ∧ (u.sendProgram job addr bs).sectors = u.sectors ∧
    (u.sendProgram job addr bs).badCount = u.badCount ∧ (u.sendProgram job addr bs).openSector = u.openSector ∧
    (u.sendProgram job addr bs).nextSlot = u.nextSlot ∧ (u.sendProgram job addr bs).toOpen = u.toOpen ∧
    (u.sendProgram job addr bs).erase = u.erase ∧ (u.sendProgram job addr bs).eraseSector = u.eraseSector ∧
    (u.sendProgram job addr bs).eraseElapsed = u.eraseElapsed ∧ (u.sendProgram job addr bs).queue = u.queue ∧
    (u.sendProgram job addr bs).readPtr = u.readPtr ∧ (u.sendProgram job addr bs).hostOp = u.hostOp ∧
    (u.sendProgram job addr bs).dropped = u.dropped ∧ (u.sendProgram job addr bs).failed = u.failed ∧
    (u.sendProgram job addr bs).settings = u.settings ∧ (u.sendProgram job addr bs).awaiting = u.awaiting ∧
    (u.sendProgram job addr bs).pollElapsed = u.pollElapsed := by
  simp only [StoreUnit.sendProgram]
  repeat' (first | split | simp)

@[simp] theorem StoreUnit.modSector_frame (u : StoreUnit) (i : Nat) (f : Sector → Sector) :
    (u.modSector i f).state = u.state ∧ (u.modSector i f).badCount = u.badCount ∧
    (u.modSector i f).openSector = u.openSector ∧ (u.modSector i f).nextSlot = u.nextSlot ∧
    (u.modSector i f).toOpen = u.toOpen ∧ (u.modSector i f).erase = u.erase ∧
    (u.modSector i f).eraseSector = u.eraseSector ∧ (u.modSector i f).eraseElapsed = u.eraseElapsed ∧
    (u.modSector i f).queue = u.queue ∧ (u.modSector i f).readPtr = u.readPtr ∧ (u.modSector i f).hostOp = u.hostOp ∧
    (u.modSector i f).dropped = u.dropped ∧ (u.modSector i f).failed = u.failed ∧
    (u.modSector i f).settings = u.settings ∧ (u.modSector i f).awaiting = u.awaiting ∧
    (u.modSector i f).job = u.job ∧ (u.modSector i f).transfer = u.transfer ∧
    (u.modSector i f).pollElapsed = u.pollElapsed ∧
    (u.modSector i f).lastTransfer = u.lastTransfer := by
  simp only [StoreUnit.modSector]
  repeat' (first | split | simp)

@[simp] theorem StoreUnit.setFlashSlot_frame (u : StoreUnit) (sector page : Nat) (x : FlashSlot) :
    (u.setFlashSlot sector page x).state = u.state ∧ (u.setFlashSlot sector page x).badCount = u.badCount ∧
    (u.setFlashSlot sector page x).openSector = u.openSector ∧ (u.setFlashSlot sector page x).nextSlot = u.nextSlot ∧
    (u.setFlashSlot sector page x).toOpen = u.toOpen ∧ (u.setFlashSlot sector page x).erase = u.erase ∧
    (u.setFlashSlot sector page x).eraseSector = u.eraseSector ∧
    (u.setFlashSlot sector page x).eraseElapsed = u.eraseElapsed ∧ (u.setFlashSlot sector page x).queue = u.queue ∧
    (u.setFlashSlot sector page x).readPtr = u.readPtr ∧ (u.setFlashSlot sector page x).hostOp = u.hostOp ∧
    (u.setFlashSlot sector page x).dropped = u.dropped ∧ (u.setFlashSlot sector page x).failed = u.failed ∧
    (u.setFlashSlot sector page x).settings = u.settings ∧ (u.setFlashSlot sector page x).awaiting = u.awaiting ∧
    (u.setFlashSlot sector page x).job = u.job ∧ (u.setFlashSlot sector page x).transfer = u.transfer ∧
    (u.setFlashSlot sector page x).pollElapsed = u.pollElapsed ∧
    (u.setFlashSlot sector page x).lastTransfer = u.lastTransfer := by
  simp only [StoreUnit.setFlashSlot]
  repeat' (first | split | simp)

@[simp] theorem StoreUnit.slotUsed_frame (u : StoreUnit) :
    (u.slotUsed).state = u.state ∧ (u.slotUsed).badCount = u.badCount ∧ (u.slotUsed).erase = u.erase ∧
    (u.slotUsed).eraseSector = u.eraseSector ∧ (u.slotUsed).eraseElapsed = u.eraseElapsed ∧
    (u.slotUsed).queue = u.queue ∧ (u.slotUsed).readPtr = u.readPtr ∧ (u.slotUsed).hostOp = u.hostOp ∧
    (u.slotUsed).dropped = u.dropped ∧ (u.slotUsed).failed = u.failed ∧ (u.slotUsed).settings = u.settings ∧
    (u.slotUsed).awaiting = u.awaiting ∧ (u.slotUsed).job = u.job ∧ (u.slotUsed).transfer = u.transfer ∧
    (u.slotUsed).pollElapsed = u.pollElapsed ∧
    (u.slotUsed).lastTransfer = u.lastTransfer := by
  simp only [StoreUnit.slotUsed]
  repeat' (first | split | simp)

@[simp] theorem StoreUnit.startBody_frame (u : StoreUnit) :
    (u.startBody).state = u.state ∧ (u.startBody).sectors = u.sectors ∧ (u.startBody).badCount = u.badCount ∧
    (u.startBody).openSector = u.openSector ∧ (u.startBody).nextSlot = u.nextSlot ∧ (u.startBody).toOpen = u.toOpen ∧
    (u.startBody).erase = u.erase ∧ (u.startBody).eraseSector = u.eraseSector ∧
    (u.startBody).eraseElapsed = u.eraseElapsed ∧ (u.startBody).queue = u.queue ∧ (u.startBody).readPtr = u.readPtr ∧
    (u.startBody).hostOp = u.hostOp ∧ (u.startBody).dropped = u.dropped ∧ (u.startBody).failed = u.failed ∧
    (u.startBody).settings = u.settings ∧ (u.startBody).awaiting = u.awaiting ∧
    (u.startBody).pollElapsed = u.pollElapsed := by
  simp only [StoreUnit.startBody]
  repeat' (first | split | simp)

@[simp] theorem StoreUnit.startOpen_frame (u : StoreUnit) :
    (u.startOpen).state = u.state ∧ (u.startOpen).sectors = u.sectors ∧ (u.startOpen).badCount = u.badCount ∧
    (u.startOpen).openSector = u.openSector ∧ (u.startOpen).nextSlot = u.nextSlot ∧ (u.startOpen).toOpen = u.toOpen ∧
    (u.startOpen).erase = u.erase ∧ (u.startOpen).eraseSector = u.eraseSector ∧
    (u.startOpen).eraseElapsed = u.eraseElapsed ∧ (u.startOpen).queue = u.queue ∧ (u.startOpen).readPtr = u.readPtr ∧
    (u.startOpen).hostOp = u.hostOp ∧ (u.startOpen).dropped = u.dropped ∧ (u.startOpen).failed = u.failed ∧
    (u.startOpen).settings = u.settings ∧ (u.startOpen).awaiting = u.awaiting ∧
    (u.startOpen).pollElapsed = u.pollElapsed := by
  simp only [StoreUnit.startOpen]
  repeat' (first | split | simp)

@[simp] theorem StoreUnit.startErase_frame (u : StoreUnit) (i : Nat) :
    (u.startErase i).state = u.state ∧ (u.startErase i).badCount = u.badCount ∧
    (u.startErase i).openSector = u.openSector ∧ (u.startErase i).nextSlot = u.nextSlot ∧
    (u.startErase i).toOpen = u.toOpen ∧ (u.startErase i).queue = u.queue ∧ (u.startErase i).readPtr = u.readPtr ∧
    (u.startErase i).hostOp = u.hostOp ∧ (u.startErase i).dropped = u.dropped ∧ (u.startErase i).failed = u.failed ∧
    (u.startErase i).settings = u.settings ∧ (u.startErase i).awaiting = u.awaiting ∧
    (u.startErase i).pollElapsed = u.pollElapsed := by
  simp only [StoreUnit.startErase]
  repeat' (first | split | simp)

@[simp] theorem StoreUnit.startSuspend_frame (u : StoreUnit) :
    (u.startSuspend).state = u.state ∧ (u.startSuspend).sectors = u.sectors ∧ (u.startSuspend).badCount = u.badCount ∧
    (u.startSuspend).openSector = u.openSector ∧ (u.startSuspend).nextSlot = u.nextSlot ∧
    (u.startSuspend).toOpen = u.toOpen ∧ (u.startSuspend).erase = u.erase ∧
    (u.startSuspend).eraseSector = u.eraseSector ∧ (u.startSuspend).eraseElapsed = u.eraseElapsed ∧
    (u.startSuspend).queue = u.queue ∧ (u.startSuspend).readPtr = u.readPtr ∧ (u.startSuspend).hostOp = u.hostOp ∧
    (u.startSuspend).dropped = u.dropped ∧ (u.startSuspend).failed = u.failed ∧
    (u.startSuspend).settings = u.settings ∧ (u.startSuspend).awaiting = u.awaiting ∧
    (u.startSuspend).pollElapsed = u.pollElapsed := by
  simp only [StoreUnit.startSuspend]
  repeat' (first | split | simp)

@[simp] theorem StoreUnit.startResume_frame (u : StoreUnit) :
    (u.startResume).state = u.state ∧ (u.startResume).sectors = u.sectors ∧ (u.startResume).badCount = u.badCount ∧
    (u.startResume).openSector = u.openSector ∧ (u.startResume).nextSlot = u.nextSlot ∧
    (u.startResume).toOpen = u.toOpen ∧ (u.startResume).erase = u.erase ∧
    (u.startResume).eraseSector = u.eraseSector ∧ (u.startResume).eraseElapsed = u.eraseElapsed ∧
    (u.startResume).queue = u.queue ∧ (u.startResume).readPtr = u.readPtr ∧ (u.startResume).hostOp = u.hostOp ∧
    (u.startResume).dropped = u.dropped ∧ (u.startResume).failed = u.failed ∧ (u.startResume).settings = u.settings ∧
    (u.startResume).awaiting = u.awaiting ∧ (u.startResume).pollElapsed = u.pollElapsed := by
  simp only [StoreUnit.startResume]
  repeat' (first | split | simp)

@[simp] theorem StoreUnit.startPageRead_frame (u : StoreUnit) (sector page : Nat) :
    (u.startPageRead sector page).state = u.state ∧ (u.startPageRead sector page).sectors = u.sectors ∧
    (u.startPageRead sector page).badCount = u.badCount ∧ (u.startPageRead sector page).openSector = u.openSector ∧
    (u.startPageRead sector page).nextSlot = u.nextSlot ∧ (u.startPageRead sector page).toOpen = u.toOpen ∧
    (u.startPageRead sector page).erase = u.erase ∧ (u.startPageRead sector page).eraseSector = u.eraseSector ∧
    (u.startPageRead sector page).eraseElapsed = u.eraseElapsed ∧ (u.startPageRead sector page).queue = u.queue ∧
    (u.startPageRead sector page).readPtr = u.readPtr ∧ (u.startPageRead sector page).hostOp = u.hostOp ∧
    (u.startPageRead sector page).dropped = u.dropped ∧ (u.startPageRead sector page).failed = u.failed ∧
    (u.startPageRead sector page).settings = u.settings ∧ (u.startPageRead sector page).awaiting = u.awaiting ∧
    (u.startPageRead sector page).pollElapsed = u.pollElapsed := by
  simp only [StoreUnit.startPageRead]
  repeat' (first | split | simp)

@[simp] theorem StoreUnit.serveSuspended_frame (u : StoreUnit) :
    (u.serveSuspended).state = u.state ∧ (u.serveSuspended).sectors = u.sectors ∧
    (u.serveSuspended).badCount = u.badCount ∧ (u.serveSuspended).openSector = u.openSector ∧
    (u.serveSuspended).nextSlot = u.nextSlot ∧ (u.serveSuspended).toOpen = u.toOpen ∧
    (u.serveSuspended).erase = u.erase ∧ (u.serveSuspended).eraseSector = u.eraseSector ∧
    (u.serveSuspended).eraseElapsed = u.eraseElapsed ∧ (u.serveSuspended).queue = u.queue ∧
    (u.serveSuspended).readPtr = u.readPtr ∧ (u.serveSuspended).hostOp = u.hostOp ∧
    (u.serveSuspended).dropped = u.dropped ∧ (u.serveSuspended).failed = u.failed ∧
    (u.serveSuspended).settings = u.settings ∧ (u.serveSuspended).awaiting = u.awaiting ∧
    (u.serveSuspended).pollElapsed = u.pollElapsed := by
  simp only [StoreUnit.serveSuspended]
  repeat' (first | split | simp)

@[simp] theorem StoreUnit.serveReady_frame (u : StoreUnit) :
    (u.serveReady).state = u.state ∧ (u.serveReady).badCount = u.badCount ∧ (u.serveReady).openSector = u.openSector ∧
    (u.serveReady).nextSlot = u.nextSlot ∧ (u.serveReady).toOpen = u.toOpen ∧ (u.serveReady).queue = u.queue ∧
    (u.serveReady).readPtr = u.readPtr ∧ (u.serveReady).hostOp = u.hostOp ∧ (u.serveReady).dropped = u.dropped ∧
    (u.serveReady).failed = u.failed ∧ (u.serveReady).settings = u.settings ∧ (u.serveReady).awaiting = u.awaiting ∧
    (u.serveReady).pollElapsed = u.pollElapsed := by
  simp only [StoreUnit.serveReady]
  repeat' (first | split | simp)

@[simp] theorem StoreUnit.serveRead_frame (u : StoreUnit) (sector page : Nat) :
    (u.serveRead sector page).state = u.state ∧ (u.serveRead sector page).sectors = u.sectors ∧
    (u.serveRead sector page).badCount = u.badCount ∧ (u.serveRead sector page).openSector = u.openSector ∧
    (u.serveRead sector page).nextSlot = u.nextSlot ∧ (u.serveRead sector page).toOpen = u.toOpen ∧
    (u.serveRead sector page).erase = u.erase ∧ (u.serveRead sector page).eraseSector = u.eraseSector ∧
    (u.serveRead sector page).eraseElapsed = u.eraseElapsed ∧ (u.serveRead sector page).queue = u.queue ∧
    (u.serveRead sector page).readPtr = u.readPtr ∧ (u.serveRead sector page).hostOp = u.hostOp ∧
    (u.serveRead sector page).dropped = u.dropped ∧ (u.serveRead sector page).failed = u.failed ∧
    (u.serveRead sector page).settings = u.settings ∧ (u.serveRead sector page).awaiting = u.awaiting ∧
    (u.serveRead sector page).pollElapsed = u.pollElapsed := by
  simp only [StoreUnit.serveRead]
  repeat' (first | split | simp)

@[simp] theorem StoreUnit.setPhase_frame (u : StoreUnit) (slot : Fin 8) (p : ErasePhase) :
    (u.setPhase slot p).state = u.state ∧ (u.setPhase slot p).sectors = u.sectors ∧
    (u.setPhase slot p).badCount = u.badCount ∧ (u.setPhase slot p).openSector = u.openSector ∧
    (u.setPhase slot p).nextSlot = u.nextSlot ∧ (u.setPhase slot p).toOpen = u.toOpen ∧
    (u.setPhase slot p).erase = u.erase ∧ (u.setPhase slot p).eraseSector = u.eraseSector ∧
    (u.setPhase slot p).eraseElapsed = u.eraseElapsed ∧ (u.setPhase slot p).queue = u.queue ∧
    (u.setPhase slot p).readPtr = u.readPtr ∧ (u.setPhase slot p).dropped = u.dropped ∧
    (u.setPhase slot p).failed = u.failed ∧ (u.setPhase slot p).settings = u.settings ∧
    (u.setPhase slot p).awaiting = u.awaiting ∧ (u.setPhase slot p).job = u.job ∧
    (u.setPhase slot p).transfer = u.transfer ∧ (u.setPhase slot p).pollElapsed = u.pollElapsed ∧
    (u.setPhase slot p).lastTransfer = u.lastTransfer := by
  simp only [StoreUnit.setPhase]
  repeat' (first | split | simp)

@[simp] theorem StoreUnit.serveReopen_frame (u : StoreUnit) :
    (u.serveReopen).state = u.state ∧ (u.serveReopen).badCount = u.badCount ∧
    (u.serveReopen).openSector = u.openSector ∧ (u.serveReopen).nextSlot = u.nextSlot ∧
    (u.serveReopen).toOpen = u.toOpen ∧ (u.serveReopen).queue = u.queue ∧ (u.serveReopen).readPtr = u.readPtr ∧
    (u.serveReopen).hostOp = u.hostOp ∧ (u.serveReopen).dropped = u.dropped ∧ (u.serveReopen).failed = u.failed ∧
    (u.serveReopen).settings = u.settings ∧ (u.serveReopen).awaiting = u.awaiting ∧
    (u.serveReopen).pollElapsed = u.pollElapsed := by
  simp only [StoreUnit.serveReopen]
  repeat' (first | split | simp)

@[simp] theorem StoreUnit.serveErase_frame (u : StoreUnit) (slot : Fin 8) (next : Nat) :
    (u.serveErase slot next).state = u.state ∧ (u.serveErase slot next).badCount = u.badCount ∧
    (u.serveErase slot next).openSector = u.openSector ∧ (u.serveErase slot next).nextSlot = u.nextSlot ∧
    (u.serveErase slot next).queue = u.queue ∧ (u.serveErase slot next).readPtr = u.readPtr ∧
    (u.serveErase slot next).dropped = u.dropped ∧ (u.serveErase slot next).failed = u.failed ∧
    (u.serveErase slot next).settings = u.settings ∧ (u.serveErase slot next).awaiting = u.awaiting ∧
    (u.serveErase slot next).pollElapsed = u.pollElapsed := by
  simp only [StoreUnit.serveErase]
  repeat' (first | split | simp)

@[simp] theorem StoreUnit.serveSettle_frame (u : StoreUnit) (slot : Fin 8) :
    (u.serveSettle slot).state = u.state ∧ (u.serveSettle slot).badCount = u.badCount ∧
    (u.serveSettle slot).nextSlot = u.nextSlot ∧ (u.serveSettle slot).queue = u.queue ∧
    (u.serveSettle slot).readPtr = u.readPtr ∧ (u.serveSettle slot).dropped = u.dropped ∧
    (u.serveSettle slot).failed = u.failed ∧ (u.serveSettle slot).settings = u.settings ∧
    (u.serveSettle slot).awaiting = u.awaiting ∧ (u.serveSettle slot).pollElapsed = u.pollElapsed := by
  simp only [StoreUnit.serveSettle]
  repeat' (first | split | simp)

@[simp] theorem StoreUnit.serveEraseAll_frame (u : StoreUnit) (slot : Fin 8) (p : ErasePhase) :
    (u.serveEraseAll slot p).state = u.state ∧ (u.serveEraseAll slot p).badCount = u.badCount ∧
    (u.serveEraseAll slot p).nextSlot = u.nextSlot ∧ (u.serveEraseAll slot p).queue = u.queue ∧
    (u.serveEraseAll slot p).readPtr = u.readPtr ∧ (u.serveEraseAll slot p).dropped = u.dropped ∧
    (u.serveEraseAll slot p).failed = u.failed ∧ (u.serveEraseAll slot p).settings = u.settings ∧
    (u.serveEraseAll slot p).awaiting = u.awaiting ∧ (u.serveEraseAll slot p).pollElapsed = u.pollElapsed := by
  unfold StoreUnit.serveEraseAll
  repeat' (first | split | simp)

@[simp] theorem StoreUnit.serve_frame (u : StoreUnit) :
    (u.serve).state = u.state ∧ (u.serve).badCount = u.badCount ∧ (u.serve).nextSlot = u.nextSlot ∧
    (u.serve).queue = u.queue ∧ (u.serve).readPtr = u.readPtr ∧ (u.serve).dropped = u.dropped ∧
    (u.serve).failed = u.failed ∧ (u.serve).settings = u.settings ∧ (u.serve).awaiting = u.awaiting ∧
    (u.serve).pollElapsed = u.pollElapsed := by
  simp only [StoreUnit.serve]
  repeat' (first | split | simp)

@[simp] theorem StoreUnit.markSlot_frame (u : StoreUnit) (x : FlashSlot) :
    (u.markSlot x).state = u.state ∧ (u.markSlot x).badCount = u.badCount ∧ (u.markSlot x).openSector = u.openSector ∧
    (u.markSlot x).nextSlot = u.nextSlot ∧ (u.markSlot x).toOpen = u.toOpen ∧ (u.markSlot x).erase = u.erase ∧
    (u.markSlot x).eraseSector = u.eraseSector ∧ (u.markSlot x).eraseElapsed = u.eraseElapsed ∧
    (u.markSlot x).queue = u.queue ∧ (u.markSlot x).readPtr = u.readPtr ∧ (u.markSlot x).hostOp = u.hostOp ∧
    (u.markSlot x).dropped = u.dropped ∧ (u.markSlot x).failed = u.failed ∧ (u.markSlot x).settings = u.settings ∧
    (u.markSlot x).awaiting = u.awaiting ∧ (u.markSlot x).job = u.job ∧ (u.markSlot x).transfer = u.transfer ∧
    (u.markSlot x).pollElapsed = u.pollElapsed ∧
    (u.markSlot x).lastTransfer = u.lastTransfer := by
  simp only [StoreUnit.markSlot]
  repeat' (first | split | simp)

@[simp] theorem StoreUnit.drained_frame (u : StoreUnit) :
    (u.drained).state = u.state ∧ (u.drained).sectors = u.sectors ∧ (u.drained).badCount = u.badCount ∧
    (u.drained).openSector = u.openSector ∧ (u.drained).nextSlot = u.nextSlot ∧ (u.drained).toOpen = u.toOpen ∧
    (u.drained).erase = u.erase ∧ (u.drained).eraseSector = u.eraseSector ∧
    (u.drained).eraseElapsed = u.eraseElapsed ∧ (u.drained).queue = u.queue ∧ (u.drained).readPtr = u.readPtr ∧
    (u.drained).dropped = u.dropped ∧ (u.drained).failed = u.failed ∧ (u.drained).settings = u.settings ∧
    (u.drained).awaiting = u.awaiting ∧ (u.drained).job = u.job ∧ (u.drained).transfer = u.transfer ∧
    (u.drained).pollElapsed = u.pollElapsed ∧
    (u.drained).lastTransfer = u.lastTransfer := by
  simp only [StoreUnit.drained]
  repeat' (first | split | simp)

@[simp] theorem StoreUnit.markBad_frame (u : StoreUnit) (i : Nat) :
    (u.markBad i).state = u.state ∧ (u.markBad i).openSector = u.openSector ∧ (u.markBad i).nextSlot = u.nextSlot ∧
    (u.markBad i).toOpen = u.toOpen ∧ (u.markBad i).erase = u.erase ∧ (u.markBad i).eraseSector = u.eraseSector ∧
    (u.markBad i).eraseElapsed = u.eraseElapsed ∧ (u.markBad i).queue = u.queue ∧ (u.markBad i).readPtr = u.readPtr ∧
    (u.markBad i).hostOp = u.hostOp ∧ (u.markBad i).dropped = u.dropped ∧ (u.markBad i).failed = u.failed ∧
    (u.markBad i).settings = u.settings ∧ (u.markBad i).awaiting = u.awaiting ∧ (u.markBad i).job = u.job ∧
    (u.markBad i).transfer = u.transfer ∧ (u.markBad i).pollElapsed = u.pollElapsed ∧
    (u.markBad i).lastTransfer = u.lastTransfer := by
  simp only [StoreUnit.markBad]
  repeat' (first | split | simp)

@[simp] theorem StoreUnit.replaceToOpen_frame (u : StoreUnit) (failed following : Nat) :
    (u.replaceToOpen failed following).state = u.state ∧ (u.replaceToOpen failed following).sectors = u.sectors ∧
    (u.replaceToOpen failed following).badCount = u.badCount ∧
    (u.replaceToOpen failed following).openSector = u.openSector ∧
    (u.replaceToOpen failed following).nextSlot = u.nextSlot ∧ (u.replaceToOpen failed following).erase = u.erase ∧
    (u.replaceToOpen failed following).eraseSector = u.eraseSector ∧
    (u.replaceToOpen failed following).eraseElapsed = u.eraseElapsed ∧
    (u.replaceToOpen failed following).queue = u.queue ∧ (u.replaceToOpen failed following).readPtr = u.readPtr ∧
    (u.replaceToOpen failed following).hostOp = u.hostOp ∧ (u.replaceToOpen failed following).dropped = u.dropped ∧
    (u.replaceToOpen failed following).failed = u.failed ∧ (u.replaceToOpen failed following).settings = u.settings ∧
    (u.replaceToOpen failed following).awaiting = u.awaiting ∧ (u.replaceToOpen failed following).job = u.job ∧
    (u.replaceToOpen failed following).transfer = u.transfer ∧
    (u.replaceToOpen failed following).pollElapsed = u.pollElapsed ∧
    (u.replaceToOpen failed following).lastTransfer = u.lastTransfer := by
  simp only [StoreUnit.replaceToOpen]
  repeat' (first | split | simp)

@[simp] theorem StoreUnit.cleared_frame (u : StoreUnit) :
    (u.cleared).state = u.state ∧ (u.cleared).queue = u.queue ∧
    (u.cleared).dropped = u.dropped ∧ (u.cleared).failed = u.failed ∧ (u.cleared).settings = u.settings ∧
    (u.cleared).awaiting = u.awaiting ∧ (u.cleared).pollElapsed = u.pollElapsed ∧
    (u.cleared).lastTransfer = u.lastTransfer := by
  simp only [StoreUnit.cleared]
  repeat' (first | split | simp)

@[simp] theorem StoreUnit.addSector_frame (u : StoreUnit) (e : Sector) :
    (u.addSector e).state = u.state ∧ (u.addSector e).openSector = u.openSector ∧
    (u.addSector e).nextSlot = u.nextSlot ∧ (u.addSector e).toOpen = u.toOpen ∧ (u.addSector e).erase = u.erase ∧
    (u.addSector e).eraseSector = u.eraseSector ∧ (u.addSector e).eraseElapsed = u.eraseElapsed ∧
    (u.addSector e).queue = u.queue ∧ (u.addSector e).readPtr = u.readPtr ∧ (u.addSector e).hostOp = u.hostOp ∧
    (u.addSector e).dropped = u.dropped ∧ (u.addSector e).failed = u.failed ∧ (u.addSector e).settings = u.settings ∧
    (u.addSector e).awaiting = u.awaiting ∧ (u.addSector e).job = u.job ∧ (u.addSector e).transfer = u.transfer ∧
    (u.addSector e).pollElapsed = u.pollElapsed ∧
    (u.addSector e).lastTransfer = u.lastTransfer := by
  simp only [StoreUnit.addSector]
  repeat' (first | split | simp)

@[simp] theorem StoreUnit.scanOpen_frame (u : StoreUnit) :
    (u.scanOpen).state = u.state ∧ (u.scanOpen).badCount = u.badCount ∧ (u.scanOpen).erase = u.erase ∧
    (u.scanOpen).eraseSector = u.eraseSector ∧ (u.scanOpen).eraseElapsed = u.eraseElapsed ∧
    (u.scanOpen).queue = u.queue ∧ (u.scanOpen).readPtr = u.readPtr ∧ (u.scanOpen).hostOp = u.hostOp ∧
    (u.scanOpen).dropped = u.dropped ∧ (u.scanOpen).failed = u.failed ∧ (u.scanOpen).settings = u.settings ∧
    (u.scanOpen).awaiting = u.awaiting ∧ (u.scanOpen).job = u.job ∧ (u.scanOpen).transfer = u.transfer ∧
    (u.scanOpen).pollElapsed = u.pollElapsed ∧
    (u.scanOpen).lastTransfer = u.lastTransfer := by
  simp only [StoreUnit.scanOpen]
  repeat' (first | split | simp)

@[simp] theorem RecordUnit.raiseCounter_frame (r : RecordUnit) (greatest : Nat) :
    (r.raiseCounter greatest).banks = r.banks ∧ (r.raiseCounter greatest).program = r.program ∧
    (r.raiseCounter greatest).trigState = r.trigState ∧ (r.raiseCounter greatest).deadline = r.deadline ∧
    (r.raiseCounter greatest).windowTimer = r.windowTimer ∧ (r.raiseCounter greatest).belowFirst = r.belowFirst ∧
    (r.raiseCounter greatest).belowSecond = r.belowSecond ∧ (r.raiseCounter greatest).openRecord = r.openRecord ∧
    (r.raiseCounter greatest).kindSet = r.kindSet ∧ (r.raiseCounter greatest).nextIndex = r.nextIndex ∧
    (r.raiseCounter greatest).entries = r.entries ∧ (r.raiseCounter greatest).unposted = r.unposted ∧
    (r.raiseCounter greatest).settings = r.settings ∧ (r.raiseCounter greatest).resets = r.resets := by
  simp only [RecordUnit.raiseCounter]
  repeat' (first | split | simp)

@[simp] theorem StoreUnit.readScanSlot_frame (u : StoreUnit) (i page : Nat) :
    (u.readScanSlot i page).state = u.state ∧ (u.readScanSlot i page).sectors = u.sectors ∧
    (u.readScanSlot i page).badCount = u.badCount ∧ (u.readScanSlot i page).openSector = u.openSector ∧
    (u.readScanSlot i page).nextSlot = u.nextSlot ∧ (u.readScanSlot i page).toOpen = u.toOpen ∧
    (u.readScanSlot i page).erase = u.erase ∧ (u.readScanSlot i page).eraseSector = u.eraseSector ∧
    (u.readScanSlot i page).eraseElapsed = u.eraseElapsed ∧ (u.readScanSlot i page).queue = u.queue ∧
    (u.readScanSlot i page).readPtr = u.readPtr ∧ (u.readScanSlot i page).hostOp = u.hostOp ∧
    (u.readScanSlot i page).dropped = u.dropped ∧ (u.readScanSlot i page).failed = u.failed ∧
    (u.readScanSlot i page).settings = u.settings ∧ (u.readScanSlot i page).awaiting = u.awaiting ∧
    (u.readScanSlot i page).pollElapsed = u.pollElapsed := by
  simp only [StoreUnit.readScanSlot]
  repeat' (first | split | simp)

@[simp] theorem RecordUnit.countUnmade_frame (r : RecordUnit) :
    (r.countUnmade).banks = r.banks ∧ (r.countUnmade).program = r.program ∧ (r.countUnmade).trigState = r.trigState ∧
    (r.countUnmade).deadline = r.deadline ∧ (r.countUnmade).windowTimer = r.windowTimer ∧
    (r.countUnmade).belowFirst = r.belowFirst ∧ (r.countUnmade).belowSecond = r.belowSecond ∧
    (r.countUnmade).openRecord = r.openRecord ∧ (r.countUnmade).kindSet = r.kindSet ∧
    (r.countUnmade).idCounter = r.idCounter ∧ (r.countUnmade).nextIndex = r.nextIndex ∧
    (r.countUnmade).entries = r.entries ∧ (r.countUnmade).settings = r.settings ∧ (r.countUnmade).resets = r.resets := by
  simp only [RecordUnit.countUnmade]
  repeat' (first | split | simp)

@[simp] theorem RecordUnit.nextId_frame (r : RecordUnit) :
    (r.nextId).banks = r.banks ∧ (r.nextId).program = r.program ∧ (r.nextId).trigState = r.trigState ∧
    (r.nextId).deadline = r.deadline ∧ (r.nextId).windowTimer = r.windowTimer ∧ (r.nextId).belowFirst = r.belowFirst ∧
    (r.nextId).belowSecond = r.belowSecond ∧ (r.nextId).openRecord = r.openRecord ∧ (r.nextId).kindSet = r.kindSet ∧
    (r.nextId).nextIndex = r.nextIndex ∧ (r.nextId).entries = r.entries ∧ (r.nextId).unposted = r.unposted ∧
    (r.nextId).settings = r.settings ∧ (r.nextId).resets = r.resets := by
  simp only [RecordUnit.nextId]
  repeat' (first | split | simp)

@[simp] theorem RecordUnit.followOn_frame (u : RecordUnit) (f : FollowOn) :
    (u.followOn f).banks = u.banks ∧ (u.followOn f).program = u.program ∧ (u.followOn f).trigState = u.trigState ∧
    (u.followOn f).deadline = u.deadline ∧ (u.followOn f).windowTimer = u.windowTimer ∧
    (u.followOn f).belowFirst = u.belowFirst ∧ (u.followOn f).belowSecond = u.belowSecond ∧
    (u.followOn f).idCounter = u.idCounter ∧ (u.followOn f).nextIndex = u.nextIndex ∧
    (u.followOn f).entries = u.entries ∧ (u.followOn f).unposted = u.unposted ∧ (u.followOn f).settings = u.settings ∧
    (u.followOn f).resets = u.resets := by
  simp only [RecordUnit.followOn]
  repeat' (first | split | simp)

@[simp] theorem Governor.zeroed_frame (g : Governor) :
    (g.zeroed).e = g.e ∧ (g.zeroed).p = g.p ∧ (g.zeroed).i = g.i ∧ (g.zeroed).l0 = g.l0 ∧ (g.zeroed).h = g.h ∧
    (g.zeroed).demand = g.demand ∧ (g.zeroed).factor = g.factor ∧ (g.zeroed).limit = g.limit ∧
    (g.zeroed).estimate = g.estimate ∧ (g.zeroed).history = g.history ∧ (g.zeroed).overspeed = g.overspeed ∧
    (g.zeroed).envelope = g.envelope ∧ (g.zeroed).awaiting = g.awaiting := by
  simp only [Governor.zeroed]
  repeat' (first | split | simp)

@[simp] theorem Regulator.block_frame (g : Regulator) :
    (g.block).angle = g.angle ∧ (g.block).id = g.id ∧ (g.block).iq = g.iq ∧ (g.block).arrivalSeen = g.arrivalSeen ∧
    (g.block).firstPeriod = g.firstPeriod ∧ (g.block).missing = g.missing ∧
    (g.block).voltageLimited = g.voltageLimited ∧ (g.block).lastPeriod = g.lastPeriod ∧
    (g.block).limitedRun = g.limitedRun ∧ (g.block).iqSum = g.iqSum ∧ (g.block).iqCount = g.iqCount ∧
    (g.block).gateBlock = g.gateBlock ∧ (g.block).overcurrent = g.overcurrent ∧ (g.block).gateFault = g.gateFault ∧
    (g.block).measLoss = g.measLoss ∧ (g.block).limitedCond = g.limitedCond ∧
    (g.block).published = g.published := by
  simp only [Regulator.block]
  repeat' (first | split | simp)

@[simp] theorem Sequencer.tripped_frame (q : Sequencer) :
    (q.tripped).drive = q.drive ∧ (q.tripped).runKind = q.runKind ∧ (q.tripped).direction = q.direction ∧
    (q.tripped).hostTarget = q.hostTarget ∧ (q.tripped).gate = q.gate ∧
    (q.tripped).restartPending = q.restartPending ∧ (q.tripped).backroll = q.backroll ∧
    (q.tripped).permit = q.permit ∧ (q.tripped).eStop = q.eStop := by
  simp only [Sequencer.tripped]
  repeat' (first | split | simp)

@[simp] theorem Regulator.startCleared_frame (g : Regulator) :
    (g.startCleared).angle = g.angle ∧ (g.startCleared).dInt = g.dInt ∧ (g.startCleared).qInt = g.qInt ∧
    (g.startCleared).dClamp = g.dClamp ∧ (g.startCleared).qClamp = g.qClamp ∧ (g.startCleared).vd = g.vd ∧
    (g.startCleared).vq = g.vq ∧ (g.startCleared).id = g.id ∧ (g.startCleared).iq = g.iq ∧
    (g.startCleared).duties = g.duties ∧ (g.startCleared).pendingDuties = g.pendingDuties ∧
    (g.startCleared).arrivalSeen = g.arrivalSeen ∧ (g.startCleared).firstPeriod = g.firstPeriod ∧
    (g.startCleared).missing = g.missing ∧ (g.startCleared).voltageLimited = g.voltageLimited ∧
    (g.startCleared).lastPeriod = g.lastPeriod ∧ (g.startCleared).limitedRun = g.limitedRun ∧
    (g.startCleared).iqSum = g.iqSum ∧ (g.startCleared).iqCount = g.iqCount ∧
    (g.startCleared).overcurrent = g.overcurrent ∧ (g.startCleared).gateFault = g.gateFault ∧
    (g.startCleared).measLoss = g.measLoss ∧ (g.startCleared).limitedCond = g.limitedCond ∧
    (g.startCleared).published = g.published := by
  simp only [Regulator.startCleared]
  repeat' (first | split | simp)

end Sys2Proof.Machine
end

