-- ==== Sys2Proof/Laws/KeepStore.lean ====
section
/-! SUPPORT. Which operations leave the lock, the grouping window, the pending restart and the count of resets as they
are; and that with no restart pending no operation brings a reset about. -/

set_option linter.unusedTactic false
set_option linter.unreachableTactic false
set_option linter.unusedSimpArgs false

namespace Sys2Proof.Machine

@[simp] theorem State.pendingRestart_calm (s : State) (h : s.seq.restartPending = false) : s.pendingRestart = s := by
  simp [State.pendingRestart, h]

@[simp] theorem State.setEntry_keeps (s : State) (k : FaultKind) (e : FaultEntry) :
    (s.setEntry k e).faults.lock = s.faults.lock ∧ (s.setEntry k e).faults.windowOpen = s.faults.windowOpen := by
  simp only [State.setEntry]
  repeat' (first | split | simp)

@[simp] theorem State.fall_keeps (s : State) (k : FaultKind) (src : Source) :
    (s.fall k src).faults.lock = s.faults.lock ∧ (s.fall k src).faults.windowOpen = s.faults.windowOpen := by
  simp only [State.fall]
  repeat' (first | split | simp)

@[simp] theorem State.alarmRise_keeps (s : State) (k : FaultKind) (src : Source) (d : Option Nat) :
    (s.alarmRise k src d).faults.lock = s.faults.lock ∧
    (s.alarmRise k src d).faults.windowOpen = s.faults.windowOpen := by
  simp only [State.alarmRise]
  repeat' (first | split | simp)

@[simp] theorem State.alarmPulse_keeps (s : State) (k : FaultKind) (src : Source) (d : Option Nat) :
    (s.alarmPulse k src d).faults.lock = s.faults.lock ∧
    (s.alarmPulse k src d).faults.windowOpen = s.faults.windowOpen := by
  simp only [State.alarmPulse]
  repeat' (first | split | simp)

@[simp] theorem State.alarmLevel_keeps (s : State) (k : FaultKind) (src : Source) (d : Option Nat) (now : Bool) :
    (s.alarmLevel k src d now).faults.lock = s.faults.lock ∧
    (s.alarmLevel k src d now).faults.windowOpen = s.faults.windowOpen := by
  simp only [State.alarmLevel]
  repeat' (first | split | simp)

@[simp] theorem State.putEntry_keeps (s : State) (k : Fin 8) (e : ListEntry) :
    (s.putEntry k e).record.resets = s.record.resets := by
  simp only [State.putEntry]
  repeat' (first | split | simp)

@[simp] theorem State.postRecord_keeps (s : State) (r : Record) :
    (s.postRecord r).record.resets = s.record.resets := by
  simp only [State.postRecord]
  repeat' (first | split | simp)

@[simp] theorem State.completeEntry_keeps (i : Fin 4) (gen : Word) (s : State) (k : Fin 8) :
    (State.completeEntry i gen s k).record.resets = s.record.resets := by
  simp only [State.completeEntry]
  repeat' (first | split | simp)

@[simp] theorem State.freezeBank_keeps (s : State) (i : Fin 4) :
    (s.freezeBank i).record.resets = s.record.resets := by
  simp only [State.freezeBank]
  repeat' (first | split | simp)

@[simp] theorem State.countDropped_keeps (s : State) :
    (s.countDropped).faults.lock = s.faults.lock ∧ (s.countDropped).faults.windowOpen = s.faults.windowOpen := by
  simp only [State.countDropped]
  repeat' (first | split | simp)

@[simp] theorem State.countFailed_keeps (s : State) :
    (s.countFailed).faults.lock = s.faults.lock ∧ (s.countFailed).faults.windowOpen = s.faults.windowOpen := by
  simp only [State.countFailed]
  repeat' (first | split | simp)

@[simp] theorem State.countEnd_keeps (s : State) (st : StoreStatus) :
    (s.countEnd st).faults.lock = s.faults.lock ∧ (s.countEnd st).faults.windowOpen = s.faults.windowOpen := by
  simp only [State.countEnd]
  repeat' (first | split | simp)

@[simp] theorem State.endRecord_keeps (s : State) (id : Nat) (st : StoreStatus) :
    (s.endRecord id st).faults.lock = s.faults.lock ∧ (s.endRecord id st).faults.windowOpen = s.faults.windowOpen := by
  simp only [State.endRecord]
  repeat' (first | split | simp)

@[simp] theorem State.endHead_keeps (st : StoreStatus) (s : State) (r : QueuedRecord) :
    (State.endHead st s r).faults.lock = s.faults.lock ∧
    (State.endHead st s r).faults.windowOpen = s.faults.windowOpen := by
  simp only [State.endHead]
  repeat' (first | split | simp)

@[simp] theorem State.endQueue_keeps (s : State) (st : StoreStatus) :
    (s.endQueue st).faults.lock = s.faults.lock ∧ (s.endQueue st).faults.windowOpen = s.faults.windowOpen := by
  simp only [State.endQueue]
  repeat' (first | split | simp)

@[simp] theorem State.storeOut_keeps (s : State) :
    (s.storeOut).faults.lock = s.faults.lock ∧ (s.storeOut).faults.windowOpen = s.faults.windowOpen := by
  simp only [State.storeOut]
  repeat' (first | split | simp)

@[simp] theorem State.storeGoOn_keeps (s : State) (u : StoreUnit) :
    (s.storeGoOn u).faults.lock = s.faults.lock ∧ (s.storeGoOn u).faults.windowOpen = s.faults.windowOpen := by
  simp only [State.storeGoOn]
  repeat' (first | split | simp)

@[simp] theorem State.handOver_keeps (s : State) (r : Record) :
    (s.handOver r).faults.lock = s.faults.lock ∧ (s.handOver r).faults.windowOpen = s.faults.windowOpen := by
  simp only [State.handOver]
  repeat' (first | split | simp)

@[simp] theorem State.storeDone_keeps (s : State) :
    (s.storeDone).faults.lock = s.faults.lock ∧ (s.storeDone).faults.windowOpen = s.faults.windowOpen := by
  simp only [State.storeDone]
  repeat' (first | split | simp)

@[simp] theorem State.storeFailed_keeps (s : State) :
    (s.storeFailed).faults.lock = s.faults.lock ∧ (s.storeFailed).faults.windowOpen = s.faults.windowOpen := by
  simp only [State.storeFailed]
  repeat' (first | split | simp)

@[simp] theorem State.eraseDone_keeps (s : State) :
    (s.eraseDone).faults.lock = s.faults.lock ∧ (s.eraseDone).faults.windowOpen = s.faults.windowOpen := by
  simp only [State.eraseDone]
  repeat' (first | split | simp)

@[simp] theorem State.eraseFailed_keeps (s : State) :
    (s.eraseFailed).faults.lock = s.faults.lock ∧ (s.eraseFailed).faults.windowOpen = s.faults.windowOpen := by
  simp only [State.eraseFailed]
  repeat' (first | split | simp)

@[simp] theorem State.openFailed_keeps (s : State) :
    (s.openFailed).faults.lock = s.faults.lock ∧ (s.openFailed).faults.windowOpen = s.faults.windowOpen := by
  simp only [State.openFailed]
  repeat' (first | split | simp)

@[simp] theorem State.scanAbsent_keeps (s : State) :
    (s.scanAbsent).faults.lock = s.faults.lock ∧ (s.scanAbsent).faults.windowOpen = s.faults.windowOpen := by
  simp only [State.scanAbsent]
  repeat' (first | split | simp)

@[simp] theorem State.dropStored_keeps (s : State) (greatest : Nat) :
    (s.dropStored greatest).faults.lock = s.faults.lock ∧
    (s.dropStored greatest).faults.windowOpen = s.faults.windowOpen := by
  simp only [State.dropStored]
  repeat' (first | split | simp)

@[simp] theorem State.scanDone_keeps (s : State) :
    (s.scanDone).faults.lock = s.faults.lock ∧ (s.scanDone).faults.windowOpen = s.faults.windowOpen ∧
    (s.scanDone).record.resets = s.record.resets := by
  simp only [State.scanDone]
  repeat' (first | split | simp)

@[simp] theorem State.scanSector_keeps (s : State) (u : StoreUnit) (i : Nat) :
    (s.scanSector u i).faults.lock = s.faults.lock ∧ (s.scanSector u i).faults.windowOpen = s.faults.windowOpen ∧
    (s.scanSector u i).record.resets = s.record.resets := by
  simp only [State.scanSector]
  repeat' (first | split | simp)

@[simp] theorem State.scanHeaderDone_keeps (s : State) (bs : List Byte) (i : Nat) :
    (s.scanHeaderDone bs i).faults.lock = s.faults.lock ∧
    (s.scanHeaderDone bs i).faults.windowOpen = s.faults.windowOpen ∧
    (s.scanHeaderDone bs i).record.resets = s.record.resets := by
  simp only [State.scanHeaderDone]
  repeat' (first | split | simp)

@[simp] theorem State.scanSlotDone_keeps (s : State) (bs : List Byte) (i page : Nat) :
    (s.scanSlotDone bs i page).faults.lock = s.faults.lock ∧
    (s.scanSlotDone bs i page).faults.windowOpen = s.faults.windowOpen ∧
    (s.scanSlotDone bs i page).record.resets = s.record.resets := by
  simp only [State.scanSlotDone]
  repeat' (first | split | simp)

@[simp] theorem State.scanIdentDone_keeps (s : State) (bs : List Byte) :
    (s.scanIdentDone bs).faults.lock = s.faults.lock ∧ (s.scanIdentDone bs).faults.windowOpen = s.faults.windowOpen := by
  simp only [State.scanIdentDone]
  repeat' (first | split | simp)

@[simp] theorem State.transferDone_keeps (s : State) (bs : List Byte) :
    (s.transferDone bs).faults.lock = s.faults.lock ∧ (s.transferDone bs).faults.windowOpen = s.faults.windowOpen ∧
    (s.transferDone bs).record.resets = s.record.resets := by
  simp only [State.transferDone]
  repeat' (first | split | simp)

@[simp] theorem State.pollFailed_keeps (s : State) :
    (s.pollFailed).faults.lock = s.faults.lock ∧ (s.pollFailed).faults.windowOpen = s.faults.windowOpen := by
  simp only [State.pollFailed]
  repeat' (first | split | simp)

@[simp] theorem State.openTrip_keeps (s : State) (k : FaultKind) (d : Option Nat) :
    (s.openTrip k d).record.resets = s.record.resets := by
  simp only [State.openTrip]
  repeat' (first | split | simp)

@[simp] theorem State.closeRecord_keeps (s : State) :
    (s.closeRecord).faults.lock = s.faults.lock ∧ (s.closeRecord).faults.windowOpen = s.faults.windowOpen ∧
    (s.closeRecord).record.resets = s.record.resets := by
  simp only [State.closeRecord]
  repeat' (first | split | simp)

@[simp] theorem State.fire_keeps (s : State) (p : Program) (detail : Option Nat) :
    (s.fire p detail).record.resets = s.record.resets := by
  simp only [State.fire]
  repeat' (first | split | simp)

@[simp] theorem State.openTriggerWindow_keeps (s : State) (p : Program) :
    (s.openTriggerWindow p).record.resets = s.record.resets := by
  simp only [State.openTriggerWindow]
  repeat' (first | split | simp)

@[simp] theorem State.takeCond_keeps (s : State) (c : TrigCond) (detail : Option Nat) :
    (s.takeCond c detail).record.resets = s.record.resets := by
  simp only [State.takeCond]
  repeat' (first | split | simp)

@[simp] theorem State.gatesOff_keeps (s : State) :
    (s.gatesOff).seq.restartPending = s.seq.restartPending := by
  simp only [State.gatesOff]
  repeat' (first | split | simp)

@[simp] theorem State.levelAtRest_keeps (s : State) :
    (s.levelAtRest).faults.lock = s.faults.lock ∧ (s.levelAtRest).faults.windowOpen = s.faults.windowOpen := by
  simp only [State.levelAtRest]
  repeat' (first | split | simp)

@[simp] theorem State.formSingle_keeps (s : State) :
    (s.formSingle).faults.lock = s.faults.lock ∧ (s.formSingle).faults.windowOpen = s.faults.windowOpen := by
  simp only [State.formSingle]
  repeat' (first | split | simp)

@[simp] theorem State.encodersAtRest_keeps (s : State) :
    (s.encodersAtRest).faults.lock = s.faults.lock ∧ (s.encodersAtRest).faults.windowOpen = s.faults.windowOpen := by
  simp only [State.encodersAtRest]
  repeat' (first | split | simp)

@[simp] theorem State.backrollOff_keeps (s : State) :
    (s.backrollOff).faults.lock = s.faults.lock ∧ (s.backrollOff).faults.windowOpen = s.faults.windowOpen ∧
    (s.backrollOff).seq.restartPending = s.seq.restartPending := by
  simp only [State.backrollOff]
  repeat' (first | split | simp)

@[simp] theorem State.setDriveState_keeps (s : State) (d : DriveState) :
    (s.setDriveState d).seq.restartPending = s.seq.restartPending := by
  simp only [State.setDriveState]
  repeat' (first | split | simp)

@[simp] theorem State.restEntry_keeps (s : State) :
    (s.restEntry).faults.lock = s.faults.lock ∧ (s.restEntry).faults.windowOpen = s.faults.windowOpen := by
  simp only [State.restEntry]
  repeat' (first | split | simp)

@[simp] theorem State.latchRise_keeps (s : State) (k : FaultKind) (src : Source) (d : Option Nat) :
    (s.latchRise k src d).faults.lock = s.faults.lock ∧
    (s.latchRise k src d).faults.windowOpen = s.faults.windowOpen := by
  simp only [State.latchRise]
  repeat' (first | split | simp)

@[simp] theorem State.freshGateFault_keeps (s : State) (x : Side) :
    (s.freshGateFault x).faults.lock = s.faults.lock ∧ (s.freshGateFault x).faults.windowOpen = s.faults.windowOpen := by
  simp only [State.freshGateFault]
  repeat' (first | split | simp)

@[simp] theorem State.freshEStop_keeps (s : State) :
    (s.freshEStop).faults.lock = s.faults.lock ∧ (s.freshEStop).faults.windowOpen = s.faults.windowOpen ∧
    (s.freshEStop).seq.restartPending = s.seq.restartPending := by
  simp only [State.freshEStop]
  repeat' (first | split | simp)

@[simp] theorem State.enterStopped_calm (s : State)
    (hr : s.seq.restartPending = false) :
    (s.enterStopped).seq.restartPending = false ∧ (s.enterStopped).record.resets = s.record.resets ∧
    (s.enterStopped).drive = s.drive ∧ (s.enterStopped).meas = s.meas ∧ (s.enterStopped).watch = s.watch ∧
    (s.enterStopped).record = s.record ∧ (s.enterStopped).store = s.store := by
  simp only [State.enterStopped]
  repeat' (first | split | (simp (maxDischargeDepth := 40) -implicitDefEqProofs +contextual [hr]; done) | simp (maxDischargeDepth := 40) -implicitDefEqProofs [hr])

@[simp] theorem State.enterTripped_calm (s : State)
    (hr : s.seq.restartPending = false) :
    (s.enterTripped).seq.restartPending = false ∧ (s.enterTripped).record.resets = s.record.resets ∧
    (s.enterTripped).drive = s.drive ∧ (s.enterTripped).meas = s.meas ∧ (s.enterTripped).watch = s.watch ∧
    (s.enterTripped).record = s.record ∧ (s.enterTripped).store = s.store := by
  simp only [State.enterTripped]
  repeat' (first | split | (simp (maxDischargeDepth := 40) -implicitDefEqProofs +contextual [hr]; done) | simp (maxDischargeDepth := 40) -implicitDefEqProofs [hr])

@[simp] theorem State.closeWindow_keeps (s : State) :
    (s.closeWindow).faults.lock = s.faults.lock ∧ (s.closeWindow).record.resets = s.record.resets := by
  simp only [State.closeWindow]
  repeat' (first | split | simp)

@[simp] theorem State.closeIfZero_keeps (s : State) :
    (s.closeIfZero).faults.lock = s.faults.lock ∧ (s.closeIfZero).record.resets = s.record.resets := by
  simp only [State.closeIfZero]
  repeat' (first | split | simp)

@[simp] theorem State.openWindow_keeps (s : State) :
    (s.openWindow).faults.lock = s.faults.lock := by
  simp only [State.openWindow]
  repeat' (first | split | simp)

@[simp] theorem State.firstCause_calm (s : State) (k : FaultKind) (d : Option Nat)
    (hr : s.seq.restartPending = false) :
    (s.firstCause k d).seq.restartPending = false ∧ (s.firstCause k d).record.resets = s.record.resets ∧
    (s.firstCause k d).drive = s.drive ∧ (s.firstCause k d).meas = s.meas ∧ (s.firstCause k d).watch = s.watch ∧
    (s.firstCause k d).store = s.store := by
  simp only [State.firstCause]
  repeat' (first | split | (simp (maxDischargeDepth := 40) -implicitDefEqProofs +contextual [hr]; done) | simp (maxDischargeDepth := 40) -implicitDefEqProofs [hr])

@[simp] theorem State.followOnCause_keeps (s : State) (k : FaultKind) (d : Option Nat) (offset : Nat) :
    (s.followOnCause k d offset).record.resets = s.record.resets := by
  simp only [State.followOnCause]
  repeat' (first | split | simp)

@[simp] theorem State.tripCause_calm (s : State) (k : FaultKind) (d : Option Nat)
    (hr : s.seq.restartPending = false) :
    (s.tripCause k d).seq.restartPending = false ∧ (s.tripCause k d).record.resets = s.record.resets ∧
    (s.tripCause k d).drive = s.drive ∧ (s.tripCause k d).meas = s.meas ∧ (s.tripCause k d).watch = s.watch := by
  simp only [State.tripCause]
  repeat' (first | split | (simp (maxDischargeDepth := 40) -implicitDefEqProofs +contextual [hr]; done) | simp (maxDischargeDepth := 40) -implicitDefEqProofs [hr])

@[simp] theorem State.tripRise_calm (s : State) (k : FaultKind) (src : Source)
    (hr : s.seq.restartPending = false) :
    (s.tripRise k src).seq.restartPending = false ∧ (s.tripRise k src).record.resets = s.record.resets ∧
    (s.tripRise k src).drive = s.drive ∧ (s.tripRise k src).meas = s.meas ∧ (s.tripRise k src).watch = s.watch := by
  simp only [State.tripRise]
  repeat' (first | split | (simp (maxDischargeDepth := 40) -implicitDefEqProofs +contextual [hr]; done) | simp (maxDischargeDepth := 40) -implicitDefEqProofs [hr])

@[simp] theorem State.tripPulse_calm (s : State) (k : FaultKind)
    (hr : s.seq.restartPending = false) :
    (s.tripPulse k).seq.restartPending = false ∧ (s.tripPulse k).record.resets = s.record.resets ∧
    (s.tripPulse k).drive = s.drive ∧ (s.tripPulse k).meas = s.meas ∧ (s.tripPulse k).watch = s.watch := by
  simp only [State.tripPulse]
  repeat' (first | split | (simp (maxDischargeDepth := 40) -implicitDefEqProofs +contextual [hr]; done) | simp (maxDischargeDepth := 40) -implicitDefEqProofs [hr])

@[simp] theorem State.tripLevel_calm (s : State) (k : FaultKind) (now : Bool)
    (hr : s.seq.restartPending = false) :
    (s.tripLevel k now).seq.restartPending = false ∧ (s.tripLevel k now).record.resets = s.record.resets ∧
    (s.tripLevel k now).drive = s.drive ∧ (s.tripLevel k now).meas = s.meas ∧ (s.tripLevel k now).watch = s.watch := by
  simp only [State.tripLevel]
  repeat' (first | split | (simp (maxDischargeDepth := 40) -implicitDefEqProofs +contextual [hr]; done) | simp (maxDischargeDepth := 40) -implicitDefEqProofs [hr])

@[simp] theorem State.formEncoders_calm (s : State)
    (hr : s.seq.restartPending = false) :
    (s.formEncoders).seq.restartPending = false ∧ (s.formEncoders).record.resets = s.record.resets ∧
    (s.formEncoders).drive = s.drive ∧ (s.formEncoders).meas = s.meas ∧ (s.formEncoders).watch = s.watch := by
  simp only [State.formEncoders]
  repeat' (first | split | (simp (maxDischargeDepth := 40) -implicitDefEqProofs +contextual [hr]; done) | simp (maxDischargeDepth := 40) -implicitDefEqProofs [hr])

@[simp] theorem State.enterMagnetizing_calm (s : State)
    (hr : s.seq.restartPending = false) :
    (s.enterMagnetizing).seq.restartPending = false ∧ (s.enterMagnetizing).record.resets = s.record.resets ∧
    (s.enterMagnetizing).drive = s.drive ∧ (s.enterMagnetizing).meas = s.meas ∧ (s.enterMagnetizing).watch = s.watch := by
  simp only [State.enterMagnetizing]
  repeat' (first | split | (simp (maxDischargeDepth := 40) -implicitDefEqProofs +contextual [hr]; done) | simp (maxDischargeDepth := 40) -implicitDefEqProofs [hr])

@[simp] theorem State.enterStopping_calm (s : State)
    (hr : s.seq.restartPending = false) :
    (s.enterStopping).seq.restartPending = false ∧ (s.enterStopping).record.resets = s.record.resets ∧
    (s.enterStopping).drive = s.drive ∧ (s.enterStopping).meas = s.meas ∧ (s.enterStopping).watch = s.watch := by
  simp only [State.enterStopping]
  repeat' (first | split | (simp (maxDischargeDepth := 40) -implicitDefEqProofs +contextual [hr]; done) | simp (maxDischargeDepth := 40) -implicitDefEqProofs [hr])

@[simp] theorem State.takeLatched_calm (s : State) (k : FaultKind)
    (hr : s.seq.restartPending = false) :
    (s.takeLatched k).seq.restartPending = false ∧ (s.takeLatched k).record.resets = s.record.resets ∧
    (s.takeLatched k).drive = s.drive ∧ (s.takeLatched k).meas = s.meas ∧ (s.takeLatched k).watch = s.watch ∧
    (s.takeLatched k).store = s.store := by
  simp only [State.takeLatched]
  repeat' (first | split | (simp (maxDischargeDepth := 40) -implicitDefEqProofs +contextual [hr]; done) | simp (maxDischargeDepth := 40) -implicitDefEqProofs [hr])

@[simp] theorem State.takeLatched_fold_calm (l : List FaultKind) (s : State) (hr : s.seq.restartPending = false) :
    (l.foldl State.takeLatched s).seq.restartPending = false ∧
    (l.foldl State.takeLatched s).record.resets = s.record.resets ∧ (l.foldl State.takeLatched s).drive = s.drive ∧
    (l.foldl State.takeLatched s).meas = s.meas ∧ (l.foldl State.takeLatched s).watch = s.watch := by
  induction l generalizing s with
  | nil => simp [hr]
  | cons k l ih =>
    have h := State.takeLatched_calm s k hr
    have := ih (s.takeLatched k) h.1
    simp only [List.foldl_cons]
    exact ⟨this.1, this.2.1.trans h.2.1, this.2.2.1.trans h.2.2.1, this.2.2.2.1.trans h.2.2.2.1,
      this.2.2.2.2.trans h.2.2.2.2.1⟩

@[simp] theorem State.departureTest_calm (s : State)
    (hr : s.seq.restartPending = false) :
    (s.departureTest).seq.restartPending = false ∧ (s.departureTest).record.resets = s.record.resets ∧
    (s.departureTest).drive = s.drive ∧ (s.departureTest).meas = s.meas ∧ (s.departureTest).watch = s.watch := by
  simp only [State.departureTest]
  repeat' (first | split | (simp (maxDischargeDepth := 40) -implicitDefEqProofs +contextual [hr]; done) | simp (maxDischargeDepth := 40) -implicitDefEqProofs [hr])

end Sys2Proof.Machine
end

