-- ==== Sys2Proof/Laws/Faults.lean ====
section
/-! SUPPORT. The fault set: what a report does to the entry of its kind, and what it leaves of every entry. -/

namespace Sys2Proof.Machine

/-- The latched flag of the kind of number `j`. -/
abbrev FaultUnit.latchedAt (f : FaultUnit) (j : Fin 32) : Bool := (vget f.entries j).latched

theorem FaultUnit.entry_eq (f : FaultUnit) (k : FaultKind) : f.entry k = vget f.entries k.num := rfl

theorem FaultUnit.latchedAt_setEntry (f : FaultUnit) (k : FaultKind) (e : FaultEntry) (h : e.latched = (f.entry k).latched)
    (j : Fin 32) : (vget (f.setEntry k e).entries j).latched = (vget f.entries j).latched := by
  unfold FaultUnit.setEntry
  rw [vget_vset]
  split
  · next hj => rw [h, hj, FaultUnit.entry_eq]
  · rfl

@[simp] theorem FaultEntry.rise_latched (e : FaultEntry) (src : Source) (t : DWord) (d : Option Nat) :
    (e.rise src t d).latched = e.latched := by
  simp [FaultEntry.rise]

@[simp] theorem State.fall_latched (s : State) (k : FaultKind) (src : Source) (j : Fin 32) :
    (vget (s.fall k src).faults.entries j).latched = (vget s.faults.entries j).latched := by
  unfold State.fall State.setEntry
  split
  · exact FaultUnit.latchedAt_setEntry _ _ _ (by simp) _
  · rfl

@[simp] theorem State.alarmRise_latched (s : State) (k : FaultKind) (src : Source) (d : Option Nat) (j : Fin 32) :
    (vget (s.alarmRise k src d).faults.entries j).latched = (vget s.faults.entries j).latched := by
  unfold State.alarmRise State.setEntry
  split
  · rfl
  · simpa using FaultUnit.latchedAt_setEntry _ _ _ (by simp) _

@[simp] theorem State.alarmPulse_latched (s : State) (k : FaultKind) (src : Source) (d : Option Nat) (j : Fin 32) :
    (vget (s.alarmPulse k src d).faults.entries j).latched = (vget s.faults.entries j).latched := by
  simp [State.alarmPulse]

@[simp] theorem State.alarmLevel_latched (s : State) (k : FaultKind) (src : Source) (d : Option Nat) (now : Bool) (j : Fin 32) :
    (vget (s.alarmLevel k src d now).faults.entries j).latched = (vget s.faults.entries j).latched := by
  unfold State.alarmLevel
  split <;> simp

/-- A trip rise of an absent source latches its kind (R107 to R109). -/
theorem State.latchRise_latched (s : State) (k : FaultKind) (src : Source) (d : Option Nat)
    (h : s.sourcePresent k src = false) : ((s.latchRise k src d).faults.entry k).latched = true := by
  simp [State.latchRise, State.setEntry, h]

/-- After a fall the source is absent (R106). -/
theorem State.fall_source (s : State) (k : FaultKind) (src : Source) : (s.fall k src).sourcePresent k src = false := by
  unfold State.fall
  split
  · simp [State.sourcePresent, State.setEntry]
  · simp_all

/-- A report of one kind leaves the entries of the other kinds as they are (R106). -/
theorem State.fall_other (s : State) {k j : FaultKind} (src : Source) (h : j ≠ k) :
    (s.fall k src).faults.entry j = s.faults.entry j := by
  unfold State.fall
  split
  · simp [State.setEntry, FaultUnit.entry_setEntry_other _ _ h]
  · rfl

theorem State.alarmRise_other (s : State) {k j : FaultKind} (src : Source) (d : Option Nat) (h : j ≠ k) :
    (s.alarmRise k src d).faults.entry j = s.faults.entry j := by
  unfold State.alarmRise
  split
  · rfl
  · simp [State.setEntry, FaultUnit.entry_setEntry_other _ _ h]

theorem State.latchRise_other (s : State) {k j : FaultKind} (src : Source) (d : Option Nat) (h : j ≠ k) :
    (s.latchRise k src d).faults.entry j = s.faults.entry j := by
  unfold State.latchRise
  split
  · rfl
  · simp [State.setEntry, FaultUnit.entry_setEntry_other _ _ h]

/-- A rise of an absent alarm source: present, seen, dated, with its detail, and the notice raised (R106, R111). -/
theorem State.alarmRise_absent (s : State) (k : FaultKind) (src : Source) (d : Option Nat)
    (h : s.sourcePresent k src = false) :
    (s.alarmRise k src d).faults.entry k = { (s.faults.entry k).rise src s.req.partTime d with seen := true } ∧
    (s.alarmRise k src d).req.notice = s.req.notice ||| noticeBit noticeAlarm := by
  simp [State.alarmRise, State.setEntry, State.raiseNotice, h]

/-! ### What keeps the latched flags -/

@[simp] theorem foldl_latched {α : Type} (f : State → α → State) (l : List α) (s : State) (j : Fin 32)
    (h : ∀ s a, (vget (f s a).faults.entries j).latched = (vget s.faults.entries j).latched) :
    (vget (l.foldl f s).faults.entries j).latched = (vget s.faults.entries j).latched :=
  foldl_keeps (fun s : State => (vget s.faults.entries j).latched) f h l s

@[simp] theorem State.countDropped_latched (s : State) (j : Fin 32) :
    (vget (s.countDropped).faults.entries j).latched = (vget s.faults.entries j).latched := by
  simp only [State.countDropped]
  repeat' (first | split | simp)

@[simp] theorem State.countFailed_latched (s : State) (j : Fin 32) :
    (vget (s.countFailed).faults.entries j).latched = (vget s.faults.entries j).latched := by
  simp only [State.countFailed]
  repeat' (first | split | simp)

@[simp] theorem State.countEnd_latched (s : State) (st : StoreStatus) (j : Fin 32) :
    (vget (s.countEnd st).faults.entries j).latched = (vget s.faults.entries j).latched := by
  simp only [State.countEnd]
  repeat' (first | split | simp)

@[simp] theorem State.endRecord_latched (s : State) (id : Nat) (st : StoreStatus) (j : Fin 32) :
    (vget (s.endRecord id st).faults.entries j).latched = (vget s.faults.entries j).latched := by
  simp only [State.endRecord]
  repeat' (first | split | simp)

@[simp] theorem State.endHead_latched (st : StoreStatus) (s : State) (r : QueuedRecord) (j : Fin 32) :
    (vget (State.endHead st s r).faults.entries j).latched = (vget s.faults.entries j).latched := by
  simp only [State.endHead]
  repeat' (first | split | simp)

@[simp] theorem State.endQueue_latched (s : State) (st : StoreStatus) (j : Fin 32) :
    (vget (s.endQueue st).faults.entries j).latched = (vget s.faults.entries j).latched := by
  simp only [State.endQueue]
  repeat' (first | split | simp)

@[simp] theorem State.storeOut_latched (s : State) (j : Fin 32) :
    (vget (s.storeOut).faults.entries j).latched = (vget s.faults.entries j).latched := by
  simp only [State.storeOut]
  repeat' (first | split | simp)

@[simp] theorem State.storeGoOn_latched (s : State) (u : StoreUnit) (j : Fin 32) :
    (vget (s.storeGoOn u).faults.entries j).latched = (vget s.faults.entries j).latched := by
  simp only [State.storeGoOn]
  repeat' (first | split | simp)

@[simp] theorem State.handOver_latched (s : State) (r : Record) (j : Fin 32) :
    (vget (s.handOver r).faults.entries j).latched = (vget s.faults.entries j).latched := by
  simp only [State.handOver]
  repeat' (first | split | simp)

@[simp] theorem State.storeDone_latched (s : State) (j : Fin 32) :
    (vget (s.storeDone).faults.entries j).latched = (vget s.faults.entries j).latched := by
  simp only [State.storeDone]
  repeat' (first | split | simp)

@[simp] theorem State.storeFailed_latched (s : State) (j : Fin 32) :
    (vget (s.storeFailed).faults.entries j).latched = (vget s.faults.entries j).latched := by
  simp only [State.storeFailed]
  repeat' (first | split | simp)

@[simp] theorem State.eraseDone_latched (s : State) (j : Fin 32) :
    (vget (s.eraseDone).faults.entries j).latched = (vget s.faults.entries j).latched := by
  simp only [State.eraseDone]
  repeat' (first | split | simp)

@[simp] theorem State.eraseFailed_latched (s : State) (j : Fin 32) :
    (vget (s.eraseFailed).faults.entries j).latched = (vget s.faults.entries j).latched := by
  simp only [State.eraseFailed]
  repeat' (first | split | simp)

@[simp] theorem State.openFailed_latched (s : State) (j : Fin 32) :
    (vget (s.openFailed).faults.entries j).latched = (vget s.faults.entries j).latched := by
  simp only [State.openFailed]
  repeat' (first | split | simp)

@[simp] theorem State.scanAbsent_latched (s : State) (j : Fin 32) :
    (vget (s.scanAbsent).faults.entries j).latched = (vget s.faults.entries j).latched := by
  simp only [State.scanAbsent]
  repeat' (first | split | simp)

@[simp] theorem State.dropStored_latched (s : State) (greatest : Nat) (j : Fin 32) :
    (vget (s.dropStored greatest).faults.entries j).latched = (vget s.faults.entries j).latched := by
  simp only [State.dropStored]
  repeat' (first | split | simp)

@[simp] theorem State.scanDone_latched (s : State) (j : Fin 32) :
    (vget (s.scanDone).faults.entries j).latched = (vget s.faults.entries j).latched := by
  simp only [State.scanDone]
  repeat' (first | split | simp)

@[simp] theorem State.scanSector_latched (s : State) (u : StoreUnit) (i : Nat) (j : Fin 32) :
    (vget (s.scanSector u i).faults.entries j).latched = (vget s.faults.entries j).latched := by
  simp only [State.scanSector]
  repeat' (first | split | simp)

@[simp] theorem State.scanHeaderDone_latched (s : State) (bs : List Byte) (i : Nat) (j : Fin 32) :
    (vget (s.scanHeaderDone bs i).faults.entries j).latched = (vget s.faults.entries j).latched := by
  simp only [State.scanHeaderDone]
  repeat' (first | split | simp)

@[simp] theorem State.scanSlotDone_latched (s : State) (bs : List Byte) (i page : Nat) (j : Fin 32) :
    (vget (s.scanSlotDone bs i page).faults.entries j).latched = (vget s.faults.entries j).latched := by
  simp only [State.scanSlotDone]
  repeat' (first | split | simp)

@[simp] theorem State.scanIdentDone_latched (s : State) (bs : List Byte) (j : Fin 32) :
    (vget (s.scanIdentDone bs).faults.entries j).latched = (vget s.faults.entries j).latched := by
  simp only [State.scanIdentDone]
  repeat' (first | split | simp)

@[simp] theorem State.transferDone_latched (s : State) (bs : List Byte) (j : Fin 32) :
    (vget (s.transferDone bs).faults.entries j).latched = (vget s.faults.entries j).latched := by
  simp only [State.transferDone]
  repeat' (first | split | simp)

@[simp] theorem State.pollFailed_latched (s : State) (j : Fin 32) :
    (vget (s.pollFailed).faults.entries j).latched = (vget s.faults.entries j).latched := by
  simp only [State.pollFailed]
  repeat' (first | split | simp)

@[simp] theorem State.closeRecord_latched (s : State) (j : Fin 32) :
    (vget (s.closeRecord).faults.entries j).latched = (vget s.faults.entries j).latched := by
  simp only [State.closeRecord]
  repeat' (first | split | simp)

@[simp] theorem State.levelAtRest_latched (s : State) (j : Fin 32) :
    (vget (s.levelAtRest).faults.entries j).latched = (vget s.faults.entries j).latched := by
  simp only [State.levelAtRest]
  repeat' (first | split | simp)

@[simp] theorem State.formSingle_latched (s : State) (j : Fin 32) :
    (vget (s.formSingle).faults.entries j).latched = (vget s.faults.entries j).latched := by
  simp only [State.formSingle]
  repeat' (first | split | simp)

@[simp] theorem State.encodersAtRest_latched (s : State) (j : Fin 32) :
    (vget (s.encodersAtRest).faults.entries j).latched = (vget s.faults.entries j).latched := by
  simp only [State.encodersAtRest]
  repeat' (first | split | simp)

@[simp] theorem State.backrollOff_latched (s : State) (j : Fin 32) :
    (vget (s.backrollOff).faults.entries j).latched = (vget s.faults.entries j).latched := by
  simp only [State.backrollOff]
  repeat' (first | split | simp)

@[simp] theorem State.restEntry_latched (s : State) (j : Fin 32) :
    (vget (s.restEntry).faults.entries j).latched = (vget s.faults.entries j).latched := by
  simp only [State.restEntry]
  repeat' (first | split | simp)

@[simp] theorem State.closeWindow_latched (s : State) (j : Fin 32) :
    (vget (s.closeWindow).faults.entries j).latched = (vget s.faults.entries j).latched := by
  simp only [State.closeWindow]
  repeat' (first | split | simp)

@[simp] theorem State.closeIfZero_latched (s : State) (j : Fin 32) :
    (vget (s.closeIfZero).faults.entries j).latched = (vget s.faults.entries j).latched := by
  simp only [State.closeIfZero]
  repeat' (first | split | simp)

@[simp] theorem State.openWindow_latched (s : State) (j : Fin 32) :
    (vget (s.openWindow).faults.entries j).latched = (vget s.faults.entries j).latched := by
  simp only [State.openWindow]
  repeat' (first | split | simp)

end Sys2Proof.Machine
end

