-- ==== Sys2Proof/Laws/FrameUnits.lean ====
section
/-! SUPPORT. Frames of the operations on the regulators, the governor, the measurement unit and the vibration watch:
what each leaves unchanged, and that each keeps the canonical form of the exchange memory. -/

namespace Sys2Proof.Machine

@[simp] theorem State.setLink_frame (s : State) (x : Side) (l : Link) :
    (s.setLink x l).pending = s.pending ∧ (s.setLink x l).inputs = s.inputs ∧ (s.setLink x l).drive = s.drive ∧
    (s.setLink x l).seq = s.seq ∧ (s.setLink x l).gov = s.gov ∧ (s.setLink x l).regs = s.regs ∧
    (s.setLink x l).watch = s.watch ∧ (s.setLink x l).faults = s.faults ∧ (s.setLink x l).level = s.level ∧
    (s.setLink x l).record = s.record ∧ (s.setLink x l).store = s.store ∧ (s.setLink x l).req = s.req ∧
    (s.setLink x l).mem = s.mem := by
  simp only [State.setLink]
  repeat' (first | split | simp)

@[simp] theorem State.acceptFrame_frame (s : State) (x : Side) (sample : SampleSet) :
    (s.acceptFrame x sample).pending = s.pending ∧ (s.acceptFrame x sample).inputs = s.inputs ∧
    (s.acceptFrame x sample).drive = s.drive ∧ (s.acceptFrame x sample).seq = s.seq ∧
    (s.acceptFrame x sample).gov = s.gov ∧ (s.acceptFrame x sample).regs = s.regs ∧
    (s.acceptFrame x sample).watch = s.watch ∧ (s.acceptFrame x sample).faults = s.faults ∧
    (s.acceptFrame x sample).level = s.level ∧ (s.acceptFrame x sample).record = s.record ∧
    (s.acceptFrame x sample).store = s.store ∧ (s.acceptFrame x sample).req = s.req ∧
    (s.acceptFrame x sample).mem = s.mem := by
  simp only [State.acceptFrame]
  repeat' (first | split | simp)

@[simp] theorem State.arrivalWork_frame (s : State) (x : Side) (f : SampleSet) :
    (s.arrivalWork x f).pending = s.pending ∧ (s.arrivalWork x f).inputs = s.inputs ∧
    (s.arrivalWork x f).drive = s.drive ∧ (s.arrivalWork x f).meas = s.meas ∧ (s.arrivalWork x f).seq = s.seq ∧
    (s.arrivalWork x f).gov = s.gov ∧ (s.arrivalWork x f).watch = s.watch ∧ (s.arrivalWork x f).faults = s.faults ∧
    (s.arrivalWork x f).level = s.level ∧ (s.arrivalWork x f).record = s.record ∧
    (s.arrivalWork x f).store = s.store ∧ (s.arrivalWork x f).req = s.req ∧ (s.arrivalWork x f).mem = s.mem := by
  simp only [State.arrivalWork]
  repeat' (first | split | simp)

@[simp] theorem State.arrivalSeen_frame (s : State) (x : Side) (oc : Bool) :
    (s.arrivalSeen x oc).pending = s.pending ∧ (s.arrivalSeen x oc).inputs = s.inputs ∧
    (s.arrivalSeen x oc).drive = s.drive ∧ (s.arrivalSeen x oc).meas = s.meas ∧ (s.arrivalSeen x oc).seq = s.seq ∧
    (s.arrivalSeen x oc).gov = s.gov ∧ (s.arrivalSeen x oc).watch = s.watch ∧ (s.arrivalSeen x oc).faults = s.faults ∧
    (s.arrivalSeen x oc).level = s.level ∧ (s.arrivalSeen x oc).record = s.record ∧
    (s.arrivalSeen x oc).store = s.store ∧ (s.arrivalSeen x oc).req = s.req ∧ (s.arrivalSeen x oc).mem = s.mem := by
  simp only [State.arrivalSeen]
  repeat' (first | split | simp)

@[simp] theorem State.reportOvercurrent_frame (s : State) (x : Side) (oc : Bool) :
    (s.reportOvercurrent x oc).pending = s.pending ∧ (s.reportOvercurrent x oc).inputs = s.inputs := by
  simp only [State.reportOvercurrent]
  repeat' (first | split | simp)

@[simp] theorem State.reportOvercurrent_mem_wf (s : State) (x : Side) (oc : Bool) (hm : s.mem.wf = true) :
    (s.reportOvercurrent x oc).mem.wf = true := by
  simp only [State.reportOvercurrent]
  repeat' (first | split | simp (maxDischargeDepth := 40) +contextual [hm])

@[simp] theorem State.arrival_frame (s : State) (x : Side) (f : SampleSet) :
    (s.arrival x f).pending = s.pending ∧ (s.arrival x f).inputs = s.inputs := by
  simp only [State.arrival]
  repeat' (first | split | simp)

@[simp] theorem State.arrival_mem_wf (s : State) (x : Side) (f : SampleSet) (hm : s.mem.wf = true) :
    (s.arrival x f).mem.wf = true := by
  simp only [State.arrival]
  repeat' (first | split | simp (maxDischargeDepth := 40) +contextual [hm])

@[simp] theorem State.setCounts_frame (s : State) (x : Side) (c : LevelCounts) :
    (s.setCounts x c).pending = s.pending ∧ (s.setCounts x c).inputs = s.inputs ∧ (s.setCounts x c).drive = s.drive ∧
    (s.setCounts x c).meas = s.meas ∧ (s.setCounts x c).seq = s.seq ∧ (s.setCounts x c).gov = s.gov ∧
    (s.setCounts x c).regs = s.regs ∧ (s.setCounts x c).watch = s.watch ∧ (s.setCounts x c).faults = s.faults ∧
    (s.setCounts x c).record = s.record ∧ (s.setCounts x c).store = s.store ∧ (s.setCounts x c).req = s.req ∧
    (s.setCounts x c).mem = s.mem := by
  simp only [State.setCounts]
  repeat' (first | split | simp)

@[simp] theorem State.undervoltTest_frame (s : State) (x : Side) (vdc : Int) :
    (s.undervoltTest x vdc).pending = s.pending ∧ (s.undervoltTest x vdc).inputs = s.inputs := by
  simp only [State.undervoltTest]
  repeat' (first | split | simp)

@[simp] theorem State.undervoltTest_mem_wf (s : State) (x : Side) (vdc : Int) (hm : s.mem.wf = true) :
    (s.undervoltTest x vdc).mem.wf = true := by
  simp only [State.undervoltTest]
  repeat' (first | split | simp (maxDischargeDepth := 40) +contextual [hm])

@[simp] theorem State.lowTestAbsent_frame (s : State) (x : Side) (vdc : Int) :
    (s.lowTestAbsent x vdc).pending = s.pending ∧ (s.lowTestAbsent x vdc).inputs = s.inputs ∧
    (s.lowTestAbsent x vdc).drive = s.drive ∧ (s.lowTestAbsent x vdc).meas = s.meas ∧
    (s.lowTestAbsent x vdc).seq = s.seq ∧ (s.lowTestAbsent x vdc).gov = s.gov ∧
    (s.lowTestAbsent x vdc).regs = s.regs ∧ (s.lowTestAbsent x vdc).watch = s.watch ∧
    (s.lowTestAbsent x vdc).record = s.record ∧ (s.lowTestAbsent x vdc).store = s.store ∧
    (s.lowTestAbsent x vdc).mem = s.mem := by
  simp only [State.lowTestAbsent]
  repeat' (first | split | simp)

@[simp] theorem State.lowTestPresent_frame (s : State) (x : Side) (vdc : Int) :
    (s.lowTestPresent x vdc).pending = s.pending ∧ (s.lowTestPresent x vdc).inputs = s.inputs ∧
    (s.lowTestPresent x vdc).drive = s.drive ∧ (s.lowTestPresent x vdc).meas = s.meas ∧
    (s.lowTestPresent x vdc).seq = s.seq ∧ (s.lowTestPresent x vdc).gov = s.gov ∧
    (s.lowTestPresent x vdc).regs = s.regs ∧ (s.lowTestPresent x vdc).watch = s.watch ∧
    (s.lowTestPresent x vdc).record = s.record ∧ (s.lowTestPresent x vdc).store = s.store ∧
    (s.lowTestPresent x vdc).req = s.req ∧ (s.lowTestPresent x vdc).mem = s.mem := by
  simp only [State.lowTestPresent]
  repeat' (first | split | simp)

@[simp] theorem State.lowTest_frame (s : State) (x : Side) (vdc : Int) :
    (s.lowTest x vdc).pending = s.pending ∧ (s.lowTest x vdc).inputs = s.inputs ∧ (s.lowTest x vdc).drive = s.drive ∧
    (s.lowTest x vdc).meas = s.meas ∧ (s.lowTest x vdc).seq = s.seq ∧ (s.lowTest x vdc).gov = s.gov ∧
    (s.lowTest x vdc).regs = s.regs ∧ (s.lowTest x vdc).watch = s.watch ∧ (s.lowTest x vdc).record = s.record ∧
    (s.lowTest x vdc).store = s.store ∧ (s.lowTest x vdc).mem = s.mem := by
  simp only [State.lowTest]
  repeat' (first | split | simp)

@[simp] theorem State.overvoltTest_frame (s : State) (x : Side) (vdc : Int) :
    (s.overvoltTest x vdc).pending = s.pending ∧ (s.overvoltTest x vdc).inputs = s.inputs := by
  simp only [State.overvoltTest]
  repeat' (first | split | simp)

@[simp] theorem State.overvoltTest_mem_wf (s : State) (x : Side) (vdc : Int) (hm : s.mem.wf = true) :
    (s.overvoltTest x vdc).mem.wf = true := by
  simp only [State.overvoltTest]
  repeat' (first | split | simp (maxDischargeDepth := 40) +contextual [hm])

@[simp] theorem State.frameEnd_frame (s : State) (x : Side) (f : SampleFrame) :
    (s.frameEnd x f).pending = s.pending ∧ (s.frameEnd x f).inputs = s.inputs := by
  simp only [State.frameEnd, State.unlessReset]
  repeat' (first | split | simp)

@[simp] theorem State.frameEnd_mem_wf (s : State) (x : Side) (f : SampleFrame) (hm : s.mem.wf = true) :
    (s.frameEnd x f).mem.wf = true := by
  simp only [State.frameEnd, State.unlessReset]
  repeat' (first | split | simp (maxDischargeDepth := 40) +contextual [hm])

@[simp] theorem State.periodSeen_frame (s : State) (x : Side) :
    (s.periodSeen x).pending = s.pending ∧ (s.periodSeen x).inputs = s.inputs ∧ (s.periodSeen x).drive = s.drive ∧
    (s.periodSeen x).meas = s.meas ∧ (s.periodSeen x).seq = s.seq ∧ (s.periodSeen x).gov = s.gov ∧
    (s.periodSeen x).watch = s.watch ∧ (s.periodSeen x).level = s.level ∧ (s.periodSeen x).record = s.record ∧
    (s.periodSeen x).store = s.store ∧ (s.periodSeen x).req = s.req ∧ (s.periodSeen x).mem = s.mem := by
  simp only [State.periodSeen]
  repeat' (first | split | simp)

@[simp] theorem State.measLossRise_frame (s : State) (x : Side) :
    (s.measLossRise x).pending = s.pending ∧ (s.measLossRise x).inputs = s.inputs := by
  simp only [State.measLossRise]
  repeat' (first | split | simp)

@[simp] theorem State.measLossRise_mem_wf (s : State) (x : Side) (hm : s.mem.wf = true) :
    (s.measLossRise x).mem.wf = true := by
  simp only [State.measLossRise]
  repeat' (first | split | simp (maxDischargeDepth := 40) +contextual [hm])

@[simp] theorem State.periodMissing_frame (s : State) (x : Side) :
    (s.periodMissing x).pending = s.pending ∧ (s.periodMissing x).inputs = s.inputs := by
  simp only [State.periodMissing]
  repeat' (first | split | simp)

@[simp] theorem State.periodMissing_mem_wf (s : State) (x : Side) (hm : s.mem.wf = true) :
    (s.periodMissing x).mem.wf = true := by
  simp only [State.periodMissing]
  repeat' (first | split | simp (maxDischargeDepth := 40) +contextual [hm])

@[simp] theorem State.missingTest_frame (s : State) (x : Side) :
    (s.missingTest x).pending = s.pending ∧ (s.missingTest x).inputs = s.inputs := by
  simp only [State.missingTest]
  repeat' (first | split | simp)

@[simp] theorem State.missingTest_mem_wf (s : State) (x : Side) (hm : s.mem.wf = true) :
    (s.missingTest x).mem.wf = true := by
  simp only [State.missingTest]
  repeat' (first | split | simp (maxDischargeDepth := 40) +contextual [hm])

@[simp] theorem State.openPeriod_frame (s : State) (x : Side) :
    (s.openPeriod x).pending = s.pending ∧ (s.openPeriod x).inputs = s.inputs ∧ (s.openPeriod x).drive = s.drive ∧
    (s.openPeriod x).seq = s.seq ∧ (s.openPeriod x).gov = s.gov ∧ (s.openPeriod x).watch = s.watch ∧
    (s.openPeriod x).faults = s.faults ∧ (s.openPeriod x).level = s.level ∧ (s.openPeriod x).record = s.record ∧
    (s.openPeriod x).store = s.store ∧ (s.openPeriod x).req = s.req ∧ (s.openPeriod x).mem = s.mem := by
  simp only [State.openPeriod]
  repeat' (first | split | simp)

@[simp] theorem State.currentPeriod_frame (s : State) (x : Side) :
    (s.currentPeriod x).pending = s.pending ∧ (s.currentPeriod x).inputs = s.inputs := by
  simp only [State.currentPeriod, State.unlessReset]
  repeat' (first | split | simp)

@[simp] theorem State.currentPeriod_mem_wf (s : State) (x : Side) (hm : s.mem.wf = true) :
    (s.currentPeriod x).mem.wf = true := by
  simp only [State.currentPeriod, State.unlessReset]
  repeat' (first | split | simp (maxDischargeDepth := 40) +contextual [hm])

@[simp] theorem State.gateFaultRise_frame (s : State) (x : Side) :
    (s.gateFaultRise x).pending = s.pending ∧ (s.gateFaultRise x).inputs = s.inputs := by
  simp only [State.gateFaultRise]
  repeat' (first | split | simp)

@[simp] theorem State.gateFaultRise_mem_wf (s : State) (x : Side) (hm : s.mem.wf = true) :
    (s.gateFaultRise x).mem.wf = true := by
  simp only [State.gateFaultRise]
  repeat' (first | split | simp (maxDischargeDepth := 40) +contextual [hm])

@[simp] theorem State.takeRegulator_frame (s : State) (x : Side) :
    (s.takeRegulator x).pending = s.pending ∧ (s.takeRegulator x).inputs = s.inputs ∧
    (s.takeRegulator x).drive = s.drive ∧ (s.takeRegulator x).meas = s.meas ∧ (s.takeRegulator x).seq = s.seq ∧
    (s.takeRegulator x).gov = s.gov ∧ (s.takeRegulator x).watch = s.watch ∧ (s.takeRegulator x).level = s.level ∧
    (s.takeRegulator x).store = s.store := by
  simp only [State.takeRegulator]
  repeat' (first | split | simp)

@[simp] theorem State.takeRegulator_mem_wf (s : State) (x : Side) (hm : s.mem.wf = true) :
    (s.takeRegulator x).mem.wf = true := by
  simp only [State.takeRegulator]
  repeat' (first | split | simp (maxDischargeDepth := 40) +contextual [hm])

@[simp] theorem State.governorReports_frame (s : State) (devA devB jam fast : Bool) :
    (s.governorReports devA devB jam fast).pending = s.pending ∧
    (s.governorReports devA devB jam fast).inputs = s.inputs := by
  simp only [State.governorReports, State.unlessReset]
  repeat' (first | split | simp)

@[simp] theorem State.governorReports_mem_wf (s : State) (devA devB jam fast : Bool) (hm : s.mem.wf = true) :
    (s.governorReports devA devB jam fast).mem.wf = true := by
  simp only [State.governorReports, State.unlessReset]
  repeat' (first | split | simp (maxDischargeDepth := 40) +contextual [hm])

@[simp] theorem State.governorEnd_frame (slot : Option (Fin 8)) (s : State) :
    (State.governorEnd slot s).pending = s.pending ∧ (State.governorEnd slot s).inputs = s.inputs := by
  simp only [State.governorEnd]
  repeat' (first | split | simp)

@[simp] theorem State.governorEnd_mem_wf (slot : Option (Fin 8)) (s : State) (hm : s.mem.wf = true) :
    (State.governorEnd slot s).mem.wf = true := by
  simp only [State.governorEnd]
  repeat' (first | split | simp (maxDischargeDepth := 40) +contextual [hm])

@[simp] theorem State.governorPublish_frame (s : State) (t : Pair Taken) :
    (s.governorPublish t).pending = s.pending ∧ (s.governorPublish t).inputs = s.inputs := by
  simp only [State.governorPublish]
  repeat' (first | split | simp)

@[simp] theorem State.governorPublish_mem_wf (s : State) (t : Pair Taken) (hm : s.mem.wf = true) :
    (s.governorPublish t).mem.wf = true := by
  simp only [State.governorPublish]
  repeat' (first | split | simp (maxDischargeDepth := 40) +contextual [hm])

@[simp] theorem State.governorPeriod_frame (s : State) :
    (s.governorPeriod).pending = s.pending ∧ (s.governorPeriod).inputs = s.inputs := by
  simp only [State.governorPeriod, State.unlessReset]
  repeat' (first | split | simp)

@[simp] theorem State.governorPeriod_mem_wf (s : State) (hm : s.mem.wf = true) :
    (s.governorPeriod).mem.wf = true := by
  simp only [State.governorPeriod, State.unlessReset]
  repeat' (first | split | simp (maxDischargeDepth := 40) +contextual [hm])

@[simp] theorem State.reportPosition_frame (s : State) :
    (s.reportPosition).pending = s.pending ∧ (s.reportPosition).inputs = s.inputs ∧
    (s.reportPosition).drive = s.drive ∧ (s.reportPosition).meas = s.meas ∧ (s.reportPosition).seq = s.seq ∧
    (s.reportPosition).gov = s.gov ∧ (s.reportPosition).regs = s.regs ∧ (s.reportPosition).watch = s.watch ∧
    (s.reportPosition).level = s.level ∧ (s.reportPosition).record = s.record ∧ (s.reportPosition).store = s.store ∧
    (s.reportPosition).mem = s.mem := by
  simp only [State.reportPosition]
  repeat' (first | split | simp)

@[simp] theorem State.setEncoder_frame (s : State) (x : Side) (e : Encoder) :
    (s.setEncoder x e).pending = s.pending ∧ (s.setEncoder x e).inputs = s.inputs ∧
    (s.setEncoder x e).drive = s.drive ∧ (s.setEncoder x e).seq = s.seq ∧ (s.setEncoder x e).gov = s.gov ∧
    (s.setEncoder x e).regs = s.regs ∧ (s.setEncoder x e).watch = s.watch ∧ (s.setEncoder x e).faults = s.faults ∧
    (s.setEncoder x e).level = s.level ∧ (s.setEncoder x e).record = s.record ∧ (s.setEncoder x e).store = s.store ∧
    (s.setEncoder x e).req = s.req ∧ (s.setEncoder x e).mem = s.mem := by
  simp only [State.setEncoder]
  repeat' (first | split | simp)

@[simp] theorem State.disagreeTest_frame (s : State) :
    (s.disagreeTest).pending = s.pending ∧ (s.disagreeTest).inputs = s.inputs := by
  simp only [State.disagreeTest]
  repeat' (first | split | simp)

@[simp] theorem State.disagreeTest_mem_wf (s : State) (hm : s.mem.wf = true) :
    (s.disagreeTest).mem.wf = true := by
  simp only [State.disagreeTest]
  repeat' (first | split | simp (maxDischargeDepth := 40) +contextual [hm])

@[simp] theorem State.measured_frame (s : State) :
    (s.measured).pending = s.pending ∧ (s.measured).inputs = s.inputs ∧ (s.measured).drive = s.drive ∧
    (s.measured).seq = s.seq ∧ (s.measured).gov = s.gov ∧ (s.measured).regs = s.regs ∧ (s.measured).watch = s.watch ∧
    (s.measured).faults = s.faults ∧ (s.measured).level = s.level ∧ (s.measured).record = s.record ∧
    (s.measured).store = s.store ∧ (s.measured).req = s.req ∧ (s.measured).mem = s.mem := by
  simp only [State.measured]
  repeat' (first | split | simp)

@[simp] theorem State.speedUpdate_frame (s : State) :
    (s.speedUpdate).pending = s.pending ∧ (s.speedUpdate).inputs = s.inputs := by
  simp only [State.speedUpdate, State.unlessReset]
  repeat' (first | split | simp)

@[simp] theorem State.speedUpdate_mem_wf (s : State) (hm : s.mem.wf = true) :
    (s.speedUpdate).mem.wf = true := by
  simp only [State.speedUpdate, State.unlessReset]
  repeat' (first | split | simp (maxDischargeDepth := 40) +contextual [hm])

@[simp] theorem State.setReceiver_frame (s : State) (c : Channel) (r : Receiver) :
    (s.setReceiver c r).pending = s.pending ∧ (s.setReceiver c r).inputs = s.inputs ∧
    (s.setReceiver c r).drive = s.drive ∧ (s.setReceiver c r).seq = s.seq ∧ (s.setReceiver c r).gov = s.gov ∧
    (s.setReceiver c r).regs = s.regs ∧ (s.setReceiver c r).watch = s.watch ∧ (s.setReceiver c r).faults = s.faults ∧
    (s.setReceiver c r).level = s.level ∧ (s.setReceiver c r).record = s.record ∧
    (s.setReceiver c r).store = s.store ∧ (s.setReceiver c r).req = s.req ∧ (s.setReceiver c r).mem = s.mem := by
  simp only [State.setReceiver]
  repeat' (first | split | simp)

@[simp] theorem State.setChannel_frame (s : State) (c : Channel) (w : ChannelWatch) :
    (s.setChannel c w).pending = s.pending ∧ (s.setChannel c w).inputs = s.inputs ∧
    (s.setChannel c w).drive = s.drive ∧ (s.setChannel c w).meas = s.meas ∧ (s.setChannel c w).seq = s.seq ∧
    (s.setChannel c w).gov = s.gov ∧ (s.setChannel c w).regs = s.regs ∧ (s.setChannel c w).faults = s.faults ∧
    (s.setChannel c w).level = s.level ∧ (s.setChannel c w).record = s.record ∧ (s.setChannel c w).store = s.store ∧
    (s.setChannel c w).req = s.req ∧ (s.setChannel c w).mem = s.mem := by
  simp only [State.setChannel]
  repeat' (first | split | simp)

@[simp] theorem State.setGroup_frame (s : State) (g : Side) (w : GroupWatch) :
    (s.setGroup g w).pending = s.pending ∧ (s.setGroup g w).inputs = s.inputs ∧ (s.setGroup g w).drive = s.drive ∧
    (s.setGroup g w).meas = s.meas ∧ (s.setGroup g w).seq = s.seq ∧ (s.setGroup g w).gov = s.gov ∧
    (s.setGroup g w).regs = s.regs ∧ (s.setGroup g w).faults = s.faults ∧ (s.setGroup g w).level = s.level ∧
    (s.setGroup g w).record = s.record ∧ (s.setGroup g w).store = s.store ∧ (s.setGroup g w).req = s.req ∧
    (s.setGroup g w).mem = s.mem := by
  simp only [State.setGroup]
  repeat' (first | split | simp)

@[simp] theorem State.formSuspect_frame (s : State) (c : Channel) :
    (s.formSuspect c).pending = s.pending ∧ (s.formSuspect c).inputs = s.inputs ∧ (s.formSuspect c).drive = s.drive ∧
    (s.formSuspect c).meas = s.meas ∧ (s.formSuspect c).seq = s.seq ∧ (s.formSuspect c).gov = s.gov ∧
    (s.formSuspect c).regs = s.regs ∧ (s.formSuspect c).level = s.level ∧ (s.formSuspect c).record = s.record ∧
    (s.formSuspect c).store = s.store ∧ (s.formSuspect c).mem = s.mem := by
  simp only [State.formSuspect]
  repeat' (first | split | simp)

@[simp] theorem State.formLost_frame (s : State) (c : Channel) :
    (s.formLost c).pending = s.pending ∧ (s.formLost c).inputs = s.inputs ∧ (s.formLost c).drive = s.drive ∧
    (s.formLost c).meas = s.meas ∧ (s.formLost c).seq = s.seq ∧ (s.formLost c).gov = s.gov ∧
    (s.formLost c).regs = s.regs ∧ (s.formLost c).level = s.level ∧ (s.formLost c).record = s.record ∧
    (s.formLost c).store = s.store ∧ (s.formLost c).mem = s.mem := by
  simp only [State.formLost]
  repeat' (first | split | simp)

@[simp] theorem State.formDemand_frame (s : State) (g : Side) :
    (s.formDemand g).pending = s.pending ∧ (s.formDemand g).inputs = s.inputs ∧ (s.formDemand g).drive = s.drive ∧
    (s.formDemand g).meas = s.meas ∧ (s.formDemand g).seq = s.seq ∧ (s.formDemand g).gov = s.gov ∧
    (s.formDemand g).regs = s.regs ∧ (s.formDemand g).faults = s.faults ∧ (s.formDemand g).level = s.level ∧
    (s.formDemand g).record = s.record ∧ (s.formDemand g).store = s.store ∧ (s.formDemand g).req = s.req ∧
    (s.formDemand g).mem = s.mem := by
  simp only [State.formDemand]
  repeat' (first | split | simp)

@[simp] theorem State.formAlert_frame (s : State) (g : Side) :
    (s.formAlert g).pending = s.pending ∧ (s.formAlert g).inputs = s.inputs ∧ (s.formAlert g).drive = s.drive ∧
    (s.formAlert g).meas = s.meas ∧ (s.formAlert g).seq = s.seq ∧ (s.formAlert g).gov = s.gov ∧
    (s.formAlert g).regs = s.regs ∧ (s.formAlert g).level = s.level ∧ (s.formAlert g).record = s.record ∧
    (s.formAlert g).store = s.store ∧ (s.formAlert g).mem = s.mem := by
  simp only [State.formAlert]
  repeat' (first | split | simp)

@[simp] theorem State.formDwell_frame (s : State) (g : Side) :
    (s.formDwell g).pending = s.pending ∧ (s.formDwell g).inputs = s.inputs ∧ (s.formDwell g).drive = s.drive ∧
    (s.formDwell g).meas = s.meas ∧ (s.formDwell g).seq = s.seq ∧ (s.formDwell g).gov = s.gov ∧
    (s.formDwell g).regs = s.regs ∧ (s.formDwell g).faults = s.faults ∧ (s.formDwell g).level = s.level ∧
    (s.formDwell g).record = s.record ∧ (s.formDwell g).store = s.store ∧ (s.formDwell g).req = s.req ∧
    (s.formDwell g).mem = s.mem := by
  simp only [State.formDwell]
  repeat' (first | split | simp)

@[simp] theorem State.formGroup_frame (s : State) (g : Side) :
    (s.formGroup g).pending = s.pending ∧ (s.formGroup g).inputs = s.inputs ∧ (s.formGroup g).drive = s.drive ∧
    (s.formGroup g).meas = s.meas ∧ (s.formGroup g).seq = s.seq ∧ (s.formGroup g).gov = s.gov ∧
    (s.formGroup g).regs = s.regs ∧ (s.formGroup g).level = s.level ∧ (s.formGroup g).record = s.record ∧
    (s.formGroup g).store = s.store ∧ (s.formGroup g).mem = s.mem := by
  simp only [State.formGroup]
  repeat' (first | split | simp)

@[simp] theorem State.healthChanged_frame (s : State) (c : Channel) :
    (s.healthChanged c).pending = s.pending ∧ (s.healthChanged c).inputs = s.inputs ∧
    (s.healthChanged c).drive = s.drive ∧ (s.healthChanged c).meas = s.meas ∧ (s.healthChanged c).seq = s.seq ∧
    (s.healthChanged c).gov = s.gov ∧ (s.healthChanged c).regs = s.regs ∧ (s.healthChanged c).level = s.level ∧
    (s.healthChanged c).store = s.store := by
  simp only [State.healthChanged]
  repeat' (first | split | simp)

@[simp] theorem State.healthChanged_mem_wf (s : State) (c : Channel) (hm : s.mem.wf = true) :
    (s.healthChanged c).mem.wf = true := by
  simp only [State.healthChanged]
  repeat' (first | split | simp (maxDischargeDepth := 40) +contextual [hm])

@[simp] theorem State.heldLost_frame (s : State) (c : Channel) :
    (s.heldLost c).pending = s.pending ∧ (s.heldLost c).inputs = s.inputs ∧ (s.heldLost c).drive = s.drive ∧
    (s.heldLost c).meas = s.meas ∧ (s.heldLost c).seq = s.seq ∧ (s.heldLost c).gov = s.gov ∧
    (s.heldLost c).regs = s.regs ∧ (s.heldLost c).level = s.level ∧ (s.heldLost c).store = s.store := by
  simp only [State.heldLost]
  repeat' (first | split | simp)

@[simp] theorem State.heldLost_mem_wf (s : State) (c : Channel) (hm : s.mem.wf = true) :
    (s.heldLost c).mem.wf = true := by
  simp only [State.heldLost]
  repeat' (first | split | simp (maxDischargeDepth := 40) +contextual [hm])

@[simp] theorem State.vibEntry_frame (s : State) (c : Channel) (v0 : VibState) :
    (s.vibEntry c v0).pending = s.pending ∧ (s.vibEntry c v0).inputs = s.inputs ∧ (s.vibEntry c v0).drive = s.drive ∧
    (s.vibEntry c v0).meas = s.meas ∧ (s.vibEntry c v0).seq = s.seq ∧ (s.vibEntry c v0).gov = s.gov ∧
    (s.vibEntry c v0).regs = s.regs ∧ (s.vibEntry c v0).watch = s.watch ∧ (s.vibEntry c v0).faults = s.faults ∧
    (s.vibEntry c v0).level = s.level ∧ (s.vibEntry c v0).store = s.store := by
  simp only [State.vibEntry]
  repeat' (first | split | simp)

@[simp] theorem State.vibEntry_mem_wf (s : State) (c : Channel) (v0 : VibState) (hm : s.mem.wf = true) :
    (s.vibEntry c v0).mem.wf = true := by
  simp only [State.vibEntry]
  repeat' (first | split | simp (maxDischargeDepth := 40) +contextual [hm])

@[simp] theorem State.evaluateChannel_frame (s : State) (c : Channel) :
    (s.evaluateChannel c).pending = s.pending ∧ (s.evaluateChannel c).inputs = s.inputs ∧
    (s.evaluateChannel c).drive = s.drive ∧ (s.evaluateChannel c).meas = s.meas ∧ (s.evaluateChannel c).seq = s.seq ∧
    (s.evaluateChannel c).gov = s.gov ∧ (s.evaluateChannel c).regs = s.regs ∧ (s.evaluateChannel c).level = s.level ∧
    (s.evaluateChannel c).store = s.store := by
  simp only [State.evaluateChannel]
  repeat' (first | split | simp)

@[simp] theorem State.evaluateChannel_mem_wf (s : State) (c : Channel) (hm : s.mem.wf = true) :
    (s.evaluateChannel c).mem.wf = true := by
  simp only [State.evaluateChannel]
  repeat' (first | split | simp (maxDischargeDepth := 40) +contextual [hm])

@[simp] theorem State.testMemory_frame (s : State) (c : Channel) (evaluated : Bool) :
    (s.testMemory c evaluated).pending = s.pending ∧ (s.testMemory c evaluated).inputs = s.inputs ∧
    (s.testMemory c evaluated).drive = s.drive ∧ (s.testMemory c evaluated).meas = s.meas ∧
    (s.testMemory c evaluated).seq = s.seq ∧ (s.testMemory c evaluated).gov = s.gov ∧
    (s.testMemory c evaluated).regs = s.regs ∧ (s.testMemory c evaluated).level = s.level ∧
    (s.testMemory c evaluated).record = s.record ∧ (s.testMemory c evaluated).store = s.store ∧
    (s.testMemory c evaluated).mem = s.mem := by
  simp only [State.testMemory]
  repeat' (first | split | simp)

@[simp] theorem State.blockEndChannel_frame (s : State) (c : Channel) :
    (s.blockEndChannel c).pending = s.pending ∧ (s.blockEndChannel c).inputs = s.inputs ∧
    (s.blockEndChannel c).drive = s.drive ∧ (s.blockEndChannel c).meas = s.meas ∧ (s.blockEndChannel c).seq = s.seq ∧
    (s.blockEndChannel c).gov = s.gov ∧ (s.blockEndChannel c).regs = s.regs ∧ (s.blockEndChannel c).level = s.level ∧
    (s.blockEndChannel c).store = s.store := by
  simp only [State.blockEndChannel]
  repeat' (first | split | simp)

@[simp] theorem State.blockEndChannel_mem_wf (s : State) (c : Channel) (hm : s.mem.wf = true) :
    (s.blockEndChannel c).mem.wf = true := by
  simp only [State.blockEndChannel]
  repeat' (first | split | simp (maxDischargeDepth := 40) +contextual [hm])

@[simp] theorem State.formSectors_frame (s : State) (c : Channel) :
    (s.formSectors c).pending = s.pending ∧ (s.formSectors c).inputs = s.inputs ∧ (s.formSectors c).drive = s.drive ∧
    (s.formSectors c).meas = s.meas ∧ (s.formSectors c).seq = s.seq ∧ (s.formSectors c).gov = s.gov ∧
    (s.formSectors c).regs = s.regs ∧ (s.formSectors c).level = s.level ∧ (s.formSectors c).store = s.store := by
  simp only [State.formSectors]
  repeat' (first | split | simp)

@[simp] theorem State.formSectors_mem_wf (s : State) (c : Channel) (hm : s.mem.wf = true) :
    (s.formSectors c).mem.wf = true := by
  simp only [State.formSectors]
  repeat' (first | split | simp (maxDischargeDepth := 40) +contextual [hm])

@[simp] theorem State.visitWork_frame (s : State) (c : Channel) (t : Tag) (y : Int) :
    (s.visitWork c t y).pending = s.pending ∧ (s.visitWork c t y).inputs = s.inputs ∧
    (s.visitWork c t y).drive = s.drive ∧ (s.visitWork c t y).meas = s.meas ∧ (s.visitWork c t y).seq = s.seq ∧
    (s.visitWork c t y).gov = s.gov ∧ (s.visitWork c t y).regs = s.regs ∧ (s.visitWork c t y).level = s.level ∧
    (s.visitWork c t y).store = s.store := by
  simp only [State.visitWork]
  repeat' (first | split | simp)

@[simp] theorem State.visitWork_mem_wf (s : State) (c : Channel) (t : Tag) (y : Int) (hm : s.mem.wf = true) :
    (s.visitWork c t y).mem.wf = true := by
  simp only [State.visitWork]
  repeat' (first | split | simp (maxDischargeDepth := 40) +contextual [hm])

@[simp] theorem State.sampleWork_frame (s : State) (c : Channel) (r : Receiver) :
    (s.sampleWork c r).pending = s.pending ∧ (s.sampleWork c r).inputs = s.inputs ∧
    (s.sampleWork c r).drive = s.drive ∧ (s.sampleWork c r).meas = s.meas ∧ (s.sampleWork c r).seq = s.seq ∧
    (s.sampleWork c r).gov = s.gov ∧ (s.sampleWork c r).regs = s.regs ∧ (s.sampleWork c r).level = s.level ∧
    (s.sampleWork c r).store = s.store := by
  simp only [State.sampleWork]
  repeat' (first | split | simp)

@[simp] theorem State.sampleWork_mem_wf (s : State) (c : Channel) (r : Receiver) (hm : s.mem.wf = true) :
    (s.sampleWork c r).mem.wf = true := by
  simp only [State.sampleWork]
  repeat' (first | split | simp (maxDischargeDepth := 40) +contextual [hm])

@[simp] theorem State.takeReceivers_frame (s : State) :
    (s.takeReceivers).pending = s.pending ∧ (s.takeReceivers).inputs = s.inputs ∧ (s.takeReceivers).drive = s.drive ∧
    (s.takeReceivers).seq = s.seq ∧ (s.takeReceivers).gov = s.gov ∧ (s.takeReceivers).regs = s.regs ∧
    (s.takeReceivers).watch = s.watch ∧ (s.takeReceivers).faults = s.faults ∧ (s.takeReceivers).level = s.level ∧
    (s.takeReceivers).record = s.record ∧ (s.takeReceivers).store = s.store ∧ (s.takeReceivers).req = s.req ∧
    (s.takeReceivers).mem = s.mem := by
  simp only [State.takeReceivers]
  repeat' (first | split | simp)

@[simp] theorem State.takeSamples_frame (s : State) :
    (s.takeSamples).pending = s.pending ∧ (s.takeSamples).inputs = s.inputs ∧ (s.takeSamples).drive = s.drive ∧
    (s.takeSamples).seq = s.seq ∧ (s.takeSamples).gov = s.gov ∧ (s.takeSamples).regs = s.regs ∧
    (s.takeSamples).level = s.level ∧ (s.takeSamples).store = s.store := by
  simp only [State.takeSamples]
  repeat' (first | split | simp)

@[simp] theorem State.takeSamples_mem_wf (s : State) (hm : s.mem.wf = true) :
    (s.takeSamples).mem.wf = true := by
  simp only [State.takeSamples]
  repeat' (first | split | simp (maxDischargeDepth := 40) +contextual [hm])

@[simp] theorem State.resetChannel_frame (s : State) (c : Channel) (fitted : Bool) :
    (s.resetChannel c fitted).pending = s.pending ∧ (s.resetChannel c fitted).inputs = s.inputs ∧
    (s.resetChannel c fitted).drive = s.drive ∧ (s.resetChannel c fitted).seq = s.seq ∧
    (s.resetChannel c fitted).gov = s.gov ∧ (s.resetChannel c fitted).regs = s.regs ∧
    (s.resetChannel c fitted).faults = s.faults ∧ (s.resetChannel c fitted).level = s.level ∧
    (s.resetChannel c fitted).record = s.record ∧ (s.resetChannel c fitted).store = s.store ∧
    (s.resetChannel c fitted).req = s.req := by
  simp only [State.resetChannel]
  repeat' (first | split | simp)

@[simp] theorem State.resetChannel_mem_wf (s : State) (c : Channel) (fitted : Bool) (hm : s.mem.wf = true) :
    (s.resetChannel c fitted).mem.wf = true := by
  simp only [State.resetChannel]
  repeat' (first | split | simp (maxDischargeDepth := 40) +contextual [hm])

@[simp] theorem State.adoptChannel_frame (old : Channel → Bool) (s : State) (c : Channel) :
    (State.adoptChannel old s c).pending = s.pending ∧ (State.adoptChannel old s c).inputs = s.inputs ∧
    (State.adoptChannel old s c).drive = s.drive ∧ (State.adoptChannel old s c).seq = s.seq ∧
    (State.adoptChannel old s c).gov = s.gov ∧ (State.adoptChannel old s c).regs = s.regs ∧
    (State.adoptChannel old s c).level = s.level ∧ (State.adoptChannel old s c).store = s.store := by
  simp only [State.adoptChannel]
  repeat' (first | split | simp)

@[simp] theorem State.adoptChannel_mem_wf (old : Channel → Bool) (s : State) (c : Channel) (hm : s.mem.wf = true) :
    (State.adoptChannel old s c).mem.wf = true := by
  simp only [State.adoptChannel]
  repeat' (first | split | simp (maxDischargeDepth := 40) +contextual [hm])

@[simp] theorem State.formAll_frame (s : State) (c : Channel) :
    (s.formAll c).pending = s.pending ∧ (s.formAll c).inputs = s.inputs ∧ (s.formAll c).drive = s.drive ∧
    (s.formAll c).meas = s.meas ∧ (s.formAll c).seq = s.seq ∧ (s.formAll c).gov = s.gov ∧
    (s.formAll c).regs = s.regs ∧ (s.formAll c).level = s.level ∧ (s.formAll c).record = s.record ∧
    (s.formAll c).store = s.store ∧ (s.formAll c).mem = s.mem := by
  simp only [State.formAll]
  repeat' (first | split | simp)

@[simp] theorem State.vibrationInForce_frame (s : State) :
    (s.vibrationInForce).pending = s.pending ∧ (s.vibrationInForce).inputs = s.inputs := by
  simp only [State.vibrationInForce]
  repeat' (first | split | simp)

@[simp] theorem State.vibrationInForce_mem_wf (s : State) (hm : s.mem.wf = true) :
    (s.vibrationInForce).mem.wf = true := by
  simp only [State.vibrationInForce]
  repeat' (first | split | simp (maxDischargeDepth := 40) +contextual [hm])

@[simp] theorem State.blockEnd_frame (s : State) :
    (s.blockEnd).pending = s.pending ∧ (s.blockEnd).inputs = s.inputs := by
  simp only [State.blockEnd]
  repeat' (first | split | simp)

@[simp] theorem State.blockEnd_mem_wf (s : State) (hm : s.mem.wf = true) :
    (s.blockEnd).mem.wf = true := by
  simp only [State.blockEnd]
  repeat' (first | split | simp (maxDischargeDepth := 40) +contextual [hm])

@[simp] theorem State.advanceBlock_frame (s : State) :
    (s.advanceBlock).pending = s.pending ∧ (s.advanceBlock).inputs = s.inputs := by
  simp only [State.advanceBlock]
  repeat' (first | split | simp)

@[simp] theorem State.advanceBlock_mem_wf (s : State) (hm : s.mem.wf = true) :
    (s.advanceBlock).mem.wf = true := by
  simp only [State.advanceBlock]
  repeat' (first | split | simp (maxDischargeDepth := 40) +contextual [hm])

@[simp] theorem State.dwellStep_frame (s : State) (g : Side) :
    (s.dwellStep g).pending = s.pending ∧ (s.dwellStep g).inputs = s.inputs := by
  simp only [State.dwellStep]
  repeat' (first | split | simp)

@[simp] theorem State.dwellStep_mem_wf (s : State) (g : Side) (hm : s.mem.wf = true) :
    (s.dwellStep g).mem.wf = true := by
  simp only [State.dwellStep]
  repeat' (first | split | simp (maxDischargeDepth := 40) +contextual [hm])

@[simp] theorem State.advanceQuarter_frame (s : State) :
    (s.advanceQuarter).pending = s.pending ∧ (s.advanceQuarter).inputs = s.inputs := by
  simp only [State.advanceQuarter, State.unlessReset]
  repeat' (first | split | simp)

@[simp] theorem State.advanceQuarter_mem_wf (s : State) (hm : s.mem.wf = true) :
    (s.advanceQuarter).mem.wf = true := by
  simp only [State.advanceQuarter, State.unlessReset]
  repeat' (first | split | simp (maxDischargeDepth := 40) +contextual [hm])

@[simp] theorem State.requestSamples_frame (s : State) :
    (s.requestSamples).pending = s.pending ∧ (s.requestSamples).inputs = s.inputs ∧
    (s.requestSamples).drive = s.drive ∧ (s.requestSamples).meas = s.meas ∧ (s.requestSamples).seq = s.seq ∧
    (s.requestSamples).gov = s.gov ∧ (s.requestSamples).regs = s.regs ∧ (s.requestSamples).faults = s.faults ∧
    (s.requestSamples).level = s.level ∧ (s.requestSamples).record = s.record ∧ (s.requestSamples).store = s.store ∧
    (s.requestSamples).req = s.req ∧ (s.requestSamples).mem = s.mem := by
  simp only [State.requestSamples]
  repeat' (first | split | simp)

@[simp] theorem State.samplePeriod_frame (s : State) :
    (s.samplePeriod).pending = s.pending ∧ (s.samplePeriod).inputs = s.inputs := by
  simp only [State.samplePeriod, State.unlessReset]
  repeat' (first | split | simp)

@[simp] theorem State.samplePeriod_mem_wf (s : State) (hm : s.mem.wf = true) :
    (s.samplePeriod).mem.wf = true := by
  simp only [State.samplePeriod, State.unlessReset]
  repeat' (first | split | simp (maxDischargeDepth := 40) +contextual [hm])

@[simp] theorem State.zeroMap_frame (s : State) (c : Channel) :
    (s.zeroMap c).pending = s.pending ∧ (s.zeroMap c).inputs = s.inputs ∧ (s.zeroMap c).drive = s.drive ∧
    (s.zeroMap c).meas = s.meas ∧ (s.zeroMap c).seq = s.seq ∧ (s.zeroMap c).gov = s.gov ∧
    (s.zeroMap c).regs = s.regs ∧ (s.zeroMap c).level = s.level ∧ (s.zeroMap c).store = s.store := by
  simp only [State.zeroMap]
  repeat' (first | split | simp)

@[simp] theorem State.zeroMap_mem_wf (s : State) (c : Channel) (hm : s.mem.wf = true) :
    (s.zeroMap c).mem.wf = true := by
  simp only [State.zeroMap]
  repeat' (first | split | simp (maxDischargeDepth := 40) +contextual [hm])

end Sys2Proof.Machine
end

