-- ==== Sys2Proof/Laws/FrameHost.lean ====
section
/-! SUPPORT. Frames of the operations on the sequencer, the host's writes, the settings, the requests and the capture period:
what each leaves unchanged, and that each keeps the canonical form of the exchange memory. -/

namespace Sys2Proof.Machine

@[simp] theorem State.magnetized_frame (s : State) :
    (s.magnetized).pending = s.pending ∧ (s.magnetized).inputs = s.inputs := by
  simp only [State.magnetized]
  repeat' (first | split | simp)

@[simp] theorem State.magnetized_mem_wf (s : State) (hm : s.mem.wf = true) :
    (s.magnetized).mem.wf = true := by
  simp only [State.magnetized]
  repeat' (first | split | simp (maxDischargeDepth := 40) +contextual [hm])

@[simp] theorem State.magnetizingStep_frame (s : State) :
    (s.magnetizingStep).pending = s.pending ∧ (s.magnetizingStep).inputs = s.inputs := by
  simp only [State.magnetizingStep]
  repeat' (first | split | simp)

@[simp] theorem State.magnetizingStep_mem_wf (s : State) (hm : s.mem.wf = true) :
    (s.magnetizingStep).mem.wf = true := by
  simp only [State.magnetizingStep]
  repeat' (first | split | simp (maxDischargeDepth := 40) +contextual [hm])

@[simp] theorem State.breakawayStep_frame (s : State) :
    (s.breakawayStep).pending = s.pending ∧ (s.breakawayStep).inputs = s.inputs := by
  simp only [State.breakawayStep]
  repeat' (first | split | simp)

@[simp] theorem State.breakawayStep_mem_wf (s : State) (hm : s.mem.wf = true) :
    (s.breakawayStep).mem.wf = true := by
  simp only [State.breakawayStep]
  repeat' (first | split | simp (maxDischargeDepth := 40) +contextual [hm])

@[simp] theorem State.brakeSetEnd_frame (s : State) :
    (s.brakeSetEnd).pending = s.pending ∧ (s.brakeSetEnd).inputs = s.inputs ∧ (s.brakeSetEnd).mem = s.mem := by
  simp only [State.brakeSetEnd]
  repeat' (first | split | simp)

@[simp] theorem State.deceleratingStep_frame (s : State) :
    (s.deceleratingStep).pending = s.pending ∧ (s.deceleratingStep).inputs = s.inputs ∧
    (s.deceleratingStep).drive = s.drive ∧ (s.deceleratingStep).meas = s.meas ∧ (s.deceleratingStep).gov = s.gov ∧
    (s.deceleratingStep).regs = s.regs ∧ (s.deceleratingStep).watch = s.watch ∧
    (s.deceleratingStep).faults = s.faults ∧ (s.deceleratingStep).level = s.level ∧
    (s.deceleratingStep).record = s.record ∧ (s.deceleratingStep).store = s.store ∧ (s.deceleratingStep).req = s.req ∧
    (s.deceleratingStep).mem = s.mem := by
  simp only [State.deceleratingStep]
  repeat' (first | split | simp)

@[simp] theorem State.atZeroStep_frame (s : State) :
    (s.atZeroStep).pending = s.pending ∧ (s.atZeroStep).inputs = s.inputs ∧ (s.atZeroStep).mem = s.mem := by
  simp only [State.atZeroStep]
  repeat' (first | split | simp)

@[simp] theorem State.brakeSettingStep_frame (s : State) :
    (s.brakeSettingStep).pending = s.pending ∧ (s.brakeSettingStep).inputs = s.inputs ∧
    (s.brakeSettingStep).mem = s.mem := by
  simp only [State.brakeSettingStep]
  repeat' (first | split | simp)

@[simp] theorem State.stoppingStep_frame (s : State) :
    (s.stoppingStep).pending = s.pending ∧ (s.stoppingStep).inputs = s.inputs ∧ (s.stoppingStep).mem = s.mem := by
  simp only [State.stoppingStep]
  repeat' (first | split | simp)

@[simp] theorem State.stoppedStep_frame (s : State) :
    (s.stoppedStep).pending = s.pending ∧ (s.stoppedStep).inputs = s.inputs ∧ (s.stoppedStep).drive = s.drive ∧
    (s.stoppedStep).meas = s.meas ∧ (s.stoppedStep).gov = s.gov ∧ (s.stoppedStep).regs = s.regs ∧
    (s.stoppedStep).watch = s.watch ∧ (s.stoppedStep).level = s.level ∧ (s.stoppedStep).record = s.record ∧
    (s.stoppedStep).store = s.store ∧ (s.stoppedStep).mem = s.mem := by
  simp only [State.stoppedStep]
  repeat' (first | split | simp)

@[simp] theorem State.sequencerStep_frame (s : State) :
    (s.sequencerStep).pending = s.pending ∧ (s.sequencerStep).inputs = s.inputs := by
  simp only [State.sequencerStep]
  repeat' (first | split | simp)

@[simp] theorem State.sequencerStep_mem_wf (s : State) (hm : s.mem.wf = true) :
    (s.sequencerStep).mem.wf = true := by
  simp only [State.sequencerStep]
  repeat' (first | split | simp (maxDischargeDepth := 40) +contextual [hm])

@[simp] theorem State.stopMagnetizing_frame (s : State) :
    (s.stopMagnetizing).pending = s.pending ∧ (s.stopMagnetizing).inputs = s.inputs ∧
    (s.stopMagnetizing).mem = s.mem := by
  simp only [State.stopMagnetizing]
  repeat' (first | split | simp)

@[simp] theorem State.permitDrop_frame (s : State) :
    (s.permitDrop).pending = s.pending ∧ (s.permitDrop).inputs = s.inputs := by
  simp only [State.permitDrop]
  repeat' (first | split | simp)

@[simp] theorem State.permitDrop_mem_wf (s : State) (hm : s.mem.wf = true) :
    (s.permitDrop).mem.wf = true := by
  simp only [State.permitDrop]
  repeat' (first | split | simp (maxDischargeDepth := 40) +contextual [hm])

@[simp] theorem State.restartWrite_frame (s : State) :
    (s.restartWrite).pending = s.pending ∧ (s.restartWrite).inputs = s.inputs ∧ (s.restartWrite).mem = s.mem := by
  simp only [State.restartWrite]
  repeat' (first | split | simp)

@[simp] theorem State.clearStateWords_frame (s : State) :
    (s.clearStateWords).pending = s.pending ∧ (s.clearStateWords).inputs = s.inputs ∧
    (s.clearStateWords).drive = s.drive ∧ (s.clearStateWords).meas = s.meas ∧ (s.clearStateWords).seq = s.seq ∧
    (s.clearStateWords).gov = s.gov ∧ (s.clearStateWords).regs = s.regs ∧ (s.clearStateWords).watch = s.watch ∧
    (s.clearStateWords).faults = s.faults ∧ (s.clearStateWords).level = s.level ∧
    (s.clearStateWords).record = s.record ∧ (s.clearStateWords).store = s.store ∧ (s.clearStateWords).req = s.req := by
  simp only [State.clearStateWords]
  repeat' (first | split | simp)

@[simp] theorem State.clearStateWords_mem_wf (s : State) (hm : s.mem.wf = true) :
    (s.clearStateWords).mem.wf = true := by
  simp only [State.clearStateWords]
  repeat' (first | split | simp (maxDischargeDepth := 40) +contextual [hm])

@[simp] theorem State.initMemory_frame (s : State) :
    (s.initMemory).pending = s.pending ∧ (s.initMemory).inputs = s.inputs ∧ (s.initMemory).drive = s.drive ∧
    (s.initMemory).meas = s.meas ∧ (s.initMemory).seq = s.seq ∧ (s.initMemory).gov = s.gov ∧
    (s.initMemory).regs = s.regs ∧ (s.initMemory).watch = s.watch ∧ (s.initMemory).faults = s.faults ∧
    (s.initMemory).level = s.level ∧ (s.initMemory).record = s.record ∧ (s.initMemory).store = s.store ∧
    (s.initMemory).req = s.req := by
  simp only [State.initMemory]
  repeat' (first | split | simp)

@[simp] theorem State.initMemory_mem_wf (s : State) (hm : s.mem.wf = true) :
    (s.initMemory).mem.wf = true := by
  simp only [State.initMemory]
  repeat' (first | split | simp (maxDischargeDepth := 40) +contextual [hm])

@[simp] theorem State.hostStore_frame (s : State) (h : HostStore) :
    (s.hostStore h).pending = s.pending ∧ (s.hostStore h).inputs = s.inputs ∧ (s.hostStore h).drive = s.drive ∧
    (s.hostStore h).meas = s.meas ∧ (s.hostStore h).seq = s.seq ∧ (s.hostStore h).gov = s.gov ∧
    (s.hostStore h).regs = s.regs ∧ (s.hostStore h).watch = s.watch ∧ (s.hostStore h).faults = s.faults ∧
    (s.hostStore h).level = s.level ∧ (s.hostStore h).record = s.record ∧ (s.hostStore h).store = s.store ∧
    (s.hostStore h).req = s.req := by
  simp only [State.hostStore]
  repeat' (first | split | simp)

@[simp] theorem State.hostStore_mem_wf (s : State) (h : HostStore) (hm : s.mem.wf = true) :
    (s.hostStore h).mem.wf = true := by
  simp only [State.hostStore]
  repeat' (first | split | simp (maxDischargeDepth := 40) +contextual [hm])

@[simp] theorem State.cancel_frame (s : State) (k : Fin 8) :
    (s.cancel k).pending = s.pending ∧ (s.cancel k).inputs = s.inputs ∧ (s.cancel k).drive = s.drive ∧
    (s.cancel k).meas = s.meas ∧ (s.cancel k).seq = s.seq ∧ (s.cancel k).gov = s.gov ∧ (s.cancel k).regs = s.regs ∧
    (s.cancel k).watch = s.watch ∧ (s.cancel k).faults = s.faults ∧ (s.cancel k).level = s.level ∧
    (s.cancel k).record = s.record := by
  simp only [State.cancel]
  repeat' (first | split | simp)

@[simp] theorem State.cancel_mem_wf (s : State) (k : Fin 8) (hm : s.mem.wf = true) :
    (s.cancel k).mem.wf = true := by
  simp only [State.cancel]
  repeat' (first | split | simp (maxDischargeDepth := 40) +contextual [hm])

@[simp] theorem State.slotWrite_frame (s : State) (k : Fin 8) (v : Word) :
    (s.slotWrite k v).pending = s.pending ∧ (s.slotWrite k v).inputs = s.inputs ∧ (s.slotWrite k v).drive = s.drive ∧
    (s.slotWrite k v).meas = s.meas ∧ (s.slotWrite k v).seq = s.seq ∧ (s.slotWrite k v).gov = s.gov ∧
    (s.slotWrite k v).regs = s.regs ∧ (s.slotWrite k v).watch = s.watch ∧ (s.slotWrite k v).faults = s.faults ∧
    (s.slotWrite k v).level = s.level ∧ (s.slotWrite k v).record = s.record := by
  simp only [State.slotWrite]
  repeat' (first | split | simp)

@[simp] theorem State.slotWrite_mem_wf (s : State) (k : Fin 8) (v : Word) (hm : s.mem.wf = true) :
    (s.slotWrite k v).mem.wf = true := by
  simp only [State.slotWrite]
  repeat' (first | split | simp (maxDischargeDepth := 40) +contextual [hm])

@[simp] theorem State.entryWrite_frame (s : State) (k : Fin 8) (v : Word) :
    (s.entryWrite k v).pending = s.pending ∧ (s.entryWrite k v).inputs = s.inputs ∧
    (s.entryWrite k v).drive = s.drive ∧ (s.entryWrite k v).meas = s.meas ∧ (s.entryWrite k v).seq = s.seq ∧
    (s.entryWrite k v).gov = s.gov ∧ (s.entryWrite k v).regs = s.regs ∧ (s.entryWrite k v).watch = s.watch ∧
    (s.entryWrite k v).faults = s.faults ∧ (s.entryWrite k v).level = s.level ∧ (s.entryWrite k v).store = s.store := by
  simp only [State.entryWrite]
  repeat' (first | split | simp)

@[simp] theorem State.entryWrite_mem_wf (s : State) (k : Fin 8) (v : Word) (hm : s.mem.wf = true) :
    (s.entryWrite k v).mem.wf = true := by
  simp only [State.entryWrite]
  repeat' (first | split | simp (maxDischargeDepth := 40) +contextual [hm])

@[simp] theorem State.elapse_frame (s : State) (us : Nat) :
    (s.elapse us).pending = s.pending ∧ (s.elapse us).inputs = s.inputs ∧ (s.elapse us).drive = s.drive ∧
    (s.elapse us).meas = s.meas ∧ (s.elapse us).seq = s.seq ∧ (s.elapse us).gov = s.gov ∧
    (s.elapse us).regs = s.regs ∧ (s.elapse us).watch = s.watch ∧ (s.elapse us).level = s.level ∧
    (s.elapse us).req = s.req ∧ (s.elapse us).mem = s.mem := by
  simp only [State.elapse]
  repeat' (first | split | simp)

@[simp] theorem State.idleMicrosecond_frame (s : State) :
    (s.idleMicrosecond).pending = s.pending ∧ (s.idleMicrosecond).inputs = s.inputs ∧
    (s.idleMicrosecond).drive = s.drive ∧ (s.idleMicrosecond).meas = s.meas ∧ (s.idleMicrosecond).seq = s.seq ∧
    (s.idleMicrosecond).gov = s.gov ∧ (s.idleMicrosecond).regs = s.regs ∧ (s.idleMicrosecond).watch = s.watch ∧
    (s.idleMicrosecond).level = s.level ∧ (s.idleMicrosecond).mem = s.mem := by
  simp only [State.idleMicrosecond]
  repeat' (first | split | simp)

@[simp] theorem State.leaveSet_frame (s : State) (x : Side) :
    (s.leaveSet x).pending = s.pending ∧ (s.leaveSet x).inputs = s.inputs ∧ (s.leaveSet x).drive = s.drive ∧
    (s.leaveSet x).meas = s.meas ∧ (s.leaveSet x).seq = s.seq ∧ (s.leaveSet x).gov = s.gov ∧
    (s.leaveSet x).watch = s.watch ∧ (s.leaveSet x).record = s.record ∧ (s.leaveSet x).store = s.store ∧
    (s.leaveSet x).req = s.req ∧ (s.leaveSet x).mem = s.mem := by
  simp only [State.leaveSet]
  repeat' (first | split | simp)

@[simp] theorem State.enterSet_frame (s : State) (x : Side) :
    (s.enterSet x).pending = s.pending ∧ (s.enterSet x).inputs = s.inputs := by
  simp only [State.enterSet]
  repeat' (first | split | simp)

@[simp] theorem State.enterSet_mem_wf (s : State) (x : Side) (hm : s.mem.wf = true) :
    (s.enterSet x).mem.wf = true := by
  simp only [State.enterSet]
  repeat' (first | split | simp (maxDischargeDepth := 40) +contextual [hm])

@[simp] theorem State.adoptMotor_frame (old : PinionSet) (s : State) (x : Side) :
    (State.adoptMotor old s x).pending = s.pending ∧ (State.adoptMotor old s x).inputs = s.inputs := by
  simp only [State.adoptMotor]
  repeat' (first | split | simp)

@[simp] theorem State.adoptMotor_mem_wf (old : PinionSet) (s : State) (x : Side) (hm : s.mem.wf = true) :
    (State.adoptMotor old s x).mem.wf = true := by
  simp only [State.adoptMotor]
  repeat' (first | split | simp (maxDischargeDepth := 40) +contextual [hm])

@[simp] theorem State.adoptDrive_frame (s : State) (new : DriveSettings) :
    (s.adoptDrive new).pending = s.pending ∧ (s.adoptDrive new).inputs = s.inputs := by
  simp only [State.adoptDrive, State.unlessReset]
  repeat' (first | split | simp)

@[simp] theorem State.adoptDrive_mem_wf (s : State) (new : DriveSettings) (hm : s.mem.wf = true) :
    (s.adoptDrive new).mem.wf = true := by
  simp only [State.adoptDrive, State.unlessReset]
  repeat' (first | split | simp (maxDischargeDepth := 40) +contextual [hm])

@[simp] theorem State.adoptRecord_frame (s : State) (r : RecordSettings) :
    (s.adoptRecord r).pending = s.pending ∧ (s.adoptRecord r).inputs = s.inputs ∧ (s.adoptRecord r).drive = s.drive ∧
    (s.adoptRecord r).meas = s.meas ∧ (s.adoptRecord r).seq = s.seq ∧ (s.adoptRecord r).gov = s.gov ∧
    (s.adoptRecord r).regs = s.regs ∧ (s.adoptRecord r).watch = s.watch ∧ (s.adoptRecord r).faults = s.faults ∧
    (s.adoptRecord r).level = s.level ∧ (s.adoptRecord r).store = s.store ∧ (s.adoptRecord r).req = s.req ∧
    (s.adoptRecord r).mem = s.mem := by
  simp only [State.adoptRecord]
  repeat' (first | split | simp)

@[simp] theorem State.adoptStore_frame (s : State) (c : StoreSettings) (k : Fin 8) :
    (s.adoptStore c k).pending = s.pending ∧ (s.adoptStore c k).inputs = s.inputs ∧
    (s.adoptStore c k).drive = s.drive ∧ (s.adoptStore c k).meas = s.meas ∧ (s.adoptStore c k).seq = s.seq ∧
    (s.adoptStore c k).gov = s.gov ∧ (s.adoptStore c k).regs = s.regs ∧ (s.adoptStore c k).watch = s.watch ∧
    (s.adoptStore c k).level = s.level ∧ (s.adoptStore c k).record = s.record ∧ (s.adoptStore c k).mem = s.mem := by
  simp only [State.adoptStore]
  repeat' (first | split | simp)

@[simp] theorem State.loadDrive_frame (s : State) (k : Fin 8) (ws : List Word) :
    (s.loadDrive k ws).pending = s.pending ∧ (s.loadDrive k ws).inputs = s.inputs := by
  simp only [State.loadDrive, State.unlessReset]
  repeat' (first | split | simp)

@[simp] theorem State.loadDrive_mem_wf (s : State) (k : Fin 8) (ws : List Word) (hm : s.mem.wf = true) :
    (s.loadDrive k ws).mem.wf = true := by
  simp only [State.loadDrive, State.unlessReset]
  repeat' (first | split | simp (maxDischargeDepth := 40) +contextual [hm])

@[simp] theorem State.loadEnvelope_frame (s : State) (k : Fin 8) (ws : List Word) :
    (s.loadEnvelope k ws).pending = s.pending ∧ (s.loadEnvelope k ws).inputs = s.inputs ∧
    (s.loadEnvelope k ws).drive = s.drive ∧ (s.loadEnvelope k ws).meas = s.meas ∧ (s.loadEnvelope k ws).seq = s.seq ∧
    (s.loadEnvelope k ws).regs = s.regs ∧ (s.loadEnvelope k ws).watch = s.watch ∧
    (s.loadEnvelope k ws).faults = s.faults ∧ (s.loadEnvelope k ws).level = s.level ∧
    (s.loadEnvelope k ws).record = s.record ∧ (s.loadEnvelope k ws).store = s.store := by
  simp only [State.loadEnvelope]
  repeat' (first | split | simp)

@[simp] theorem State.loadEnvelope_mem_wf (s : State) (k : Fin 8) (ws : List Word) (hm : s.mem.wf = true) :
    (s.loadEnvelope k ws).mem.wf = true := by
  simp only [State.loadEnvelope]
  repeat' (first | split | simp (maxDischargeDepth := 40) +contextual [hm])

@[simp] theorem State.loadVibration_frame (s : State) (k : Fin 8) (ws : List Word) :
    (s.loadVibration k ws).pending = s.pending ∧ (s.loadVibration k ws).inputs = s.inputs ∧
    (s.loadVibration k ws).drive = s.drive ∧ (s.loadVibration k ws).meas = s.meas ∧
    (s.loadVibration k ws).seq = s.seq ∧ (s.loadVibration k ws).gov = s.gov ∧ (s.loadVibration k ws).regs = s.regs ∧
    (s.loadVibration k ws).faults = s.faults ∧ (s.loadVibration k ws).level = s.level ∧
    (s.loadVibration k ws).record = s.record ∧ (s.loadVibration k ws).store = s.store := by
  simp only [State.loadVibration]
  repeat' (first | split | simp)

@[simp] theorem State.loadVibration_mem_wf (s : State) (k : Fin 8) (ws : List Word) (hm : s.mem.wf = true) :
    (s.loadVibration k ws).mem.wf = true := by
  simp only [State.loadVibration]
  repeat' (first | split | simp (maxDischargeDepth := 40) +contextual [hm])

@[simp] theorem State.loadRecord_frame (s : State) (k : Fin 8) (ws : List Word) :
    (s.loadRecord k ws).pending = s.pending ∧ (s.loadRecord k ws).inputs = s.inputs := by
  simp only [State.loadRecord]
  repeat' (first | split | simp)

@[simp] theorem State.loadRecord_mem_wf (s : State) (k : Fin 8) (ws : List Word) (hm : s.mem.wf = true) :
    (s.loadRecord k ws).mem.wf = true := by
  simp only [State.loadRecord]
  repeat' (first | split | simp (maxDischargeDepth := 40) +contextual [hm])

@[simp] theorem State.loadStore_frame (s : State) (k : Fin 8) (ws : List Word) :
    (s.loadStore k ws).pending = s.pending ∧ (s.loadStore k ws).inputs = s.inputs := by
  simp only [State.loadStore]
  repeat' (first | split | simp)

@[simp] theorem State.loadStore_mem_wf (s : State) (k : Fin 8) (ws : List Word) (hm : s.mem.wf = true) :
    (s.loadStore k ws).mem.wf = true := by
  simp only [State.loadStore]
  repeat' (first | split | simp (maxDischargeDepth := 40) +contextual [hm])

@[simp] theorem State.loadGroup_frame (s : State) (k : Fin 8) (group : Nat) (ws : List Word) :
    (s.loadGroup k group ws).pending = s.pending ∧ (s.loadGroup k group ws).inputs = s.inputs := by
  simp only [State.loadGroup]
  repeat' (first | split | simp)

@[simp] theorem State.loadGroup_mem_wf (s : State) (k : Fin 8) (group : Nat) (ws : List Word) (hm : s.mem.wf = true) :
    (s.loadGroup k group ws).mem.wf = true := by
  simp only [State.loadGroup]
  repeat' (first | split | simp (maxDischargeDepth := 40) +contextual [hm])

@[simp] theorem State.clearTrip_frame (s : State) :
    (s.clearTrip).pending = s.pending ∧ (s.clearTrip).inputs = s.inputs ∧ (s.clearTrip).mem = s.mem := by
  simp only [State.clearTrip]
  repeat' (first | split | simp)

@[simp] theorem State.arm_frame (s : State) (p : Program) :
    (s.arm p).pending = s.pending ∧ (s.arm p).inputs = s.inputs ∧ (s.arm p).drive = s.drive ∧
    (s.arm p).meas = s.meas ∧ (s.arm p).seq = s.seq ∧ (s.arm p).gov = s.gov ∧ (s.arm p).regs = s.regs ∧
    (s.arm p).watch = s.watch ∧ (s.arm p).faults = s.faults ∧ (s.arm p).level = s.level ∧ (s.arm p).store = s.store ∧
    (s.arm p).req = s.req ∧ (s.arm p).mem = s.mem := by
  simp only [State.arm]
  repeat' (first | split | simp)

@[simp] theorem State.startFetch_frame (s : State) (k : Fin 8) (i : Fin 4) (gen : Word) (first count : Nat) :
    (s.startFetch k i gen first count).pending = s.pending ∧ (s.startFetch k i gen first count).inputs = s.inputs ∧
    (s.startFetch k i gen first count).drive = s.drive ∧ (s.startFetch k i gen first count).meas = s.meas ∧
    (s.startFetch k i gen first count).seq = s.seq ∧ (s.startFetch k i gen first count).gov = s.gov ∧
    (s.startFetch k i gen first count).regs = s.regs ∧ (s.startFetch k i gen first count).watch = s.watch ∧
    (s.startFetch k i gen first count).faults = s.faults ∧ (s.startFetch k i gen first count).level = s.level ∧
    (s.startFetch k i gen first count).record = s.record ∧ (s.startFetch k i gen first count).store = s.store := by
  simp only [State.startFetch]
  repeat' (first | split | simp)

@[simp] theorem State.startFetch_mem_wf (s : State) (k : Fin 8) (i : Fin 4) (gen : Word) (first count : Nat) (hm : s.mem.wf = true) :
    (s.startFetch k i gen first count).mem.wf = true := by
  simp only [State.startFetch]
  repeat' (first | split | simp (maxDischargeDepth := 40) +contextual [hm])

@[simp] theorem State.fetchFrom_frame (s : State) (k : Fin 8) (i : Fin 4) (gen : Word) (first count firstIndex countIndex : Nat) :
    (s.fetchFrom k i gen first count firstIndex countIndex).pending = s.pending ∧
    (s.fetchFrom k i gen first count firstIndex countIndex).inputs = s.inputs ∧
    (s.fetchFrom k i gen first count firstIndex countIndex).drive = s.drive ∧
    (s.fetchFrom k i gen first count firstIndex countIndex).meas = s.meas ∧
    (s.fetchFrom k i gen first count firstIndex countIndex).seq = s.seq ∧
    (s.fetchFrom k i gen first count firstIndex countIndex).gov = s.gov ∧
    (s.fetchFrom k i gen first count firstIndex countIndex).regs = s.regs ∧
    (s.fetchFrom k i gen first count firstIndex countIndex).watch = s.watch ∧
    (s.fetchFrom k i gen first count firstIndex countIndex).faults = s.faults ∧
    (s.fetchFrom k i gen first count firstIndex countIndex).level = s.level ∧
    (s.fetchFrom k i gen first count firstIndex countIndex).record = s.record ∧
    (s.fetchFrom k i gen first count firstIndex countIndex).store = s.store := by
  simp only [State.fetchFrom]
  repeat' (first | split | simp)

@[simp] theorem State.fetchFrom_mem_wf (s : State) (k : Fin 8) (i : Fin 4) (gen : Word) (first count firstIndex countIndex : Nat) (hm : s.mem.wf = true) :
    (s.fetchFrom k i gen first count firstIndex countIndex).mem.wf = true := by
  simp only [State.fetchFrom]
  repeat' (first | split | simp (maxDischargeDepth := 40) +contextual [hm])

@[simp] theorem State.clearFetch_frame (s : State) :
    (s.clearFetch).pending = s.pending ∧ (s.clearFetch).inputs = s.inputs ∧ (s.clearFetch).drive = s.drive ∧
    (s.clearFetch).meas = s.meas ∧ (s.clearFetch).seq = s.seq ∧ (s.clearFetch).gov = s.gov ∧
    (s.clearFetch).regs = s.regs ∧ (s.clearFetch).watch = s.watch ∧ (s.clearFetch).faults = s.faults ∧
    (s.clearFetch).level = s.level ∧ (s.clearFetch).record = s.record ∧ (s.clearFetch).store = s.store ∧
    (s.clearFetch).mem = s.mem := by
  simp only [State.clearFetch]
  repeat' (first | split | simp)

@[simp] theorem State.breakFetch_frame (s : State) (f : Fetch) (rc : ResultCode) :
    (s.breakFetch f rc).pending = s.pending ∧ (s.breakFetch f rc).inputs = s.inputs ∧
    (s.breakFetch f rc).drive = s.drive ∧ (s.breakFetch f rc).meas = s.meas ∧ (s.breakFetch f rc).seq = s.seq ∧
    (s.breakFetch f rc).gov = s.gov ∧ (s.breakFetch f rc).regs = s.regs ∧ (s.breakFetch f rc).watch = s.watch ∧
    (s.breakFetch f rc).faults = s.faults ∧ (s.breakFetch f rc).level = s.level ∧
    (s.breakFetch f rc).record = s.record ∧ (s.breakFetch f rc).store = s.store := by
  simp only [State.breakFetch]
  repeat' (first | split | simp)

@[simp] theorem State.breakFetch_mem_wf (s : State) (f : Fetch) (rc : ResultCode) (hm : s.mem.wf = true) :
    (s.breakFetch f rc).mem.wf = true := by
  simp only [State.breakFetch]
  repeat' (first | split | simp (maxDischargeDepth := 40) +contextual [hm])

@[simp] theorem State.endFetch_frame (s : State) (f : Fetch) :
    (s.endFetch f).pending = s.pending ∧ (s.endFetch f).inputs = s.inputs ∧ (s.endFetch f).drive = s.drive ∧
    (s.endFetch f).meas = s.meas ∧ (s.endFetch f).seq = s.seq ∧ (s.endFetch f).gov = s.gov ∧
    (s.endFetch f).regs = s.regs ∧ (s.endFetch f).watch = s.watch ∧ (s.endFetch f).faults = s.faults ∧
    (s.endFetch f).level = s.level ∧ (s.endFetch f).record = s.record ∧ (s.endFetch f).store = s.store := by
  simp only [State.endFetch]
  repeat' (first | split | simp)

@[simp] theorem State.endFetch_mem_wf (s : State) (f : Fetch) (hm : s.mem.wf = true) :
    (s.endFetch f).mem.wf = true := by
  simp only [State.endFetch]
  repeat' (first | split | simp (maxDischargeDepth := 40) +contextual [hm])

@[simp] theorem State.frameBoundary_frame (s : State) (f : Fetch) :
    (s.frameBoundary f).pending = s.pending ∧ (s.frameBoundary f).inputs = s.inputs ∧
    (s.frameBoundary f).drive = s.drive ∧ (s.frameBoundary f).meas = s.meas ∧ (s.frameBoundary f).seq = s.seq ∧
    (s.frameBoundary f).gov = s.gov ∧ (s.frameBoundary f).regs = s.regs ∧ (s.frameBoundary f).watch = s.watch ∧
    (s.frameBoundary f).faults = s.faults ∧ (s.frameBoundary f).level = s.level ∧
    (s.frameBoundary f).record = s.record := by
  simp only [State.frameBoundary]
  repeat' (first | split | simp)

@[simp] theorem State.frameBoundary_mem_wf (s : State) (f : Fetch) (hm : s.mem.wf = true) :
    (s.frameBoundary f).mem.wf = true := by
  simp only [State.frameBoundary]
  repeat' (first | split | simp (maxDischargeDepth := 40) +contextual [hm])

@[simp] theorem State.startRead_frame (s : State) (k : Fin 8) (x : Nat × Nat × Nat) :
    (s.startRead k x).pending = s.pending ∧ (s.startRead k x).inputs = s.inputs ∧ (s.startRead k x).drive = s.drive ∧
    (s.startRead k x).meas = s.meas ∧ (s.startRead k x).seq = s.seq ∧ (s.startRead k x).gov = s.gov ∧
    (s.startRead k x).regs = s.regs ∧ (s.startRead k x).watch = s.watch ∧ (s.startRead k x).faults = s.faults ∧
    (s.startRead k x).level = s.level ∧ (s.startRead k x).record = s.record := by
  simp only [State.startRead]
  repeat' (first | split | simp)

@[simp] theorem State.startRead_mem_wf (s : State) (k : Fin 8) (x : Nat × Nat × Nat) (hm : s.mem.wf = true) :
    (s.startRead k x).mem.wf = true := by
  simp only [State.startRead]
  repeat' (first | split | simp (maxDischargeDepth := 40) +contextual [hm])

@[simp] theorem State.readFrom_frame (s : State) (k : Fin 8) (x : Option (Nat × Nat × Nat)) :
    (s.readFrom k x).pending = s.pending ∧ (s.readFrom k x).inputs = s.inputs ∧ (s.readFrom k x).drive = s.drive ∧
    (s.readFrom k x).meas = s.meas ∧ (s.readFrom k x).seq = s.seq ∧ (s.readFrom k x).gov = s.gov ∧
    (s.readFrom k x).regs = s.regs ∧ (s.readFrom k x).watch = s.watch ∧ (s.readFrom k x).faults = s.faults ∧
    (s.readFrom k x).level = s.level ∧ (s.readFrom k x).record = s.record := by
  simp only [State.readFrom]
  repeat' (first | split | simp)

@[simp] theorem State.readFrom_mem_wf (s : State) (k : Fin 8) (x : Option (Nat × Nat × Nat)) (hm : s.mem.wf = true) :
    (s.readFrom k x).mem.wf = true := by
  simp only [State.readFrom]
  repeat' (first | split | simp (maxDischargeDepth := 40) +contextual [hm])

@[simp] theorem State.startEraseAll_frame (s : State) (k : Fin 8) :
    (s.startEraseAll k).pending = s.pending ∧ (s.startEraseAll k).inputs = s.inputs ∧
    (s.startEraseAll k).drive = s.drive ∧ (s.startEraseAll k).meas = s.meas ∧ (s.startEraseAll k).seq = s.seq ∧
    (s.startEraseAll k).gov = s.gov ∧ (s.startEraseAll k).regs = s.regs ∧ (s.startEraseAll k).watch = s.watch ∧
    (s.startEraseAll k).faults = s.faults ∧ (s.startEraseAll k).level = s.level ∧
    (s.startEraseAll k).record = s.record := by
  simp only [State.startEraseAll]
  repeat' (first | split | simp)

@[simp] theorem State.startEraseAll_mem_wf (s : State) (k : Fin 8) (hm : s.mem.wf = true) :
    (s.startEraseAll k).mem.wf = true := by
  simp only [State.startEraseAll]
  repeat' (first | split | simp (maxDischargeDepth := 40) +contextual [hm])

@[simp] theorem State.writeFrame_frame (s : State) (i : Fin 4) :
    (s.writeFrame i).pending = s.pending ∧ (s.writeFrame i).inputs = s.inputs ∧ (s.writeFrame i).drive = s.drive ∧
    (s.writeFrame i).meas = s.meas ∧ (s.writeFrame i).seq = s.seq ∧ (s.writeFrame i).gov = s.gov ∧
    (s.writeFrame i).regs = s.regs ∧ (s.writeFrame i).watch = s.watch ∧ (s.writeFrame i).faults = s.faults ∧
    (s.writeFrame i).level = s.level ∧ (s.writeFrame i).store = s.store ∧ (s.writeFrame i).req = s.req ∧
    (s.writeFrame i).mem = s.mem := by
  simp only [State.writeFrame]
  repeat' (first | split | simp)

@[simp] theorem State.recordFrame_frame (s : State) :
    (s.recordFrame).pending = s.pending ∧ (s.recordFrame).inputs = s.inputs ∧ (s.recordFrame).drive = s.drive ∧
    (s.recordFrame).meas = s.meas ∧ (s.recordFrame).seq = s.seq ∧ (s.recordFrame).gov = s.gov ∧
    (s.recordFrame).regs = s.regs ∧ (s.recordFrame).watch = s.watch ∧ (s.recordFrame).faults = s.faults ∧
    (s.recordFrame).level = s.level ∧ (s.recordFrame).store = s.store := by
  simp only [State.recordFrame]
  repeat' (first | split | simp)

@[simp] theorem State.recordFrame_mem_wf (s : State) (hm : s.mem.wf = true) :
    (s.recordFrame).mem.wf = true := by
  simp only [State.recordFrame]
  repeat' (first | split | simp (maxDischargeDepth := 40) +contextual [hm])

@[simp] theorem State.takeBelow_frame (s : State) (c : Option TrigCond) (was now : Bool) :
    (s.takeBelow c was now).pending = s.pending ∧ (s.takeBelow c was now).inputs = s.inputs ∧
    (s.takeBelow c was now).drive = s.drive ∧ (s.takeBelow c was now).meas = s.meas ∧
    (s.takeBelow c was now).seq = s.seq ∧ (s.takeBelow c was now).gov = s.gov ∧
    (s.takeBelow c was now).regs = s.regs ∧ (s.takeBelow c was now).watch = s.watch ∧
    (s.takeBelow c was now).faults = s.faults ∧ (s.takeBelow c was now).level = s.level ∧
    (s.takeBelow c was now).store = s.store := by
  simp only [State.takeBelow]
  repeat' (first | split | simp)

@[simp] theorem State.takeBelow_mem_wf (s : State) (c : Option TrigCond) (was now : Bool) (hm : s.mem.wf = true) :
    (s.takeBelow c was now).mem.wf = true := by
  simp only [State.takeBelow]
  repeat' (first | split | simp (maxDischargeDepth := 40) +contextual [hm])

@[simp] theorem State.belowConditions_frame (s : State) :
    (s.belowConditions).pending = s.pending ∧ (s.belowConditions).inputs = s.inputs ∧
    (s.belowConditions).drive = s.drive ∧ (s.belowConditions).meas = s.meas ∧ (s.belowConditions).seq = s.seq ∧
    (s.belowConditions).gov = s.gov ∧ (s.belowConditions).regs = s.regs ∧ (s.belowConditions).watch = s.watch ∧
    (s.belowConditions).faults = s.faults ∧ (s.belowConditions).level = s.level ∧
    (s.belowConditions).store = s.store := by
  simp only [State.belowConditions]
  repeat' (first | split | simp)

@[simp] theorem State.belowConditions_mem_wf (s : State) (hm : s.mem.wf = true) :
    (s.belowConditions).mem.wf = true := by
  simp only [State.belowConditions]
  repeat' (first | split | simp (maxDischargeDepth := 40) +contextual [hm])

@[simp] theorem State.capturePeriod_frame (s : State) :
    (s.capturePeriod).pending = s.pending ∧ (s.capturePeriod).inputs = s.inputs ∧ (s.capturePeriod).drive = s.drive ∧
    (s.capturePeriod).meas = s.meas ∧ (s.capturePeriod).seq = s.seq ∧ (s.capturePeriod).gov = s.gov ∧
    (s.capturePeriod).regs = s.regs ∧ (s.capturePeriod).faults = s.faults ∧ (s.capturePeriod).level = s.level ∧
    (s.capturePeriod).store = s.store := by
  simp only [State.capturePeriod]
  repeat' (first | split | simp)

@[simp] theorem State.capturePeriod_mem_wf (s : State) (hm : s.mem.wf = true) :
    (s.capturePeriod).mem.wf = true := by
  simp only [State.capturePeriod]
  repeat' (first | split | simp (maxDischargeDepth := 40) +contextual [hm])

end Sys2Proof.Machine
end

