-- ==== Sys2Proof/Laws/UnitsHost.lean ====
section
/-! SUPPORT. Frames of the operations on one block that the regulators, the governor, time and the requests make. -/

namespace Sys2Proof.Machine

@[simp] theorem Regulator.compute_frame (g : Regulator) (c : DriveSettings) (vdc idRef iqRef sin cos : Int) :
    (g.compute c vdc idRef iqRef sin cos).angle = g.angle ∧ (g.compute c vdc idRef iqRef sin cos).id = g.id ∧
    (g.compute c vdc idRef iqRef sin cos).iq = g.iq ∧ (g.compute c vdc idRef iqRef sin cos).duties = g.duties ∧
    (g.compute c vdc idRef iqRef sin cos).arrivalSeen = g.arrivalSeen ∧
    (g.compute c vdc idRef iqRef sin cos).firstPeriod = g.firstPeriod ∧
    (g.compute c vdc idRef iqRef sin cos).missing = g.missing ∧
    (g.compute c vdc idRef iqRef sin cos).lastPeriod = g.lastPeriod ∧
    (g.compute c vdc idRef iqRef sin cos).limitedRun = g.limitedRun ∧
    (g.compute c vdc idRef iqRef sin cos).iqSum = g.iqSum ∧
    (g.compute c vdc idRef iqRef sin cos).iqCount = g.iqCount ∧
    (g.compute c vdc idRef iqRef sin cos).gateBlock = g.gateBlock ∧
    (g.compute c vdc idRef iqRef sin cos).overcurrent = g.overcurrent ∧
    (g.compute c vdc idRef iqRef sin cos).gateFault = g.gateFault ∧
    (g.compute c vdc idRef iqRef sin cos).measLoss = g.measLoss ∧
    (g.compute c vdc idRef iqRef sin cos).limitedCond = g.limitedCond ∧
    (g.compute c vdc idRef iqRef sin cos).published = g.published := by
  simp only [Regulator.compute]
  repeat' (first | split | simp)

@[simp] theorem Regulator.computeBlocked_frame (g : Regulator) :
    (g.computeBlocked).angle = g.angle ∧ (g.computeBlocked).dInt = g.dInt ∧ (g.computeBlocked).qInt = g.qInt ∧
    (g.computeBlocked).dClamp = g.dClamp ∧ (g.computeBlocked).qClamp = g.qClamp ∧ (g.computeBlocked).id = g.id ∧
    (g.computeBlocked).iq = g.iq ∧ (g.computeBlocked).duties = g.duties ∧
    (g.computeBlocked).arrivalSeen = g.arrivalSeen ∧ (g.computeBlocked).firstPeriod = g.firstPeriod ∧
    (g.computeBlocked).missing = g.missing ∧ (g.computeBlocked).voltageLimited = g.voltageLimited ∧
    (g.computeBlocked).lastPeriod = g.lastPeriod ∧ (g.computeBlocked).limitedRun = g.limitedRun ∧
    (g.computeBlocked).iqSum = g.iqSum ∧ (g.computeBlocked).iqCount = g.iqCount ∧
    (g.computeBlocked).gateBlock = g.gateBlock ∧ (g.computeBlocked).overcurrent = g.overcurrent ∧
    (g.computeBlocked).gateFault = g.gateFault ∧ (g.computeBlocked).measLoss = g.measLoss ∧
    (g.computeBlocked).limitedCond = g.limitedCond ∧
    (g.computeBlocked).published = g.published := by
  simp only [Regulator.computeBlocked]
  repeat' (first | split | simp)

@[simp] theorem Regulator.measured_frame (g : Regulator) (id iq : Int) :
    (g.measured id iq).angle = g.angle ∧ (g.measured id iq).dInt = g.dInt ∧ (g.measured id iq).qInt = g.qInt ∧
    (g.measured id iq).dClamp = g.dClamp ∧ (g.measured id iq).qClamp = g.qClamp ∧ (g.measured id iq).vd = g.vd ∧
    (g.measured id iq).vq = g.vq ∧ (g.measured id iq).duties = g.duties ∧
    (g.measured id iq).pendingDuties = g.pendingDuties ∧ (g.measured id iq).arrivalSeen = g.arrivalSeen ∧
    (g.measured id iq).firstPeriod = g.firstPeriod ∧ (g.measured id iq).missing = g.missing ∧
    (g.measured id iq).voltageLimited = g.voltageLimited ∧ (g.measured id iq).lastPeriod = g.lastPeriod ∧
    (g.measured id iq).limitedRun = g.limitedRun ∧ (g.measured id iq).gateBlock = g.gateBlock ∧
    (g.measured id iq).overcurrent = g.overcurrent ∧ (g.measured id iq).gateFault = g.gateFault ∧
    (g.measured id iq).measLoss = g.measLoss ∧ (g.measured id iq).limitedCond = g.limitedCond ∧
    (g.measured id iq).published = g.published := by
  simp only [Regulator.measured]
  repeat' (first | split | simp)

@[simp] theorem Regulator.publish_frame (g : Regulator) :
    g.publish.angle = g.angle ∧ g.publish.dInt = g.dInt ∧ g.publish.qInt = g.qInt ∧ g.publish.dClamp = g.dClamp ∧
    g.publish.qClamp = g.qClamp ∧ g.publish.vd = g.vd ∧ g.publish.vq = g.vq ∧ g.publish.id = g.id ∧ g.publish.iq = g.iq ∧
    g.publish.duties = g.duties ∧ g.publish.pendingDuties = g.pendingDuties ∧ g.publish.arrivalSeen = g.arrivalSeen ∧
    g.publish.firstPeriod = g.firstPeriod ∧ g.publish.missing = g.missing ∧ g.publish.voltageLimited = g.voltageLimited ∧
    g.publish.lastPeriod = g.lastPeriod ∧ g.publish.limitedRun = g.limitedRun ∧ g.publish.iqSum = g.iqSum ∧
    g.publish.iqCount = g.iqCount ∧ g.publish.gateBlock = g.gateBlock ∧ g.publish.overcurrent = g.overcurrent ∧
    g.publish.gateFault = g.gateFault ∧ g.publish.measLoss = g.measLoss ∧ g.publish.limitedCond = g.limitedCond ∧
    g.publish.published = ⟨g.vd, g.vq, g.duties, g.pendingDuties, g.missing⟩ := by
  simp only [Regulator.publish]
  repeat' (first | split | simp)

@[simp] theorem Regulator.publishDuties_frame (g : Regulator) :
    g.publishDuties.angle = g.angle ∧ g.publishDuties.dInt = g.dInt ∧ g.publishDuties.qInt = g.qInt ∧
    g.publishDuties.dClamp = g.dClamp ∧ g.publishDuties.qClamp = g.qClamp ∧ g.publishDuties.vd = g.vd ∧
    g.publishDuties.vq = g.vq ∧ g.publishDuties.id = g.id ∧ g.publishDuties.iq = g.iq ∧ g.publishDuties.duties = g.duties ∧
    g.publishDuties.pendingDuties = g.pendingDuties ∧ g.publishDuties.arrivalSeen = g.arrivalSeen ∧
    g.publishDuties.firstPeriod = g.firstPeriod ∧ g.publishDuties.missing = g.missing ∧
    g.publishDuties.voltageLimited = g.voltageLimited ∧ g.publishDuties.lastPeriod = g.lastPeriod ∧
    g.publishDuties.limitedRun = g.limitedRun ∧ g.publishDuties.iqSum = g.iqSum ∧ g.publishDuties.iqCount = g.iqCount ∧
    g.publishDuties.gateBlock = g.gateBlock ∧ g.publishDuties.overcurrent = g.overcurrent ∧
    g.publishDuties.gateFault = g.gateFault ∧ g.publishDuties.measLoss = g.measLoss ∧
    g.publishDuties.limitedCond = g.limitedCond ∧ g.publishDuties.published = { g.published with duties := g.duties } := by
  simp only [Regulator.publishDuties]
  repeat' (first | split | simp)

/-- All that the STATUS READ of a poll changes: the transfer begun last. -/
theorem State.readStatus_eq (s : State) :
    s.readStatus = { s with store := { s.store with
      lastTransfer := if s.store.polling then some s.store.statusRead else s.store.lastTransfer } } := by
  simp only [State.readStatus, State.setStore]
  split <;> rfl

@[simp] theorem Regulator.takeDuties_frame (g : Regulator) :
    (g.takeDuties).angle = g.angle ∧ (g.takeDuties).dInt = g.dInt ∧ (g.takeDuties).qInt = g.qInt ∧
    (g.takeDuties).dClamp = g.dClamp ∧ (g.takeDuties).qClamp = g.qClamp ∧ (g.takeDuties).vd = g.vd ∧
    (g.takeDuties).vq = g.vq ∧ (g.takeDuties).id = g.id ∧ (g.takeDuties).iq = g.iq ∧
    (g.takeDuties).arrivalSeen = g.arrivalSeen ∧ (g.takeDuties).firstPeriod = g.firstPeriod ∧
    (g.takeDuties).missing = g.missing ∧ (g.takeDuties).voltageLimited = g.voltageLimited ∧
    (g.takeDuties).lastPeriod = g.lastPeriod ∧ (g.takeDuties).limitedRun = g.limitedRun ∧
    (g.takeDuties).iqSum = g.iqSum ∧ (g.takeDuties).iqCount = g.iqCount ∧ (g.takeDuties).gateBlock = g.gateBlock ∧
    (g.takeDuties).overcurrent = g.overcurrent ∧ (g.takeDuties).gateFault = g.gateFault ∧
    (g.takeDuties).measLoss = g.measLoss ∧ (g.takeDuties).limitedCond = g.limitedCond ∧
    (g.takeDuties).published = g.published := by
  simp only [Regulator.takeDuties]
  repeat' (first | split | simp)

@[simp] theorem Regulator.taken_frame (g : Regulator) (inSet : Bool) :
    (g.taken inSet).angle = g.angle ∧ (g.taken inSet).dInt = g.dInt ∧ (g.taken inSet).qInt = g.qInt ∧
    (g.taken inSet).dClamp = g.dClamp ∧ (g.taken inSet).qClamp = g.qClamp ∧ (g.taken inSet).vd = g.vd ∧
    (g.taken inSet).vq = g.vq ∧ (g.taken inSet).id = g.id ∧ (g.taken inSet).iq = g.iq ∧
    (g.taken inSet).duties = g.duties ∧ (g.taken inSet).pendingDuties = g.pendingDuties ∧
    (g.taken inSet).arrivalSeen = g.arrivalSeen ∧ (g.taken inSet).firstPeriod = g.firstPeriod ∧
    (g.taken inSet).missing = g.missing ∧ (g.taken inSet).gateBlock = g.gateBlock ∧
    (g.taken inSet).overcurrent = g.overcurrent ∧ (g.taken inSet).gateFault = g.gateFault ∧
    (g.taken inSet).measLoss = g.measLoss ∧
    (g.taken inSet).published = g.published := by
  simp only [Regulator.taken]
  repeat' (first | split | simp)

@[simp] theorem Governor.common_frame (g : Governor) (c : DriveSettings) (t : Pair Taken) (demand : Pair Int) :
    (g.common c t demand).iacc = g.iacc ∧ (g.common c t demand).hold = g.hold ∧ (g.common c t demand).e = g.e ∧
    (g.common c t demand).p = g.p ∧ (g.common c t demand).i = g.i ∧ (g.common c t demand).td = g.td ∧
    (g.common c t demand).l0 = g.l0 ∧ (g.common c t demand).h = g.h ∧ (g.common c t demand).limit = g.limit ∧
    (g.common c t demand).limitDir = g.limitDir ∧ (g.common c t demand).tg = g.tg ∧ (g.common c t demand).tp = g.tp ∧
    (g.common c t demand).torque = g.torque ∧ (g.common c t demand).atLimit = g.atLimit ∧
    (g.common c t demand).idRef = g.idRef ∧ (g.common c t demand).iqRef = g.iqRef ∧
    (g.common c t demand).history = g.history ∧ (g.common c t demand).devCount = g.devCount ∧
    (g.common c t demand).overspeed = g.overspeed ∧ (g.common c t demand).envelope = g.envelope ∧
    (g.common c t demand).awaiting = g.awaiting := by
  simp only [Governor.common]
  repeat' (first | split | simp)

@[simp] theorem Governor.idlePeriod_frame (g : Governor) (drive : DriveState) (flux : Int) :
    (g.idlePeriod drive flux).e = g.e ∧ (g.idlePeriod drive flux).p = g.p ∧ (g.idlePeriod drive flux).i = g.i ∧
    (g.idlePeriod drive flux).h = g.h ∧ (g.idlePeriod drive flux).demand = g.demand ∧
    (g.idlePeriod drive flux).factor = g.factor ∧ (g.idlePeriod drive flux).estimate = g.estimate ∧
    (g.idlePeriod drive flux).history = g.history ∧ (g.idlePeriod drive flux).overspeed = g.overspeed ∧
    (g.idlePeriod drive flux).envelope = g.envelope ∧ (g.idlePeriod drive flux).awaiting = g.awaiting := by
  simp only [Governor.idlePeriod]
  repeat' (first | split | simp)

@[simp] theorem Governor.regulate_frame (g : Governor) (c : DriveSettings) (e : Int) :
    (g.regulate c e).hold = g.hold ∧ (g.regulate c e).l0 = g.l0 ∧ (g.regulate c e).h = g.h ∧
    (g.regulate c e).demand = g.demand ∧ (g.regulate c e).factor = g.factor ∧ (g.regulate c e).limit = g.limit ∧
    (g.regulate c e).limitDir = g.limitDir ∧ (g.regulate c e).tg = g.tg ∧ (g.regulate c e).tp = g.tp ∧
    (g.regulate c e).torque = g.torque ∧ (g.regulate c e).atLimit = g.atLimit ∧ (g.regulate c e).idRef = g.idRef ∧
    (g.regulate c e).iqRef = g.iqRef ∧ (g.regulate c e).estimate = g.estimate ∧ (g.regulate c e).history = g.history ∧
    (g.regulate c e).devCount = g.devCount ∧ (g.regulate c e).overspeed = g.overspeed ∧
    (g.regulate c e).envelope = g.envelope ∧ (g.regulate c e).awaiting = g.awaiting := by
  simp only [Governor.regulate]
  repeat' (first | split | simp)

@[simp] theorem Governor.grant_frame (g : Governor) (c : DriveSettings) (t : Pair Taken) (n : Int) (l0 : DirLimit) :
    (g.grant c t n l0).iacc = g.iacc ∧ (g.grant c t n l0).e = g.e ∧ (g.grant c t n l0).p = g.p ∧
    (g.grant c t n l0).i = g.i ∧ (g.grant c t n l0).td = g.td ∧ (g.grant c t n l0).h = g.h ∧
    (g.grant c t n l0).demand = g.demand ∧ (g.grant c t n l0).factor = g.factor ∧
    (g.grant c t n l0).estimate = g.estimate ∧ (g.grant c t n l0).history = g.history ∧
    (g.grant c t n l0).overspeed = g.overspeed ∧ (g.grant c t n l0).envelope = g.envelope ∧
    (g.grant c t n l0).awaiting = g.awaiting := by
  simp only [Governor.grant]
  repeat' (first | split | simp)

@[simp] theorem Governor.supervised_frame (g : Governor) (c : DriveSettings) (drive : DriveState) (n : Int) :
    (g.supervised c drive n).iacc = g.iacc ∧ (g.supervised c drive n).hold = g.hold ∧
    (g.supervised c drive n).e = g.e ∧ (g.supervised c drive n).p = g.p ∧ (g.supervised c drive n).i = g.i ∧
    (g.supervised c drive n).td = g.td ∧ (g.supervised c drive n).l0 = g.l0 ∧ (g.supervised c drive n).h = g.h ∧
    (g.supervised c drive n).demand = g.demand ∧ (g.supervised c drive n).factor = g.factor ∧
    (g.supervised c drive n).limit = g.limit ∧ (g.supervised c drive n).limitDir = g.limitDir ∧
    (g.supervised c drive n).tg = g.tg ∧ (g.supervised c drive n).tp = g.tp ∧
    (g.supervised c drive n).torque = g.torque ∧ (g.supervised c drive n).atLimit = g.atLimit ∧
    (g.supervised c drive n).idRef = g.idRef ∧ (g.supervised c drive n).iqRef = g.iqRef ∧
    (g.supervised c drive n).estimate = g.estimate ∧ (g.supervised c drive n).envelope = g.envelope ∧
    (g.supervised c drive n).awaiting = g.awaiting := by
  simp only [Governor.supervised]
  repeat' (first | split | simp)

@[simp] theorem Governor.takeEnvelope_frame (g : Governor) :
    (g.takeEnvelope).iacc = g.iacc ∧ (g.takeEnvelope).hold = g.hold ∧ (g.takeEnvelope).e = g.e ∧
    (g.takeEnvelope).p = g.p ∧ (g.takeEnvelope).i = g.i ∧ (g.takeEnvelope).td = g.td ∧ (g.takeEnvelope).l0 = g.l0 ∧
    (g.takeEnvelope).h = g.h ∧ (g.takeEnvelope).demand = g.demand ∧ (g.takeEnvelope).factor = g.factor ∧
    (g.takeEnvelope).limit = g.limit ∧ (g.takeEnvelope).limitDir = g.limitDir ∧ (g.takeEnvelope).tg = g.tg ∧
    (g.takeEnvelope).tp = g.tp ∧ (g.takeEnvelope).torque = g.torque ∧ (g.takeEnvelope).atLimit = g.atLimit ∧
    (g.takeEnvelope).idRef = g.idRef ∧ (g.takeEnvelope).iqRef = g.iqRef ∧ (g.takeEnvelope).estimate = g.estimate ∧
    (g.takeEnvelope).history = g.history ∧ (g.takeEnvelope).devCount = g.devCount ∧
    (g.takeEnvelope).overspeed = g.overspeed := by
  simp only [Governor.takeEnvelope]
  repeat' (first | split | simp)

@[simp] theorem Sequencer.stepRamp_frame (q : Sequencer) (c : DriveSettings) :
    (q.stepRamp c).drive = q.drive ∧ (q.stepRamp c).phase = q.phase ∧ (q.stepRamp c).runKind = q.runKind ∧
    (q.stepRamp c).direction = q.direction ∧ (q.stepRamp c).hostTarget = q.hostTarget ∧
    (q.stepRamp c).rampTarget = q.rampTarget ∧ (q.stepRamp c).flux = q.flux ∧ (q.stepRamp c).magCount = q.magCount ∧
    (q.stepRamp c).breakawayCount = q.breakawayCount ∧ (q.stepRamp c).zeroCount = q.zeroCount ∧
    (q.stepRamp c).brakeCount = q.brakeCount ∧ (q.stepRamp c).brakeRelease = q.brakeRelease ∧
    (q.stepRamp c).gate = q.gate ∧ (q.stepRamp c).restartPending = q.restartPending ∧
    (q.stepRamp c).backroll = q.backroll ∧ (q.stepRamp c).permit = q.permit ∧ (q.stepRamp c).eStop = q.eStop := by
  simp only [Sequencer.stepRamp]
  repeat' (first | split | simp)

@[simp] theorem Sequencer.retarget_frame (q : Sequencer) (c : DriveSettings) :
    (q.retarget c).drive = q.drive ∧ (q.retarget c).phase = q.phase ∧ (q.retarget c).runKind = q.runKind ∧
    (q.retarget c).direction = q.direction ∧ (q.retarget c).hostTarget = q.hostTarget ∧ (q.retarget c).ramp = q.ramp ∧
    (q.retarget c).flux = q.flux ∧ (q.retarget c).magCount = q.magCount ∧
    (q.retarget c).breakawayCount = q.breakawayCount ∧ (q.retarget c).zeroCount = q.zeroCount ∧
    (q.retarget c).brakeCount = q.brakeCount ∧ (q.retarget c).brakeRelease = q.brakeRelease ∧
    (q.retarget c).gate = q.gate ∧ (q.retarget c).restartPending = q.restartPending ∧
    (q.retarget c).backroll = q.backroll ∧ (q.retarget c).permit = q.permit ∧ (q.retarget c).eStop = q.eStop := by
  simp only [Sequencer.retarget]
  repeat' (first | split | simp)

@[simp] theorem FaultUnit.elapse_frame (us : Nat) (f : FaultUnit) :
    (FaultUnit.elapse us f).entries = f.entries ∧ (FaultUnit.elapse us f).lock = f.lock ∧
    (FaultUnit.elapse us f).windowOpen = f.windowOpen ∧ (FaultUnit.elapse us f).firstCauseTime = f.firstCauseTime ∧
    (FaultUnit.elapse us f).windowLen = f.windowLen := by
  simp only [FaultUnit.elapse]
  repeat' (first | split | simp)

@[simp] theorem RecordUnit.elapse_frame (us : Nat) (r : RecordUnit) :
    (RecordUnit.elapse us r).banks = r.banks ∧ (RecordUnit.elapse us r).program = r.program ∧
    (RecordUnit.elapse us r).trigState = r.trigState ∧ (RecordUnit.elapse us r).deadline = r.deadline ∧
    (RecordUnit.elapse us r).belowFirst = r.belowFirst ∧ (RecordUnit.elapse us r).belowSecond = r.belowSecond ∧
    (RecordUnit.elapse us r).openRecord = r.openRecord ∧ (RecordUnit.elapse us r).kindSet = r.kindSet ∧
    (RecordUnit.elapse us r).idCounter = r.idCounter ∧ (RecordUnit.elapse us r).nextIndex = r.nextIndex ∧
    (RecordUnit.elapse us r).entries = r.entries ∧ (RecordUnit.elapse us r).unposted = r.unposted ∧
    (RecordUnit.elapse us r).settings = r.settings ∧ (RecordUnit.elapse us r).resets = r.resets := by
  simp only [RecordUnit.elapse]
  repeat' (first | split | simp)

@[simp] theorem StoreUnit.elapse_frame (us : Nat) (u : StoreUnit) :
    (StoreUnit.elapse us u).state = u.state ∧ (StoreUnit.elapse us u).sectors = u.sectors ∧
    (StoreUnit.elapse us u).badCount = u.badCount ∧ (StoreUnit.elapse us u).openSector = u.openSector ∧
    (StoreUnit.elapse us u).nextSlot = u.nextSlot ∧ (StoreUnit.elapse us u).toOpen = u.toOpen ∧
    (StoreUnit.elapse us u).erase = u.erase ∧ (StoreUnit.elapse us u).eraseSector = u.eraseSector ∧
    (StoreUnit.elapse us u).queue = u.queue ∧ (StoreUnit.elapse us u).readPtr = u.readPtr ∧
    (StoreUnit.elapse us u).hostOp = u.hostOp ∧ (StoreUnit.elapse us u).dropped = u.dropped ∧
    (StoreUnit.elapse us u).failed = u.failed ∧ (StoreUnit.elapse us u).settings = u.settings ∧
    (StoreUnit.elapse us u).awaiting = u.awaiting ∧ (StoreUnit.elapse us u).job = u.job ∧
    (StoreUnit.elapse us u).transfer = u.transfer ∧
    (StoreUnit.elapse us u).lastTransfer = u.lastTransfer := by
  simp only [StoreUnit.elapse]
  repeat' (first | split | simp)

@[simp] theorem RequestUnit.tick_frame (q : RequestUnit) :
    (q.tick).slots = q.slots ∧ (q.tick).order = q.order ∧ (q.tick).holder = q.holder ∧ (q.tick).fetch = q.fetch ∧
    (q.tick).chain = q.chain ∧ (q.tick).misuse = q.misuse ∧ (q.tick).notice = q.notice ∧
    (q.tick).noticeEnable = q.noticeEnable ∧ (q.tick).starting = q.starting ∧ (q.tick).updateCount = q.updateCount ∧
    (q.tick).clockSet = q.clockSet := by
  simp only [RequestUnit.tick]
  repeat' (first | split | simp)

@[simp] theorem RecordUnit.release_frame (r : RecordUnit) (i : Fin 4) :
    (r.release i).program = r.program ∧ (r.release i).trigState = r.trigState ∧ (r.release i).deadline = r.deadline ∧
    (r.release i).windowTimer = r.windowTimer ∧ (r.release i).belowFirst = r.belowFirst ∧
    (r.release i).belowSecond = r.belowSecond ∧ (r.release i).openRecord = r.openRecord ∧
    (r.release i).kindSet = r.kindSet ∧ (r.release i).idCounter = r.idCounter ∧
    (r.release i).nextIndex = r.nextIndex ∧ (r.release i).entries = r.entries ∧ (r.release i).unposted = r.unposted ∧
    (r.release i).settings = r.settings ∧ (r.release i).resets = r.resets := by
  simp only [RecordUnit.release]
  repeat' (first | split | simp)

@[simp] theorem RecordUnit.stepBelow_frame (r : RecordUnit) (n : Int) :
    (r.stepBelow n).banks = r.banks ∧ (r.stepBelow n).program = r.program ∧ (r.stepBelow n).trigState = r.trigState ∧
    (r.stepBelow n).deadline = r.deadline ∧ (r.stepBelow n).windowTimer = r.windowTimer ∧
    (r.stepBelow n).openRecord = r.openRecord ∧ (r.stepBelow n).kindSet = r.kindSet ∧
    (r.stepBelow n).idCounter = r.idCounter ∧ (r.stepBelow n).nextIndex = r.nextIndex ∧
    (r.stepBelow n).entries = r.entries ∧ (r.stepBelow n).unposted = r.unposted ∧
    (r.stepBelow n).settings = r.settings ∧ (r.stepBelow n).resets = r.resets := by
  simp only [RecordUnit.stepBelow]
  repeat' (first | split | simp)

end Sys2Proof.Machine
end

