-- ==== Sys2Proof/Laws/KeepUnits.lean ====
section
/-! SUPPORT. Which operations leave the lock, the grouping window, the pending restart and the count of resets as they
are; and that with no restart pending no operation brings a reset about. -/

set_option linter.unusedTactic false
set_option linter.unreachableTactic false
set_option linter.unusedSimpArgs false

namespace Sys2Proof.Machine

@[simp] theorem State.reportOvercurrent_calm (s : State) (x : Side) (oc : Bool)
    (hr : s.seq.restartPending = false) :
    (s.reportOvercurrent x oc).seq.restartPending = false ∧
    (s.reportOvercurrent x oc).record.resets = s.record.resets ∧ (s.reportOvercurrent x oc).drive = s.drive ∧
    (s.reportOvercurrent x oc).meas = s.meas ∧ (s.reportOvercurrent x oc).watch = s.watch := by
  simp only [State.reportOvercurrent]
  repeat' (first | split | (simp (maxDischargeDepth := 40) -implicitDefEqProofs +contextual [hr]; done) | simp (maxDischargeDepth := 40) -implicitDefEqProofs [hr])

@[simp] theorem State.arrival_calm (s : State) (x : Side) (f : SampleSet)
    (hr : s.seq.restartPending = false) :
    (s.arrival x f).seq.restartPending = false ∧ (s.arrival x f).record.resets = s.record.resets ∧
    (s.arrival x f).drive = s.drive ∧ (s.arrival x f).meas = s.meas ∧ (s.arrival x f).watch = s.watch := by
  simp only [State.arrival]
  repeat' (first | split | (simp (maxDischargeDepth := 40) -implicitDefEqProofs +contextual [hr]; done) | simp (maxDischargeDepth := 40) -implicitDefEqProofs [hr])

@[simp] theorem State.undervoltTest_calm (s : State) (x : Side) (vdc : Int)
    (hr : s.seq.restartPending = false) :
    (s.undervoltTest x vdc).seq.restartPending = false ∧ (s.undervoltTest x vdc).record.resets = s.record.resets ∧
    (s.undervoltTest x vdc).drive = s.drive ∧ (s.undervoltTest x vdc).meas = s.meas ∧
    (s.undervoltTest x vdc).watch = s.watch := by
  simp only [State.undervoltTest]
  repeat' (first | split | (simp (maxDischargeDepth := 40) -implicitDefEqProofs +contextual [hr]; done) | simp (maxDischargeDepth := 40) -implicitDefEqProofs [hr])

@[simp] theorem State.lowTestAbsent_keeps (s : State) (x : Side) (vdc : Int) :
    (s.lowTestAbsent x vdc).faults.lock = s.faults.lock ∧
    (s.lowTestAbsent x vdc).faults.windowOpen = s.faults.windowOpen := by
  simp only [State.lowTestAbsent]
  repeat' (first | split | simp)

@[simp] theorem State.lowTestPresent_keeps (s : State) (x : Side) (vdc : Int) :
    (s.lowTestPresent x vdc).faults.lock = s.faults.lock ∧
    (s.lowTestPresent x vdc).faults.windowOpen = s.faults.windowOpen := by
  simp only [State.lowTestPresent]
  repeat' (first | split | simp)

@[simp] theorem State.lowTest_keeps (s : State) (x : Side) (vdc : Int) :
    (s.lowTest x vdc).faults.lock = s.faults.lock ∧ (s.lowTest x vdc).faults.windowOpen = s.faults.windowOpen := by
  simp only [State.lowTest]
  repeat' (first | split | simp)

@[simp] theorem State.overvoltTest_calm (s : State) (x : Side) (vdc : Int)
    (hr : s.seq.restartPending = false) :
    (s.overvoltTest x vdc).seq.restartPending = false ∧ (s.overvoltTest x vdc).record.resets = s.record.resets ∧
    (s.overvoltTest x vdc).drive = s.drive ∧ (s.overvoltTest x vdc).meas = s.meas ∧
    (s.overvoltTest x vdc).watch = s.watch := by
  simp only [State.overvoltTest]
  repeat' (first | split | (simp (maxDischargeDepth := 40) -implicitDefEqProofs +contextual [hr]; done) | simp (maxDischargeDepth := 40) -implicitDefEqProofs [hr])

@[simp] theorem State.frameEnd_calm (s : State) (x : Side) (f : SampleFrame)
    (hr : s.seq.restartPending = false) :
    (s.frameEnd x f).seq.restartPending = false ∧ (s.frameEnd x f).record.resets = s.record.resets ∧
    (s.frameEnd x f).drive = s.drive ∧ (s.frameEnd x f).watch = s.watch := by
  simp only [State.frameEnd, State.unlessReset]
  repeat' (first | split | (simp (maxDischargeDepth := 40) -implicitDefEqProofs +contextual [hr]; done) | simp (maxDischargeDepth := 40) -implicitDefEqProofs [hr])

@[simp] theorem State.periodSeen_keeps (s : State) (x : Side) :
    (s.periodSeen x).faults.lock = s.faults.lock ∧ (s.periodSeen x).faults.windowOpen = s.faults.windowOpen := by
  simp only [State.periodSeen]
  repeat' (first | split | simp)

@[simp] theorem State.measLossRise_calm (s : State) (x : Side)
    (hr : s.seq.restartPending = false) :
    (s.measLossRise x).seq.restartPending = false ∧ (s.measLossRise x).record.resets = s.record.resets ∧
    (s.measLossRise x).drive = s.drive ∧ (s.measLossRise x).meas = s.meas ∧ (s.measLossRise x).watch = s.watch := by
  simp only [State.measLossRise]
  repeat' (first | split | (simp (maxDischargeDepth := 40) -implicitDefEqProofs +contextual [hr]; done) | simp (maxDischargeDepth := 40) -implicitDefEqProofs [hr])

@[simp] theorem State.periodMissing_calm (s : State) (x : Side)
    (hr : s.seq.restartPending = false) :
    (s.periodMissing x).seq.restartPending = false ∧ (s.periodMissing x).record.resets = s.record.resets ∧
    (s.periodMissing x).drive = s.drive ∧ (s.periodMissing x).meas = s.meas ∧ (s.periodMissing x).watch = s.watch := by
  simp only [State.periodMissing]
  repeat' (first | split | (simp (maxDischargeDepth := 40) -implicitDefEqProofs +contextual [hr]; done) | simp (maxDischargeDepth := 40) -implicitDefEqProofs [hr])

@[simp] theorem State.missingTest_calm (s : State) (x : Side)
    (hr : s.seq.restartPending = false) :
    (s.missingTest x).seq.restartPending = false ∧ (s.missingTest x).record.resets = s.record.resets ∧
    (s.missingTest x).drive = s.drive ∧ (s.missingTest x).meas = s.meas ∧ (s.missingTest x).watch = s.watch := by
  simp only [State.missingTest]
  repeat' (first | split | (simp (maxDischargeDepth := 40) -implicitDefEqProofs +contextual [hr]; done) | simp (maxDischargeDepth := 40) -implicitDefEqProofs [hr])

@[simp] theorem State.currentPeriod_calm (s : State) (x : Side)
    (hr : s.seq.restartPending = false) :
    (s.currentPeriod x).seq.restartPending = false ∧ (s.currentPeriod x).record.resets = s.record.resets ∧
    (s.currentPeriod x).drive = s.drive ∧ (s.currentPeriod x).watch = s.watch := by
  simp only [State.currentPeriod, State.unlessReset]
  repeat' (first | split | (simp (maxDischargeDepth := 40) -implicitDefEqProofs +contextual [hr]; done) | simp (maxDischargeDepth := 40) -implicitDefEqProofs [hr])

@[simp] theorem State.gateFaultRise_calm (s : State) (x : Side)
    (hr : s.seq.restartPending = false) :
    (s.gateFaultRise x).seq.restartPending = false ∧ (s.gateFaultRise x).record.resets = s.record.resets ∧
    (s.gateFaultRise x).drive = s.drive ∧ (s.gateFaultRise x).meas = s.meas ∧ (s.gateFaultRise x).watch = s.watch := by
  simp only [State.gateFaultRise]
  repeat' (first | split | (simp (maxDischargeDepth := 40) -implicitDefEqProofs +contextual [hr]; done) | simp (maxDischargeDepth := 40) -implicitDefEqProofs [hr])

@[simp] theorem State.takeRegulator_keeps (s : State) (x : Side) :
    (s.takeRegulator x).faults.lock = s.faults.lock ∧ (s.takeRegulator x).faults.windowOpen = s.faults.windowOpen ∧
    (s.takeRegulator x).record.resets = s.record.resets := by
  simp only [State.takeRegulator]
  repeat' (first | split | simp)

@[simp] theorem State.governorReports_calm (s : State) (devA devB jam fast : Bool)
    (hr : s.seq.restartPending = false) :
    (s.governorReports devA devB jam fast).seq.restartPending = false ∧
    (s.governorReports devA devB jam fast).record.resets = s.record.resets ∧
    (s.governorReports devA devB jam fast).drive = s.drive ∧ (s.governorReports devA devB jam fast).meas = s.meas ∧
    (s.governorReports devA devB jam fast).watch = s.watch := by
  simp only [State.governorReports, State.unlessReset]
  repeat' (first | split | (simp (maxDischargeDepth := 40) -implicitDefEqProofs +contextual [hr]; done) | simp (maxDischargeDepth := 40) -implicitDefEqProofs [hr])

@[simp] theorem State.governorEnd_calm (slot : Option (Fin 8)) (s : State)
    (hr : s.seq.restartPending = false) :
    (State.governorEnd slot s).seq.restartPending = false ∧
    (State.governorEnd slot s).record.resets = s.record.resets ∧ (State.governorEnd slot s).drive = s.drive ∧
    (State.governorEnd slot s).meas = s.meas ∧ (State.governorEnd slot s).watch = s.watch := by
  simp only [State.governorEnd]
  repeat' (first | split | (simp (maxDischargeDepth := 40) -implicitDefEqProofs +contextual [hr]; done) | simp (maxDischargeDepth := 40) -implicitDefEqProofs [hr])

@[simp] theorem State.governorPublish_calm (s : State) (t : Pair Taken)
    (hr : s.seq.restartPending = false) :
    (s.governorPublish t).seq.restartPending = false ∧ (s.governorPublish t).record.resets = s.record.resets ∧
    (s.governorPublish t).drive = s.drive ∧ (s.governorPublish t).meas = s.meas ∧
    (s.governorPublish t).watch = s.watch := by
  simp only [State.governorPublish]
  repeat' (first | split | (simp (maxDischargeDepth := 40) -implicitDefEqProofs +contextual [hr]; done) | simp (maxDischargeDepth := 40) -implicitDefEqProofs [hr])

@[simp] theorem State.governorPeriod_calm (s : State)
    (hr : s.seq.restartPending = false) :
    (s.governorPeriod).seq.restartPending = false ∧ (s.governorPeriod).record.resets = s.record.resets ∧
    (s.governorPeriod).drive = s.drive ∧ (s.governorPeriod).meas = s.meas ∧ (s.governorPeriod).watch = s.watch := by
  simp only [State.governorPeriod, State.unlessReset]
  repeat' (first | split | (simp (maxDischargeDepth := 40) -implicitDefEqProofs +contextual [hr]; done) | simp (maxDischargeDepth := 40) -implicitDefEqProofs [hr])

@[simp] theorem State.reportPosition_keeps (s : State) :
    (s.reportPosition).faults.lock = s.faults.lock ∧ (s.reportPosition).faults.windowOpen = s.faults.windowOpen := by
  simp only [State.reportPosition]
  repeat' (first | split | simp)

@[simp] theorem State.disagreeTest_calm (s : State)
    (hr : s.seq.restartPending = false) :
    (s.disagreeTest).seq.restartPending = false ∧ (s.disagreeTest).record.resets = s.record.resets ∧
    (s.disagreeTest).drive = s.drive ∧ (s.disagreeTest).meas = s.meas ∧ (s.disagreeTest).watch = s.watch := by
  simp only [State.disagreeTest]
  repeat' (first | split | (simp (maxDischargeDepth := 40) -implicitDefEqProofs +contextual [hr]; done) | simp (maxDischargeDepth := 40) -implicitDefEqProofs [hr])

@[simp] theorem State.speedUpdate_calm (s : State)
    (hr : s.seq.restartPending = false) :
    (s.speedUpdate).seq.restartPending = false ∧ (s.speedUpdate).record.resets = s.record.resets ∧
    (s.speedUpdate).drive = s.drive ∧ (s.speedUpdate).watch = s.watch := by
  simp only [State.speedUpdate, State.unlessReset]
  repeat' (first | split | (simp (maxDischargeDepth := 40) -implicitDefEqProofs +contextual [hr]; done) | simp (maxDischargeDepth := 40) -implicitDefEqProofs [hr])

@[simp] theorem State.formSuspect_keeps (s : State) (c : Channel) :
    (s.formSuspect c).faults.lock = s.faults.lock ∧ (s.formSuspect c).faults.windowOpen = s.faults.windowOpen := by
  simp only [State.formSuspect]
  repeat' (first | split | simp)

@[simp] theorem State.formLost_keeps (s : State) (c : Channel) :
    (s.formLost c).faults.lock = s.faults.lock ∧ (s.formLost c).faults.windowOpen = s.faults.windowOpen := by
  simp only [State.formLost]
  repeat' (first | split | simp)

@[simp] theorem State.formAlert_keeps (s : State) (g : Side) :
    (s.formAlert g).faults.lock = s.faults.lock ∧ (s.formAlert g).faults.windowOpen = s.faults.windowOpen := by
  simp only [State.formAlert]
  repeat' (first | split | simp)

@[simp] theorem State.formGroup_keeps (s : State) (g : Side) :
    (s.formGroup g).faults.lock = s.faults.lock ∧ (s.formGroup g).faults.windowOpen = s.faults.windowOpen := by
  simp only [State.formGroup]
  repeat' (first | split | simp)

@[simp] theorem State.healthChanged_keeps (s : State) (c : Channel) :
    (s.healthChanged c).faults.lock = s.faults.lock ∧ (s.healthChanged c).faults.windowOpen = s.faults.windowOpen ∧
    (s.healthChanged c).record.resets = s.record.resets := by
  simp only [State.healthChanged]
  repeat' (first | split | simp)

@[simp] theorem State.heldLost_keeps (s : State) (c : Channel) :
    (s.heldLost c).faults.lock = s.faults.lock ∧ (s.heldLost c).faults.windowOpen = s.faults.windowOpen ∧
    (s.heldLost c).record.resets = s.record.resets := by
  simp only [State.heldLost]
  repeat' (first | split | simp)

@[simp] theorem State.vibEntry_keeps (s : State) (c : Channel) (v0 : VibState) :
    (s.vibEntry c v0).record.resets = s.record.resets := by
  simp only [State.vibEntry]
  repeat' (first | split | simp)

@[simp] theorem State.evaluateChannel_keeps (s : State) (c : Channel) :
    (s.evaluateChannel c).faults.lock = s.faults.lock ∧
    (s.evaluateChannel c).faults.windowOpen = s.faults.windowOpen ∧
    (s.evaluateChannel c).record.resets = s.record.resets := by
  simp only [State.evaluateChannel]
  repeat' (first | split | simp)

@[simp] theorem State.testMemory_keeps (s : State) (c : Channel) (evaluated : Bool) :
    (s.testMemory c evaluated).faults.lock = s.faults.lock ∧
    (s.testMemory c evaluated).faults.windowOpen = s.faults.windowOpen := by
  simp only [State.testMemory]
  repeat' (first | split | simp)

@[simp] theorem State.blockEndChannel_keeps (s : State) (c : Channel) :
    (s.blockEndChannel c).faults.lock = s.faults.lock ∧
    (s.blockEndChannel c).faults.windowOpen = s.faults.windowOpen ∧
    (s.blockEndChannel c).record.resets = s.record.resets := by
  simp only [State.blockEndChannel]
  repeat' (first | split | simp)

@[simp] theorem State.formSectors_keeps (s : State) (c : Channel) :
    (s.formSectors c).faults.lock = s.faults.lock ∧ (s.formSectors c).faults.windowOpen = s.faults.windowOpen ∧
    (s.formSectors c).record.resets = s.record.resets := by
  simp only [State.formSectors]
  repeat' (first | split | simp)

@[simp] theorem State.visitWork_keeps (s : State) (c : Channel) (t : Tag) (y : Int) :
    (s.visitWork c t y).faults.lock = s.faults.lock ∧ (s.visitWork c t y).faults.windowOpen = s.faults.windowOpen ∧
    (s.visitWork c t y).record.resets = s.record.resets := by
  simp only [State.visitWork]
  repeat' (first | split | simp)

@[simp] theorem State.sampleWork_keeps (s : State) (c : Channel) (r : Receiver) :
    (s.sampleWork c r).faults.lock = s.faults.lock ∧ (s.sampleWork c r).faults.windowOpen = s.faults.windowOpen ∧
    (s.sampleWork c r).record.resets = s.record.resets := by
  simp only [State.sampleWork]
  repeat' (first | split | simp)

@[simp] theorem State.takeSamples_keeps (s : State) :
    (s.takeSamples).faults.lock = s.faults.lock ∧ (s.takeSamples).faults.windowOpen = s.faults.windowOpen ∧
    (s.takeSamples).record.resets = s.record.resets := by
  simp only [State.takeSamples]
  repeat' (first | split | simp)

@[simp] theorem State.adoptChannel_keeps (old : Channel → Bool) (s : State) (c : Channel) :
    (State.adoptChannel old s c).faults.lock = s.faults.lock ∧
    (State.adoptChannel old s c).faults.windowOpen = s.faults.windowOpen ∧
    (State.adoptChannel old s c).record.resets = s.record.resets := by
  simp only [State.adoptChannel]
  repeat' (first | split | simp)

@[simp] theorem State.formAll_keeps (s : State) (c : Channel) :
    (s.formAll c).faults.lock = s.faults.lock ∧ (s.formAll c).faults.windowOpen = s.faults.windowOpen := by
  simp only [State.formAll]
  repeat' (first | split | simp)

@[simp] theorem State.vibrationInForce_calm (s : State)
    (hr : s.seq.restartPending = false) :
    (s.vibrationInForce).seq.restartPending = false ∧ (s.vibrationInForce).record.resets = s.record.resets ∧
    (s.vibrationInForce).drive = s.drive := by
  simp only [State.vibrationInForce]
  repeat' (first | split | (simp (maxDischargeDepth := 40) -implicitDefEqProofs +contextual [hr]; done) | simp (maxDischargeDepth := 40) -implicitDefEqProofs [hr])

@[simp] theorem State.blockEnd_calm (s : State)
    (hr : s.seq.restartPending = false) :
    (s.blockEnd).seq.restartPending = false ∧ (s.blockEnd).record.resets = s.record.resets ∧
    (s.blockEnd).drive = s.drive := by
  simp only [State.blockEnd]
  repeat' (first | split | (simp (maxDischargeDepth := 40) -implicitDefEqProofs +contextual [hr]; done) | simp (maxDischargeDepth := 40) -implicitDefEqProofs [hr])

@[simp] theorem State.advanceBlock_calm (s : State)
    (hr : s.seq.restartPending = false) :
    (s.advanceBlock).seq.restartPending = false ∧ (s.advanceBlock).record.resets = s.record.resets ∧
    (s.advanceBlock).drive = s.drive := by
  simp only [State.advanceBlock]
  repeat' (first | split | (simp (maxDischargeDepth := 40) -implicitDefEqProofs +contextual [hr]; done) | simp (maxDischargeDepth := 40) -implicitDefEqProofs [hr])

@[simp] theorem State.dwellStep_calm (s : State) (g : Side)
    (hr : s.seq.restartPending = false) :
    (s.dwellStep g).seq.restartPending = false ∧ (s.dwellStep g).record.resets = s.record.resets ∧
    (s.dwellStep g).drive = s.drive ∧ (s.dwellStep g).meas = s.meas := by
  simp only [State.dwellStep]
  repeat' (first | split | (simp (maxDischargeDepth := 40) -implicitDefEqProofs +contextual [hr]; done) | simp (maxDischargeDepth := 40) -implicitDefEqProofs [hr])

@[simp] theorem State.advanceQuarter_calm (s : State)
    (hr : s.seq.restartPending = false) :
    (s.advanceQuarter).seq.restartPending = false ∧ (s.advanceQuarter).record.resets = s.record.resets ∧
    (s.advanceQuarter).drive = s.drive ∧ (s.advanceQuarter).meas = s.meas := by
  simp only [State.advanceQuarter, State.unlessReset]
  repeat' (first | split | (simp (maxDischargeDepth := 40) -implicitDefEqProofs +contextual [hr]; done) | simp (maxDischargeDepth := 40) -implicitDefEqProofs [hr])

@[simp] theorem State.samplePeriod_calm (s : State)
    (hr : s.seq.restartPending = false) :
    (s.samplePeriod).seq.restartPending = false ∧ (s.samplePeriod).record.resets = s.record.resets ∧
    (s.samplePeriod).drive = s.drive := by
  simp only [State.samplePeriod, State.unlessReset]
  repeat' (first | split | (simp (maxDischargeDepth := 40) -implicitDefEqProofs +contextual [hr]; done) | simp (maxDischargeDepth := 40) -implicitDefEqProofs [hr])

@[simp] theorem State.zeroMap_keeps (s : State) (c : Channel) :
    (s.zeroMap c).faults.lock = s.faults.lock ∧ (s.zeroMap c).faults.windowOpen = s.faults.windowOpen ∧
    (s.zeroMap c).record.resets = s.record.resets := by
  simp only [State.zeroMap]
  repeat' (first | split | simp)

@[simp] theorem State.magnetized_calm (s : State)
    (hr : s.seq.restartPending = false) :
    (s.magnetized).seq.restartPending = false ∧ (s.magnetized).record.resets = s.record.resets ∧
    (s.magnetized).drive = s.drive ∧ (s.magnetized).meas = s.meas ∧ (s.magnetized).watch = s.watch := by
  simp only [State.magnetized]
  repeat' (first | split | (simp (maxDischargeDepth := 40) -implicitDefEqProofs +contextual [hr]; done) | simp (maxDischargeDepth := 40) -implicitDefEqProofs [hr])

@[simp] theorem State.magnetizingStep_calm (s : State)
    (hr : s.seq.restartPending = false) :
    (s.magnetizingStep).seq.restartPending = false ∧ (s.magnetizingStep).record.resets = s.record.resets ∧
    (s.magnetizingStep).drive = s.drive ∧ (s.magnetizingStep).meas = s.meas ∧ (s.magnetizingStep).watch = s.watch := by
  simp only [State.magnetizingStep]
  repeat' (first | split | (simp (maxDischargeDepth := 40) -implicitDefEqProofs +contextual [hr]; done) | simp (maxDischargeDepth := 40) -implicitDefEqProofs [hr])

@[simp] theorem State.breakawayStep_calm (s : State)
    (hr : s.seq.restartPending = false) :
    (s.breakawayStep).seq.restartPending = false ∧ (s.breakawayStep).record.resets = s.record.resets ∧
    (s.breakawayStep).drive = s.drive ∧ (s.breakawayStep).meas = s.meas ∧ (s.breakawayStep).watch = s.watch := by
  simp only [State.breakawayStep]
  repeat' (first | split | (simp (maxDischargeDepth := 40) -implicitDefEqProofs +contextual [hr]; done) | simp (maxDischargeDepth := 40) -implicitDefEqProofs [hr])

@[simp] theorem State.brakeSetEnd_calm (s : State)
    (hr : s.seq.restartPending = false) :
    (s.brakeSetEnd).seq.restartPending = false ∧ (s.brakeSetEnd).record.resets = s.record.resets ∧
    (s.brakeSetEnd).drive = s.drive ∧ (s.brakeSetEnd).meas = s.meas ∧ (s.brakeSetEnd).watch = s.watch ∧
    (s.brakeSetEnd).record = s.record ∧ (s.brakeSetEnd).store = s.store := by
  simp only [State.brakeSetEnd]
  repeat' (first | split | (simp (maxDischargeDepth := 40) -implicitDefEqProofs +contextual [hr]; done) | simp (maxDischargeDepth := 40) -implicitDefEqProofs [hr])

@[simp] theorem State.deceleratingStep_keeps (s : State) :
    (s.deceleratingStep).seq.restartPending = s.seq.restartPending := by
  simp only [State.deceleratingStep]
  repeat' (first | split | simp)

@[simp] theorem State.atZeroStep_calm (s : State)
    (hr : s.seq.restartPending = false) :
    (s.atZeroStep).seq.restartPending = false ∧ (s.atZeroStep).record.resets = s.record.resets ∧
    (s.atZeroStep).drive = s.drive ∧ (s.atZeroStep).meas = s.meas ∧ (s.atZeroStep).watch = s.watch ∧
    (s.atZeroStep).record = s.record ∧ (s.atZeroStep).store = s.store := by
  simp only [State.atZeroStep]
  repeat' (first | split | (simp (maxDischargeDepth := 40) -implicitDefEqProofs +contextual [hr]; done) | simp (maxDischargeDepth := 40) -implicitDefEqProofs [hr])

@[simp] theorem State.brakeSettingStep_calm (s : State)
    (hr : s.seq.restartPending = false) :
    (s.brakeSettingStep).seq.restartPending = false ∧ (s.brakeSettingStep).record.resets = s.record.resets ∧
    (s.brakeSettingStep).drive = s.drive ∧ (s.brakeSettingStep).meas = s.meas ∧ (s.brakeSettingStep).watch = s.watch ∧
    (s.brakeSettingStep).record = s.record ∧ (s.brakeSettingStep).store = s.store := by
  simp only [State.brakeSettingStep]
  repeat' (first | split | (simp (maxDischargeDepth := 40) -implicitDefEqProofs +contextual [hr]; done) | simp (maxDischargeDepth := 40) -implicitDefEqProofs [hr])

@[simp] theorem State.stoppingStep_calm (s : State)
    (hr : s.seq.restartPending = false) :
    (s.stoppingStep).seq.restartPending = false ∧ (s.stoppingStep).record.resets = s.record.resets ∧
    (s.stoppingStep).drive = s.drive ∧ (s.stoppingStep).meas = s.meas ∧ (s.stoppingStep).watch = s.watch ∧
    (s.stoppingStep).record = s.record ∧ (s.stoppingStep).store = s.store := by
  simp only [State.stoppingStep]
  repeat' (first | split | (simp (maxDischargeDepth := 40) -implicitDefEqProofs +contextual [hr]; done) | simp (maxDischargeDepth := 40) -implicitDefEqProofs [hr])

@[simp] theorem State.stoppedStep_keeps (s : State) :
    (s.stoppedStep).faults.lock = s.faults.lock ∧ (s.stoppedStep).faults.windowOpen = s.faults.windowOpen ∧
    (s.stoppedStep).seq.restartPending = s.seq.restartPending := by
  simp only [State.stoppedStep]
  repeat' (first | split | simp)

@[simp] theorem State.sequencerStep_calm (s : State)
    (hr : s.seq.restartPending = false) :
    (s.sequencerStep).seq.restartPending = false ∧ (s.sequencerStep).record.resets = s.record.resets ∧
    (s.sequencerStep).drive = s.drive ∧ (s.sequencerStep).meas = s.meas ∧ (s.sequencerStep).watch = s.watch := by
  simp only [State.sequencerStep]
  repeat' (first | split | (simp (maxDischargeDepth := 40) -implicitDefEqProofs +contextual [hr]; done) | simp (maxDischargeDepth := 40) -implicitDefEqProofs [hr])

@[simp] theorem State.stopMagnetizing_calm (s : State)
    (hr : s.seq.restartPending = false) :
    (s.stopMagnetizing).seq.restartPending = false ∧ (s.stopMagnetizing).record.resets = s.record.resets ∧
    (s.stopMagnetizing).drive = s.drive ∧ (s.stopMagnetizing).meas = s.meas ∧ (s.stopMagnetizing).watch = s.watch ∧
    (s.stopMagnetizing).record = s.record ∧ (s.stopMagnetizing).store = s.store := by
  simp only [State.stopMagnetizing]
  repeat' (first | split | (simp (maxDischargeDepth := 40) -implicitDefEqProofs +contextual [hr]; done) | simp (maxDischargeDepth := 40) -implicitDefEqProofs [hr])

@[simp] theorem State.permitDrop_calm (s : State)
    (hr : s.seq.restartPending = false) :
    (s.permitDrop).seq.restartPending = false ∧ (s.permitDrop).record.resets = s.record.resets ∧
    (s.permitDrop).drive = s.drive ∧ (s.permitDrop).meas = s.meas ∧ (s.permitDrop).watch = s.watch := by
  simp only [State.permitDrop]
  repeat' (first | split | (simp (maxDischargeDepth := 40) -implicitDefEqProofs +contextual [hr]; done) | simp (maxDischargeDepth := 40) -implicitDefEqProofs [hr])

@[simp] theorem State.entryWrite_keeps (s : State) (k : Fin 8) (v : Word) :
    (s.entryWrite k v).record.resets = s.record.resets := by
  simp only [State.entryWrite]
  repeat' (first | split | simp)

@[simp] theorem State.elapse_keeps (s : State) (us : Nat) :
    (s.elapse us).faults.lock = s.faults.lock ∧ (s.elapse us).faults.windowOpen = s.faults.windowOpen ∧
    (s.elapse us).record.resets = s.record.resets := by
  simp only [State.elapse]
  repeat' (first | split | simp)

@[simp] theorem State.idleMicrosecond_keeps (s : State) :
    (s.idleMicrosecond).faults.lock = s.faults.lock ∧ (s.idleMicrosecond).faults.windowOpen = s.faults.windowOpen ∧
    (s.idleMicrosecond).record.resets = s.record.resets := by
  simp only [State.idleMicrosecond]
  repeat' (first | split | simp)

@[simp] theorem State.leaveSet_keeps (s : State) (x : Side) :
    (s.leaveSet x).faults.lock = s.faults.lock ∧ (s.leaveSet x).faults.windowOpen = s.faults.windowOpen := by
  simp only [State.leaveSet]
  repeat' (first | split | simp)

@[simp] theorem State.enterSet_calm (s : State) (x : Side)
    (hr : s.seq.restartPending = false) :
    (s.enterSet x).seq.restartPending = false ∧ (s.enterSet x).record.resets = s.record.resets ∧
    (s.enterSet x).drive = s.drive ∧ (s.enterSet x).meas = s.meas ∧ (s.enterSet x).watch = s.watch := by
  simp only [State.enterSet]
  repeat' (first | split | (simp (maxDischargeDepth := 40) -implicitDefEqProofs +contextual [hr]; done) | simp (maxDischargeDepth := 40) -implicitDefEqProofs [hr])

@[simp] theorem State.adoptMotor_calm (old : PinionSet) (s : State) (x : Side)
    (hr : s.seq.restartPending = false) :
    (State.adoptMotor old s x).seq.restartPending = false ∧
    (State.adoptMotor old s x).record.resets = s.record.resets ∧ (State.adoptMotor old s x).drive = s.drive ∧
    (State.adoptMotor old s x).meas = s.meas ∧ (State.adoptMotor old s x).watch = s.watch := by
  simp only [State.adoptMotor]
  repeat' (first | split | (simp (maxDischargeDepth := 40) -implicitDefEqProofs +contextual [hr]; done) | simp (maxDischargeDepth := 40) -implicitDefEqProofs [hr])

@[simp] theorem State.adoptDrive_calm (s : State) (new : DriveSettings)
    (hr : s.seq.restartPending = false) :
    (s.adoptDrive new).seq.restartPending = false ∧ (s.adoptDrive new).record.resets = s.record.resets ∧
    (s.adoptDrive new).watch = s.watch := by
  simp only [State.adoptDrive, State.unlessReset]
  repeat' (first | split | (simp (maxDischargeDepth := 40) -implicitDefEqProofs +contextual [hr]; done) | simp (maxDischargeDepth := 40) -implicitDefEqProofs [hr])

@[simp] theorem State.adoptRecord_keeps (s : State) (r : RecordSettings) :
    (s.adoptRecord r).record.resets = s.record.resets := by
  simp only [State.adoptRecord]
  repeat' (first | split | simp)

@[simp] theorem State.adoptStore_keeps (s : State) (c : StoreSettings) (k : Fin 8) :
    (s.adoptStore c k).faults.lock = s.faults.lock ∧ (s.adoptStore c k).faults.windowOpen = s.faults.windowOpen := by
  simp only [State.adoptStore]
  repeat' (first | split | simp)

@[simp] theorem State.loadDrive_calm (s : State) (k : Fin 8) (ws : List Word)
    (hr : s.seq.restartPending = false) :
    (s.loadDrive k ws).seq.restartPending = false ∧ (s.loadDrive k ws).record.resets = s.record.resets ∧
    (s.loadDrive k ws).watch = s.watch := by
  simp only [State.loadDrive, State.unlessReset]
  repeat' (first | split | (simp (maxDischargeDepth := 40) -implicitDefEqProofs +contextual [hr]; done) | simp (maxDischargeDepth := 40) -implicitDefEqProofs [hr])

@[simp] theorem State.loadRecord_calm (s : State) (k : Fin 8) (ws : List Word)
    (hr : s.seq.restartPending = false) :
    (s.loadRecord k ws).seq.restartPending = false ∧ (s.loadRecord k ws).record.resets = s.record.resets ∧
    (s.loadRecord k ws).drive = s.drive ∧ (s.loadRecord k ws).meas = s.meas ∧ (s.loadRecord k ws).watch = s.watch := by
  simp only [State.loadRecord]
  repeat' (first | split | (simp (maxDischargeDepth := 40) -implicitDefEqProofs +contextual [hr]; done) | simp (maxDischargeDepth := 40) -implicitDefEqProofs [hr])

@[simp] theorem State.loadStore_calm (s : State) (k : Fin 8) (ws : List Word)
    (hr : s.seq.restartPending = false) :
    (s.loadStore k ws).seq.restartPending = false ∧ (s.loadStore k ws).record.resets = s.record.resets ∧
    (s.loadStore k ws).drive = s.drive ∧ (s.loadStore k ws).meas = s.meas ∧ (s.loadStore k ws).watch = s.watch := by
  simp only [State.loadStore]
  repeat' (first | split | (simp (maxDischargeDepth := 40) -implicitDefEqProofs +contextual [hr]; done) | simp (maxDischargeDepth := 40) -implicitDefEqProofs [hr])

@[simp] theorem State.loadGroup_calm (s : State) (k : Fin 8) (group : Nat) (ws : List Word)
    (hr : s.seq.restartPending = false) :
    (s.loadGroup k group ws).seq.restartPending = false ∧ (s.loadGroup k group ws).record.resets = s.record.resets := by
  simp only [State.loadGroup]
  repeat' (first | split | (simp (maxDischargeDepth := 40) -implicitDefEqProofs +contextual [hr]; done) | simp (maxDischargeDepth := 40) -implicitDefEqProofs [hr])

@[simp] theorem State.clearTrip_calm (s : State)
    (hr : s.seq.restartPending = false) :
    (s.clearTrip).seq.restartPending = false ∧ (s.clearTrip).record.resets = s.record.resets ∧
    (s.clearTrip).drive = s.drive ∧ (s.clearTrip).meas = s.meas ∧ (s.clearTrip).watch = s.watch ∧
    (s.clearTrip).record = s.record ∧ (s.clearTrip).store = s.store := by
  simp only [State.clearTrip]
  repeat' (first | split | (simp (maxDischargeDepth := 40) -implicitDefEqProofs +contextual [hr]; done) | simp (maxDischargeDepth := 40) -implicitDefEqProofs [hr])

@[simp] theorem State.arm_keeps (s : State) (p : Program) :
    (s.arm p).record.resets = s.record.resets := by
  simp only [State.arm]
  repeat' (first | split | simp)

@[simp] theorem State.writeFrame_keeps (s : State) (i : Fin 4) :
    (s.writeFrame i).record.resets = s.record.resets := by
  simp only [State.writeFrame]
  repeat' (first | split | simp)

@[simp] theorem State.recordFrame_keeps (s : State) :
    (s.recordFrame).record.resets = s.record.resets := by
  simp only [State.recordFrame]
  repeat' (first | split | simp)

@[simp] theorem State.takeBelow_keeps (s : State) (c : Option TrigCond) (was now : Bool) :
    (s.takeBelow c was now).record.resets = s.record.resets := by
  simp only [State.takeBelow]
  repeat' (first | split | simp)

@[simp] theorem State.belowConditions_keeps (s : State) :
    (s.belowConditions).record.resets = s.record.resets := by
  simp only [State.belowConditions]
  repeat' (first | split | simp)

@[simp] theorem State.capturePeriod_keeps (s : State) :
    (s.capturePeriod).record.resets = s.record.resets := by
  simp only [State.capturePeriod]
  repeat' (first | split | simp)

end Sys2Proof.Machine
end

