-- ==== Sys2Proof/Laws/Readings.lean ====
section
/-! SUPPORT. What is read from an image's words, from the items of a take, and from a report: each said once in the terms that
the statements use (R84, R106, R179, R186). -/

namespace Sys2Proof.Machine

/-- The tag of a take is the one that the table of R84 gives. -/
theorem Receiver.tag_eq_tagged (r : Receiver) : r.tag = r.tagged := by
  obtain ⟨buffer, full, overrun, lineError, errors, waitIdle⟩ := r
  rcases buffer with _ | ⟨code, status⟩
  · cases lineError <;> cases full <;> cases overrun <;> rfl
  · cases lineError <;> cases full <;> cases overrun <;> cases status <;> rfl

/-- A two-word value is its low word and 65536 times its high word (R179). -/
theorem nat32At_eq (ws : List Word) (i : Nat) :
    nat32At ws i = (ws.getD i 0).toNat + 65536 * (ws.getD (i + 1) 0).toNat := by
  unfold nat32At wordAt joinWords
  rw [BitVec.toNat_append, ← Nat.shiftLeft_add_eq_or_of_lt (BitVec.isLt _), Nat.shiftLeft_eq]
  omega

/-- The pinion set of a code word (R186). -/
theorem pinionOf_eq (n : Nat) : pinionOf n = if n = 0 then .both else if n = 1 then .aOnly else .bOnly := by
  rcases n with _ | _ | n <;> simp [pinionOf]

/-- After the report of a condition its source is present exactly if the condition stands (R106). -/
theorem State.alarmLevel_source (s : State) (k : FaultKind) (src : Source) (d : Option Nat) (now : Bool) :
    (s.alarmLevel k src d now).sourcePresent k src = now := by
  cases now
  · exact State.fall_source s k src
  · simp only [State.alarmLevel, if_true, State.alarmRise]
    split
    · assumption
    · cases src <;>
      simp [State.sourcePresent, State.raiseNotice, FaultEntry.rise, FaultEntry.setSource, FaultEntry.source, State.setEntry]

end Sys2Proof.Machine
end

