-- ==== Sys2Proof/Laws/Requests.lean ====
section
/-! SUPPORT. Takes and answers of requests: what a completion and an activation leave, said once (R166 to R168). -/

namespace Sys2Proof.Machine

theorem State.slot_setReq (s : State) (q : RequestUnit) (k : Fin 8) : (s.setReq q).slot k = vget q.slots k := rfl

@[simp] theorem State.slot_writeWords (s : State) (a : Nat) (ws : List Word) (k : Fin 8) :
    (s.writeWords a ws).slot k = s.slot k := rfl

@[simp] theorem State.slot_writeWord (s : State) (a : Nat) (w : Word) (k : Fin 8) : (s.writeWord a w).slot k = s.slot k := rfl

theorem RequestUnit.setSlot_get (q : RequestUnit) (k j : Fin 8) (x : Slot) :
    vget (q.setSlot k x).slots j = if j = k then x else vget q.slots j := vget_vset _ _ _ _

/-- The words that a completion writes, and the bytes that it leaves. -/
theorem Memory.answer_words (m : Memory) (k : Fin 8) (ws : List Word) (hw : ws.length = 8) (c st : Word) :
    let m' := ((m.writeWords (slotAddr k + 32) ws).writeWord (slotAddr k + 6) c).writeWord (slotAddr k) st
    m'.readWord (slotAddr k) = st ∧ m'.readWord (slotAddr k + 6) = c ∧ m'.readWords (slotAddr k + 32) 8 = ws ∧
    ∀ a, ¬inAnswer k a → m'.read a = m.read a := by
  intro m'
  refine ⟨Memory.readWord_writeWord_same _ _ _, ?_, ?_, ?_⟩
  · rw [Memory.readWord_writeWord_other _ _ _ _ (by omega), Memory.readWord_writeWord_same]
  · show (Memory.writeWords _ _ [st]).readWords _ _ = _
    rw [Memory.readWords_writeWords_outside _ _ _ _ _ (by simp only [List.length_singleton]; omega)]
    show (Memory.writeWords _ _ [c]).readWords _ _ = _
    rw [Memory.readWords_writeWords_outside _ _ _ _ _ (by simp only [List.length_singleton]; omega), ← hw]
    exact Memory.readWords_writeWords_same _ _ _
  · intro a h
    simp only [inAnswer, not_or, not_and, Nat.not_lt] at h
    show (Memory.writeWords _ _ [st]).read a = _
    rw [Memory.read_writeWords_outside _ _ _ _ (by simp only [List.length_singleton]; omega)]
    show (Memory.writeWords _ _ [c]).read a = _
    rw [Memory.read_writeWords_outside _ _ _ _ (by simp only [List.length_singleton]; omega),
      Memory.read_writeWords_outside _ _ _ _ (by omega)]

theorem State.complete_mem (s : State) (k : Fin 8) (st : SlotState) (rc : ResultCode) (ws : List Word) :
    (s.complete k st rc ws).mem =
      ((s.mem.writeWords (slotAddr k + 32) (padWords 8 ws)).writeWord (slotAddr k + 6) (natWord rc.code)).writeWord
        (slotAddr k) (natWord st.code) := rfl

/-- The request unit after a completion (R167, R168). -/
theorem State.complete_req (s : State) (k : Fin 8) (st : SlotState) (rc : ResultCode) (ws : List Word) :
    (s.complete k st rc ws).req = { s.req with
      slots := (s.complete k st rc ws).req.slots, notice := s.req.notice ||| noticeBit k.val
      holder := if s.req.holder = some k then none else s.req.holder } := rfl

theorem State.complete_slot (s : State) (k j : Fin 8) (st : SlotState) (rc : ResultCode) (ws : List Word) :
    (s.complete k st rc ws).slot j = if j = k then { s.slot k with state := st, cancel := false } else s.slot j := by
  have key : (s.complete k st rc ws).req.slots =
      vset (vset s.req.slots k { s.slot k with cancel := false }) k
        { vget (vset s.req.slots k { s.slot k with cancel := false }) k with state := st } := rfl
  show vget (s.complete k st rc ws).req.slots j = _
  rw [key, vget_vset, vget_vset]
  by_cases h : j = k
  · simp [h]
  · rw [if_neg h, if_neg h, vget_vset_other _ _ h]
    rfl

theorem padWords_eight_length (ws : List Word) : (padWords 8 ws).length = 8 := padWords_length 8 ws

/-- A completion, whenever it comes (R167). -/
theorem State.complete_completed (s : State) (k : Fin 8) (st : SlotState) (rc : ResultCode) (ws : List Word) :
    State.Completed (s.complete k st rc ws) k st rc ws := by
  have hm := Memory.answer_words s.mem k (padWords 8 ws) (padWords_eight_length ws) (natWord rc.code) (natWord st.code)
  refine ⟨?_, hm.1, hm.2.1, hm.2.2.1, ?_⟩
  · rw [State.complete_slot, if_pos rfl]
  · rw [State.complete_req]
    have hk : k.val < 16 := by omega
    simp [noticeBit, hk]

/-- A waiting store read that ends, said once: its request stands REFUSED with `rc`, its area is released, the chain is BROKEN, the
other slots and every byte outside the answer are as before (R162, R167 to R169). -/
theorem State.endWaitingRead_answer (s : State) (k : Fin 8) (rc : ResultCode) :
    State.Completed (s.endWaitingRead k rc) k .refused rc [] ∧
    (s.endWaitingRead k rc).req = { s.req with
      slots := (s.endWaitingRead k rc).req.slots, notice := s.req.notice ||| noticeBit k.val, chain := .broken
      holder := if s.req.holder = some k then none else s.req.holder } ∧
    (∀ j, j ≠ k → (s.endWaitingRead k rc).slot j = s.slot j) ∧
    ∀ a, ¬inAnswer k a → (s.endWaitingRead k rc).mem.read a = s.mem.read a := by
  have hc := State.complete_completed (s.setStore { s.store with state := .ready, hostOp := none }) k .refused rc []
  have hm := Memory.answer_words s.mem k (padWords 8 []) (padWords_eight_length []) (natWord rc.code)
    (natWord SlotState.refused.code)
  refine ⟨⟨hc.slot, hc.stateWord, hc.codeWord, hc.resultWords, hc.notice⟩, rfl, fun j hj => ?_, hm.2.2.2⟩
  exact (State.complete_slot (s.setStore { s.store with state := .ready, hostOp := none }) k j .refused rc []).trans
    (if_neg hj)

/-- A take followed at once by a completion (R166, R167). -/
theorem State.take_complete_answered (s : State) (k : Fin 8) (rest : List (Fin 8)) (st : SlotState) (rc : ResultCode)
    (ws : List Word) : State.Answered s ((s.takeSlot k rest).complete k st rc ws) k rest st rc ws := by
  have hm := Memory.answer_words s.mem k (padWords 8 ws) (padWords_eight_length ws) (natWord rc.code) (natWord st.code)
  refine ⟨?_, ?_, ?_, ?_, hm.1, hm.2.1, hm.2.2.1, hm.2.2.2⟩
  · simp [State.sameBlocks]
  · rw [State.complete_req]
    rfl
  · rw [State.complete_slot, if_pos rfl]
    simp [State.takeSlot, State.slot_setReq, RequestUnit.setSlot]
  · intro j hj
    rw [State.complete_slot, if_neg hj]
    show vget (vset s.req.slots k _) j = _
    rw [vget_vset_other _ _ hj]
    rfl

/-- A take after which the request becomes ACTIVE (R166). -/
theorem State.take_activate_activated (s : State) (k : Fin 8) (rest : List (Fin 8)) :
    State.Activated s ((s.takeSlot k rest).activate k) k rest := by
  refine ⟨?_, rfl, ?_, ?_, Memory.readWord_writeWord_same _ _ _, ?_⟩
  · simp [State.sameBlocks]
  · show vget (vset (vset s.req.slots k _) k _) k = _
    rw [vget_vset_same]
    show { vget (vset s.req.slots k _) k with state := SlotState.active } = _
    rw [vget_vset_same]
  · intro j hj
    show vget (vset (vset s.req.slots k _) k _) j = _
    rw [vget_vset_other _ _ hj, vget_vset_other _ _ hj]
    rfl
  · intro a h
    exact Memory.read_writeWords_outside _ _ _ _ (by simp only [List.length_singleton]; omega)

/-- A take at whose head another kind stands, or no slot, changes nothing (log 3). -/
theorem State.withTake_none (s : State) (kind : Option RequestKind) (f : State → Fin 8 → List Word → State)
    (h : s.req.order = []) : s.withTake kind f = s := by
  simp [State.withTake, h]

/-- The take of the slot at the head (R166). -/
theorem State.withTake_head (s : State) (kind : Option RequestKind) (f : State → Fin 8 → List Word → State) (k : Fin 8)
    (rest : List (Fin 8)) (h : s.atHead kind k rest) : s.withTake kind f = f (s.takeSlot k rest) k (s.slotParams k) := by
  simp [State.withTake, h.1, h.2]

/-- A parameter word as the unit copies it. -/
theorem State.wordAt_slotParams (s : State) (k : Fin 8) (i : Nat) (h : i < 12) : wordAt (s.slotParams k) i = s.param k i := by
  unfold wordAt State.slotParams State.param
  rw [List.getD_eq_getElem?_getD, Memory.readWords_getElem? _ _ _ _ h]
  rfl

@[simp] theorem State.setPending_slotParams (s : State) (l : List Instr) (k : Fin 8) :
    (s.setPending l).slotParams k = s.slotParams k := rfl

/-- What holds of a take's function holds of the take; without a take the state stays. -/
theorem State.withTake_holds (P : State → Prop) (s : State) (kind : Option RequestKind)
    (f : State → Fin 8 → List Word → State) (hs : P s) (h : ∀ k rest ps, P (f (s.takeSlot k rest) k ps)) :
    P (s.withTake kind f) := by
  unfold State.withTake
  split
  · exact hs
  · split
    · exact h _ _ _
    · exact hs

/-- Likewise for what follows in an event unless it has brought a reset about. -/
theorem State.unlessReset_holds (P : State → Prop) (s0 : State) (f : State → State) (s1 : State) (hs : P s1)
    (h : P (f s1)) : P (s0.unlessReset f s1) := by
  unfold State.unlessReset
  split
  · exact h
  · exact hs

end Sys2Proof.Machine
end

