-- ==== Sys2Proof/Laws/Trips.lean ====
section
/-! SUPPORT. Entries into STOPPED and TRIPPED, first causes and follow-ons: what each does, said once (R34, R43, R108, R109). -/

namespace Sys2Proof.Machine

theorem Governor.zeroed_atRest (g : Governor) : g.zeroed.atRest :=
  ⟨⟨rfl, rfl, rfl⟩, rfl, rfl, rfl, rfl, rfl, rfl, rfl⟩

@[simp] theorem State.restEntry_gov (s : State) : s.restEntry.gov = s.gov.zeroed := by
  simp [State.restEntry]

@[simp] theorem State.backrollOff_seq (s : State) : s.backrollOff.seq = { s.seq with backroll := false } := by
  simp [State.backrollOff]

@[simp] theorem State.gatesOff_seq (s : State) : s.gatesOff.seq = { s.seq with gate := ⟨false, false⟩ } := by
  simp [State.gatesOff]

@[simp] theorem State.gatesOff_regs (s : State) : s.gatesOff.regs = Pair.ofFn s.ungated := by
  simp [State.gatesOff]

@[simp] theorem State.setDriveState_seq (s : State) (d : DriveState) : (s.setDriveState d).seq = { s.seq with drive := d } := by
  simp [State.setDriveState]

/-- The entry into TRIPPED with no restart pending (R34, R43, R67). -/
theorem State.enterTripped_calm_eqs (s : State) (hr : s.seq.restartPending = false) :
    s.enterTripped.seq = s.seq.afterTrip ∧ s.enterTripped.gov = s.gov.zeroed ∧
    s.enterTripped.regs = Pair.ofFn s.ungated ∧ s.enterTripped.record = s.record ∧ s.enterTripped.store = s.store ∧
    s.enterTripped.mem = s.mem ∧ s.enterTripped.faults.lock = s.faults.lock ∧
    s.enterTripped.faults.windowOpen = s.faults.windowOpen := by
  unfold State.enterTripped
  rw [State.pendingRestart_calm _ (by simp [Sequencer.tripped, hr])]
  simp [Sequencer.tripped, Sequencer.afterTrip]

/-- The entry into STOPPED with no restart pending (R35, R43, R67). -/
theorem State.enterStopped_calm_eqs (s : State) (hr : s.seq.restartPending = false) :
    s.enterStopped.seq = { s.seq with gate := ⟨false, false⟩, drive := .stopped } ∧ s.enterStopped.gov = s.gov.zeroed ∧
    s.enterStopped.regs = Pair.ofFn s.ungated ∧ s.enterStopped.record = s.record ∧ s.enterStopped.store = s.store ∧
    s.enterStopped.mem = s.mem ∧ s.enterStopped.faults.lock = s.faults.lock ∧
    s.enterStopped.faults.windowOpen = s.faults.windowOpen := by
  unfold State.enterStopped
  rw [State.pendingRestart_calm _ (by simp [hr])]
  simp

theorem State.enterTripped_latched (s : State) (hr : s.seq.restartPending = false) (j : Fin 32) :
    (vget s.enterTripped.faults.entries j).latched = (vget s.faults.entries j).latched := by
  unfold State.enterTripped
  rw [State.pendingRestart_calm _ (by simp [Sequencer.tripped, hr])]
  simp

/-- A window of length 0 that closes touches neither sequencer nor governor (R110). -/
theorem State.closeIfZero_lock (s : State) : s.closeIfZero.faults.lock = s.faults.lock := by simp

@[simp] theorem State.openWindow_open (s : State) : s.openWindow.faults.windowOpen = true := by
  simp [State.openWindow]

/-- The opening of a record reads nothing of the fault unit (R136). -/
theorem State.openTrip_setFaults (s : State) (f : FaultUnit) (k : FaultKind) (d : Option Nat) :
    (s.setFaults f).openTrip k d = (s.openTrip k d).setFaults f := by
  unfold State.openTrip
  by_cases h : s.record.noIds = true
  · simp only [State.setFaults_record, h, if_true]
    rfl
  · simp only [State.setFaults_record, h]
    rfl

/-- A first cause with no restart pending (R108). -/
theorem State.firstCause_calm_eqs (s : State) (k : FaultKind) (d : Option Nat) (hr : s.seq.restartPending = false) :
    (s.firstCause k d).seq = s.seq.afterTrip ∧ (s.firstCause k d).gov = s.gov.zeroed ∧
    (s.firstCause k d).faults.lock = true ∧ (s.firstCause k d).faults.windowOpen = true ∧
    (s.firstCause k d).record = (s.openTrip k d).record ∧ (s.firstCause k d).store = s.store ∧
    (s.firstCause k d).mem = s.mem := by
  have hx : ((s.setFaults { s.faults with lock := true }).openTrip k d).openWindow.seq.restartPending = false := by
    simpa using hr
  obtain ⟨e1, e2, -, e4, e5, e6, e7, e8⟩ := State.enterTripped_calm_eqs _ hx
  rw [State.firstCause, e1, e2, e4, e5, e6, e7, e8]
  simp [State.openTrip_setFaults]

theorem State.firstCause_latched (s : State) (k : FaultKind) (d : Option Nat) (hr : s.seq.restartPending = false) (j : Fin 32) :
    (vget (s.firstCause k d).faults.entries j).latched = (vget s.faults.entries j).latched := by
  unfold State.firstCause
  rw [State.enterTripped_latched _ (by simpa using hr)]
  simp

/-- A trip rise that is a first cause (R106, R108). -/
theorem State.tripRise_tripped (s : State) (k : FaultKind) (src : Source) (h : s.tripReady)
    (ha : s.sourcePresent k src = false) : State.Tripped s (s.tripRise k src) k := by
  obtain ⟨h1, h2, h3, h4⟩ := h
  have hd : (s.latchRise k src none).seq = s.seq := by simp
  have key : s.tripRise k src = ((s.latchRise k src none).firstCause k none).closeIfZero := by
    unfold State.tripRise State.tripCause
    rw [if_neg (by simp [ha]), hd]
    have hl : (s.latchRise k src none).faults.lock = false := by simpa using h3
    cases hs : s.seq.drive <;> simp_all
  have hr : (s.latchRise k src none).seq.restartPending = false := by simpa using h4
  have e := State.firstCause_calm_eqs (s.latchRise k src none) k none hr
  rw [key]
  refine ⟨?_, ?_, ?_, ?_, ?_, ?_⟩
  · simp [e.1]
  · have : (((s.latchRise k src none).firstCause k none).closeIfZero).gov = (s.latchRise k src none).gov.zeroed := by
      simp [e.2.1]
    rw [this]
    exact Governor.zeroed_atRest _
  · simpa using e.2.2.1
  · rw [FaultUnit.entry_eq, State.closeIfZero_latched, State.firstCause_latched _ _ _ hr]
    exact State.latchRise_latched s k src none ha
  · rw [← key]
    exact (State.tripRise_calm s k src h4).2.2.1
  · simp

/-- A trip pulse that is a first cause (R106, R108). -/
theorem State.tripPulse_tripped (s : State) (k : FaultKind) (h : s.tripReady) (ha : s.sourcePresent k .first = false) :
    State.Tripped s (s.tripPulse k) k := by
  have t := State.tripRise_tripped s k .first h ha
  unfold State.tripPulse
  refine ⟨?_, ?_, ?_, ?_, ?_, ?_⟩
  · simpa using t.seq
  · simpa using t.rest
  · simpa using t.lock
  · have := t.latched
    rw [FaultUnit.entry_eq] at this ⊢
    simpa using this
  · simpa using t.settings
  · simp

/-- A trip rise with the lock SET only latches, and joins the open record while the window is OPEN (R109). -/
theorem State.tripRise_locked (s : State) (k : FaultKind) (src : Source) (hd : s.seq.drive ≠ .unconfigured)
    (hl : s.faults.lock = true) (ha : s.sourcePresent k src = false) :
    s.tripRise k src = (s.latchRise k src none).followOnCause k none (s.faults.timer / 1000) := by
  have h1 : (s.latchRise k src none).seq = s.seq := by simp
  have h2 : (s.latchRise k src none).faults.lock = true := by simpa using hl
  have h3 : (s.latchRise k src none).faults.timer = s.faults.timer := by
    simp [State.latchRise, State.setEntry, ha]
  unfold State.tripRise State.tripCause
  rw [if_neg (by simp [ha]), h1, h2, h3]
  cases hs : s.seq.drive <;> simp_all

/-- A trip rise in UNCONFIGURED only latches (R107). -/
theorem State.tripRise_unconfigured (s : State) (k : FaultKind) (src : Source) (hd : s.seq.drive = .unconfigured) :
    s.tripRise k src = s.latchRise k src none := by
  unfold State.tripRise State.tripCause
  have h1 : (s.latchRise k src none).seq = s.seq := by simp
  rw [h1, hd]
  by_cases ha : s.sourcePresent k src = true
  · simp [ha, State.latchRise]
  · simp [ha]

end Sys2Proof.Machine
end

