-- ==== Sys2Proof/Tests/Slice0.lean ====
section
/-! SUPPORT. Tests: for every statement states that meet its hypotheses, the examples of the spec one step each, and operands
that no row carries. -/

open Sys2Proof Sys2Proof.Machine

namespace Sys2Proof.Tests

-- One theorem after the other: the threads of many parallel ones reserve more memory than the check allows.
set_option Elab.async false

/-! ### Small states -/

/-- Slot k holds a request of kind number `n` with these parameters and stands at the head of the order. -/
def posted (n : Nat) (ps : List Word) (k : Fin 8) (s : State) : State :=
  { s with
    req := { s.req with order := [k], starting := false, holder := none }
    mem := (s.mem.writeWord (slotAddr k + 2) (natWord n)).writeWords (slotAddr k + 8) ps }

/-- The drive state is `d`, the lock CLEAR, no restart pending. -/
def driving (d : DriveState) (s : State) : State :=
  { s with
    seq := { s.seq with drive := d, restartPending := false }
    faults := { s.faults with lock := false, windowOpen := false } }

/-- The DRIVE settings changed. -/
def configured (f : DriveSettings → DriveSettings) (s : State) : State := { s with drive := some (f s.cfg) }

/-- No source of the kind is present. -/
def absent (k : FaultKind) (s : State) : State :=
  s.setEntry k { s.faults.entry k with s1 := false, s2 := false, s3 := false }

/-- Every source of the kind is present. -/
def present (k : FaultKind) (s : State) : State :=
  s.setEntry k { s.faults.entry k with s1 := true, s2 := true, s3 := true }

/-- Both encoders are HEALTHY and undisturbed. -/
def healthy (s : State) : State :=
  { s with
    inputs := { s.inputs with lineBreak := ⟨false, false⟩ }
    meas := { s.meas with encoders := s.meas.encoders.map fun e =>
      { e with lost := false, touched := false, speedZeroNext := false } } }

/-- Slot k of the request unit. -/
def slotIs (k : Fin 8) (st : SlotState) (kind : Option RequestKind) (s : State) : State :=
  { s with req := { s.req.setSlot k { s.slot k with state := st, kind := kind } with starting := false } }

/-- Regulator x changed. -/
def regulator (x : Side) (f : Regulator → Regulator) (s : State) : State := s.setReg x (f (s.regs.get x))

/-- The exchange memory after words written from the transfer area's beginning. -/
def image (ws : List Word) (s : State) : State := s.writeWords transferAddr ws

/-- Bank i changed, the other banks FREE. -/
def onlyBank (i : Fin 4) (f : Bank → Bank) (s : State) : State :=
  { s with record := { s.record with
    banks := vset (s.record.banks.map fun b => { b with state := .free }) i (f (s.record.bank i)) } }

/-- Channel c is the only one fitted. -/
def fit (c : Channel) (s : State) : State :=
  { s with watch := { s.watch with
    settings := some { s.watch.cfg with fitted := vset (Vector.replicate 6 false) c true }, awaiting := none } }

/-- No channel is fitted. -/
def fitNone (s : State) : State := { s with watch := { s.watch with settings := none } }

/-- A frame of link x is awaited. -/
def awaiting (x : Side) (s : State) : State := s.setLink x { s.link x with awaiting := true }

/-- The levels and scales of the examples. -/
def scaled (s : State) : State :=
  configured (fun c => { c with
    pinion := .both, fullScaleA := 4000, fullScaleB := 4000, vdcFullScale := 1000, overcurrent := 3000, undervolt := 200
    low := 400, overvolt := 900 }) s

/-- A channel of the group. -/
def channelOf : Side → Channel
  | .a => 1
  | .b => 5

/-- The pinion set that leaves motor x out. -/
def otherOnly : Side → PinionSet
  | .a => .bOnly
  | .b => .aOnly

/-- A DRIVE image in range. -/
def driveWords : List Word :=
  [0, 3000, 3000, 1200, 4096, 0, 0, 20, 15000, 1000, 1500, 200, 300, 5000, 500, 20, 500, 300, 200, 0, 400, 100, 2000] ++
  [1500, 20, 500, 950, 950, 1800, 400, 150, 100, 0, 2, 1000, 1000, 50, 200, 560, 30, 2400, 450, 500, 900, 0, 100]

/-- An ENVELOPE image in range. -/
def envelopeWords : List Word := [3, 0, 1800, 1200, 3000, 1500, 1000, 15000, 1200, 800] ++ List.replicate 39 0

/-- A VIBRATION image in range. -/
def vibrationWords : List Word :=
  [1, 0, 0, 0, 0, 0, 1000] ++ List.replicate 6 800 ++ List.replicate 6 1400 ++ List.replicate 6 2000 ++
  [4, 2, 16, 900, 700, 850, 5000]

/-- A STORE image in range. -/
def storeWords : List Word := [1, 0, 0, 8, 0x9F, 5, 6, 2, 0x20, 0x75, 0x7A, 3, 0xEF, 0x40, 0x18, 5, 400, 1, 1]

/-- The store unit changed. -/
def storing (f : StoreUnit → StoreUnit) (s : State) : State := { s with store := f s.store }

/-- The store unit in service, with nothing under way, after a change. -/
def inService (f : StoreUnit → StoreUnit) (s : State) : State :=
  storing (fun u => f { u with
    state := .ready, hostOp := none, erase := .none, toOpen := none, awaiting := none, queue := [], job := .idle
    settings := some (StoreSettings.ofImage storeWords) }) s

/-- A store read of slot 3 that waits for a page of sector `sector` behind the erase of sector 2, whose time limit has passed. -/
def readWaits (sector bad : Nat) : State :=
  let s := State.reset |> inService fun u => { u with
    state := .busy, hostOp := some (.read 3 9 sector 1), erase := .running, eraseSector := some 2, eraseElapsed := 400000
    badCount := bad, sectors := [⟨.opened, some 6, blankSlots⟩, ⟨.bad, none, []⟩, ⟨.erasing, none, blankSlots⟩,
      ⟨.full, some 5, blankSlots⟩], openSector := some 0 }
  { s with req := { s.req with holder := some 3 } }

/-- Page 0 of the sector erased is being read. -/
def checking (s : State) : State := storing (fun u => { u with job := .eraseCheck, transfer := some ⟨[], 256⟩ }) s

/-- A store read of slot 3 that waits behind the storing of a record, whose first program has passed its limit. -/
def readBehind (erase : EraseState) : State :=
  State.reset |> inService fun u => { u with
    state := .busy, hostOp := some (.read 3 9 0 1), erase := erase, job := .bodyPoll, pollElapsed := 5000
    sectors := [⟨.full, some 5, blankSlots⟩, ⟨.opened, some 6, blankSlots⟩], openSector := some 1, nextSlot := 1
    queue := [⟨7, [], 0⟩] }

/-- The store unit in the scan of a group whose request is in slot 3. -/
def inScan (f : StoreUnit → StoreUnit) (s : State) : State :=
  inService (fun u => f { u with state := .scanning, awaiting := u.settings.map fun c => (c, 3), settings := none }) s

/-- Encoder A in use, with marker count, reference and position state of the shell; 100000 counts are one turn. -/
def shellAt (p : DWord) (reference valid : Bool) : State :=
  { State.reset with meas := { State.reset.meas with shell := { State.reset.meas.shell with
    inUse := some .a, p := p, reference := reference, valid := valid, onceValid := true, position := 40000, sector := 39 } } }

/-- The trigger program with its state. -/
def armed (c : TrigCond) (second : Option TrigCond) (st : TrigState) (s : State) : State :=
  { s with record := { s.record with program := some ⟨c, second, 7, true⟩, trigState := st } }

/-- The five groups but the one loaded last are in force, no trip kind is latched, the store is READY. -/
def others (s : State) : State :=
  { driving .unconfigured s with
    drive := some DriveSettings.standIn, gov := { s.gov with envelope := some [] }
    watch := { s.watch with settings := some s.watch.cfg }, record := { s.record with settings := some ⟨100, 512⟩ }
    store := { s.store with state := .ready, settings := some (StoreSettings.ofImage []) }
    faults := { s.faults with lock := false, entries := s.faults.entries.map fun x => { x with latched := false } } }

/-- Nothing awaits force and the transfer area is free. -/
def unawaited (s : State) : State :=
  { s with
    gov := { s.gov with awaiting := none }, watch := { s.watch with awaiting := none }
    req := { s.req with holder := none } }

/-- The kinds are latched, no other. -/
def latch (ks : List FaultKind) (s : State) : State :=
  { s with faults := { s.faults with
    entries := s.faults.entries.mapFinIdx fun i x _ => { x with latched := ks.any fun k => k.num.val = i } } }

/-! ### Worked examples of the spec, one step each -/

/-- What `f` reads in the state that command `c` answers, or none where it stops. -/
def after {α : Type} (c : Instr) (s : State) (f : State → α) : Option α :=
  match exec c s with
  | .next t => some (f t)
  | _ => none

/-- Part of a step's answer. -/
def stepped {α : Type} (s : State) (f : State → α) : Option α :=
  match step s with
  | .next t => some (f t)
  | _ => none

/-- Slot k and its result words, as the exchange memory shows them. -/
def answerAt (k : Fin 8) (t : State) : List Word :=
  [t.mem.readWord (slotAddr k), t.mem.readWord (slotAddr k + 6), t.mem.readWord (slotAddr k + 32)]

/-! #### Settings of the examples -/

/-- The DRIVE settings of the examples of chapters 1 to 4. -/
def kiln (s : State) : State :=
  configured (fun _ => DriveSettings.ofImage (driveWords.set 6 0)) s

/-- A state of the drive with the settings of the examples. -/
def kilnIn (d : DriveState) : State := State.reset |> kiln |> driving d |> healthy

/-- 1.1: the frame of converter A in the example. -/
def frame11 : SampleFrame := ⟨false, 10923, BitVec.ofInt 16 (-21846), 18432, false⟩

/-- 1.1: scaling one sample set. -/
theorem test_sampleSetFrame_scales :
    after (.sampleSetFrame .a frame11) (kilnIn .stopped |> awaiting .a) (fun t => (t.link .a).sample) =
      some ⟨1000, -2000, 675, false, false⟩ := by decide +kernel

/-- 1.1: a code at a limit marks the set saturated. -/
theorem test_sampleSetFrame_saturates :
    after (.sampleSetFrame .a { frame11 with codeC := 0x8000 }) (kilnIn .stopped |> awaiting .a)
      (fun t => ((t.link .a).sample.ic, (t.link .a).sample.saturated, (t.regs.get .a).overcurrent)) =
      some (-3000, true, true) := by decide +kernel

/-- 4.10: the regulator of motor A before the arrival. -/
def period410 : State :=
  let s := kilnIn .run |> awaiting .a |> regulator .a fun g => { g with
    angle := 537000000, dInt := -60000, qInt := 330000, iqSum := 5076, iqCount := 4, gateBlock := false }
  { s with
    seq := { s.seq with gate := ⟨true, true⟩ }, gov := { s.gov with idRef := 400, iqRef := ⟨1278, 1373⟩ }
    meas := { s.meas with encoders := s.meas.encoders.map fun e => { e with speed := 9000 } } }

/-- 4.10: currents, voltages, duties and angle of the worked period. The codes give the currents of the table under its
full scales. -/
theorem test_sampleSetFrame_period :
    after (.sampleSetFrame .a ⟨false, BitVec.ofInt 16 (-6674), BitVec.ofInt 16 (-7865), 18432, false⟩) period410
      (fun t =>
        let g := t.regs.get .a
        ([g.id, g.iq, g.iqSum, g.dInt, g.qInt, g.vd, g.vq], g.pendingDuties, g.angle)) =
      some ([405, 1269, 6345, -61000, 331800, -63, 335], some ⟨66, 936, 445⟩, 553109322#32) := by decide +kernel

/-- 4.10: the duties come into force at the next period start. -/
theorem test_currentPeriodStart_duties :
    after (.currentPeriodStart .a)
      (kilnIn .run |> regulator .a fun g => { g with pendingDuties := some ⟨66, 936, 445⟩, arrivalSeen := true, firstPeriod := false })
      (fun t => ((t.regs.get .a).duties, (t.regs.get .a).missing, (t.link .a).awaiting)) =
      some (⟨66, 936, 445⟩, 0, true) := by decide +kernel

/-- 4.12: the third missing period. -/
theorem test_measLoss_trips :
    after (.measLoss .b)
      (kilnIn .run |> regulator .b fun g => { g with
        firstPeriod := false, arrivalSeen := false, missing := 2, gateBlock := false, duties := ⟨66, 936, 445⟩ })
      (fun t => (t.seq.drive, (t.regs.get .b).duties, (t.regs.get .b).missing, (t.regs.get .b).gateBlock,
        t.present (.measLoss .b))) =
      some (.tripped, ⟨500, 500, 500⟩, 3, true, true) := by decide +kernel

/-! #### Chapter 1 -/

/-- 1.2: the drive before the update at 5000 ms: the windows without their newest difference, and the counts that give it. -/
def speed12 : State :=
  let s := kilnIn .run
  let e := s.meas.encoders.a
  { s with meas := { s.meas with encoders :=
      ⟨{ e with count := 68, saved := 0, window := [68, 69, 68, 68, 69, 68, 68, 0] },
        { e with count := 68, saved := 0, window := [68, 68, 68, 68, 69, 68, 68, 0] }⟩ } }

/-- 1.2: the update at 5000 ms. -/
theorem test_speedWindowUpdate_speeds :
    after .speedWindowUpdate speed12
      (fun t => (t.meas.encoders.a.speed, t.meas.encoders.b.speed, t.meas.n, t.meas.shell.inUse)) =
      some (9997, 9979, 9988, some .a) := by decide +kernel

/-- 1.2: the line break of B at 5000.4 ms. -/
theorem test_lineBreakActive_loses :
    after (.lineBreakActive .b)
      { speed12 with meas := { speed12.meas with
        n := 9988, encoders := ⟨{ speed12.meas.encoders.a with speed := 9997 }, { speed12.meas.encoders.b with speed := 9979 }⟩ } }
      (fun t => (t.meas.n, t.meas.encoders.b.speed, t.meas.encoders.b.lost, t.sourcePresent .encoderSingle .second)) =
      some (9997, 9997, true, true) := by decide +kernel

/-- The line-break release changes the input's level alone. -/
theorem test_lineBreakRelease :
    after (.lineBreakRelease .b) { kilnIn .run with inputs := { State.reset.inputs with lineBreak := ⟨false, true⟩ } }
      (fun t => t.inputs.lineBreak) = some ⟨false, false⟩ := by decide +kernel

/-- 1.2: the hundredth clear update makes an encoder HEALTHY. -/
theorem test_encoderHealthy :
    after (.encoderHealthy .b)
      { speed12 with meas := { speed12.meas with encoders := (speed12.meas.encoders.set .b
        { speed12.meas.encoders.b with lost := true, clearTime := 99, touched := false }) } }
      (fun t => t.meas.encoders.b.lost) = some false := by decide +kernel

/-- R121: the update at which the disagree count reaches its time. -/
theorem test_encoderDisagree_trips :
    after .encoderDisagree
      (configured (fun c => { c with disagreeLimit := 10, disagreeTime := 5 })
        { speed12 with level := { speed12.level with disagree := 4 } })
      (fun t => (t.seq.drive, (t.faults.entry .encoderDisagree).latched)) = some (.tripped, true) := by decide +kernel

/-- R4: a forward edge of A, the encoder in use. -/
theorem test_encoderEdge_forward :
    after (.encoderEdge .a .forward)
      { kilnIn .run with meas := { (kilnIn .run).meas with shell := { Shell.reset with inUse := some .a, p := 41 } } }
      (fun t => (t.meas.encoders.a.count, t.meas.shell.p)) = some (1#32, 42#32) := by decide +kernel

/-- 1.3: the shell of the missed marker, with C = 1310720. -/
def shell13 (p : Int) : State :=
  let s := kilnIn .run
  { s with meas := { s.meas with shell := ⟨some .a, BitVec.ofInt 32 p, true, true, 0, 0, true, false⟩ } }

/-- 1.3: a marker in its place. -/
theorem test_shellMarker_good :
    after .shellMarker (shell13 1310800) (fun t => (t.meas.shell.p, t.meas.shell.slip, t.meas.shell.valid)) =
      some (0#32, false, true) := by decide +kernel

/-- 1.3: a marker one revolution late. -/
theorem test_shellMarker_slip :
    after .shellMarker (shell13 2622000) (fun t => (t.meas.shell.slip, t.sourcePresent .markerSlip .first)) =
      some (true, true) := by decide +kernel

/-- 1.3: the position at an update, half a revolution on. -/
theorem test_speedWindowUpdate_position :
    after .speedWindowUpdate (shell13 655360) (fun t => (t.meas.shell.position, t.meas.shell.sector, t.meas.shell.valid)) =
      some (32768, 32, true) := by decide +kernel

/-- 1.3: the position is lost at 1 376 300 counts, and holds. -/
theorem test_speedWindowUpdate_positionInvalid :
    after .speedWindowUpdate (shell13 1376300) (fun t => (t.meas.shell.valid, t.sourcePresent .positionInvalid .first)) =
      some (false, true) := by decide +kernel

/-- 1.4: channel 2 with a receiver. -/
def channel2 (r : Receiver) : State := (State.reset |> fit 2).setReceiver 2 r

/-- 1.4: the first frame of the example. -/
theorem test_sensorFrameEnd_good :
    after (.sensorFrameEnd 2 ⟨1200, true, false, true, true⟩) (channel2 .reset) (fun t => t.receiver 2) =
      some ⟨some (1200, .ok), true, false, false, .none, false⟩ := by decide +kernel

/-- 1.4: a frame with its stop element low. -/
theorem test_sensorFrameEnd_framing :
    after (.sensorFrameEnd 2 ⟨7, true, false, true, false⟩)
      (channel2 ⟨some (-300, .overload), true, false, false, .none, false⟩) (fun t => t.receiver 2) =
      some ⟨some (-300, .overload), true, false, true, ⟨true, false, false, false, false⟩, true⟩ := by decide +kernel

/-- R14: the idle level for one element ends the wait. -/
theorem test_sensorLineIdleRegained :
    after (.sensorLineIdleRegained 2) (channel2 { Receiver.reset with waitIdle := true }) (fun t => (t.receiver 2).waitIdle) =
      some false := by decide +kernel

/-- 1.4: the host clears OVERRUN, PARITY and MISSING. -/
theorem test_stickyErrorClearWrite :
    after (.stickyErrorClearWrite 2 0xE)
      (let s := channel2 { Receiver.reset with errors := ⟨true, true, true, true, true⟩ }
       { s with req := { s.req with starting := false } })
      (fun t => ((t.receiver 2).errors, t.mem.readWord (stickyClearAddr 2))) =
      some (⟨true, false, false, false, true⟩, 0#16) := by decide +kernel

/-- 1.4: take 3, with no frame since take 2 and a line error. -/
theorem test_vibrationSamplePeriod_take :
    after .vibrationSamplePeriod
      (channel2 ⟨some (1190, .ok), false, false, true, ⟨false, true, true, false, false⟩, false⟩) (fun t => t.receiver 2) =
      some ⟨some (1190, .ok), false, false, false, ⟨false, true, true, true, false⟩, false⟩ := by decide +kernel

/-! #### Chapter 2 -/

/-- 2.12: START from STOPPED. -/
theorem test_start_magnetizes :
    after .start
      (let s := kilnIn .stopped |> posted 3 [0, 0] 2
       { s with inputs := { s.inputs with runPermit := true } })
      (fun t => (t.seq.drive, t.seq.gate, t.seq.magCount, answerAt 2 t)) =
      some (.magnetizing, ⟨true, true⟩, 0, [3, 0, 0]) := by decide +kernel

/-- START without the permit. -/
theorem test_start_noPermit :
    after .start (kilnIn .stopped |> posted 3 [0, 0] 2) (fun t => (t.seq.drive, answerAt 2 t)) =
      some (.stopped, [4, 8, 0]) := by decide +kernel

/-- 2.12: the first step of MAGNETIZING. -/
theorem test_sequencerMillisecond_flux :
    after .sequencerMillisecond (kilnIn .magnetizing) (fun t => (t.seq.flux, t.seq.magCount)) = some (2, 1) := by
  decide +kernel

/-- 2.12: the step at which the magnetizing time expires. -/
theorem test_magnetizingTimeExpiry :
    after .magnetizingTimeExpiry
      (let s := kilnIn .magnetizing
       { s with seq := { s.seq with magCount := 199, flux := 398, hostTarget := 9000 } })
      (fun t => (t.seq.drive, t.seq.flux, t.seq.rampTarget, t.seq.brakeRelease, t.seq.breakawayCount)) =
      some (.breakaway, 400, 9000, true, 0) := by decide +kernel

/-- 2.12: the shell moves at 302, and the drive is in RUN. -/
theorem test_sequencerMillisecond_run :
    after .sequencerMillisecond
      (let s := kilnIn .breakaway
       { s with
         seq := { s.seq with breakawayCount := 509, ramp := 509000, rampTarget := 9000 }, meas := { s.meas with n := 302 } })
      (fun t => (t.seq.drive, t.seq.ramp, t.seq.breakawayCount)) = some (.run, 510000, 510) := by decide +kernel

/-- 2.12: the shell that had not turned. -/
theorem test_breakawayTimeExpiry_stalls :
    after .breakawayTimeExpiry
      (let s := kilnIn .breakaway
       { s with seq := { s.seq with breakawayCount := 4999 } })
      (fun t => (t.seq.drive, (t.faults.entry .stall).latched, t.present .stall)) = some (.tripped, true, false) := by
  decide +kernel

/-- 2.13: STOP in RUN, and the first step after it. -/
theorem test_stop_decelerates :
    after .stop (kilnIn .run |> posted 4 [] 0) (fun t => (t.seq.drive, t.seq.phase, answerAt 0 t)) =
      some (.stopping, .decelerating, [3, 0, 0]) := by decide +kernel

/-- 2.13: the step at which the dwell reaches 500. -/
theorem test_zeroSpeedDwellReached :
    after .zeroSpeedDwellReached
      (let s := kilnIn .stopping
       { s with seq := { s.seq with phase := .atZero, zeroCount := 499, brakeRelease := true }, meas := { s.meas with n := 3 } })
      (fun t => (t.seq.phase, t.seq.brakeRelease)) = some (.brakeSetting, false) := by decide +kernel

/-- 2.13: the step at which the brake set time is reached. -/
theorem test_brakeSetTimeExpiry :
    after .brakeSetTimeExpiry
      (let s := kilnIn .stopping
       { s with seq := { s.seq with phase := .brakeSetting, brakeCount := 299, gate := ⟨true, true⟩ } })
      (fun t => (t.seq.drive, t.seq.gate, t.seq.phase)) = some (.stopped, ⟨false, false⟩, .none) := by decide +kernel

/-- 2.14: RESTART in RUN only becomes pending. -/
theorem test_restart_pending :
    after .restart (let s := kilnIn .run; { s with req := { s.req with starting := false } })
      (fun t => (t.seq.drive, t.portControl)) = some (.run, 2#16) := by decide +kernel

/-- 2.14: the permit drop with action RAMP. -/
theorem test_runPermitDrop_ramps :
    after .runPermitDrop
      (let s := configured (fun c => { c with permitAction := .ramp }) (kilnIn .run)
       { s with inputs := { s.inputs with runPermit := true }, seq := { s.seq with restartPending := true } })
      (fun t => (t.seq.drive, t.seq.phase, t.seq.restartPending)) = some (.stopping, .decelerating, true) := by decide +kernel

/-- 2.14: the E-STOP that meets a pending restart: the part restarts, and latches E-STOP afresh in UNCONFIGURED. -/
theorem test_eStopActive_restarts :
    after .eStopActive
      (let s := kilnIn .stopping
       { s with seq := { s.seq with restartPending := true, phase := .decelerating, gate := ⟨true, true⟩ } })
      (fun t => (t.seq.drive, t.seq.gate, t.faults.lock, (t.faults.entry .eStop).latched, t.portControl)) =
      some (.unconfigured, ⟨false, false⟩, false, true, 0#16) := by decide +kernel

/-- The release of E-STOP leaves the latch. -/
theorem test_eStopInactive :
    after .eStopInactive
      (let s := kilnIn .tripped |> present .eStop
       { s with inputs := { s.inputs with eStop := true } })
      (fun t => (t.inputs.eStop, t.sourcePresent .eStop .first)) = some (false, false) := by decide +kernel

/-- The return of the permit. -/
theorem test_runPermitReturn :
    after .runPermitReturn (kilnIn .stopped |> present .permit) (fun t => (t.inputs.runPermit, t.sourcePresent .permit .first)) =
      some (true, false) := by decide +kernel

/-- SET SPEED beyond nmax. -/
theorem test_setSpeed_clamped :
    after .setSpeed (kilnIn .stopped |> posted 5 [16000] 1) (fun t => (t.seq.hostTarget, answerAt 1 t)) =
      some (15000, [3, 1, 15000]) := by decide +kernel

/-- LIMIT TORQUE beyond 1000. -/
theorem test_limitTorque_clamped :
    after .limitTorque (kilnIn .stopped |> posted 6 [1001] 1) (fun t => (t.gov.h, answerAt 1 t)) =
      some (1000, [3, 1, 1000]) := by decide +kernel

/-- A power-on reset loses the drive's state. -/
theorem test_powerOnReset :
    after .powerOnReset (kilnIn .run) (fun t => (t.seq.drive, t.drive, t.portControl)) =
      some (.unconfigured, none, 0#16) := by decide +kernel

/-! #### Chapter 3 -/

/-- The envelope of 3.12. -/
def envelope312 : List Breakpoint := [⟨0, 1800, 1200⟩, ⟨3000, 1500, 1000⟩, ⟨15000, 1200, 800⟩]

/-- 3.12: before the expiry. -/
def governor312 : State :=
  let s := kilnIn .run
  let v (sum : Int) : Regulator → Regulator := fun g => { g with iqSum := sum, iqCount := 8 }
  { (s |> regulator .a (v 10200) |> regulator .b (v 10960)) with
    seq := { s.seq with ramp := 9050000 }, meas := { s.meas with n := 9000 }
    watch := { s.watch with groups := ⟨{ s.watch.groups.a with demand := 900 }, s.watch.groups.b⟩ }
    gov := { s.gov with iacc := 2495000, tp := 2500, tg := 2500, torque := ⟨1215, 1285⟩, envelope := some envelope312 } }

/-- 3.12: the first expiry. -/
theorem test_governorPeriod_derated :
    after .governorPeriod governor312 (fun t =>
      let g := t.gov
      ([g.e, g.p, g.iacc, g.td, g.l0.motoring, g.l0.regenerating, g.publishedLimit .a, g.publishedLimit .b, g.tg,
        g.torque.a, g.torque.b, g.idRef, g.iqRef.a, g.iqRef.b, g.estimate.a, g.estimate.b], g.hold, g.atLimit)) =
      some ([50, 200, 2500000, 2700, 1350, 900, 1215, 1350, 2520, 1215, 1305, 400, 1278, 1373, 1211, 1301], true, false) := by
  decide +kernel

/-- 3.13: the first expiry of the torque reversal. -/
theorem test_governorPeriod_reversal :
    after .governorPeriod
      (let s := configured (fun c => { c with pinion := .bOnly, rate := 100, kB := 1000 }) (kilnIn .stopping)
       { s with
         seq := { s.seq with phase := .decelerating, ramp := 1900000 }, meas := { s.meas with n := 2000 }
         watch := { s.watch with groups := ⟨{ s.watch.groups.a with demand := 850 }, s.watch.groups.b⟩ }
         gov := { s.gov with iacc := 100000, tp := 150, tg := 150, torque := ⟨0, 150⟩, envelope := some envelope312 } })
      (fun t => ([t.gov.td, t.gov.tg, t.gov.torque.a, t.gov.torque.b, t.gov.iqRef.b, t.gov.publishedLimit .b], t.gov.hold)) =
      some ([-310, 50, 0, 50, 50, 1600], true) := by decide +kernel

/-- R59: the expiry at which the deviation count of A reaches its time. -/
theorem test_torqueDev_trips :
    after (.torqueDev .a)
      { governor312 with gov := { governor312.gov with torque := ⟨2000, 500⟩, devCount := ⟨99, 0⟩ } }
      (fun t => (t.seq.drive, (t.faults.entry (.torqueDev .a)).latched)) = some (.tripped, true) := by decide +kernel

/-- R80: the take that brings the limited run to 2000. -/
theorem test_voltageLimitedRunReached :
    after (.voltageLimitedRunReached .b)
      (governor312 |> regulator .b fun g => { g with voltageLimited := true, limitedRun := 1999 })
      (fun t => ((t.regs.get .b).limitedRun, t.sourcePresent .voltageLimited .second)) = some (2000, true) := by decide +kernel

/-! #### Chapter 5 -/

/-- 5.6: channel 0 in sector 17. -/
def sector56 (entry peak : Nat) : State :=
  let s := kilnIn .run |> fit 0
  let v := { s.watch.cfg with sector := vset s.watch.cfg.sector 0 460 }
  ({ s with
    meas := { s.meas with n := 9000, shell := ⟨some .a, 0, true, true, 18450, 18, true, false⟩ }
    watch := { s.watch with settings := some v, blockPos := 7 } }).setChannel 0
    { ChannelWatch.reset with
      map := (List.replicate 64 0).set 17 entry, visitSector := some 17, visitPeak := peak, visitCount := 180
      worstSector := 17, worstValue := entry, health := .healthy }

/-- 5.6: the visit of sector 17 closes with peak 960. -/
theorem test_vibrationSamplePeriod_sectorAlert :
    after .vibrationSamplePeriod (sector56 400 960)
      (fun t => ((t.channel 0).map[17]?, (t.channel 0).sectorAlert, (t.channel 0).worstValue)) = some (some 470, true, 470) := by
  decide +kernel

/-- 5.6: one revolution later it closes with peak 320. -/
theorem test_vibrationSamplePeriod_sectorClear :
    after .vibrationSamplePeriod (sector56 470 320)
      (fun t => ((t.channel 0).map[17]?, (t.channel 0).sectorAlert)) = some (some 452, false) := by decide +kernel

/-- 5.11: channel 0 in block 9, in DANGER. -/
def danger511 (heldRun : Nat) : State :=
  let s := kilnIn .run |> fit 0
  let v := VibSettings.ofImage vibrationWords
  ({ s with
    meas := { s.meas with n := 9000, shell := ⟨some .a, 0, true, true, 0, 0, true, false⟩ }
    watch := { s.watch with settings := some v, blockPos := 130, quarter := 2 } }).setChannel 0
    { ChannelWatch.reset with health := .healthy, vib := .danger, heldRun := heldRun }

/-- 5.11: the 32nd HELD sample in danger. -/
theorem test_heldRunLost :
    after (.heldRunLost 0) (danger511 31)
      (fun t => ((t.channel 0).health, (t.channel 0).vib, (t.channel 0).memory, (t.group .a).demand)) =
      some (.lost, .unknown, true, 700) := by decide +kernel

/-- 5.11: block 5 brings the alert-on count to 4. The sum of squares is 256 times 1080². -/
theorem test_blockEnd_alert :
    after .blockEnd
      (let s := (danger511 0).setReceiver 0 ⟨some (0, .ok), true, false, false, .none, false⟩
       ({ s with watch := { s.watch with blockPos := 255 } }).setChannel 0
        { ChannelWatch.reset with health := .healthy, alertOn := 3, sumSq := 256 * 1080 * 1080 })
      (fun t => ((t.channel 0).level, (t.channel 0).vib, (t.group .a).demand, (t.group .a).alert)) =
      some (1080, .alert, 900, true) := by decide +kernel

/-- 5.11: a watch millisecond in DANGER counts the dwell. -/
theorem test_watchMillisecond_dwell :
    after .watchMillisecond
      ({ danger511 0 with watch := { (danger511 0).watch with quarter := 3 } }.setGroup .a ⟨700, 64, true⟩)
      (fun t => ((t.group .a).dwell, t.watch.quarter)) = some (65, 0) := by decide +kernel

/-- R100: the watch millisecond that reaches the dwell of 5000. -/
theorem test_dangerDwellExpiry :
    after (.dangerDwellExpiry .a)
      ({ danger511 0 with watch := { (danger511 0).watch with quarter := 3 } }.setGroup .a ⟨700, 4999, true⟩)
      (fun t => (t.seq.drive, (t.faults.entry (.vibDanger .a)).latched)) = some (.tripped, true) := by decide +kernel

/-- RESET SECTOR MAP of channel 0. -/
theorem test_resetSectorMap :
    after .resetSectorMap (sector56 470 320 |> posted 18 [0] 5)
      (fun t => ((t.channel 0).worstValue, (t.channel 0).map[17]?, answerAt 5 t)) = some (0, some 0, [3, 0, 0]) := by
  decide +kernel

/-! #### Chapter 6 -/

/-- 6.10: in RUN, with the counts of link A. -/
def sag610 (under low : Nat) : State :=
  let s := configured (fun c => { c with undervolt := 450, low := 500 }) (kilnIn .run) |> awaiting .a
  { s with
    level := { s.level with counts := ⟨⟨under, low, 0⟩, .zero⟩ }
    record := { s.record with settings := some ⟨50, 1536⟩ }, req := { s.req with partTime := 7002 } }

/-- A frame of no current whose DC code gives the voltage under a full scale of 1200 V. -/
def quiet (code : Word) : SampleFrame := ⟨false, 0, 0, code, false⟩

/-- 6.10, 7000.875: the eighth frame below 500 V. -/
theorem test_dcLowCountReached :
    after (.dcLowCountReached .a (quiet 13545)) (sag610 0 7)
      (fun t => ((t.link .a).vdc, t.sourcePresent .dcLow .first, (t.faults.entry .dcLow).detail, t.seq.drive)) =
      some (496, true, some 0, .run) := by decide +kernel

/-- 6.10, 7002.875: the eighth frame below 450 V. -/
theorem test_dcUndervoltCountReached :
    after (.dcUndervoltCountReached .a (quiet 12043)) (sag610 7 8)
      (fun t => (((t.link .a).vdc, t.seq.drive, t.faults.lock, t.faults.windowLen),
        (t.faults.firstCauseTime, t.present (.dcUndervolt .a), t.record.openRecord.map Record.drive))) =
      some ((441, .tripped, true, 50), (7002#32, false, some .run)) := by decide +kernel

/-- 6.10: TRIPPED with the window open since 6.625 ms. -/
def tripped610 (isOpen : Bool) (us : Nat) : State :=
  let s := kilnIn .tripped
  { (s.setEntry (.dcUndervolt .a) { FaultEntry.reset with latched := true }) with
    faults := { (s.setEntry (.dcUndervolt .a) { FaultEntry.reset with latched := true }).faults with
      lock := true, windowOpen := isOpen, timer := us, windowLen := 50 } }

/-- 6.10, 7009.5: a follow-on. -/
theorem test_gateFaultActive_follows :
    after (.gateFaultActive .b)
      (let s := tripped610 true 6625
       let r : Record := ⟨41, 0, false, 7002, .run, .normal, some (.dcUndervolt .a, none), [], 0, s.snapshot, .none, .queued, none⟩
       { s with record := { s.record with openRecord := some r, kindSet := [.dcUndervolt .a] } })
      (fun t => (t.record.openRecord.map Record.followOns, (t.faults.entry (.gateFault .b)).latched)) =
      some (some [⟨.gateFault .b, none, 6⟩], true) := by decide +kernel

/-- The input's fall leaves the latch. -/
theorem test_gateFaultInactive :
    after (.gateFaultInactive .b)
      (let s := tripped610 false 0 |> present (.gateFault .b)
       { s with inputs := { s.inputs with gateFault := ⟨false, true⟩ } })
      (fun t => (t.inputs.gateFault, t.sourcePresent (.gateFault .b) .first)) = some (⟨false, false⟩, false) := by decide +kernel

/-- 6.10, 7020: refused with OPEN. -/
theorem test_tripClear_open :
    after .tripClear (tripped610 true 18000 |> posted 8 [] 0) (fun t => (t.seq.drive, answerAt 0 t)) =
      some (.tripped, [4, 10, 0]) := by decide +kernel

/-- 6.10, 7160: accepted. -/
theorem test_tripClear_ok :
    after .tripClear (tripped610 false 0 |> posted 8 [] 0)
      (fun t => (t.seq.drive, t.faults.lock, (t.faults.entry (.dcUndervolt .a)).latched, answerAt 0 t)) =
      some (.stopped, false, false, [3, 0, 0]) := by decide +kernel

/-- 6.10, 7150: the host clears DC LOW, kind 22. -/
theorem test_alarmSeenClearWrite :
    after (.alarmSeenClearWrite 1)
      (let s := (kilnIn .tripped).setEntry .dcLow { FaultEntry.reset with seen := true }
       { s with req := { s.req with starting := false } })
      (fun t => ((t.faults.entry .dcLow).seen, t.mem.readWord alarmClearAddr)) = some (false, 0#16) := by decide +kernel

/-- TRIP NOW in RUN. -/
theorem test_tripNow :
    after .tripNow (kilnIn .run |> posted 7 [] 0)
      (fun t => (t.seq.drive, (t.faults.entry .hostTrip).latched, answerAt 0 t)) = some (.tripped, true, [3, 0, 0]) := by
  decide +kernel

/-! #### Chapter 7 -/

/-- 7.8: the banks, the list and the settings. -/
def bank78 (i : Fin 4) (f : Bank → Bank) : State :=
  let s := kilnIn .tripped |> onlyBank i f
  { s with record := { s.record with settings := some ⟨50, 1536⟩, idCounter := 42, nextIndex := 5 } }

/-- 7.8, 20 001: the first post frame. -/
theorem test_capturePeriod_post :
    after .capturePeriod
      (bank78 1 fun b => { b with state := .post, generation := 3, valid := 2048, writeIndex := 700, post := 512, trigFrame := 700 })
      (fun t => ((t.record.bank 1).postWritten, (t.record.bank 1).writeIndex, (t.record.frameOf 1 700)[0]?)) =
      some (1, 701, some (natWord (700 + 2048 * 6))) := by decide +kernel

/-- 7.8, 20 512: the last post frame. -/
theorem test_bankFreeze :
    after .bankFreeze
      (bank78 1 fun b => { b with state := .post, generation := 3, valid := 2048, writeIndex := 1211, post := 512, postWritten := 511 })
      (fun t => ((t.record.bank 1).state, (t.record.bank 2).state, (t.record.bank 2).generation)) =
      some (.frozen, .live, 1#16) := by decide +kernel

/-- 7.8, 20 050.4: the window expires and the record is posted. -/
theorem test_groupingWindowExpiry :
    after .groupingWindowExpiry
      (let s := bank78 1 id
       let r : Record := ⟨41, 0, false, 20000, .run, .normal, some (.jam, none), [], 0, s.snapshot, .none, .queued, none⟩
       { s with
         faults := { s.faults with lock := true, windowOpen := true, windowLen := 50, timer := 50000 }
         record := { s.record with openRecord := some r, kindSet := [.jam] } })
      (fun t => ((t.record.listEntry 5).state, (t.record.listEntry 5).id, t.record.nextIndex, t.faults.windowOpen,
        t.record.openRecord.isNone)) =
      some (.filled, some 41, 6, false, true) := by decide +kernel

/-- 7.9, 33 000.2: the window of the second condition ends. -/
theorem test_triggerWindowExpiry :
    after .triggerWindowExpiry
      (let s := kilnIn .run
       { s with record := { s.record with
         program := some ⟨.vibAlert, some .torqueAtLimit, 2000, true⟩, trigState := .waitSecond, windowTimer := 2000000 } })
      (fun t => t.record.trigState) = some .waitFirst := by decide +kernel

/-- 7.9: the program is armed. -/
theorem test_armTrigger :
    after .armTrigger (kilnIn .run |> posted 9 [1, 0, 4, 0, 2000, 1] 3)
      (fun t => (t.record.trigState, t.record.program, answerAt 3 t)) =
      some (.waitFirst, some ⟨.vibAlert, some .torqueAtLimit, 2000, true⟩, [3, 0, 0]) := by decide +kernel

/-- DISARM TRIGGER. -/
theorem test_disarmTrigger :
    after .disarmTrigger
      (let s := kilnIn .run |> posted 10 [] 3
       { s with record := { s.record with trigState := .waitFirst } })
      (fun t => (t.record.trigState, answerAt 3 t)) = some (.disarmed, [3, 0, 0]) := by decide +kernel

/-- MANUAL TRIGGER of a program whose one condition it is. -/
theorem test_manualTrigger :
    after .manualTrigger
      (let s := kilnIn .run |> posted 11 [] 3
       { s with record := { s.record with trigState := .waitFirst, program := some ⟨.manual, none, 1, false⟩ } })
      (fun t => (t.record.trigState, (t.record.listEntry 0).state, t.record.idCounter, answerAt 3 t)) =
      some (.disarmed, .filled, 2, [3, 0, 0]) := by decide +kernel

/-- 7.9, 32 500: the release of a bank while no bank is LIVE or POST. -/
theorem test_releaseCapture :
    after .releaseCapture
      (bank78 0 (fun b => { b with state := .frozen, generation := 4, valid := 2048 }) |> posted 14 [0, 4] 3)
      (fun t => ((t.record.bank 0).state, (t.record.bank 0).generation, answerAt 3 t)) =
      some (.live, 5#16, [3, 0, 0]) := by decide +kernel

/-- The host takes an entry. -/
theorem test_listEntryStateWrite :
    after (.listEntryStateWrite 5 2)
      (let s := bank78 1 id
       { s with
         record := s.record.setListEntry 5 ⟨.filled, some 41, .none⟩, req := { s.req with starting := false } })
      (fun t => ((t.record.listEntry 5).state, t.req.misuse)) = some (.taken, 0) := by decide +kernel

/-! #### Chapter 8 -/

/-- 8.10: READY, sector 5 OPEN with its next slot 1, and one record queued. -/
def store810 (job : Job) (tr : Option Transfer) : State :=
  let s := kilnIn .stopped
  { s with store := { s.store with
    settings := some { StoreSettings.ofImage storeWords with ns := 2 }, state := .ready, job := job, transfer := tr
    sectors := [⟨.erased, none, blankSlots⟩, ⟨.opened, some 212, blankSlots⟩], openSector := some 1, nextSlot := 1
    queue := [⟨331, List.replicate 128 7, 0⟩] } }

/-- R156: the write enable is followed by the page program of the body in slot 1. -/
theorem test_flashTransferEnd_programs :
    after (.flashTransferEnd []) (store810 .bodyEnable (some ⟨[6], 0⟩))
      (fun t => (t.store.job, t.store.transfer.map fun x => x.tx.take 6)) =
      some (.bodyProgram, some [2#8, 0#8, 0x11#8, 0#8, 7#8, 0#8]) := by decide +kernel

/-- R156: a poll that reads ready is followed by the read-back. -/
theorem test_flashStatusPoll_ready :
    after (.flashStatusPoll 0) (store810 .bodyPoll none) (fun t => (t.store.job, t.store.transfer.map Transfer.rx)) =
      some (.bodyRead, some 256) := by decide +kernel

/-- R146, R147: a poll that reads busy is a STATUS READ of its own, and the body poll goes on. -/
theorem test_flashStatusPoll_busy :
    after (.flashStatusPoll 1) (store810 .bodyPoll none)
      (fun t => (t.store.job, t.store.transfer, t.store.lastTransfer)) =
      some (.bodyPoll, none, some ⟨[5], 1⟩) := by decide +kernel

/-- 8.10: a program that passes its limit spoils its slot and is tried again in the next. -/
theorem test_flashTimeLimit_retries :
    after .flashTimeLimit
      (let s := store810 .bodyPoll none
       { s with store := { s.store with pollElapsed := 5000 } })
      (fun t => (t.store.job, t.store.nextSlot, t.store.queue.map QueuedRecord.attempts,
        (t.store.sectors[1]?).map fun e => e.slots.take 2)) =
      some (.bodyEnable, 2, [1], some [.spoiled, .blank]) := by decide +kernel

/-- R160: a BAD sector is not read, so a read that waits for its page ends with GONE, and the following sector is erased. -/
theorem test_flashTimeLimit_badSectorNotRead :
    after .flashTimeLimit (readWaits 2 0) (fun t => (answerAt 3 t, t.store.state, t.store.job, t.store.eraseSector)) =
      some ([4, 7, 0], .ready, .eraseEnable, some 3) := by decide +kernel

/-- READ STORED NEWEST starts the page read of the record. -/
theorem test_readStored :
    after .readStored
      (let s := store810 .idle none |> posted 15 [0] 2
       { s with store := { s.store with
         queue := [], sectors := [⟨.erased, none, blankSlots⟩, ⟨.opened, some 212, blankSlots.set 0 (.valid 330)⟩] } })
      (fun t => (t.store.state, t.store.hostOp, (t.slot 2).state)) = some (.busy, some (.read 2 330 1 1), .active) := by
  decide +kernel

/-- READ STORED NEXT without its chain. -/
theorem test_readStoredNext_order :
    after .readStoredNext (store810 .idle none |> posted 16 [0] 2) (fun t => answerAt 2 t) = some [4, 5, 0] := by
  decide +kernel

/-- ERASE STORE makes the store BUSY. -/
theorem test_eraseStore :
    after .eraseStore (store810 .idle none |> posted 17 [] 2) (fun t => (t.store.state, (t.slot 2).state)) =
      some (.busy, .active) := by decide +kernel

/-! #### Chapter 9 -/

/-- 9.11: bank 1 FROZEN with generation 3, a request posted. -/
def fetch911 (n : Nat) (ps : List Word) (k : Fin 8) : State :=
  bank78 1 (fun b => { b with state := .frozen, generation := 3, valid := 2048 }) |> posted n ps k

/-- 9.11, step 2: the take of slot 2. -/
theorem test_fetchCapture_active :
    after .fetchCapture (fetch911 12 [1, 3, 1212, 170] 2) (fun t => ((t.slot 2).state, t.req.fetch, t.req.holder)) =
      some (.active, some ⟨2, 1, 3, 1212, 170, 0⟩, some 2) := by decide +kernel

/-- 9.11, step 4: BUSY comes before ORDER. -/
theorem test_fetchNext_busy :
    after .fetchNext
      (let s := fetch911 13 [170] 5
       { s with req := { s.req with holder := some 2 } })
      (fun t => answerAt 5 t) = some [4, 4, 0] := by decide +kernel

/-- 9.11, step 5: the last frame, here of one; a frame written before the fetch is copied. -/
theorem test_fetchFrameBoundary_ends :
    after .fetchFrameBoundary
      (let s := bank78 1 fun b => { b with state := .frozen, generation := 3, valid := 2048, frames := [(1381, List.replicate 24 9)] }
       { s with req := { s.req with
         starting := false, holder := some 2, fetch := some ⟨2, 1, 3, 1212, 170, 169⟩
         slots := vset s.req.slots 2 ⟨.active, some .fetchCapture, [1, 3, 1212, 170], false⟩ } })
      (fun t => (t.req.chain, t.mem.readWord (slotAddr 2 + 40), t.mem.readWord (transferAddr + 48 * 169), (t.slot 2).state)) =
      some (.fetch 1 3 1382, 1382#16, 9#16, .done) := by decide +kernel

/-- 9.11, step 6: DONE written to a DONE slot is misuse. -/
theorem test_slotStateWrite_misuse :
    after (.slotStateWrite [] 2 3) (State.reset |> slotIs 2 .done (some .fetchCapture))
      (fun t => (t.req.misuse, t.mem.readWord (slotAddr 2))) = some (1, 3#16) := by decide +kernel

/-- 9.11, step 1: parameters stored, then POSTED written. -/
theorem test_slotStateWrite_posts :
    after (.slotStateWrite [⟨0x00A2, 12⟩, ⟨0x00A8, 1⟩] 2 1) (State.reset |> slotIs 2 .free none)
      (fun t => ((t.slot 2).state, t.req.order, t.mem.readWord 0x00A2)) = some (.posted, [2], 12#16) := by decide +kernel

/-- 9.11, step 7: the host clears SLOT2 and SLOT5. -/
theorem test_noticeWrite :
    after (.noticeWrite 0x24) { State.reset with req := { State.reset.req with notice := 0x124 } } (fun t => t.req.notice) =
      some 0x100#16 := by decide +kernel

/-- NOTICE ENABLE keeps the bits that name a notice. -/
theorem test_noticeEnableWrite :
    after (.noticeEnableWrite 0xFFFF) State.reset (fun t => t.req.noticeEnable) = some 0x1FFF#16 := by decide +kernel

/-- A write to IDENT is ignored. -/
theorem test_registerWriteOther :
    after (.registerWriteOther .ident 5) State.reset (fun t => (t.req, t.mem)) = some (State.reset.req, State.reset.mem) := by
  decide +kernel

/-- A kind word that names no kind. -/
theorem test_requestUnknownKind :
    after .requestUnknownKind (State.reset |> posted 20 [] 4) (fun t => answerAt 4 t) = some [4, 13, 0] := by decide +kernel

/-- LOAD SETTINGS of an image whose word 8 (nmax) is out of range: the group names the word. -/
theorem test_loadSettings_range :
    after .loadSettings (kilnIn .stopped |> image (driveWords.set 8 0xFFFF) |> posted 1 [0, 0, 46] 6)
      (fun t => (answerAt 6 t, decide (t.drive = (kilnIn .stopped).drive))) = some ([4, 6, 8], true) := by decide +kernel

/-- LOAD SETTINGS of a DRIVE group in range. -/
theorem test_loadSettings_drive :
    after .loadSettings (kilnIn .stopped |> image driveWords |> posted 1 [0, 0, 46] 6)
      (fun t => (answerAt 6 t, t.cfg.nmax)) = some ([3, 0, 0], 15000) := by decide +kernel

/-- READ SETTINGS of the DRIVE group gives its image back. -/
theorem test_readSettings_drive :
    after .readSettings (kilnIn .stopped |> posted 2 [0, 10] 6)
      (fun t => (answerAt 6 t, t.mem.readWords (transferAddr + 20) 46)) = some ([3, 0, 0], driveWords) := by decide +kernel

/-- SET TIME sets clock and phase. -/
theorem test_setTime :
    after .setTime (State.reset |> posted 19 [1, 2] 6) (fun t => (t.req.clock, t.req.clockSet, t.req.phase)) =
      some (0x20001#32, true, 0) := by decide +kernel

/-- The end of start-up: IDENT words in memory, RUNNING, the START notice. -/
theorem test_startUpEnd :
    after .startUpEnd State.reset (fun t => (t.portControl, t.mem.readWord 0, t.req.notice)) =
      some (1#16, 0x0418#16, noticeBit noticeStart) := by decide +kernel

/-- The clock's second comes with the thousandth millisecond. -/
theorem test_partTimeTick :
    after .partTimeTick { State.reset with req := { State.reset.req with phase := 999, clock := 7 } }
      (fun t => (t.req.partTime, t.req.phase, t.req.clock)) = some (1#32, 0, 8#32) := by decide +kernel

/-! ### The queue -/

/-- The first of two commands is taken, the second waits (log 1). -/
theorem test_step_takesFirst :
    stepped { State.reset with pending := [.noticeEnableWrite 5, .restart] } (fun t => (t.pending, t.req.noticeEnable)) =
      some ([.restart], 5#16) := by decide +kernel

/-- An empty queue: a microsecond passes (log 4). -/
theorem test_step_idle : stepped State.reset (fun t => (t.req.subMs, t.pending)) = some (1, []) := by decide +kernel

/-! ### Operands that no row carries -/

/-- A store at a slot's state word is no plain store. -/
theorem test_wf_slotState : (Instr.slotStateWrite [⟨0x0040, 1⟩] 0 1).wf = false := by decide

/-- A store at a list entry's state word is no plain store. -/
theorem test_wf_entryState : (Instr.slotStateWrite [⟨0x1104, 1⟩] 0 1).wf = false := by decide

/-- A store at a clear word is no plain store. -/
theorem test_wf_clearWord : (Instr.slotStateWrite [⟨0x050C, 1⟩] 0 1).wf = false := by decide

/-- A store at an odd address, or beyond the exchange memory, is no plain store. -/
theorem test_wf_outside :
    (Instr.slotStateWrite [⟨0x0043, 1⟩] 0 1).wf = false ∧ (Instr.slotStateWrite [⟨0x8000, 1⟩] 0 1).wf = false := by decide

/-- RESTART is its own command. -/
theorem test_wf_restart : (Instr.registerWriteOther .portControl 1).wf = false := by decide

/-- No transfer receives more than a page. -/
theorem test_wf_transfer : (Instr.flashTransferEnd (List.replicate 257 0)).wf = false := by decide +kernel

/-- What the model stops on: a store with no such address, and one that is a command of its own. -/
theorem test_stops :
    exec (.slotStateWrite [⟨0x0043, 1⟩] 0 1) State.reset = .fault (.noSuchAddress 0x43) ∧
    exec (.slotStateWrite [⟨0x0040, 1⟩] 0 1) State.reset = .fault (.notAPlainStore 0x40) ∧
    exec (.slotStateWrite [⟨0x8004, 1⟩] 0 1) State.reset = .fault (.notAPlainStore 0x8004) := ⟨rfl, rfl, rfl⟩

/-- No word spells a command: the table gives its rows no bits (log 3). -/
theorem test_decode_none : decodeTableWord 16 0x1234 = none := by decide

/-! ### Witnesses of hypotheses: one theorem a statement, one clause a clause -/

theorem sane_envelope : envelopeSane (envelopeOf envelopeWords) :=
  ⟨by decide +kernel, by decide +kernel, fun b hb => by cases (Option.some.inj hb); decide +kernel⟩

/-- The law of the vibration conditions holds once every condition has been formed at reset. -/
theorem formed_law : (State.reset.formAll 0).vibrationLaw :=
  ⟨fun g => by cases g <;> (unfold State.groupLaw State.someIn; decide +kernel), by decide +kernel, by decide +kernel,
    by decide +kernel, by decide +kernel⟩

theorem test_witness_StepRunsFrontCommand :
  (∃ (c : Instr) (rest : List Instr) (s : State),
      s.pending = c :: rest) ∧
  (∃ (s : State),
      s.pending = [] ∧ 999 ≤ s.req.subMs) ∧
  (∃ (s : State),
      s.pending = [] ∧ s.req.subMs < 999) :=
  ⟨⟨.restart, [], ({ State.reset with pending := [.restart] }), by decide +kernel⟩,
    ⟨({ State.reset with pending := [], req := { State.reset.req with subMs := 999 } }), by decide +kernel⟩,
    ⟨({ State.reset with pending := [], req := { State.reset.req with subMs := 998 } }), by decide +kernel⟩⟩

theorem test_witness_WellFormedCommandsAnswer :
  (∃ (c : Instr),
      c.wf = true) ∧
  (∃ (a : Nat),
      (a % 2 = 1 ∨ 0x8008 ≤ a)) :=
  ⟨⟨.restart, by decide +kernel⟩,
    ⟨0x8008, by decide +kernel⟩⟩

theorem test_witness_SplitKeepsSumAndLimits :
  (∃ (c : DriveSettings) (tg la lb : Int),
      0 ≤ c.share ∧ c.share ≤ 1000 ∧ 0 ≤ la ∧ 0 ≤ lb ∧ |tg| ≤ la + lb ∧ (c.pinion = .aOnly → lb = 0) ∧
          (c.pinion = .bOnly → la = 0)) ∧
  (∃ (c : DriveSettings) (tg la lb : Int),
      0 ≤ c.share ∧ c.share ≤ 1000 ∧ 0 ≤ la ∧ 0 ≤ lb ∧ |tg| ≤ la + lb ∧ (c.pinion = .aOnly → lb = 0) ∧
          (c.pinion = .bOnly → la = 0) ∧ c.pinion = .aOnly) ∧
  (∃ (c : DriveSettings) (tg la lb : Int),
      0 ≤ c.share ∧ c.share ≤ 1000 ∧ 0 ≤ la ∧ 0 ≤ lb ∧ |tg| ≤ la + lb ∧ (c.pinion = .aOnly → lb = 0) ∧
          (c.pinion = .bOnly → la = 0) ∧ c.pinion = .bOnly) ∧
  (∃ (c : DriveSettings) (tg la lb : Int),
      0 ≤ c.share ∧ c.share ≤ 1000 ∧ 0 ≤ la ∧ 0 ≤ lb ∧ |tg| ≤ la + lb ∧ (c.pinion = .aOnly → lb = 0) ∧
          (c.pinion = .bOnly → la = 0) ∧ c.pinion = .both) ∧
  (∃ (c : DriveSettings) (tg la lb : Int),
      let a := if 0 ≤ tg then (tg * c.share + 500) / 1000 else -((-tg * c.share + 500) / 1000)
      let b := tg - a
      0 ≤ c.share ∧ c.share ≤ 1000 ∧ 0 ≤ la ∧ 0 ≤ lb ∧ |tg| ≤ la + lb ∧ (c.pinion = .aOnly → lb = 0) ∧
          (c.pinion = .bOnly → la = 0) ∧ c.pinion = .both ∧ |a| ≤ la ∧ |b| ≤ lb) ∧
  (∃ (c : DriveSettings) (tg la lb : Int),
      let a := if 0 ≤ tg then (tg * c.share + 500) / 1000 else -((-tg * c.share + 500) / 1000)
      0 ≤ c.share ∧ c.share ≤ 1000 ∧ 0 ≤ la ∧ 0 ≤ lb ∧ |tg| ≤ la + lb ∧ (c.pinion = .aOnly → lb = 0) ∧
          (c.pinion = .bOnly → la = 0) ∧ c.pinion = .both ∧ la < |a|) ∧
  (∃ (c : DriveSettings) (tg la lb : Int),
      let a := if 0 ≤ tg then (tg * c.share + 500) / 1000 else -((-tg * c.share + 500) / 1000)
      let b := tg - a
      0 ≤ c.share ∧ c.share ≤ 1000 ∧ 0 ≤ la ∧ 0 ≤ lb ∧ |tg| ≤ la + lb ∧ (c.pinion = .aOnly → lb = 0) ∧
          (c.pinion = .bOnly → la = 0) ∧ c.pinion = .both ∧ |a| ≤ la ∧ lb < |b|) ∧
  (∃ (s : State),
      s.seq.drive.governed = true) ∧
  (∃ (s : State),
      s.seq.drive.governed = false) ∧
  (∃ (s : State),
      s.cfg.sane ∧ (∀ e, s.gov.envelope = some e → envelopeSane e) ∧
          (∀ e k, s.gov.awaiting = some (e, k) → envelopeSane e) ∧ 0 ≤ s.gov.h ∧
          (∀ x, 0 ≤ (s.watch.groups.get x).demand)) :=
  ⟨⟨({ DriveSettings.standIn with share := 500, pinion := .both }), 100, 60, 40, by decide +kernel⟩,
    ⟨({ DriveSettings.standIn with share := 500, pinion := .aOnly }), (-100), 100, 0, by decide +kernel⟩,
    ⟨({ DriveSettings.standIn with share := 500, pinion := .bOnly }), 100, 0, 100, by decide +kernel⟩,
    ⟨({ DriveSettings.standIn with share := 500, pinion := .both }), 2521, 2000, 2000, by decide +kernel⟩,
    ⟨({ DriveSettings.standIn with share := 500, pinion := .both }), (-100), 50, 50, by decide +kernel⟩,
    ⟨({ DriveSettings.standIn with share := 500, pinion := .both }), 100, 40, 60, by decide +kernel⟩,
    ⟨({ DriveSettings.standIn with share := 500, pinion := .both }), (-100), 60, 40, by decide +kernel⟩,
    ⟨(let u := State.reset |> driving .run; { u with seq := { u.seq with restartPending := false } }),
        by decide +kernel⟩,
    ⟨(State.reset |> driving .stopped), by decide +kernel⟩,
    ⟨(let u := State.reset |> configured fun c => { DriveSettings.ofImage driveWords with
        pinion := c.pinion, lb := |c.lb|, lc := |c.lc|, share := c.share.natAbs % 1001, kp := c.kp, ki := c.ki,
          rate := 1 + |c.rate| };
          { u with
          gov := { u.gov with
          awaiting := some (envelopeOf envelopeWords, 3), envelope := some (envelopeOf envelopeWords),
          h := |u.gov.h| },
          watch := { u.watch with groups := u.watch.groups.map fun w => { w with demand := |w.demand| } } }),
          ⟨by decide +kernel, fun _ he => (Option.some.inj he) ▸ sane_envelope,
      fun _ _ he => by cases (Option.some.inj he); exact sane_envelope, by decide +kernel,
          fun x => by cases x <;> decide +kernel⟩⟩⟩

theorem test_witness_VoltagesAndDutiesInRange :
  (∃ (c : DriveSettings) (vdc : Int),
      0 ≤ vdc ∧ 0 ≤ c.mlim) ∧
  (∃ (dmin : Int),
      0 ≤ dmin ∧ dmin ≤ 500) ∧
  (∃ (c : DriveSettings) (vdc : Int),
      0 ≤ vdc ∧ 0 ≤ c.mlim ∧ vdc < 50) ∧
  (∃ (c : DriveSettings) (vdc : Int),
      0 ≤ vdc ∧ 0 ≤ c.mlim ∧ 50 ≤ vdc ∧ 0 ≤ c.dmin ∧ c.dmin ≤ 500) :=
  ⟨⟨DriveSettings.standIn, 500, by decide +kernel⟩,
    ⟨500, by decide +kernel⟩,
    ⟨DriveSettings.standIn, 49, by decide +kernel⟩,
    ⟨DriveSettings.standIn, 50, by decide +kernel⟩⟩

theorem test_witness_RestartAtRestOrPending :
  (∃ (s : State),
      s.seq.drive.idleClass = true) ∧
  (∃ (s : State),
      s.seq.drive.idleClass = false) ∧
  (∃ (s : State) (k : Fin 8) (rest : List (Fin 8)),
      s.atHead (some .stop) k rest ∧ s.seq.drive = .magnetizing ∧ s.seq.restartPending = true) ∧
  (∃ (s : State),
      s.inputs.eStop = false ∧ s.sourcePresent .eStop .first = false ∧ s.seq.drive.running = true ∧
          s.faults.lock = false ∧ s.seq.restartPending = true) ∧
  (∃ (s : State) (k : Fin 8) (rest : List (Fin 8)),
      s.atHead (some .tripNow) k rest ∧ s.sourcePresent .hostTrip .first = false ∧ s.seq.drive.running = true ∧
          s.faults.lock = false ∧ s.seq.restartPending = true) :=
  ⟨⟨(State.reset |> driving .stopped), by decide +kernel⟩,
    ⟨(State.reset |> driving .run), by decide +kernel⟩,
    ⟨({ (State.reset |> posted 4 [] 3 |> driving .magnetizing) with
        seq := { State.reset.seq with drive := .magnetizing, restartPending := true } }), 3, [], by decide +kernel⟩,
    ⟨(let u := State.reset |> driving .run |> absent .eStop; { u with
        inputs := { u.inputs with eStop := false }, seq := { u.seq with restartPending := true } }),
          by decide +kernel⟩,
    ⟨(let u := State.reset |> posted 7 [] 3 |> driving .breakaway |> absent .hostTrip;
        { u with seq := { u.seq with restartPending := true } }), 3, [], by decide +kernel⟩⟩

theorem test_witness_StartUpInitialises :
  (∃ (s : State),
      s.req.starting = true ∧ s.seq.restartPending = false) ∧
  (∃ (s : State),
      s.req.starting = false) :=
  ⟨⟨({ State.reset with
      req := { State.reset.req with starting := true }, seq := { State.reset.seq with restartPending := false } }),
        by decide +kernel⟩,
    ⟨({ State.reset with req := { State.reset.req with starting := false } }), by decide +kernel⟩⟩

theorem test_witness_RegistersRule :
  (∃ (v : Word),
      v ≠ 1) ∧
  (∃ (s : State),
      s.req.starting = true) ∧
  (∃ (s : State),
      s.req.starting = false ∧ s.seq.restartPending = true) ∧
  (∃ (s : State),
      s.req.starting = false ∧ s.seq.restartPending = false) ∧
  (∃ (n i : Nat),
      i < 16 ∧ n < 16) :=
  ⟨⟨2, by decide +kernel⟩,
    ⟨({ State.reset with req := { State.reset.req with starting := true } }), by decide +kernel⟩,
    ⟨({ State.reset with
        req := { State.reset.req with starting := false }, seq := { State.reset.seq with restartPending := true } }),
          by decide +kernel⟩,
    ⟨({ State.reset with
        req := { State.reset.req with starting := false }, seq := { State.reset.seq with
          restartPending := false } }), by decide +kernel⟩,
    ⟨12, 12, by decide +kernel⟩⟩

theorem test_witness_SlotStateWriteTable :
  (∃ (stores : List HostStore),
      stores.all HostStore.plain = true) ∧
  (∃ (s : State) (k : Fin 8),
      s.req.starting = false ∧ (s.slot k).state = .free) ∧
  (∃ (s : State) (k : Fin 8),
      s.req.starting = false ∧ ((s.slot k).state = .done ∨ (s.slot k).state = .refused)) ∧
  (∃ (s : State) (k : Fin 8),
      s.req.starting = false ∧ (s.slot k).state = .posted) ∧
  (∃ (s : State) (k : Fin 8),
      s.req.starting = false ∧ (s.slot k).state = .active ∧
          ((s.slot k).kind = some .fetchCapture ∨ (s.slot k).kind = some .fetchNext) ∧
          (∀ id sector page, s.store.hostOp ≠ some (.read k id sector page))) ∧
  (∃ (s : State) (k : Fin 8),
      s.req.starting = false ∧ (s.slot k).state = .active ∧
          ((s.slot k).kind = some .readStored ∨ (s.slot k).kind = some .readStoredNext) ∧
          (∃ id sector page, s.store.hostOp = some (.read k id sector page)) ∧ s.store.job = .pageRead) ∧
  (∃ (s : State) (k : Fin 8),
      s.req.starting = false ∧ (s.slot k).state = .active ∧
          ((s.slot k).kind = some .readStored ∨ (s.slot k).kind = some .readStoredNext) ∧
          (∃ id sector page, s.store.hostOp = some (.read k id sector page)) ∧ s.store.job ≠ .pageRead) ∧
  (∃ (s : State) (k : Fin 8),
      s.req.starting = false ∧ (s.slot k).state = .active ∧ (∀ r, (s.slot k).kind = some r → r.cancellable = false)) ∧
  (∃ (s : State) (k : Fin 8) (v : Word),
      s.req.starting = false ∧ (¬(v = 1 ∧ (s.slot k).state = .free)) ∧ (¬(v = 0 ∧ (s.slot k).state ≠ .free))) :=
  ⟨⟨([⟨0x6000, 7⟩, ⟨0x0042, 4⟩]), by decide +kernel⟩,
    ⟨(State.reset |> slotIs 3 .free none), 3, by decide +kernel⟩,
    ⟨(State.reset |> slotIs 3 .done none), 3, by decide +kernel⟩,
    ⟨(State.reset |> slotIs 3 .posted none), 3, by decide +kernel⟩,
    ⟨({ (State.reset |> slotIs 3 .active (some .fetchNext)) with
        store := { State.reset.store with hostOp := none } }), 3,
          ⟨by decide +kernel, by decide +kernel, by decide +kernel, fun _ _ _ => by simp⟩⟩,
    ⟨({ (State.reset |> slotIs 3 .active (some .readStored)) with
        store := { State.reset.store with hostOp := some (.read 3 1 2 3), job := .pageRead } }), 3,
          ⟨by decide +kernel, by decide +kernel, by decide +kernel, ⟨1, 2, 3, by decide +kernel⟩, by decide +kernel⟩⟩,
    ⟨({ (State.reset |> slotIs 3 .active (some .readStoredNext)) with
        store := { State.reset.store with hostOp := some (.read 3 1 2 3), job := .eraseCheck } }), 3,
          ⟨by decide +kernel, by decide +kernel, by decide +kernel, ⟨1, 2, 3, by decide +kernel⟩, by decide +kernel⟩⟩,
    ⟨(State.reset |> slotIs 3 .active (some .loadSettings)), 3,
        ⟨by decide +kernel, by decide +kernel, fun r => by cases r <;> decide +kernel⟩⟩,
    ⟨(State.reset |> slotIs 3 .posted none), 3, 1, by decide +kernel⟩⟩

theorem test_witness_WritesWhileStarting :
  ∃ (s : State),
      s.req.starting = true :=
  ⟨({ State.reset with req := { State.reset.req with starting := true } }), by decide +kernel⟩

theorem test_witness_ListEntryWriteTable :
  (∃ (s : State) (k : Fin 8),
      s.req.starting = false ∧ ((s.record.listEntry k).state = .filled ∨ (s.record.listEntry k).state = .taken)) ∧
  (∃ (s : State),
      s.req.starting = false) ∧
  (∃ (s : State) (k : Fin 8) (v : Word),
      s.req.starting = false ∧ v ≠ 0 ∧ (¬(v = 2 ∧ (s.record.listEntry k).state ≠ .empty))) :=
  ⟨⟨({ State.reset with
      req := { State.reset.req with starting := false }, record := State.reset.record.setListEntry 3 ⟨.filled,
        some 3, .none⟩ }), 3, by decide +kernel⟩,
    ⟨({ State.reset with req := { State.reset.req with starting := false } }), by decide +kernel⟩,
    ⟨({ State.reset with
        req := { State.reset.req with starting := false }, record := State.reset.record.setListEntry 3 ⟨.filled,
          some 3, .none⟩ }), 3, 1, by decide +kernel⟩⟩

theorem test_witness_ClearWordWrites :
  ∃ (s : State),
      s.req.starting = false :=
  ⟨({ State.reset with req := { State.reset.req with starting := false } }), by decide +kernel⟩

theorem test_witness_UnknownKindRefused :
  (∃ (s : State) (k : Fin 8) (rest : List (Fin 8)),
      s.atHead none k rest) ∧
  (∃ (s : State),
      s.req.order = []) :=
  ⟨⟨(State.reset |> posted 20 [] 3), 3, [], by decide +kernel⟩,
    ⟨({ State.reset with req := { State.reset.req with order := [] } }), by decide +kernel⟩⟩

theorem test_witness_LoadSettingsRefusals :
  (∃ (s : State) (k : Fin 8) (rest : List (Fin 8)),
      let g := (s.param k 0).toNat
      s.atHead (some .loadSettings) k rest ∧ (g = 0 ∨ g = 4) ∧ s.seq.drive.running = true) ∧
  (∃ (s : State) (k : Fin 8) (rest : List (Fin 8)),
      let g := (s.param k 0).toNat
      s.atHead (some .loadSettings) k rest ∧ 4 < g) ∧
  (∃ (s : State) (k : Fin 8) (rest : List (Fin 8)),
      let g := (s.param k 0).toNat
      let len := (s.param k 2).toNat
      s.atHead (some .loadSettings) k rest ∧ g ≤ 4 ∧ (g = 0 ∨ g = 4 → s.seq.drive.running = false) ∧
          len ≠ [46, 49, 32, 2, 19].getD g 0) ∧
  (∃ (s : State) (k : Fin 8) (rest : List (Fin 8)),
      let g := (s.param k 0).toNat
      let off := (s.param k 1).toNat
      let len := (s.param k 2).toNat
      s.atHead (some .loadSettings) k rest ∧ g ≤ 4 ∧ (g = 0 ∨ g = 4 → s.seq.drive.running = false) ∧
          len = [46, 49, 32, 2, 19].getD g 0 ∧ 4096 < off + len) ∧
  (∃ (s : State) (k : Fin 8) (rest : List (Fin 8)),
      let g := (s.param k 0).toNat
      let off := (s.param k 1).toNat
      let len := (s.param k 2).toNat
      let engaged := s.store.state = .scanning ∨ s.store.state = .busy ∨ (s.store.state = .ready ∧
          (s.store.queue ≠ [] ∨ s.store.job ≠ .idle ∨ s.store.erase ≠ .none))
      let busy := s.req.holder.isSome = true ∨ (g = 1 ∧ s.gov.awaiting.isSome = true) ∨ (g = 2 ∧
          s.watch.awaiting.isSome = true) ∨ (g = 4 ∧ (s.store.awaiting.isSome = true ∨ engaged))
      s.atHead (some .loadSettings) k rest ∧ g ≤ 4 ∧ (g = 0 ∨ g = 4 → s.seq.drive.running = false) ∧
          len = [46, 49, 32, 2, 19].getD g 0 ∧ off + len ≤ 4096 ∧ busy) ∧
  (∃ (s : State) (k : Fin 8) (rest : List (Fin 8)),
      let g := (s.param k 0).toNat
      let off := (s.param k 1).toNat
      let len := (s.param k 2).toNat
      let engaged := s.store.state = .scanning ∨ s.store.state = .busy ∨ (s.store.state = .ready ∧
          (s.store.queue ≠ [] ∨ s.store.job ≠ .idle ∨ s.store.erase ≠ .none))
      let busy := s.req.holder.isSome = true ∨ (g = 1 ∧ s.gov.awaiting.isSome = true) ∨ (g = 2 ∧
          s.watch.awaiting.isSome = true) ∨ (g = 4 ∧ (s.store.awaiting.isSome = true ∨ engaged))
      s.atHead (some .loadSettings) k rest ∧ g ≤ 4 ∧ (g = 0 ∨ g = 4 → s.seq.drive.running = false) ∧
          len = [46, 49, 32, 2, 19].getD g 0 ∧ off + len ≤ 4096 ∧ ¬busy) ∧
  (∃ (s : State) (k : Fin 8) (rest : List (Fin 8)) (j : Nat) (r : Nat × Nat × Nat),
      let g := (s.param k 0).toNat
      let off := (s.param k 1).toNat
      let len := (s.param k 2).toNat
      let engaged := s.store.state = .scanning ∨ s.store.state = .busy ∨ (s.store.state = .ready ∧
          (s.store.queue ≠ [] ∨ s.store.job ≠ .idle ∨ s.store.erase ≠ .none))
      let busy := s.req.holder.isSome = true ∨ (g = 1 ∧ s.gov.awaiting.isSome = true) ∨ (g = 2 ∧
          s.watch.awaiting.isSome = true) ∨ (g = 4 ∧ (s.store.awaiting.isSome = true ∨ engaged))
      let w := fun i => (s.mem.readWord (transferAddr + 2 * (off + i))).toNat
      let v := fun i => if wideField g i then w i + 65536 * w (i + 1) else w i
      let ranges := imageRanges g (w 0)
      let within := fun r : Nat × Nat × Nat => r.2.1 ≤ v r.1 ∧ v r.1 ≤ r.2.2 ∧ (g = 4 → r.1 = 1 → v 1 % 4096 = 0)
      s.atHead (some .loadSettings) k rest ∧ g ≤ 4 ∧ (g = 0 ∨ g = 4 → s.seq.drive.running = false) ∧
          len = [46, 49, 32, 2, 19].getD g 0 ∧ off + len ≤ 4096 ∧ ¬busy ∧ ranges[j]? = some r ∧
          (∀ q ∈ ranges.take j, within q) ∧ ¬within r) ∧
  (∃ (s : State) (k : Fin 8) (rest : List (Fin 8)) (j : Nat) (c : Nat × Bool),
      let g := (s.param k 0).toNat
      let off := (s.param k 1).toNat
      let len := (s.param k 2).toNat
      let engaged := s.store.state = .scanning ∨ s.store.state = .busy ∨ (s.store.state = .ready ∧
          (s.store.queue ≠ [] ∨ s.store.job ≠ .idle ∨ s.store.erase ≠ .none))
      let busy := s.req.holder.isSome = true ∨ (g = 1 ∧ s.gov.awaiting.isSome = true) ∨ (g = 2 ∧
          s.watch.awaiting.isSome = true) ∨ (g = 4 ∧ (s.store.awaiting.isSome = true ∨ engaged))
      let w := fun i => (s.mem.readWord (transferAddr + 2 * (off + i))).toNat
      let v := fun i => if wideField g i then w i + 65536 * w (i + 1) else w i
      let ranges := imageRanges g (w 0)
      let checks := imageChecks g v
      let within := fun r : Nat × Nat × Nat => r.2.1 ≤ v r.1 ∧ v r.1 ≤ r.2.2 ∧ (g = 4 → r.1 = 1 → v 1 % 4096 = 0)
      s.atHead (some .loadSettings) k rest ∧ g ≤ 4 ∧ (g = 0 ∨ g = 4 → s.seq.drive.running = false) ∧
          len = [46, 49, 32, 2, 19].getD g 0 ∧ off + len ≤ 4096 ∧ ¬busy ∧ checks[j]? = some c ∧
          (∀ r ∈ ranges, within r) ∧ (∀ q ∈ checks.take j, q.2 = true) ∧ c.2 = false) ∧
  (∃ (s : State) (k : Fin 8) (rest : List (Fin 8)),
      let g := (s.param k 0).toNat
      let off := (s.param k 1).toNat
      let len := (s.param k 2).toNat
      let engaged := s.store.state = .scanning ∨ s.store.state = .busy ∨ (s.store.state = .ready ∧
          (s.store.queue ≠ [] ∨ s.store.job ≠ .idle ∨ s.store.erase ≠ .none))
      let busy := s.req.holder.isSome = true ∨ (g = 1 ∧ s.gov.awaiting.isSome = true) ∨ (g = 2 ∧
          s.watch.awaiting.isSome = true) ∨ (g = 4 ∧ (s.store.awaiting.isSome = true ∨ engaged))
      let w := fun i => (s.mem.readWord (transferAddr + 2 * (off + i))).toNat
      let v := fun i => if wideField g i then w i + 65536 * w (i + 1) else w i
      let ranges := imageRanges g (w 0)
      let checks := imageChecks g v
      let within := fun r : Nat × Nat × Nat => r.2.1 ≤ v r.1 ∧ v r.1 ≤ r.2.2 ∧ (g = 4 → r.1 = 1 → v 1 % 4096 = 0)
      s.atHead (some .loadSettings) k rest ∧ g ≤ 4 ∧ (g = 0 ∨ g = 4 → s.seq.drive.running = false) ∧
          len = [46, 49, 32, 2, 19].getD g 0 ∧ off + len ≤ 4096 ∧ ¬busy ∧ (∀ r ∈ ranges, within r) ∧
          (∀ c ∈ checks, c.2 = true)) ∧
  (∃ (s : State) (k : Fin 8) (rest : List (Fin 8)),
      let g := (s.param k 0).toNat
      let off := (s.param k 1).toNat
      let len := (s.param k 2).toNat
      let engaged := s.store.state = .scanning ∨ s.store.state = .busy ∨ (s.store.state = .ready ∧
          (s.store.queue ≠ [] ∨ s.store.job ≠ .idle ∨ s.store.erase ≠ .none))
      let busy := s.req.holder.isSome = true ∨ (g = 1 ∧ s.gov.awaiting.isSome = true) ∨ (g = 2 ∧
          s.watch.awaiting.isSome = true) ∨ (g = 4 ∧ (s.store.awaiting.isSome = true ∨ engaged))
      let w := fun i => (s.mem.readWord (transferAddr + 2 * (off + i))).toNat
      s.atHead (some .loadSettings) k rest ∧ g ≤ 4 ∧ (g = 0 ∨ g = 4 → s.seq.drive.running = false) ∧
          len = [46, 49, 32, 2, 19].getD g 0 ∧ off + len ≤ 4096 ∧ ¬busy ∧ g = 0 ∧ 2 < w 0) ∧
  (∃ (s : State) (k : Fin 8) (rest : List (Fin 8)),
      let g := (s.param k 0).toNat
      let off := (s.param k 1).toNat
      let len := (s.param k 2).toNat
      let engaged := s.store.state = .scanning ∨ s.store.state = .busy ∨ (s.store.state = .ready ∧
          (s.store.queue ≠ [] ∨ s.store.job ≠ .idle ∨ s.store.erase ≠ .none))
      let busy := s.req.holder.isSome = true ∨ (g = 1 ∧ s.gov.awaiting.isSome = true) ∨ (g = 2 ∧
          s.watch.awaiting.isSome = true) ∨ (g = 4 ∧ (s.store.awaiting.isSome = true ∨ engaged))
      let w := fun i => (s.mem.readWord (transferAddr + 2 * (off + i))).toNat
      s.atHead (some .loadSettings) k rest ∧ g ≤ 4 ∧ (g = 0 ∨ g = 4 → s.seq.drive.running = false) ∧
          len = [46, 49, 32, 2, 19].getD g 0 ∧ off + len ≤ 4096 ∧ ¬busy ∧ g = 0 ∧ w 0 ≤ 2 ∧
          (w 1 < 1000 ∨ 4000 < w 1)) ∧
  (∃ (s : State) (k : Fin 8) (rest : List (Fin 8)),
      let g := (s.param k 0).toNat
      let off := (s.param k 1).toNat
      let len := (s.param k 2).toNat
      let engaged := s.store.state = .scanning ∨ s.store.state = .busy ∨ (s.store.state = .ready ∧
          (s.store.queue ≠ [] ∨ s.store.job ≠ .idle ∨ s.store.erase ≠ .none))
      let busy := s.req.holder.isSome = true ∨ (g = 1 ∧ s.gov.awaiting.isSome = true) ∨ (g = 2 ∧
          s.watch.awaiting.isSome = true) ∨ (g = 4 ∧ (s.store.awaiting.isSome = true ∨ engaged))
      let w := fun i => (s.mem.readWord (transferAddr + 2 * (off + i))).toNat
      s.atHead (some .loadSettings) k rest ∧ g ≤ 4 ∧ (g = 0 ∨ g = 4 → s.seq.drive.running = false) ∧
          len = [46, 49, 32, 2, 19].getD g 0 ∧ off + len ≤ 4096 ∧ ¬busy ∧ g = 1 ∧ (w 0 < 2 ∨ 16 < w 0)) ∧
  (∃ (s : State) (k : Fin 8) (rest : List (Fin 8)),
      let g := (s.param k 0).toNat
      let off := (s.param k 1).toNat
      let len := (s.param k 2).toNat
      let engaged := s.store.state = .scanning ∨ s.store.state = .busy ∨ (s.store.state = .ready ∧
          (s.store.queue ≠ [] ∨ s.store.job ≠ .idle ∨ s.store.erase ≠ .none))
      let busy := s.req.holder.isSome = true ∨ (g = 1 ∧ s.gov.awaiting.isSome = true) ∨ (g = 2 ∧
          s.watch.awaiting.isSome = true) ∨ (g = 4 ∧ (s.store.awaiting.isSome = true ∨ engaged))
      let w := fun i => (s.mem.readWord (transferAddr + 2 * (off + i))).toNat
      s.atHead (some .loadSettings) k rest ∧ g ≤ 4 ∧ (g = 0 ∨ g = 4 → s.seq.drive.running = false) ∧
          len = [46, 49, 32, 2, 19].getD g 0 ∧ off + len ≤ 4096 ∧ ¬busy ∧ g = 1 ∧ 2 ≤ w 0 ∧ w 0 ≤ 16 ∧ 20000 < w 1) ∧
  (∃ (s : State) (k : Fin 8) (rest : List (Fin 8)),
      let g := (s.param k 0).toNat
      let off := (s.param k 1).toNat
      let len := (s.param k 2).toNat
      let engaged := s.store.state = .scanning ∨ s.store.state = .busy ∨ (s.store.state = .ready ∧
          (s.store.queue ≠ [] ∨ s.store.job ≠ .idle ∨ s.store.erase ≠ .none))
      let busy := s.req.holder.isSome = true ∨ (g = 1 ∧ s.gov.awaiting.isSome = true) ∨ (g = 2 ∧
          s.watch.awaiting.isSome = true) ∨ (g = 4 ∧ (s.store.awaiting.isSome = true ∨ engaged))
      let w := fun i => (s.mem.readWord (transferAddr + 2 * (off + i))).toNat
      s.atHead (some .loadSettings) k rest ∧ g ≤ 4 ∧ (g = 0 ∨ g = 4 → s.seq.drive.running = false) ∧
          len = [46, 49, 32, 2, 19].getD g 0 ∧ off + len ≤ 4096 ∧ ¬busy ∧ g = 2 ∧ 1 < w 0) ∧
  (∃ (s : State) (k : Fin 8) (rest : List (Fin 8)),
      let g := (s.param k 0).toNat
      let off := (s.param k 1).toNat
      let len := (s.param k 2).toNat
      let engaged := s.store.state = .scanning ∨ s.store.state = .busy ∨ (s.store.state = .ready ∧
          (s.store.queue ≠ [] ∨ s.store.job ≠ .idle ∨ s.store.erase ≠ .none))
      let busy := s.req.holder.isSome = true ∨ (g = 1 ∧ s.gov.awaiting.isSome = true) ∨ (g = 2 ∧
          s.watch.awaiting.isSome = true) ∨ (g = 4 ∧ (s.store.awaiting.isSome = true ∨ engaged))
      let w := fun i => (s.mem.readWord (transferAddr + 2 * (off + i))).toNat
      s.atHead (some .loadSettings) k rest ∧ g ≤ 4 ∧ (g = 0 ∨ g = 4 → s.seq.drive.running = false) ∧
          len = [46, 49, 32, 2, 19].getD g 0 ∧ off + len ≤ 4096 ∧ ¬busy ∧ g = 2 ∧ (∀ i, i < 6 → w i ≤ 1) ∧
          18000 < w 6) ∧
  (∃ (s : State) (k : Fin 8) (rest : List (Fin 8)),
      let g := (s.param k 0).toNat
      let off := (s.param k 1).toNat
      let len := (s.param k 2).toNat
      let engaged := s.store.state = .scanning ∨ s.store.state = .busy ∨ (s.store.state = .ready ∧
          (s.store.queue ≠ [] ∨ s.store.job ≠ .idle ∨ s.store.erase ≠ .none))
      let busy := s.req.holder.isSome = true ∨ (g = 1 ∧ s.gov.awaiting.isSome = true) ∨ (g = 2 ∧
          s.watch.awaiting.isSome = true) ∨ (g = 4 ∧ (s.store.awaiting.isSome = true ∨ engaged))
      let w := fun i => (s.mem.readWord (transferAddr + 2 * (off + i))).toNat
      s.atHead (some .loadSettings) k rest ∧ g ≤ 4 ∧ (g = 0 ∨ g = 4 → s.seq.drive.running = false) ∧
          len = [46, 49, 32, 2, 19].getD g 0 ∧ off + len ≤ 4096 ∧ ¬busy ∧ g = 3 ∧ 250 < w 0) ∧
  (∃ (s : State) (k : Fin 8) (rest : List (Fin 8)),
      let g := (s.param k 0).toNat
      let off := (s.param k 1).toNat
      let len := (s.param k 2).toNat
      let engaged := s.store.state = .scanning ∨ s.store.state = .busy ∨ (s.store.state = .ready ∧
          (s.store.queue ≠ [] ∨ s.store.job ≠ .idle ∨ s.store.erase ≠ .none))
      let busy := s.req.holder.isSome = true ∨ (g = 1 ∧ s.gov.awaiting.isSome = true) ∨ (g = 2 ∧
          s.watch.awaiting.isSome = true) ∨ (g = 4 ∧ (s.store.awaiting.isSome = true ∨ engaged))
      let w := fun i => (s.mem.readWord (transferAddr + 2 * (off + i))).toNat
      s.atHead (some .loadSettings) k rest ∧ g ≤ 4 ∧ (g = 0 ∨ g = 4 → s.seq.drive.running = false) ∧
          len = [46, 49, 32, 2, 19].getD g 0 ∧ off + len ≤ 4096 ∧ ¬busy ∧ g = 3 ∧ w 0 ≤ 250 ∧ 2047 < w 1) ∧
  (∃ (s : State) (k : Fin 8) (rest : List (Fin 8)),
      let g := (s.param k 0).toNat
      let off := (s.param k 1).toNat
      let len := (s.param k 2).toNat
      let engaged := s.store.state = .scanning ∨ s.store.state = .busy ∨ (s.store.state = .ready ∧
          (s.store.queue ≠ [] ∨ s.store.job ≠ .idle ∨ s.store.erase ≠ .none))
      let busy := s.req.holder.isSome = true ∨ (g = 1 ∧ s.gov.awaiting.isSome = true) ∨ (g = 2 ∧
          s.watch.awaiting.isSome = true) ∨ (g = 4 ∧ (s.store.awaiting.isSome = true ∨ engaged))
      let w := fun i => (s.mem.readWord (transferAddr + 2 * (off + i))).toNat
      s.atHead (some .loadSettings) k rest ∧ g ≤ 4 ∧ (g = 0 ∨ g = 4 → s.seq.drive.running = false) ∧
          len = [46, 49, 32, 2, 19].getD g 0 ∧ off + len ≤ 4096 ∧ ¬busy ∧ g = 4 ∧ 1 < w 0) ∧
  (∃ (s : State) (k : Fin 8) (rest : List (Fin 8)),
      let g := (s.param k 0).toNat
      let off := (s.param k 1).toNat
      let len := (s.param k 2).toNat
      let engaged := s.store.state = .scanning ∨ s.store.state = .busy ∨ (s.store.state = .ready ∧
          (s.store.queue ≠ [] ∨ s.store.job ≠ .idle ∨ s.store.erase ≠ .none))
      let busy := s.req.holder.isSome = true ∨ (g = 1 ∧ s.gov.awaiting.isSome = true) ∨ (g = 2 ∧
          s.watch.awaiting.isSome = true) ∨ (g = 4 ∧ (s.store.awaiting.isSome = true ∨ engaged))
      let w := fun i => (s.mem.readWord (transferAddr + 2 * (off + i))).toNat
      s.atHead (some .loadSettings) k rest ∧ g ≤ 4 ∧ (g = 0 ∨ g = 4 → s.seq.drive.running = false) ∧
          len = [46, 49, 32, 2, 19].getD g 0 ∧ off + len ≤ 4096 ∧ ¬busy ∧ g = 4 ∧ w 0 ≤ 1 ∧ w 2 ≤ 255 ∧
          (w 1 + 65536 * w 2) % 4096 = 0 ∧ w 1 + 65536 * w 2 ≤ 0xFFF000 ∧ (w 3 < 8 ∨ 256 < w 3)) :=
  ⟨⟨(State.reset |> posted 1 [4, 0, 0] 3 |> driving .run), 3, [], by decide +kernel⟩,
    ⟨(State.reset |> posted 1 [5, 0, 0] 3), 3, [], by decide +kernel⟩,
    ⟨(State.reset |> posted 1 [4, 0, 18] 3 |> driving .stopped), 3, [], by decide +kernel⟩,
    ⟨(State.reset |> posted 1 [3, 4095, 2] 3), 3, [], by decide +kernel⟩,
    ⟨(let u := State.reset |> posted 1 [4, 0, 19] 3 |> driving .stopped
        |> inService fun u => { u with state := .scanning }; u), 3, [], by decide +kernel⟩,
    ⟨(State.reset |> posted 1 [2, 0, 32] 3 |> driving .stopped |> inService id |> unawaited), 3, [],
        by decide +kernel⟩,
    ⟨(State.reset |> posted 1 [3, 0, 2] 3 |> driving .stopped |> image [250, 2048] |> inService id |> unawaited), 3,
        [], 1, ((1, 0, 2047)), by decide +kernel⟩,
    ⟨(State.reset |> posted 1 [1, 0, 49] 3 |> driving .stopped |> image [3, 0, 100, 100, 500, 100, 100, 500]
        |> inService id |> unawaited), 3, [], 2, ((7, false)), by decide +kernel⟩,
    ⟨(State.reset |> posted 1 [1, 0, 49] 3 |> driving .stopped |> image envelopeWords |> inService id |> unawaited),
        3, [], by decide +kernel⟩,
    ⟨(State.reset |> posted 1 [0, 0, 46] 3 |> driving .stopped |> image [3] |> inService id |> unawaited), 3, [],
        by decide +kernel⟩,
    ⟨(State.reset |> posted 1 [0, 0, 46] 3 |> driving .stopped |> image [2, 4001] |> inService id |> unawaited), 3,
        [], by decide +kernel⟩,
    ⟨(State.reset |> posted 1 [1, 0, 49] 3 |> driving .stopped |> image [17] |> inService id |> unawaited), 3, [],
        by decide +kernel⟩,
    ⟨(State.reset |> posted 1 [1, 0, 49] 3 |> driving .stopped |> image [16, 20001] |> inService id |> unawaited), 3,
        [], by decide +kernel⟩,
    ⟨(State.reset |> posted 1 [2, 0, 32] 3 |> driving .stopped |> image [2] |> inService id |> unawaited), 3, [],
        by decide +kernel⟩,
    ⟨(State.reset |> posted 1 [2, 0, 32] 3 |> driving .stopped |> image [1, 1, 1, 1, 1, 1, 18001] |> inService id
        |> unawaited), 3, [], by decide +kernel⟩,
    ⟨(State.reset |> posted 1 [3, 0, 2] 3 |> driving .stopped |> image [251] |> inService id |> unawaited), 3, [],
        by decide +kernel⟩,
    ⟨(State.reset |> posted 1 [3, 0, 2] 3 |> driving .stopped |> image [250, 2048] |> inService id |> unawaited), 3,
        [], by decide +kernel⟩,
    ⟨(State.reset |> posted 1 [4, 0, 19] 3 |> driving .stopped |> image [2] |> inService id |> unawaited), 3, [],
        by decide +kernel⟩,
    ⟨(State.reset |> posted 1 [4, 0, 19] 3 |> driving .stopped |> image [1, 0, 255, 257] |> inService id
        |> unawaited), 3, [], by decide +kernel⟩⟩

theorem test_witness_LoadDriveInForce :
  (∃ (s : State) (k : Fin 8) (rest : List (Fin 8)),
      let new := DriveSettings.ofImage (s.mem.readWords (transferAddr + 2 * (s.param k 1).toNat) 46)
      let enters := fun x => s.cfg.pinion.has x = false ∧ new.pinion.has x = true
      let quiet := ∀ x, enters x → s.inputs.gateFault.get x = false
      s.atHead (some .loadSettings) k rest ∧ s.param k 0 = 0 ∧ s.param k 2 = 46 ∧ (s.param k 1).toNat + 46 ≤ 4096 ∧
          s.req.holder = none ∧ imageBad 0 (s.mem.readWords (transferAddr + 2 * (s.param k 1).toNat) 46) = none ∧
          quiet ∧ (s.seq.drive = .stopped ∨ s.seq.drive = .tripped)) ∧
  (∃ (s : State) (k : Fin 8) (rest : List (Fin 8)),
      let new := DriveSettings.ofImage (s.mem.readWords (transferAddr + 2 * (s.param k 1).toNat) 46)
      let enters := fun x => s.cfg.pinion.has x = false ∧ new.pinion.has x = true
      let quiet := ∀ x, enters x → s.inputs.gateFault.get x = false
      let others := s.gov.envelope.isSome = true ∧ s.watch.settings.isSome = true ∧ s.record.settings.isSome = true ∧
          s.store.settings.isSome = true ∧ s.store.state ≠ .scanning
      s.atHead (some .loadSettings) k rest ∧ s.param k 0 = 0 ∧ s.param k 2 = 46 ∧ (s.param k 1).toNat + 46 ≤ 4096 ∧
          s.req.holder = none ∧ imageBad 0 (s.mem.readWords (transferAddr + 2 * (s.param k 1).toNat) 46) = none ∧
          quiet ∧ s.seq.drive = .unconfigured ∧ ¬others) ∧
  (∃ (s : State) (k : Fin 8) (rest : List (Fin 8)),
      let new := DriveSettings.ofImage (s.mem.readWords (transferAddr + 2 * (s.param k 1).toNat) 46)
      let enters := fun x => s.cfg.pinion.has x = false ∧ new.pinion.has x = true
      let quiet := ∀ x, enters x → s.inputs.gateFault.get x = false
      let others := s.gov.envelope.isSome = true ∧ s.watch.settings.isSome = true ∧ s.record.settings.isSome = true ∧
          s.store.settings.isSome = true ∧ s.store.state ≠ .scanning
      s.atHead (some .loadSettings) k rest ∧ s.param k 0 = 0 ∧ s.param k 2 = 46 ∧ (s.param k 1).toNat + 46 ≤ 4096 ∧
          s.req.holder = none ∧ imageBad 0 (s.mem.readWords (transferAddr + 2 * (s.param k 1).toNat) 46) = none ∧
          quiet ∧ s.seq.drive = .unconfigured ∧ others ∧ s.seq.restartPending = false ∧
          (∀ f ∈ FaultKind.tripKinds, (s.faults.entry f).latched = false)) ∧
  (∃ (s : State) (k : Fin 8) (rest : List (Fin 8)) (f : FaultKind) (fs : List FaultKind) (r : RecordSettings),
      let new := DriveSettings.ofImage (s.mem.readWords (transferAddr + 2 * (s.param k 1).toNat) 46)
      let enters := fun x => s.cfg.pinion.has x = false ∧ new.pinion.has x = true
      let quiet := ∀ x, enters x → s.inputs.gateFault.get x = false
      let others := s.gov.envelope.isSome = true ∧ s.watch.settings.isSome = true ∧ s.record.settings.isSome = true ∧
          s.store.settings.isSome = true ∧ s.store.state ≠ .scanning
      s.atHead (some .loadSettings) k rest ∧ s.param k 0 = 0 ∧ s.param k 2 = 46 ∧ (s.param k 1).toNat + 46 ≤ 4096 ∧
          s.req.holder = none ∧ imageBad 0 (s.mem.readWords (transferAddr + 2 * (s.param k 1).toNat) 46) = none ∧
          quiet ∧ s.seq.drive = .unconfigured ∧ others ∧ s.seq.restartPending = false ∧ s.faults.lock = false ∧
          (FaultKind.tripKinds.filter fun f => (s.faults.entry f).latched) = f :: fs ∧ fs.length ≤ 7 ∧
          s.record.settings = some r ∧ r.window ≠ 0 ∧ s.record.idCounter < 0xFFFFFFFF) ∧
  (∃ (s : State) (k : Fin 8) (rest : List (Fin 8)),
      let new := DriveSettings.ofImage (s.mem.readWords (transferAddr + 2 * (s.param k 1).toNat) 46)
      let enters := fun x => s.cfg.pinion.has x = false ∧ new.pinion.has x = true
      let quiet := ∀ x, enters x → s.inputs.gateFault.get x = false
      let others := s.gov.envelope.isSome = true ∧ s.watch.settings.isSome = true ∧ s.record.settings.isSome = true ∧
          s.store.settings.isSome = true ∧ s.store.state ≠ .scanning
      s.atHead (some .loadSettings) k rest ∧ s.param k 0 = 0 ∧ s.param k 2 = 46 ∧ (s.param k 1).toNat + 46 ≤ 4096 ∧
          s.req.holder = none ∧ imageBad 0 (s.mem.readWords (transferAddr + 2 * (s.param k 1).toNat) 46) = none ∧
          quiet ∧ (s.seq.drive = .stopped ∨ s.seq.drive = .tripped ∨ (s.seq.drive = .unconfigured ∧ ¬others))) ∧
  (∃ (s : State) (k : Fin 8) (rest : List (Fin 8)) (x : Side),
      let new := DriveSettings.ofImage (s.mem.readWords (transferAddr + 2 * (s.param k 1).toNat) 46)
      let enters := fun x => s.cfg.pinion.has x = false ∧ new.pinion.has x = true
      s.atHead (some .loadSettings) k rest ∧ s.param k 0 = 0 ∧ s.param k 2 = 46 ∧ (s.param k 1).toNat + 46 ≤ 4096 ∧
          s.req.holder = none ∧ imageBad 0 (s.mem.readWords (transferAddr + 2 * (s.param k 1).toNat) 46) = none ∧
          enters x ∧ s.inputs.gateFault.get x = true ∧ s.sourcePresent (.gateFault x) .first = false ∧
          s.seq.drive = .stopped ∧ s.tripReady) ∧
  (∃ (s : State) (k : Fin 8) (rest : List (Fin 8)) (x : Side),
      let new := DriveSettings.ofImage (s.mem.readWords (transferAddr + 2 * (s.param k 1).toNat) 46)
      let enters := fun x => s.cfg.pinion.has x = false ∧ new.pinion.has x = true
      let others := s.gov.envelope.isSome = true ∧ s.watch.settings.isSome = true ∧ s.record.settings.isSome = true ∧
          s.store.settings.isSome = true ∧ s.store.state ≠ .scanning
      s.atHead (some .loadSettings) k rest ∧ s.param k 0 = 0 ∧ s.param k 2 = 46 ∧ (s.param k 1).toNat + 46 ≤ 4096 ∧
          s.req.holder = none ∧ imageBad 0 (s.mem.readWords (transferAddr + 2 * (s.param k 1).toNat) 46) = none ∧
          enters x ∧ s.inputs.gateFault.get x = true ∧ s.sourcePresent (.gateFault x) .first = false ∧
          ((s.seq.drive = .unconfigured ∧ ¬others) ∨ (s.seq.drive = .tripped ∧ s.faults.lock = true ∧
          s.faults.windowOpen = false))) :=
  ⟨⟨(let u := State.reset |> posted 1 [0, 0, 46] 3 |> driving .stopped |> image driveWords;
      { u with inputs := { u.inputs with gateFault := ⟨false, false⟩ } }), 3, [],
      ⟨by decide +kernel, by decide +kernel, by decide +kernel, by decide +kernel, by decide +kernel,
      by decide +kernel, fun x => by cases x <;> decide +kernel, by decide +kernel⟩⟩,
    ⟨(let u := State.reset |> posted 1 [0, 0, 46] 3 |> (fun v => { driving .unconfigured v with
        gov := { v.gov with envelope := none } }) |> image driveWords;
          { u with inputs := { u.inputs with gateFault := ⟨false, false⟩ } }), 3, [],
          ⟨by decide +kernel, by decide +kernel, by decide +kernel, by decide +kernel, by decide +kernel,
          by decide +kernel, fun x => by cases x <;> decide +kernel, by decide +kernel⟩⟩,
    ⟨(let u := State.reset |> posted 1 [0, 0, 46] 3 |> others |> image driveWords;
        { u with inputs := { u.inputs with gateFault := ⟨false, false⟩ } }), 3, [],
        ⟨by decide +kernel, by decide +kernel, by decide +kernel, by decide +kernel, by decide +kernel,
        by decide +kernel, fun x => by cases x <;> decide +kernel, by decide +kernel⟩⟩,
    ⟨(let r : RecordSettings := ⟨1, 100⟩;
      let u := State.reset |> posted 1 [0, 0, 46] 3 |> others |> latch [.eStop, .jam]
          |> (fun v => { v with record := { v.record with settings := some r, idCounter := 0xFFFFFFFE } })
          |> image driveWords; { u with inputs := { u.inputs with gateFault := ⟨false, false⟩ } }), 3, [],
          FaultKind.jam, [.eStop], (⟨1, 100⟩), ⟨by decide +kernel, by decide +kernel, by decide +kernel,
          by decide +kernel, by decide +kernel, by decide +kernel, fun x => by cases x <;> decide +kernel,
          by decide +kernel⟩⟩,
    ⟨(let u := State.reset |> posted 1 [0, 0, 46] 3 |> driving .stopped |> image driveWords;
        configured (fun c => { c with pinion := .aOnly, countsPerRev := 1000, countsPerShell := 7 }) { u with
        inputs := { u.inputs with gateFault := ⟨false, false⟩ } }), 3, [],
        ⟨by decide +kernel, by decide +kernel, by decide +kernel, by decide +kernel, by decide +kernel,
        by decide +kernel, fun x => by cases x <;> decide +kernel, by decide +kernel⟩⟩,
    ⟨(let u := State.reset |> posted 1 [0, 0, 46] 3 |> driving .stopped
        |> configured (fun c => { c with pinion := otherOnly .a }) |> absent (.gateFault .a) |> image driveWords;
        { u with inputs := { u.inputs with gateFault := ⟨true, true⟩ } }), 3, [], .a, by decide +kernel⟩,
    ⟨(let u := State.reset |> posted 1 [0, 0, 46] 3 |> driving .tripped
        |> configured (fun c => { c with pinion := otherOnly .a }) |> absent (.gateFault .a) |> image driveWords;
        { u with
        faults := { u.faults with lock := true, windowOpen := false },
        inputs := { u.inputs with gateFault := ⟨true, true⟩ } }), 3, [], .a, by decide +kernel⟩⟩

theorem test_witness_LoadOtherGroups :
  (∃ (s : State) (k : Fin 8) (rest : List (Fin 8)),
      let off := (s.param k 1).toNat
      let image := fun n => s.mem.readWords (transferAddr + 2 * off) n
      s.atHead (some .loadSettings) k rest ∧ s.req.holder = none ∧ s.param k 0 = 1 ∧ s.param k 2 = 49 ∧
          off + 49 ≤ 4096 ∧ s.gov.awaiting = none ∧ imageBad 1 (image 49) = none) ∧
  (∃ (s : State) (k : Fin 8) (rest : List (Fin 8)),
      let off := (s.param k 1).toNat
      let image := fun n => s.mem.readWords (transferAddr + 2 * off) n
      s.atHead (some .loadSettings) k rest ∧ s.req.holder = none ∧ s.param k 0 = 2 ∧ s.param k 2 = 32 ∧
          off + 32 ≤ 4096 ∧ s.watch.awaiting = none ∧ imageBad 2 (image 32) = none) ∧
  (∃ (s : State) (k : Fin 8) (rest : List (Fin 8)),
      let off := (s.param k 1).toNat
      let image := fun n => s.mem.readWords (transferAddr + 2 * off) n
      let others3 := s.drive.isSome = true ∧ s.gov.envelope.isSome = true ∧ s.watch.settings.isSome = true ∧
          s.store.settings.isSome = true ∧ s.store.state ≠ .scanning
      s.atHead (some .loadSettings) k rest ∧ s.req.holder = none ∧ s.param k 0 = 3 ∧ s.param k 2 = 2 ∧
          off + 2 ≤ 4096 ∧ (s.seq.drive ≠ .unconfigured ∨ ¬others3) ∧ (image 2).getD 0 0 ≤ 250 ∧
          (image 2).getD 1 0 ≤ 2047) ∧
  (∃ (s : State) (k : Fin 8) (rest : List (Fin 8)),
      let off := (s.param k 1).toNat
      let image := fun n => s.mem.readWords (transferAddr + 2 * off) n
      let others3 := s.drive.isSome = true ∧ s.gov.envelope.isSome = true ∧ s.watch.settings.isSome = true ∧
          s.store.settings.isSome = true ∧ s.store.state ≠ .scanning
      s.atHead (some .loadSettings) k rest ∧ s.req.holder = none ∧ s.param k 0 = 3 ∧ s.param k 2 = 2 ∧
          off + 2 ≤ 4096 ∧ s.seq.drive = .unconfigured ∧ others3 ∧ s.seq.restartPending = false ∧
          (image 2).getD 0 0 ≤ 250 ∧ (image 2).getD 1 0 ≤ 2047) ∧
  (∃ (s : State) (k : Fin 8) (rest : List (Fin 8)),
      let off := (s.param k 1).toNat
      let image := fun n => s.mem.readWords (transferAddr + 2 * off) n
      s.atHead (some .loadSettings) k rest ∧ s.req.holder = none ∧ s.param k 0 = 4 ∧ s.param k 2 = 19 ∧
          off + 19 ≤ 4096 ∧ s.seq.drive.running = false ∧
          (s.store.state = .absent ∨ s.store.state = .outOfService ∨ (s.store.state = .ready ∧ s.store.queue = [] ∧
          s.store.job = .idle ∧ s.store.erase = .none)) ∧ s.store.awaiting = none ∧ imageBad 4 (image 19) = none ∧
          (image 19).getD 0 0 = 1) ∧
  (∃ (s : State) (k : Fin 8) (rest : List (Fin 8)),
      let off := (s.param k 1).toNat
      let image := fun n => s.mem.readWords (transferAddr + 2 * off) n
      let others4 := s.drive.isSome = true ∧ s.gov.envelope.isSome = true ∧ s.watch.settings.isSome = true ∧
          s.record.settings.isSome = true
      s.atHead (some .loadSettings) k rest ∧ s.req.holder = none ∧ s.param k 0 = 4 ∧ s.param k 2 = 19 ∧
          off + 19 ≤ 4096 ∧ s.seq.drive.running = false ∧
          (s.store.state = .absent ∨ s.store.state = .outOfService ∨ (s.store.state = .ready ∧ s.store.queue = [] ∧
          s.store.job = .idle ∧ s.store.erase = .none)) ∧ s.store.awaiting = none ∧ imageBad 4 (image 19) = none ∧
          (image 19).getD 0 0 = 0 ∧ s.seq.drive = .unconfigured ∧ others4 ∧ s.seq.restartPending = false) ∧
  (∃ (s : State) (k : Fin 8) (rest : List (Fin 8)),
      let off := (s.param k 1).toNat
      let image := fun n => s.mem.readWords (transferAddr + 2 * off) n
      let others4 := s.drive.isSome = true ∧ s.gov.envelope.isSome = true ∧ s.watch.settings.isSome = true ∧
          s.record.settings.isSome = true
      s.atHead (some .loadSettings) k rest ∧ s.req.holder = none ∧ s.param k 0 = 4 ∧ s.param k 2 = 19 ∧
          off + 19 ≤ 4096 ∧ s.seq.drive.running = false ∧
          (s.store.state = .absent ∨ s.store.state = .outOfService ∨ (s.store.state = .ready ∧ s.store.queue = [] ∧
          s.store.job = .idle ∧ s.store.erase = .none)) ∧ s.store.awaiting = none ∧ imageBad 4 (image 19) = none ∧
          (image 19).getD 0 0 = 0 ∧ (s.seq.drive ≠ .unconfigured ∨ ¬others4)) ∧
  (∃ (s : State) (v : VibSettings) (k : Fin 8),
      s.watch.blockPos = 255 ∧ s.watch.awaiting = some (v, k) ∧ s.seq.restartPending = false) ∧
  (∃ (s : State) (c : StoreSettings) (k : Fin 8) (i : Nat) (tx rx : List Byte) (o q p g : Nat) (e : Sector),
      let u := s.store
      let table := u.sectors.modify i fun e => { e with slots := e.slots.set 14 (classifySlot rx) }
      u.state = .scanning ∧ u.awaiting = some (c, k) ∧ u.transfer = some ⟨tx, 256⟩ ∧ rx.length = 256 ∧
          u.toOpen = none ∧ u.erase = .none ∧ (s.seq.drive = .unconfigured → s.awaitsStore) ∧ u.job = .scanSlot i 15 ∧
          (∀ x ∈ table.drop (i + 1), x.state ≠ .full) ∧ table[o]? = some e ∧ e.state = .full ∧ e.seq = some q ∧
          (∀ x ∈ table.eraseIdx o, x.state = .full → x.seq.getD 0 < q) ∧ firstBlank e.slots = some p ∧
          (∀ x ∈ table, x.state ≠ .bad → ∀ y ∈ x.validIds, y.1 ≤ g) ∧
          (g = 0 ∨ ∃ x ∈ table, x.state ≠ .bad ∧ ∃ y ∈ x.validIds, y.1 = g)) ∧
  (∃ (s : State) (c : StoreSettings) (k : Fin 8) (i : Nat) (tx rx : List Byte) (j : Nat),
      let u := s.store
      let sectors := u.sectors ++ [⟨.erased, none, List.replicate 15 .blank⟩]
      u.state = .scanning ∧ u.awaiting = some (c, k) ∧ u.transfer = some ⟨tx, 256⟩ ∧ rx.length = 256 ∧
          u.toOpen = none ∧ u.erase = .none ∧ (s.seq.drive = .unconfigured → s.awaitsStore) ∧ u.job = .scanHeader i ∧
          c.ns ≤ i + 1 ∧ u.badCount < 3 ∧ rx = List.replicate 256 0xFF ∧
          (∀ x ∈ sectors, x.state = .erased ∨ (x.state = .bad ∧ x.seq = none)) ∧
          (sectors[j]?).map Sector.state = some .erased ∧ (∀ m, m < j → (sectors[m]?).map Sector.state = some .bad) ∧
          (∀ x ∈ sectors, x.validIds = []) ∧ u.openSector = none) :=
  ⟨⟨({ (State.reset |> posted 1 [1, 0, 49] 3 |> image envelopeWords) with
      gov := { State.reset.gov with awaiting := none } }), 3, [], by decide +kernel⟩,
    ⟨({ (State.reset |> posted 1 [2, 0, 32] 3 |> image vibrationWords) with
        watch := { State.reset.watch with awaiting := none } }), 3, [], by decide +kernel⟩,
    ⟨(State.reset |> posted 1 [3, 0, 2] 3 |> driving .stopped |> image [250, 2047]), 3, [], by decide +kernel⟩,
    ⟨({ (State.reset |> others |> posted 1 [3, 0, 2] 3 |> image [250, 2047]) with record := .reset }), 3, [],
        by decide +kernel⟩,
    ⟨(State.reset |> posted 1 [4, 0, 19] 3 |> driving .stopped |> image storeWords |> inService id), 3, [],
        by decide +kernel⟩,
    ⟨(State.reset |> others |> posted 1 [4, 0, 19] 3 |> image (0 :: storeWords.tail)
        |> storing fun u => { u with state := .outOfService, awaiting := none }), 3, [], by decide +kernel⟩,
    ⟨(State.reset |> posted 1 [4, 0, 19] 3 |> driving .stopped |> image (0 :: storeWords.tail)
        |> inService fun u => { u with state := .outOfService }), 3, [], by decide +kernel⟩,
    ⟨(let u := State.reset |> others;
        { u with
        watch := { u.watch with blockPos := 255, awaiting := some ((VibSettings.ofImage vibrationWords), 3) } }),
        ((VibSettings.ofImage vibrationWords)), 3, by decide +kernel⟩,
    ⟨(let e : Sector := ⟨.full, some 4, .valid 9 :: .spoiled :: List.replicate 13 .blank⟩;
      let u := State.reset |> others
          |> inScan fun u => { u with
          transfer := some ⟨[], 256⟩, awaiting := some ((StoreSettings.ofImage storeWords), 3), openSector := none,
          job := .scanSlot 2 15,
          sectors := [⟨.erased, none, List.replicate 15 .blank⟩, e, ⟨.full, some 3, .valid 8 :: List.replicate 14 .spoiled⟩],
          queue := [⟨9, [], 0⟩, ⟨10, [], 0⟩] };
        { u with seq := { u.seq with drive := .unconfigured } }),
      ((StoreSettings.ofImage storeWords)), 3, 2, [], (List.replicate 255 7 ++ [8]), 1, 4, 3, 9, (⟨.full, some 4, .valid 9 :: .spoiled :: List.replicate 13 .blank⟩), by decide +kernel⟩,
    ⟨(let u := State.reset |> others
        |> inScan fun u => { u with
        transfer := some ⟨[], 256⟩, awaiting := some ((StoreSettings.ofImage storeWords), 3), openSector := none,
        job := .scanHeader 7, badCount := 1,
        sectors := [⟨.bad, none, []⟩, ⟨.erased, none, List.replicate 15 .blank⟩], queue := [⟨9, [], 0⟩] };
        { u with seq := { u.seq with drive := .unconfigured } }),
      ((StoreSettings.ofImage storeWords)), 3, 7, [],
        (List.replicate 256 0xFF), 1, by decide +kernel⟩⟩

theorem test_witness_ReadSettingsGivesGroupInForce :
  (∃ (s : State) (k : Fin 8) (rest : List (Fin 8)),
      let g := (s.param k 0).toNat
      s.atHead (some .readSettings) k rest ∧ 4 < g) ∧
  (∃ (s : State) (k : Fin 8) (rest : List (Fin 8)),
      let g := (s.param k 0).toNat
      let off := (s.param k 1).toNat
      let len := [46, 49, 32, 2, 19].getD g 0
      s.atHead (some .readSettings) k rest ∧ g ≤ 4 ∧ 4096 < off + len) ∧
  (∃ (s : State) (k : Fin 8) (rest : List (Fin 8)),
      let g := (s.param k 0).toNat
      let off := (s.param k 1).toNat
      let len := [46, 49, 32, 2, 19].getD g 0
      s.atHead (some .readSettings) k rest ∧ g ≤ 4 ∧ off + len ≤ 4096 ∧ s.req.holder.isSome = true) ∧
  (∃ (s : State) (k : Fin 8) (rest : List (Fin 8)),
      let g := (s.param k 0).toNat
      let off := (s.param k 1).toNat
      let len := [46, 49, 32, 2, 19].getD g 0
      s.atHead (some .readSettings) k rest ∧ off + len ≤ 4096 ∧ s.req.holder = none ∧
          ((g = 0 ∧ s.drive = none) ∨ (g = 1 ∧ s.gov.envelope = none) ∨ (g = 2 ∧ s.watch.settings = none) ∨ (g = 3 ∧
          s.record.settings = none) ∨ (g = 4 ∧ s.store.settings = none))) ∧
  (∃ (s : State) (k : Fin 8) (rest : List (Fin 8)) (c : DriveSettings),
      let g := (s.param k 0).toNat
      let off := (s.param k 1).toNat
      let len := [46, 49, 32, 2, 19].getD g 0
      s.atHead (some .readSettings) k rest ∧ g = 0 ∧ off + len ≤ 4096 ∧ s.req.holder = none ∧ s.drive = some c) ∧
  (∃ (s : State) (k : Fin 8) (rest : List (Fin 8)) (e : List Breakpoint),
      let g := (s.param k 0).toNat
      let off := (s.param k 1).toNat
      let len := [46, 49, 32, 2, 19].getD g 0
      s.atHead (some .readSettings) k rest ∧ g = 1 ∧ off + len ≤ 4096 ∧ s.req.holder = none ∧
          s.gov.envelope = some e) ∧
  (∃ (s : State) (k : Fin 8) (rest : List (Fin 8)) (v : VibSettings),
      let g := (s.param k 0).toNat
      let off := (s.param k 1).toNat
      let len := [46, 49, 32, 2, 19].getD g 0
      s.atHead (some .readSettings) k rest ∧ g = 2 ∧ off + len ≤ 4096 ∧ s.req.holder = none ∧
          s.watch.settings = some v) ∧
  (∃ (s : State) (k : Fin 8) (rest : List (Fin 8)) (r : RecordSettings),
      let g := (s.param k 0).toNat
      let off := (s.param k 1).toNat
      let len := [46, 49, 32, 2, 19].getD g 0
      s.atHead (some .readSettings) k rest ∧ g = 3 ∧ off + len ≤ 4096 ∧ s.req.holder = none ∧
          s.record.settings = some r) ∧
  (∃ (s : State) (k : Fin 8) (rest : List (Fin 8)) (c : StoreSettings),
      let g := (s.param k 0).toNat
      let off := (s.param k 1).toNat
      let len := [46, 49, 32, 2, 19].getD g 0
      s.atHead (some .readSettings) k rest ∧ g = 4 ∧ off + len ≤ 4096 ∧ s.req.holder = none ∧
          s.store.settings = some c ∧ c.ident.length = 3) ∧
  (∃ (ws : List Word),
      ws.length = 46 ∧ imageBad 0 ws = none) ∧
  (∃ (ws : List Word) (k : Nat),
      ws.length = 49 ∧ imageBad 1 ws = none ∧ k < (ws.getD 0 0).toNat) ∧
  (∃ (ws : List Word),
      ws.length = 32 ∧ imageBad 2 ws = none) ∧
  (∃ (ws : List Word),
      ws.length = 2) ∧
  (∃ (ws : List Word),
      ws.length = 19 ∧ imageBad 4 ws = none) :=
  ⟨⟨(State.reset |> posted 2 [5, 0] 3), 3, [], by decide +kernel⟩,
    ⟨(State.reset |> posted 2 [3, 4095] 3), 3, [], by decide +kernel⟩,
    ⟨({ (State.reset |> posted 2 [4, 0] 3) with
        req := { (State.reset |> posted 2 [4, 0] 3).req with holder := some 1 } }), 3, [], by decide +kernel⟩,
    ⟨({ (State.reset |> posted 2 [3, 4094] 3) with record := { State.reset.record with settings := none } }), 3, [],
        by decide +kernel⟩,
    ⟨(let u := State.reset |> posted 2 [0, 4050] 3; { u with drive := some (DriveSettings.ofImage driveWords) }), 3,
        [], ((DriveSettings.ofImage driveWords)), by decide +kernel⟩,
    ⟨(let u := State.reset |> posted 2 [1, 0] 3;
        { u with gov := { u.gov with envelope := some (envelopeOf envelopeWords) } }), 3, [],
        ((envelopeOf envelopeWords)), by decide +kernel⟩,
    ⟨(let u := State.reset |> posted 2 [2, 0] 3;
        { u with watch := { u.watch with settings := some (VibSettings.ofImage vibrationWords) } }), 3, [],
        ((VibSettings.ofImage vibrationWords)), by decide +kernel⟩,
    ⟨(let r : RecordSettings := ⟨100, 512⟩;
      let u := State.reset |> posted 2 [3, 0] 3; { u with record := { u.record with settings := some r } }), 3, [],
          (⟨100, 512⟩), by decide +kernel⟩,
    ⟨(let u := State.reset |> posted 2 [4, 0] 3;
        { u with store := { u.store with settings := some (StoreSettings.ofImage storeWords) } }), 3, [],
        ((StoreSettings.ofImage storeWords)), by decide +kernel⟩,
    ⟨driveWords, by decide +kernel⟩,
    ⟨envelopeWords, 1, by decide +kernel⟩,
    ⟨vibrationWords, by decide +kernel⟩,
    ⟨([100, 512]), by decide +kernel⟩,
    ⟨storeWords, by decide +kernel⟩⟩

theorem test_witness_StartRule :
  (∃ (s : State) (k : Fin 8) (rest : List (Fin 8)),
      s.atHead (some .start) k rest ∧ s.seq.drive ≠ .stopped) ∧
  (∃ (s : State) (k : Fin 8) (rest : List (Fin 8)),
      s.atHead (some .start) k rest ∧ s.seq.drive = .stopped ∧ 1 < (s.param k 0).toNat) ∧
  (∃ (s : State) (k : Fin 8) (rest : List (Fin 8)),
      s.atHead (some .start) k rest ∧ s.seq.drive = .stopped ∧ (s.param k 0).toNat ≤ 1 ∧ 1 < (s.param k 1).toNat) ∧
  (∃ (s : State) (k : Fin 8) (rest : List (Fin 8)),
      s.atHead (some .start) k rest ∧ s.seq.drive = .stopped ∧ (s.param k 0).toNat ≤ 1 ∧ (s.param k 1).toNat ≤ 1 ∧
          s.inputs.runPermit = false) ∧
  (∃ (s : State) (k : Fin 8) (rest : List (Fin 8)),
      s.atHead (some .start) k rest ∧ s.seq.drive = .stopped ∧ (s.param k 0).toNat ≤ 1 ∧ (s.param k 1).toNat ≤ 1 ∧
          s.inputs.runPermit = true ∧ s.bothLost = false) ∧
  (∃ (s : State) (k : Fin 8) (rest : List (Fin 8)),
      s.atHead (some .start) k rest ∧ s.seq.drive = .stopped ∧ (s.param k 0).toNat ≤ 1 ∧ (s.param k 1).toNat ≤ 1 ∧
          s.inputs.runPermit = true ∧ s.bothLost = true ∧ s.tripReady ∧ s.sourcePresent .encoderLoss .first = false) :=
  ⟨⟨(State.reset |> posted 3 [0, 0] 3 |> driving .tripped), 3, [], by decide +kernel⟩,
    ⟨(State.reset |> posted 3 [2, 0] 3 |> driving .stopped), 3, [], by decide +kernel⟩,
    ⟨(State.reset |> posted 3 [1, 2] 3 |> driving .stopped), 3, [], by decide +kernel⟩,
    ⟨({ (State.reset |> posted 3 [1, 1] 3 |> driving .stopped) with
        inputs := { State.reset.inputs with runPermit := false } }), 3, [], by decide +kernel⟩,
    ⟨(let u := State.reset |> posted 3 [1, 0] 3 |> driving .stopped |> healthy;
        { u with inputs := { u.inputs with runPermit := true } }), 3, [], by decide +kernel⟩,
    ⟨(let u := State.reset |> posted 3 [1, 0] 3 |> driving .stopped |> absent .encoderLoss;
        { u with
        inputs := { u.inputs with runPermit := true }, meas := { u.meas with
        encoders := u.meas.encoders.map fun e => { e with lost := true } } }), 3, [], by decide +kernel⟩⟩

theorem test_witness_StopTable :
  (∃ (s : State) (k : Fin 8) (rest : List (Fin 8)),
      s.atHead (some .stop) k rest ∧ s.seq.drive = .magnetizing ∧ s.seq.restartPending = false) ∧
  (∃ (s : State) (k : Fin 8) (rest : List (Fin 8)),
      s.atHead (some .stop) k rest ∧ (s.seq.drive = .breakaway ∨ s.seq.drive = .run) ∧
          (s.bothLost = true → s.sourcePresent .encoderLoss .first = true)) ∧
  (∃ (s : State) (k : Fin 8) (rest : List (Fin 8)),
      s.atHead (some .stop) k rest ∧ (s.seq.drive = .stopping ∨ s.seq.drive = .stopped)) ∧
  (∃ (s : State) (k : Fin 8) (rest : List (Fin 8)),
      s.atHead (some .stop) k rest ∧ (s.seq.drive = .unconfigured ∨ s.seq.drive = .tripped)) :=
  ⟨⟨(State.reset |> posted 4 [] 3 |> driving .magnetizing), 3, [], by decide +kernel⟩,
    ⟨(State.reset |> posted 4 [] 3 |> driving .run |> healthy), 3, [], by decide +kernel⟩,
    ⟨(State.reset |> posted 4 [] 3 |> driving .stopping), 3, [], by decide +kernel⟩,
    ⟨(State.reset |> posted 4 [] 3 |> driving .tripped), 3, [], by decide +kernel⟩⟩

theorem test_witness_SetSpeedAndLimitTorque :
  (∃ (s : State) (k : Fin 8) (rest : List (Fin 8)) (w v : Int),
      s.atHead (some .setSpeed) k rest ∧ w = (s.param k 0).toInt ∧
          v = (if w < 0 then 0 else if s.cfg.nmax < w then s.cfg.nmax else w)) ∧
  (∃ (s : State) (k : Fin 8) (rest : List (Fin 8)) (w v : Int),
      s.atHead (some .limitTorque) k rest ∧ w = (s.param k 0).toInt ∧
          v = (if w < 0 then 0 else if 1000 < w then 1000 else w)) :=
  ⟨⟨(State.reset |> posted 5 [0xFFFF] 3), 3, [], (-1), 0, by decide +kernel⟩,
    ⟨(State.reset |> posted 6 [1001] 3), 3, [], 1001, 1000, by decide +kernel⟩⟩

theorem test_witness_TripNowTable :
  (∃ (s : State) (k : Fin 8) (rest : List (Fin 8)),
      s.atHead (some .tripNow) k rest ∧ s.tripReady ∧ s.sourcePresent .hostTrip .first = false) ∧
  (∃ (s : State) (k : Fin 8) (rest : List (Fin 8)),
      s.atHead (some .tripNow) k rest ∧ s.seq.drive = .tripped) ∧
  (∃ (s : State) (k : Fin 8) (rest : List (Fin 8)),
      s.atHead (some .tripNow) k rest ∧ s.seq.drive = .unconfigured) :=
  ⟨⟨(State.reset |> posted 7 [] 3 |> driving .run |> absent .hostTrip), 3, [], by decide +kernel⟩,
    ⟨(State.reset |> posted 7 [] 3 |> driving .tripped), 3, [], by decide +kernel⟩,
    ⟨(State.reset |> posted 7 [] 3 |> driving .unconfigured), 3, [], by decide +kernel⟩⟩

theorem test_witness_TripClearChecks :
  (∃ (s : State) (k : Fin 8) (rest : List (Fin 8)),
      s.atHead (some .tripClear) k rest ∧ s.seq.drive ≠ .tripped) ∧
  (∃ (s : State) (k : Fin 8) (rest : List (Fin 8)),
      s.atHead (some .tripClear) k rest ∧ s.seq.drive = .tripped ∧ s.faults.windowOpen = true) ∧
  (∃ (s : State) (k : Fin 8) (rest : List (Fin 8)),
      s.atHead (some .tripClear) k rest ∧ s.seq.drive = .tripped ∧ s.faults.windowOpen = false ∧
          (∃ f ∈ FaultKind.tripKinds, (s.faults.entry f).latched = true ∧ s.present f = true)) ∧
  (∃ (s : State) (k : Fin 8) (rest : List (Fin 8)),
      s.atHead (some .tripClear) k rest ∧ s.seq.drive = .tripped ∧ s.faults.windowOpen = false ∧
          s.seq.restartPending = false ∧ (∀ f ∈ FaultKind.tripKinds, (s.faults.entry f).latched = true →
          s.present f = false)) :=
  ⟨⟨(State.reset |> posted 8 [] 3 |> driving .stopped), 3, [], by decide +kernel⟩,
    ⟨(let u := State.reset |> posted 8 [] 3 |> driving .tripped;
        { u with faults := { u.faults with windowOpen := true } }), 3, [], by decide +kernel⟩,
    ⟨(let u := State.reset |> posted 8 [] 3 |> driving .tripped;
        u.setEntry .permit
          { s1 := true, s2 := false, s3 := false, latched := true, seen := false, riseTime := 0, detail := none }), 3, [], by decide +kernel⟩,
    ⟨(let u := State.reset |> posted 8 [] 3 |> driving .tripped;
        { u with
        faults := { u.faults with
        entries := u.faults.entries.map fun e => { e with latched := e.latched && !e.present } } }), 3, [],
        by decide +kernel⟩⟩

theorem test_witness_ArmTriggerRule :
  (∃ (s : State) (k : Fin 8) (rest : List (Fin 8)),
      let p := fun i => (s.param k i).toNat
      s.atHead (some .armTrigger) k rest ∧ (p 0 < 1 ∨ 8 < p 0)) ∧
  (∃ (s : State) (k : Fin 8) (rest : List (Fin 8)),
      let p := fun i => (s.param k i).toNat
      s.atHead (some .armTrigger) k rest ∧ p 0 = 5 ∧ 20000 < p 1) ∧
  (∃ (s : State) (k : Fin 8) (rest : List (Fin 8)),
      let p := fun i => (s.param k i).toNat
      let ok0 := 1 ≤ p 0 ∧ p 0 ≤ 8
      let ok1 := p 0 = 5 → p 1 ≤ 20000
      s.atHead (some .armTrigger) k rest ∧ ok0 ∧ ok1 ∧ 8 < p 2) ∧
  (∃ (s : State) (k : Fin 8) (rest : List (Fin 8)),
      let p := fun i => (s.param k i).toNat
      let ok0 := 1 ≤ p 0 ∧ p 0 ≤ 8
      let ok1 := p 0 = 5 → p 1 ≤ 20000
      s.atHead (some .armTrigger) k rest ∧ ok0 ∧ ok1 ∧ p 2 = 5 ∧ 20000 < p 3) ∧
  (∃ (s : State) (k : Fin 8) (rest : List (Fin 8)),
      let p := fun i => (s.param k i).toNat
      let ok0 := 1 ≤ p 0 ∧ p 0 ≤ 8
      let ok1 := p 0 = 5 → p 1 ≤ 20000
      let ok2 := p 2 ≤ 8
      let ok3 := p 2 = 5 → p 3 ≤ 20000
      s.atHead (some .armTrigger) k rest ∧ ok0 ∧ ok1 ∧ ok2 ∧ ok3 ∧ (p 4 < 1 ∨ 60000 < p 4)) ∧
  (∃ (s : State) (k : Fin 8) (rest : List (Fin 8)),
      let p := fun i => (s.param k i).toNat
      let ok0 := 1 ≤ p 0 ∧ p 0 ≤ 8
      let ok1 := p 0 = 5 → p 1 ≤ 20000
      let ok2 := p 2 ≤ 8
      let ok3 := p 2 = 5 → p 3 ≤ 20000
      let ok4 := 1 ≤ p 4 ∧ p 4 ≤ 60000
      s.atHead (some .armTrigger) k rest ∧ ok0 ∧ ok1 ∧ ok2 ∧ ok3 ∧ ok4 ∧ 1 < p 5) ∧
  (∃ (s : State) (k : Fin 8) (rest : List (Fin 8)),
      let p := fun i => (s.param k i).toNat
      let ok0 := 1 ≤ p 0 ∧ p 0 ≤ 8
      let ok1 := p 0 = 5 → p 1 ≤ 20000
      let ok2 := p 2 ≤ 8
      let ok3 := p 2 = 5 → p 3 ≤ 20000
      let ok4 := 1 ≤ p 4 ∧ p 4 ≤ 60000
      s.atHead (some .armTrigger) k rest ∧ ok0 ∧ ok1 ∧ ok2 ∧ ok3 ∧ ok4 ∧ p 5 ≤ 1) :=
  ⟨⟨(State.reset |> posted 9 [9] 3), 3, [], by decide +kernel⟩,
    ⟨(State.reset |> posted 9 [5, 20001] 3), 3, [], by decide +kernel⟩,
    ⟨(State.reset |> posted 9 [8, 0, 9] 3), 3, [], by decide +kernel⟩,
    ⟨(State.reset |> posted 9 [5, 20000, 5, 20001] 3), 3, [], by decide +kernel⟩,
    ⟨(State.reset |> posted 9 [3, 0, 0, 0, 0] 3), 3, [], by decide +kernel⟩,
    ⟨(State.reset |> posted 9 [7, 0, 1, 0, 60000, 2] 3), 3, [], by decide +kernel⟩,
    ⟨(State.reset |> posted 9 [5, 20000, 5, 3, 1, 1] 3), 3, [], by decide +kernel⟩⟩

theorem test_witness_DisarmAndManualTrigger :
  (∃ (s : State) (k : Fin 8) (rest : List (Fin 8)),
      s.atHead (some .disarmTrigger) k rest ∧ s.record.trigState = .disarmed) ∧
  (∃ (s : State) (k : Fin 8) (rest : List (Fin 8)),
      s.atHead (some .disarmTrigger) k rest ∧ s.record.trigState ≠ .disarmed) ∧
  (∃ (s : State) (k : Fin 8) (rest : List (Fin 8)),
      s.atHead (some .manualTrigger) k rest ∧ s.record.program = none) ∧
  (∃ (s : State) (k : Fin 8) (rest : List (Fin 8)) (p : Program),
      s.atHead (some .manualTrigger) k rest ∧ s.record.program = some p ∧
          (¬(s.record.trigState = .waitFirst ∧ p.first = .manual)) ∧
          (¬(s.record.trigState = .waitSecond ∧ p.second = some .manual))) ∧
  (∃ (s : State) (k : Fin 8) (rest : List (Fin 8)) (p : Program),
      s.atHead (some .manualTrigger) k rest ∧ s.record.program = some p ∧ s.record.trigState = .waitFirst ∧
          p.first = .manual ∧ p.second ≠ none) ∧
  (∃ (s : State) (k : Fin 8) (rest : List (Fin 8)) (p : Program),
      let fires := (s.record.trigState = .waitFirst ∧ p.first = .manual ∧
          p.second = none) ∨ (s.record.trigState = .waitSecond ∧ p.second = some .manual)
      let k0 := s.record.nextIndex
      s.atHead (some .manualTrigger) k rest ∧ s.record.program = some p ∧ fires ∧ s.record.idCounter < 0xFFFFFFFF ∧
          (s.record.listEntry k0).state = .empty) ∧
  (∃ (s : State) (k : Fin 8) (rest : List (Fin 8)) (p : Program),
      let fires := (s.record.trigState = .waitFirst ∧ p.first = .manual ∧
          p.second = none) ∨ (s.record.trigState = .waitSecond ∧ p.second = some .manual)
      let k0 := s.record.nextIndex
      s.atHead (some .manualTrigger) k rest ∧ s.record.program = some p ∧ fires ∧ s.record.idCounter < 0xFFFFFFFF ∧
          (s.record.listEntry k0).state ≠ .empty) ∧
  (∃ (s : State) (k : Fin 8) (rest : List (Fin 8)) (p : Program),
      let fires := (s.record.trigState = .waitFirst ∧ p.first = .manual ∧
          p.second = none) ∨ (s.record.trigState = .waitSecond ∧ p.second = some .manual)
      s.atHead (some .manualTrigger) k rest ∧ s.record.program = some p ∧ fires ∧ 0xFFFFFFFF ≤ s.record.idCounter) :=
  ⟨⟨({ (State.reset |> posted 10 [] 3) with record := { State.reset.record with trigState := .disarmed } }), 3, [],
      by decide +kernel⟩,
    ⟨({ (State.reset |> posted 10 [] 3) with record := { State.reset.record with trigState := .waitSecond } }), 3,
        [], by decide +kernel⟩,
    ⟨(let u := State.reset |> posted 11 [] 3;
        { u with record := { u.record with program := none, trigState := .disarmed } }), 3, [], by decide +kernel⟩,
    ⟨(let p : Program := ⟨.manual, none, 0, false⟩; { (State.reset |> posted 11 [] 3) with
        record := { State.reset.record with program := some p, trigState := .disarmed } }), 3, [],
          (⟨.manual, none, 0, false⟩), by decide +kernel⟩,
    ⟨(let p : Program := ⟨.manual, some .sectorAlert, 7, true⟩;
        { (State.reset |> posted 11 [] 3) with
        record := { State.reset.record with program := some p, trigState := .waitFirst } }), 3, [],
        (⟨.manual, some .sectorAlert, 7, true⟩), by decide +kernel⟩,
    ⟨(let p : Program := ⟨.sectorAlert, some .manual, 7, true⟩;
      let u := State.reset |> posted 11 [] 3 |> onlyBank 2 fun b => { b with
          state := .live, pre := 512, post := 1536, postWritten := 100 };
            { u with
            record := { u.record with
            program := some p, trigState := .waitSecond, idCounter := 0xFFFFFFFE,
            entries := u.record.entries.map fun e => { e with state := .empty } } }), 3, [],
            (⟨.sectorAlert, some .manual, 7, true⟩), by decide +kernel⟩,
    ⟨(let p : Program := ⟨.sectorAlert, some .manual, 7, true⟩;
      let u := State.reset |> posted 11 [] 3 |> onlyBank 2 fun b => { b with
          state := .post, pre := 512, post := 1536, postWritten := 100 };
            { u with
            record := { u.record with
            program := some p, trigState := .waitSecond, idCounter := 7,
            entries := u.record.entries.map fun e => { e with state := .taken } } }), 3, [],
            (⟨.sectorAlert, some .manual, 7, true⟩), by decide +kernel⟩,
    ⟨(let p : Program := ⟨.sectorAlert, some .manual, 7, true⟩;
      let u := State.reset |> posted 11 [] 3 |> onlyBank 2 fun b => { b with
          state := .live, pre := 512, post := 1536, postWritten := 100 };
            { u with
            record := { u.record with
            program := some p, trigState := .waitSecond, idCounter := 0xFFFFFFFF,
            entries := u.record.entries.map fun e => { e with state := .taken } } }), 3, [],
            (⟨.sectorAlert, some .manual, 7, true⟩), by decide +kernel⟩⟩

theorem test_witness_FetchTakes :
  (∃ (s : State) (k : Fin 8) (rest : List (Fin 8)),
      s.atHead (some .fetchCapture) k rest ∧ 3 < (s.param k 0).toNat) ∧
  (∃ (s : State) (k : Fin 8) (rest : List (Fin 8)) (i : Fin 4),
      let first := (s.param k 2).toNat
      s.atHead (some .fetchCapture) k rest ∧ (s.param k 0).toNat = i.val ∧ 2047 < first) ∧
  (∃ (s : State) (k : Fin 8) (rest : List (Fin 8)) (i : Fin 4),
      let first := (s.param k 2).toNat
      let count := (s.param k 3).toNat
      s.atHead (some .fetchCapture) k rest ∧ (s.param k 0).toNat = i.val ∧ first ≤ 2047 ∧ (count < 1 ∨ 170 < count)) ∧
  (∃ (s : State) (k : Fin 8) (rest : List (Fin 8)) (i : Fin 4),
      let first := (s.param k 2).toNat
      let count := (s.param k 3).toNat
      s.atHead (some .fetchCapture) k rest ∧ (s.param k 0).toNat = i.val ∧ first ≤ 2047 ∧ 1 ≤ count ∧ count ≤ 170 ∧
          s.req.holder.isSome = true) ∧
  (∃ (s : State) (k : Fin 8) (rest : List (Fin 8)) (i : Fin 4),
      let first := (s.param k 2).toNat
      let count := (s.param k 3).toNat
      let b := s.record.bank i
      s.atHead (some .fetchCapture) k rest ∧ (s.param k 0).toNat = i.val ∧ first ≤ 2047 ∧ 1 ≤ count ∧ count ≤ 170 ∧
          s.req.holder = none ∧ (¬(b.state = .frozen ∧ b.generation = s.param k 1))) ∧
  (∃ (s : State) (k : Fin 8) (rest : List (Fin 8)) (i : Fin 4),
      let first := (s.param k 2).toNat
      let count := (s.param k 3).toNat
      let b := s.record.bank i
      s.atHead (some .fetchCapture) k rest ∧ (s.param k 0).toNat = i.val ∧ first ≤ 2047 ∧ 1 ≤ count ∧ count ≤ 170 ∧
          s.req.holder = none ∧ b.state = .frozen ∧ b.generation = s.param k 1 ∧ b.valid < 2048 ∧ b.valid ≤ first) ∧
  (∃ (s : State) (k : Fin 8) (rest : List (Fin 8)) (i : Fin 4),
      let first := (s.param k 2).toNat
      let count := (s.param k 3).toNat
      let b := s.record.bank i
      s.atHead (some .fetchCapture) k rest ∧ (s.param k 0).toNat = i.val ∧ first ≤ 2047 ∧ 1 ≤ count ∧ count ≤ 170 ∧
          s.req.holder = none ∧ b.state = .frozen ∧ b.generation = s.param k 1 ∧ b.valid < 2048 ∧ first < b.valid ∧
          b.valid < first + count) ∧
  (∃ (s : State) (k : Fin 8) (rest : List (Fin 8)) (i : Fin 4),
      let first := (s.param k 2).toNat
      let count := (s.param k 3).toNat
      let b := s.record.bank i
      s.atHead (some .fetchCapture) k rest ∧ (s.param k 0).toNat = i.val ∧ first ≤ 2047 ∧ 1 ≤ count ∧ count ≤ 170 ∧
          s.req.holder = none ∧ b.state = .frozen ∧ b.generation = s.param k 1 ∧
          (b.valid = 2048 ∨ first + count ≤ b.valid)) ∧
  (∃ (s : State) (k : Fin 8) (rest : List (Fin 8)),
      let count := (s.param k 0).toNat
      s.atHead (some .fetchNext) k rest ∧ (count < 1 ∨ 170 < count)) ∧
  (∃ (s : State) (k : Fin 8) (rest : List (Fin 8)),
      let count := (s.param k 0).toNat
      s.atHead (some .fetchNext) k rest ∧ 1 ≤ count ∧ count ≤ 170 ∧ s.req.holder.isSome = true) ∧
  (∃ (s : State) (k : Fin 8) (rest : List (Fin 8)),
      let count := (s.param k 0).toNat
      s.atHead (some .fetchNext) k rest ∧ 1 ≤ count ∧ count ≤ 170 ∧ s.req.holder = none ∧
          (∀ i g n, s.req.chain ≠ .fetch i g n)) ∧
  (∃ (s : State) (k : Fin 8) (rest : List (Fin 8)) (i : Fin 4) (gen : Word) (first : Nat),
      let count := (s.param k 0).toNat
      let b := s.record.bank i
      s.atHead (some .fetchNext) k rest ∧ 1 ≤ count ∧ count ≤ 170 ∧ s.req.holder = none ∧
          s.req.chain = .fetch i gen first ∧ (¬(b.state = .frozen ∧ b.generation = gen))) ∧
  (∃ (s : State) (k : Fin 8) (rest : List (Fin 8)) (i : Fin 4) (gen : Word) (first : Nat),
      let count := (s.param k 0).toNat
      let b := s.record.bank i
      s.atHead (some .fetchNext) k rest ∧ 1 ≤ count ∧ count ≤ 170 ∧ s.req.holder = none ∧
          s.req.chain = .fetch i gen first ∧ b.state = .frozen ∧ b.generation = gen ∧ b.valid < 2048 ∧
          b.valid < first + count) ∧
  (∃ (s : State) (k : Fin 8) (rest : List (Fin 8)) (i : Fin 4) (gen : Word) (first : Nat),
      let count := (s.param k 0).toNat
      let b := s.record.bank i
      s.atHead (some .fetchNext) k rest ∧ 1 ≤ count ∧ count ≤ 170 ∧ s.req.holder = none ∧
          s.req.chain = .fetch i gen first ∧ b.state = .frozen ∧ b.generation = gen ∧
          (b.valid = 2048 ∨ first + count ≤ b.valid)) :=
  ⟨⟨(State.reset |> posted 12 [4] 3), 3, [], by decide +kernel⟩,
    ⟨(State.reset |> posted 12 [natWord 1, 0, 2048] 3), 3, [], 1, by decide +kernel⟩,
    ⟨(State.reset |> posted 12 [natWord 1, 0, 2047, 171] 3), 3, [], 1, by decide +kernel⟩,
    ⟨(let u := State.reset |> posted 12 [natWord 1, 0, 2047, 170] 3;
        { u with req := { u.req with holder := some 2 } }), 3, [], 1, by decide +kernel⟩,
    ⟨(State.reset |> posted 12 [natWord 1, 1, 0, 1] 3 |> onlyBank 1 fun b => { b with
        state := .frozen, generation := 2 }), 3, [], 1, by decide +kernel⟩,
    ⟨(State.reset |> posted 12 [natWord 1, 2, 100, 1] 3 |> onlyBank 1 fun b => { b with
        state := .frozen, generation := 2, valid := 100 }), 3, [], 1, by decide +kernel⟩,
    ⟨(State.reset |> posted 12 [natWord 1, 2, 99, 2] 3 |> onlyBank 1 fun b => { b with
        state := .frozen, generation := 2, valid := 100 }), 3, [], 1, by decide +kernel⟩,
    ⟨(State.reset |> posted 12 [natWord 1, 2, 98, 2] 3 |> onlyBank 1 fun b => { b with
        state := .frozen, generation := 2, valid := 100 }), 3, [], 1, by decide +kernel⟩,
    ⟨(State.reset |> posted 13 [171] 3), 3, [], by decide +kernel⟩,
    ⟨(let u := State.reset |> posted 13 [170] 3; { u with req := { u.req with holder := some 2 } }), 3, [],
        by decide +kernel⟩,
    ⟨(let u := State.reset |> posted 13 [170] 3; { u with req := { u.req with chain := .storeRead } }), 3, [],
        ⟨by decide +kernel, by decide +kernel, by decide +kernel, by decide +kernel, fun _ _ _ => by simp⟩⟩,
    ⟨(let u := State.reset |> posted 13 [1] 3 |> onlyBank 1 fun b => { b with
        state := .frozen, generation := 0 + 1, valid := 2048 };
          { u with req := { u.req with chain := .fetch 1 0 2000 } }), 3, [], 1, 0, 2000, by decide +kernel⟩,
    ⟨(let u := State.reset |> posted 13 [2] 3 |> onlyBank 1 fun b => { b with
        state := .frozen, generation := 0, valid := 100 }; { u with req := { u.req with chain := .fetch 1 0 99 } }),
          3, [], 1, 0, 99, by decide +kernel⟩,
    ⟨(let u := State.reset |> posted 13 [2] 3 |> onlyBank 1 fun b => { b with
        state := .frozen, generation := 0, valid := 100 }; { u with req := { u.req with chain := .fetch 1 0 98 } }),
          3, [], 1, 0, 98, by decide +kernel⟩⟩

theorem test_witness_FetchBoundary :
  (∃ (s : State) (f : Fetch),
      s.req.fetch = some f ∧ f.copied < f.count ∧ f.count ≤ 170 ∧ s.req.holder = some f.slot ∧
          (s.slot f.slot).cancel = true) ∧
  (∃ (s : State) (f : Fetch),
      let frozen := (s.record.bank f.bank).state = .frozen ∧ (s.record.bank f.bank).generation = f.generation
      s.req.fetch = some f ∧ f.copied < f.count ∧ f.count ≤ 170 ∧ s.req.holder = some f.slot ∧
          (s.slot f.slot).cancel = false ∧ ¬frozen) ∧
  (∃ (s : State) (f : Fetch),
      let frozen := (s.record.bank f.bank).state = .frozen ∧ (s.record.bank f.bank).generation = f.generation
      s.req.fetch = some f ∧ f.copied < f.count ∧ f.count ≤ 170 ∧ s.req.holder = some f.slot ∧
          (s.slot f.slot).cancel = false ∧ frozen ∧ f.copied + 1 < f.count) ∧
  (∃ (s : State) (f : Fetch),
      let frozen := (s.record.bank f.bank).state = .frozen ∧ (s.record.bank f.bank).generation = f.generation
      s.req.fetch = some f ∧ f.copied < f.count ∧ f.count ≤ 170 ∧ s.req.holder = some f.slot ∧
          (s.slot f.slot).cancel = false ∧ frozen ∧ f.copied + 1 = f.count) :=
  ⟨⟨(let f : Fetch := ⟨2, 1, 5, 2000, 170, 7⟩;
      let u := State.reset |> onlyBank f.bank fun b => { b with state := .frozen, generation := f.generation };
          { u with
          req := { u.req.setSlot f.slot { State.reset.slot f.slot with cancel := true } with
          fetch := some f, holder := some f.slot } }), (⟨2, 1, 5, 2000, 170, 7⟩), by decide +kernel⟩,
    ⟨(let f : Fetch := ⟨2, 1, 5, 2000, 170, 7⟩;
      let u := State.reset |> onlyBank f.bank fun b => { b with state := .frozen, generation := f.generation + 1 };
          { u with
          req := { u.req.setSlot f.slot { State.reset.slot f.slot with cancel := false } with
          fetch := some f, holder := some f.slot } }), (⟨2, 1, 5, 2000, 170, 7⟩), by decide +kernel⟩,
    ⟨(let f : Fetch := ⟨2, 1, 5, 2000, 170, 168⟩;
      let u := State.reset |> onlyBank f.bank fun b => { b with state := .frozen, generation := f.generation };
          { u with
          req := { u.req.setSlot f.slot { State.reset.slot f.slot with cancel := false } with
          fetch := some f, holder := some f.slot } }), (⟨2, 1, 5, 2000, 170, 168⟩), by decide +kernel⟩,
    ⟨(let f : Fetch := ⟨2, 1, 5, 2000, 170, 169⟩;
      let u := State.reset |> onlyBank f.bank fun b => { b with state := .frozen, generation := f.generation };
          { u with
          req := { u.req.setSlot f.slot { State.reset.slot f.slot with cancel := false } with
          fetch := some f, holder := some f.slot } }), (⟨2, 1, 5, 2000, 170, 169⟩), by decide +kernel⟩⟩

theorem test_witness_ReleaseCaptureRule :
  (∃ (s : State) (k : Fin 8) (rest : List (Fin 8)),
      s.atHead (some .releaseCapture) k rest ∧ 3 < (s.param k 0).toNat) ∧
  (∃ (s : State) (k : Fin 8) (rest : List (Fin 8)) (i : Fin 4),
      let b := s.record.bank i
      s.atHead (some .releaseCapture) k rest ∧ (s.param k 0).toNat = i.val ∧
          (¬(b.state = .frozen ∧ b.generation = s.param k 1))) ∧
  (∃ (s : State) (k : Fin 8) (rest : List (Fin 8)) (i : Fin 4),
      let b := s.record.bank i
      s.atHead (some .releaseCapture) k rest ∧ (s.param k 0).toNat = i.val ∧ b.state = .frozen ∧
          b.generation = s.param k 1 ∧ s.record.activeBanks ≠ 0) ∧
  (∃ (s : State) (k : Fin 8) (rest : List (Fin 8)) (i : Fin 4),
      let b := s.record.bank i
      s.atHead (some .releaseCapture) k rest ∧ (s.param k 0).toNat = i.val ∧ b.state = .frozen ∧
          b.generation = s.param k 1 ∧ s.record.activeBanks = 0) :=
  ⟨⟨(State.reset |> posted 14 [4] 3), 3, [], by decide +kernel⟩,
    ⟨(State.reset |> posted 14 [natWord 1, 1] 3 |> onlyBank 1 fun b => { b with state := .frozen, generation := 2 }),
        3, [], 1, by decide +kernel⟩,
    ⟨(let u := State.reset |> posted 14 [natWord 1, 2] 3 |> onlyBank 1 fun b => { b with
        state := .frozen, generation := 2 };
          { u with record := u.record.setBank (1 + 1) { u.record.bank (1 + 1) with state := .live } }), 3, [], 1,
          by decide +kernel⟩,
    ⟨(State.reset |> posted 14 [natWord 1, 2] 3 |> onlyBank 1 fun b => { b with state := .frozen, generation := 2 }),
        3, [], 1, by decide +kernel⟩⟩

theorem test_witness_StoreRequestTakes :
  (∃ (s : State) (k : Fin 8) (rest : List (Fin 8)),
      s.atHead (some .readStored) k rest ∧ 2 < (s.param k 0).toNat) ∧
  (∃ (s : State) (k : Fin 8) (rest : List (Fin 8)),
      s.atHead (some .readStored) k rest ∧ (s.param k 0).toNat ≤ 2 ∧
          (s.req.holder.isSome = true ∨ s.store.state = .busy)) ∧
  (∃ (s : State) (k : Fin 8) (rest : List (Fin 8)),
      s.atHead (some .readStored) k rest ∧ (s.param k 0).toNat ≤ 2 ∧ s.req.holder = none ∧ s.store.state ≠ .busy ∧
          s.store.state ≠ .ready) ∧
  (∃ (s : State) (k : Fin 8) (rest : List (Fin 8)),
      let all := s.store.validSlots
      let free := s.req.holder = none ∧ s.store.state = .ready
      s.atHead (some .readStored) k rest ∧ (s.param k 0).toNat ≤ 1 ∧ free ∧ all = []) ∧
  (∃ (s : State) (k : Fin 8) (rest : List (Fin 8)),
      let id := joinWords (s.param k 1) (s.param k 2)
      let all := s.store.validSlots
      let free := s.req.holder = none ∧ s.store.state = .ready
      s.atHead (some .readStored) k rest ∧ s.param k 0 = 2 ∧ free ∧ (∀ x ∈ all, x.1 ≠ id.toNat)) ∧
  (∃ (s : State) (k : Fin 8) (rest : List (Fin 8)),
      let all := s.store.validSlots
      let free := s.req.holder = none ∧ s.store.state = .ready
      s.atHead (some .readStored) k rest ∧ s.param k 0 = 0 ∧ free ∧ all ≠ []) ∧
  (∃ (s : State) (k : Fin 8) (rest : List (Fin 8)),
      let all := s.store.validSlots
      let free := s.req.holder = none ∧ s.store.state = .ready
      s.atHead (some .readStored) k rest ∧ s.param k 0 = 1 ∧ free ∧ all ≠ []) ∧
  (∃ (s : State) (k : Fin 8) (rest : List (Fin 8)),
      let id := joinWords (s.param k 1) (s.param k 2)
      let all := s.store.validSlots
      let free := s.req.holder = none ∧ s.store.state = .ready
      s.atHead (some .readStored) k rest ∧ s.param k 0 = 2 ∧ free ∧ (∃ x ∈ all, x.1 = id.toNat)) ∧
  (∃ (s : State) (k : Fin 8) (rest : List (Fin 8)),
      s.atHead (some .readStoredNext) k rest ∧ 1 < (s.param k 0).toNat) ∧
  (∃ (s : State) (k : Fin 8) (rest : List (Fin 8)),
      s.atHead (some .readStoredNext) k rest ∧ (s.param k 0).toNat ≤ 1 ∧
          (s.req.holder.isSome = true ∨ s.store.state = .busy)) ∧
  (∃ (s : State) (k : Fin 8) (rest : List (Fin 8)),
      s.atHead (some .readStoredNext) k rest ∧ (s.param k 0).toNat ≤ 1 ∧ s.req.holder = none ∧ s.store.state ≠ .busy ∧
          s.req.chain ≠ .storeRead) ∧
  (∃ (s : State) (k : Fin 8) (rest : List (Fin 8)) (p : Nat),
      let all := s.store.validSlots
      let free := s.req.holder = none ∧ s.store.state = .ready ∧ s.req.chain = .storeRead
      s.atHead (some .readStoredNext) k rest ∧ free ∧ s.store.readPtr = some p ∧
          ((s.param k 0 = 0 ∧ ∀ y ∈ all, p ≤ y.1) ∨ (s.param k 0 = 1 ∧ ∀ y ∈ all, y.1 ≤ p))) ∧
  (∃ (s : State) (k : Fin 8) (rest : List (Fin 8)) (p : Nat),
      let all := s.store.validSlots
      let free := s.req.holder = none ∧ s.store.state = .ready ∧ s.req.chain = .storeRead
      s.atHead (some .readStoredNext) k rest ∧ free ∧ s.store.readPtr = some p ∧ s.param k 0 = 0 ∧
          (∃ x ∈ all, x.1 < p)) ∧
  (∃ (s : State) (k : Fin 8) (rest : List (Fin 8)) (p : Nat),
      let all := s.store.validSlots
      let free := s.req.holder = none ∧ s.store.state = .ready ∧ s.req.chain = .storeRead
      s.atHead (some .readStoredNext) k rest ∧ free ∧ s.store.readPtr = some p ∧ s.param k 0 = 1 ∧
          (∃ x ∈ all, p < x.1)) ∧
  (∃ (s : State) (k : Fin 8) (rest : List (Fin 8)),
      s.atHead (some .eraseStore) k rest ∧ s.seq.drive.running = true) ∧
  (∃ (s : State) (k : Fin 8) (rest : List (Fin 8)),
      s.atHead (some .eraseStore) k rest ∧ s.seq.drive.running = false ∧ s.store.state = .busy) ∧
  (∃ (s : State) (k : Fin 8) (rest : List (Fin 8)),
      s.atHead (some .eraseStore) k rest ∧ s.seq.drive.running = false ∧ s.store.state ≠ .busy ∧
          s.store.state ≠ .ready) ∧
  (∃ (s : State) (k : Fin 8) (rest : List (Fin 8)),
      s.atHead (some .eraseStore) k rest ∧ s.seq.drive.running = false ∧ s.store.state = .ready) ∧
  (∃ (s : State) (k : Fin 8) (rest : List (Fin 8)),
      s.atHead (some .eraseStore) k rest ∧ s.seq.drive.running = false ∧ s.store.state = .ready ∧
          s.store.queue ≠ []) ∧
  (∃ (s : State) (k : Fin 8) (rest : List (Fin 8)),
      s.atHead (some .eraseStore) k rest ∧ s.seq.drive.running = false ∧ s.store.state = .ready ∧ s.store.queue = [] ∧
          s.store.job = .idle ∧ s.store.erase = .running) ∧
  (∃ (s : State) (k : Fin 8) (rest : List (Fin 8)) (i : Nat) (e : Sector),
      s.atHead (some .eraseStore) k rest ∧ s.seq.drive.running = false ∧ s.store.state = .ready ∧ s.store.queue = [] ∧
          s.store.job = .idle ∧ s.store.erase = .none ∧ s.store.sectors[i]? = some e ∧ e.state ≠ .bad ∧
          (∀ m, m < i → s.store.sectorState m = .bad)) ∧
  (∃ (s : State) (k : Fin 8) (id sector page : Nat) (tx rx : List Byte) (e : Sector),
      let u := s.store
      u.state = .busy ∧ u.hostOp = some (.read k id sector page) ∧ u.job = .pageRead ∧ u.transfer = some ⟨tx, 256⟩ ∧
          rx.length = 256 ∧ s.req.holder = some k ∧ u.sectors[sector]? = some e ∧ (s.slot k).cancel = true) ∧
  (∃ (s : State) (k : Fin 8) (id sector page : Nat) (tx rx : List Byte) (e : Sector),
      let u := s.store
      let expected := 1 ≤ id ∧ id ≤ 0xFFFFFFFE ∧ rx.take 4 = bytes32 id ∧ rx.drop 252 = bytes32 id
      u.state = .busy ∧ u.hostOp = some (.read k id sector page) ∧ u.job = .pageRead ∧ u.transfer = some ⟨tx, 256⟩ ∧
          rx.length = 256 ∧ s.req.holder = some k ∧ u.sectors[sector]? = some e ∧ (s.slot k).cancel = false ∧
          expected) ∧
  (∃ (s : State) (k : Fin 8) (id sector page : Nat) (tx rx : List Byte) (e : Sector),
      let u := s.store
      let expected := 1 ≤ id ∧ id ≤ 0xFFFFFFFE ∧ rx.take 4 = bytes32 id ∧ rx.drop 252 = bytes32 id
      u.state = .busy ∧ u.hostOp = some (.read k id sector page) ∧ u.job = .pageRead ∧ u.transfer = some ⟨tx, 256⟩ ∧
          rx.length = 256 ∧ s.req.holder = some k ∧ u.sectors[sector]? = some e ∧ (s.slot k).cancel = false ∧
          ¬expected) ∧
  (∃ (s : State) (k : Fin 8) (id sector page i : Nat) (tx rx : List Byte) (e : Sector) (e' : Sector),
      let u := s.store
      let n := (i + 1) % u.sectors.length
      let failed := u.job = .eraseCheck ∧ u.transfer = some ⟨tx, 256⟩ ∧ rx.length = 256 ∧
          rx ≠ List.replicate 256 0xFF
      u.state = .busy ∧ u.hostOp = some (.read k id sector page) ∧ s.req.holder = some k ∧ u.eraseSector = some i ∧
          u.erase = .running ∧ u.sectors[i]? = some e ∧ u.badCount < 2 ∧ n ≠ i ∧ u.sectors[n]? = some e' ∧ e'.state ≠ .bad ∧
          sector ≠ i ∧ failed) ∧
  (∃ (s : State) (k : Fin 8) (id sector page i : Nat) (tx rx : List Byte) (e : Sector) (e' : Sector),
      let u := s.store
      let n := (i + 1) % u.sectors.length
      let late := u.job = .idle ∧ 1000 * u.cfg.eraseLimit ≤ u.eraseElapsed
      u.state = .busy ∧ u.hostOp = some (.read k id sector page) ∧ s.req.holder = some k ∧ u.eraseSector = some i ∧
          u.erase = .running ∧ u.sectors[i]? = some e ∧ u.badCount < 2 ∧ n ≠ i ∧ u.sectors[n]? = some e' ∧ e'.state ≠ .bad ∧
          sector ≠ i ∧ late) ∧
  (∃ (s : State) (k : Fin 8) (id sector page i : Nat) (tx rx : List Byte) (e : Sector) (e' : Sector),
      let u := s.store
      let n := (i + 1) % u.sectors.length
      let failed := u.job = .eraseCheck ∧ u.transfer = some ⟨tx, 256⟩ ∧ rx.length = 256 ∧
          rx ≠ List.replicate 256 0xFF
      u.state = .busy ∧ u.hostOp = some (.read k id sector page) ∧ s.req.holder = some k ∧ u.eraseSector = some i ∧
          u.erase = .running ∧ u.sectors[i]? = some e ∧ u.badCount < 2 ∧ n ≠ i ∧ u.sectors[n]? = some e' ∧ e'.state ≠ .bad ∧
          sector = i ∧ failed) ∧
  (∃ (s : State) (k : Fin 8) (id sector page i : Nat) (tx rx : List Byte) (e : Sector) (e' : Sector),
      let u := s.store
      let n := (i + 1) % u.sectors.length
      let late := u.job = .idle ∧ 1000 * u.cfg.eraseLimit ≤ u.eraseElapsed
      u.state = .busy ∧ u.hostOp = some (.read k id sector page) ∧ s.req.holder = some k ∧ u.eraseSector = some i ∧
          u.erase = .running ∧ u.sectors[i]? = some e ∧ u.badCount < 2 ∧ n ≠ i ∧ u.sectors[n]? = some e' ∧ e'.state ≠ .bad ∧
          sector = i ∧ late) ∧
  (∃ (s : State) (k : Fin 8) (id sector page i : Nat) (tx rx : List Byte) (e : Sector),
      let u := s.store
      let failed := u.job = .eraseCheck ∧ u.transfer = some ⟨tx, 256⟩ ∧ rx.length = 256 ∧
          rx ≠ List.replicate 256 0xFF
      u.state = .busy ∧ u.hostOp = some (.read k id sector page) ∧ s.req.holder = some k ∧ u.eraseSector = some i ∧
          u.erase = .running ∧ u.sectors[i]? = some e ∧ 2 ≤ u.badCount ∧ failed) ∧
  (∃ (s : State) (k : Fin 8) (id sector page i : Nat) (tx rx : List Byte) (e : Sector),
      let u := s.store
      let late := u.job = .idle ∧ 1000 * u.cfg.eraseLimit ≤ u.eraseElapsed
      u.state = .busy ∧ u.hostOp = some (.read k id sector page) ∧ s.req.holder = some k ∧ u.eraseSector = some i ∧
          u.erase = .running ∧ u.sectors[i]? = some e ∧ 2 ≤ u.badCount ∧ late) ∧
  (∃ (s : State) (k : Fin 8) (id sector page o p : Nat) (q : QueuedRecord) (rest : List QueuedRecord) (e : Sector),
      let u := s.store
      u.state = .busy ∧ u.hostOp = some (.read k id sector page) ∧ u.queue = q :: rest ∧ q.attempts = 0 ∧
          u.openSector = some o ∧ u.sectors[o]? = some e ∧ u.toOpen = none ∧
          firstBlank (e.slots.set (u.nextSlot - 1) .spoiled) = some p ∧ (u.job = .bodyPoll ∨ u.job = .markPoll) ∧
          1000 * u.cfg.programLimit ≤ u.pollElapsed ∧ u.erase = .none) ∧
  (∃ (s : State) (k : Fin 8) (id sector page o p : Nat) (q : QueuedRecord) (rest : List QueuedRecord) (e : Sector),
      let u := s.store
      u.state = .busy ∧ u.hostOp = some (.read k id sector page) ∧ u.queue = q :: rest ∧ q.attempts = 0 ∧
          u.openSector = some o ∧ u.sectors[o]? = some e ∧ u.toOpen = none ∧
          firstBlank (e.slots.set (u.nextSlot - 1) .spoiled) = some p ∧ (u.job = .bodyPoll ∨ u.job = .markPoll) ∧
          1000 * u.cfg.programLimit ≤ u.pollElapsed ∧ u.erase = .suspended) ∧
  (∃ (s : State) (k : Fin 8) (i : Nat) (e : Sector) (tx rx : List Byte) (n : Nat) (e' : Sector),
      let u := s.store
      let erased := u.job = .eraseCheck ∧ u.transfer = some ⟨tx, 256⟩ ∧ rx = List.replicate 256 0xFF ∧
          u.eraseSector = some i
      let done := { u with
          sectors := u.sectors.set i { e with state := .erased, seq := none }, erase := .none, eraseSector := none }
      u.state = .busy ∧ u.sectors[i]? = some e ∧ u.hostOp = some (.eraseAll k .settle) ∧ erased ∧ u.toOpen = none ∧
          done.sectors[n]? = some e' ∧ e'.state ≠ .bad ∧ (∀ m, m < n → done.sectorState m = .bad)) ∧
  (∃ (s : State) (k : Fin 8) (i : Nat) (e : Sector) (tx rx : List Byte) (n : Nat) (e' : Sector),
      let u := s.store
      let erased := u.job = .eraseCheck ∧ u.transfer = some ⟨tx, 256⟩ ∧ rx = List.replicate 256 0xFF ∧
          u.eraseSector = some i
      u.state = .busy ∧ u.sectors[i]? = some e ∧ u.hostOp = some (.eraseAll k (.erase (i + 1))) ∧ u.toOpen = none ∧
          i < n ∧ u.sectors[n]? = some e' ∧ e'.state ≠ .bad ∧ (∀ m, m < n → i < m → u.sectorState m = .bad) ∧
          erased) ∧
  (∃ (s : State) (k : Fin 8) (i : Nat) (e : Sector) (tx rx : List Byte) (n : Nat) (e' : Sector),
      let u := s.store
      let failed := u.job = .eraseCheck ∧ u.transfer = some ⟨tx, 256⟩ ∧ rx.length = 256 ∧
          rx ≠ List.replicate 256 0xFF ∧ u.eraseSector = some i
      u.state = .busy ∧ u.sectors[i]? = some e ∧ u.hostOp = some (.eraseAll k (.erase (i + 1))) ∧ u.toOpen = none ∧
          i < n ∧ u.sectors[n]? = some e' ∧ e'.state ≠ .bad ∧ (∀ m, m < n → i < m → u.sectorState m = .bad) ∧ failed ∧
          u.badCount < 2) ∧
  (∃ (s : State) (k : Fin 8) (i : Nat) (e : Sector) (tx rx : List Byte) (next j : Nat),
      let u := s.store
      let erased := u.job = .eraseCheck ∧ u.transfer = some ⟨tx, 256⟩ ∧ rx = List.replicate 256 0xFF ∧
          u.eraseSector = some i
      let done := { u with
          sectors := u.sectors.set i { e with state := .erased, seq := none }, erase := .none, eraseSector := none }
      u.state = .busy ∧ u.sectors[i]? = some e ∧ u.hostOp = some (.eraseAll k (.erase next)) ∧ erased ∧
          u.sectors.length ≤ next ∧ u.toOpen = none ∧ j < u.sectors.length ∧ done.sectorState j = .erased ∧
          (∀ m, m < j → done.sectorState m = .bad)) ∧
  (∃ (s : State) (k : Fin 8) (i : Nat) (e : Sector) (tx rx : List Byte),
      let u := s.store
      u.state = .busy ∧ u.sectors[i]? = some e ∧ u.hostOp = some (.eraseAll k .reopen) ∧ u.toOpen = some (i, 1) ∧
          u.job = .openRead ∧ u.transfer = some ⟨tx, 8⟩ ∧ rx = wordBytes 0x5A3C ++ bytes32 1 ++ wordBytes 0xC35A) ∧
  (∃ (s : State) (k : Fin 8) (i : Nat) (e : Sector) (tx rx : List Byte) (left : Nat) (q : QueuedRecord) (rest : List QueuedRecord) (p : Nat),
      let u := s.store
      u.state = .busy ∧ u.sectors[i]? = some e ∧ u.hostOp = some (.eraseAll k (.drain (left + 2))) ∧
          u.job = .markRead ∧ u.transfer = some ⟨tx, 4⟩ ∧ u.queue = q :: rest ∧ rx = bytes32 q.id ∧
          u.openSector = some i ∧ u.toOpen = none ∧ u.erase = .none ∧ rest ≠ [] ∧
          firstBlank (e.slots.set (u.nextSlot - 1) (.valid q.id)) = some p) :=
  ⟨⟨(State.reset |> posted 15 [3] 3), 3, [], by decide +kernel⟩,
    ⟨(let u := State.reset |> posted 15 [2] 3; { u with store := { u.store with state := .busy } }), 3, [],
        by decide +kernel⟩,
    ⟨(let u := State.reset |> posted 15 [2] 3; { u with store := { u.store with state := .absent } }), 3, [],
        by decide +kernel⟩,
    ⟨(let u := State.reset |> posted 15 [1] 3 |> inService fun u => { u with readPtr := some 6, sectors := [] };
        { u with req := { u.req with chain := .storeRead } }), 3, [], by decide +kernel⟩,
    ⟨(let u := State.reset |> posted 15 [2, 5, 0] 3 |> inService fun u => { u with
        sectors := [⟨.opened, some 1, [.valid 4, .spoiled, .valid 9] ++ List.replicate 12 .blank⟩],
          readPtr := some 6 }; { u with req := { u.req with chain := .storeRead } }), 3, [], by decide +kernel⟩,
    ⟨(let u := State.reset |> posted 15 [0] 3 |> inService fun u => { u with
        sectors := [⟨.opened, some 1, [.valid 4, .spoiled, .valid 9] ++ List.replicate 12 .blank⟩],
          readPtr := some 6, erase := .running }; { u with req := { u.req with chain := .storeRead } }), 3, [],
          by decide +kernel⟩,
    ⟨(let u := State.reset |> posted 15 [1] 3 |> inService fun u => { u with
        sectors := [⟨.opened, some 1, [.valid 4, .spoiled, .valid 9] ++ List.replicate 12 .blank⟩],
          readPtr := some 6 }; { u with req := { u.req with chain := .storeRead } }), 3, [], by decide +kernel⟩,
    ⟨(let u := State.reset |> posted 15 [2, 9, 0] 3 |> inService fun u => { u with
        sectors := [⟨.opened, some 1, [.valid 4, .spoiled, .valid 9] ++ List.replicate 12 .blank⟩],
          readPtr := some 6, job := .bodyPoll }; { u with req := { u.req with chain := .storeRead } }), 3, [],
          by decide +kernel⟩,
    ⟨(State.reset |> posted 16 [2] 3), 3, [], by decide +kernel⟩,
    ⟨(let u := State.reset |> posted 16 [1] 3; { u with store := { u.store with state := .busy } }), 3, [],
        by decide +kernel⟩,
    ⟨(let u := State.reset |> posted 16 [1] 3;
        { u with store := { u.store with state := .ready }, req := { u.req with chain := .broken } }), 3, [],
        by decide +kernel⟩,
    ⟨(let u := State.reset |> posted 16 [1] 3 |> inService fun u => { u with
        sectors := [⟨.opened, some 1, [.valid 4, .spoiled, .valid 9] ++ List.replicate 12 .blank⟩],
          readPtr := some 9 }; { u with req := { u.req with chain := .storeRead } }), 3, [], 9, by decide +kernel⟩,
    ⟨(let u := State.reset |> posted 16 [0] 3 |> inService fun u => { u with
        sectors := [⟨.opened, some 1, [.valid 4, .spoiled, .valid 9] ++ List.replicate 12 .blank⟩],
          readPtr := some 9 }; { u with req := { u.req with chain := .storeRead } }), 3, [], 9, by decide +kernel⟩,
    ⟨(let u := State.reset |> posted 16 [1] 3 |> inService fun u => { u with
        sectors := [⟨.opened, some 1, [.valid 4, .spoiled, .valid 9] ++ List.replicate 12 .blank⟩],
          readPtr := some 8 }; { u with req := { u.req with chain := .storeRead } }), 3, [], 8, by decide +kernel⟩,
    ⟨(State.reset |> posted 17 [] 3 |> driving .run), 3, [], by decide +kernel⟩,
    ⟨(let u := State.reset |> posted 17 [] 3 |> driving .stopped;
        { u with store := { u.store with state := .busy } }), 3, [], by decide +kernel⟩,
    ⟨(let u := State.reset |> posted 17 [] 3 |> driving .stopped;
        { u with store := { u.store with state := .scanning } }), 3, [], by decide +kernel⟩,
    ⟨(let u := State.reset |> posted 17 [] 3 |> driving .stopped;
        { u with store := { u.store with state := .ready } }), 3, [], by decide +kernel⟩,
    ⟨(State.reset |> posted 17 [] 3 |> driving .stopped |> inService fun u => { u with queue := [⟨7, [], 0⟩] }), 3,
        [], by decide +kernel⟩,
    ⟨(State.reset |> posted 17 [] 3 |> driving .stopped |> inService fun u => { u with erase := .running }), 3, [],
        by decide +kernel⟩,
    ⟨(let e : Sector := ⟨.opened, some 1, List.replicate 15 .blank⟩; State.reset |> posted 17 [] 3
        |> driving .stopped |> inService fun u => { u with sectors := [⟨.bad, none, []⟩, e], openSector := some 1 }),
        3, [], 1, (⟨.opened, some 1, List.replicate 15 .blank⟩), by decide +kernel⟩,
    ⟨(let e : Sector := ⟨.opened, some 5, .blank :: .valid 9 :: List.replicate 13 .blank⟩;
      let u := State.reset
          |> inService fun u => { u with
          state := .busy, hostOp := some (.read 3 9 1 2), job := .pageRead, transfer := some ⟨[], 256⟩,
          sectors := [⟨.bad, none, []⟩, e], openSector := some 1, erase := .none };
          { u with req := { u.req.setSlot 3 { u.slot 3 with cancel := true } with holder := some 3 } }), 3, 9, 1, 2,
          [], (List.replicate 256 7), (⟨.opened, some 5, .blank :: .valid 9 :: List.replicate 13 .blank⟩),
          by decide +kernel⟩,
    ⟨(let e : Sector := ⟨.opened, some 5, .blank :: .valid 9 :: List.replicate 13 .blank⟩;
      let u := State.reset
          |> inService fun u => { u with
          state := .busy, hostOp := some (.read 3 9 1 2), job := .pageRead, transfer := some ⟨[], 256⟩,
          sectors := [⟨.bad, none, []⟩, e], openSector := some 1, erase := .none };
          { u with req := { u.req.setSlot 3 { u.slot 3 with cancel := false } with holder := some 3 } }), 3, 9, 1, 2,
          [], (bytes32 9 ++ List.replicate 248 0 ++ bytes32 9),
          (⟨.opened, some 5, .blank :: .valid 9 :: List.replicate 13 .blank⟩), by decide +kernel⟩,
    ⟨(let e : Sector := ⟨.opened, some 5, .blank :: .valid 9 :: List.replicate 13 .blank⟩;
      let u := State.reset
          |> inService fun u => { u with
          state := .busy, hostOp := some (.read 3 9 1 2), job := .pageRead, transfer := some ⟨[], 256⟩,
          sectors := [⟨.bad, none, []⟩, e], openSector := some 1, erase := .none };
          { u with req := { u.req.setSlot 3 { u.slot 3 with cancel := false } with holder := some 3 } }), 3, 9, 1, 2,
          [], (List.replicate 256 7), (⟨.opened, some 5, .blank :: .valid 9 :: List.replicate 13 .blank⟩),
          by decide +kernel⟩,
    ⟨(readWaits 3 0 |> checking), 3, 9, 3, 1, 2, [], (List.replicate 256 0), (⟨.erasing, none, blankSlots⟩),
        (⟨.full, some 5, blankSlots⟩), by decide +kernel⟩,
    ⟨(readWaits 3 0), 3, 9, 3, 1, 2, [], [], (⟨.erasing, none, blankSlots⟩), (⟨.full, some 5, blankSlots⟩), by decide +kernel⟩,
    ⟨(readWaits 2 0 |> checking), 3, 9, 2, 1, 2, [], (List.replicate 256 0), (⟨.erasing, none, blankSlots⟩),
        (⟨.full, some 5, blankSlots⟩), by decide +kernel⟩,
    ⟨(readWaits 2 0), 3, 9, 2, 1, 2, [], [], (⟨.erasing, none, blankSlots⟩), (⟨.full, some 5, blankSlots⟩), by decide +kernel⟩,
    ⟨(readWaits 2 2 |> checking), 3, 9, 2, 1, 2, [], (List.replicate 256 0), (⟨.erasing, none, blankSlots⟩), by decide +kernel⟩,
    ⟨(readWaits 2 2), 3, 9, 2, 1, 2, [], [], (⟨.erasing, none, blankSlots⟩), by decide +kernel⟩,
    ⟨(readBehind .none), 3, 9, 0, 1, 1, 2, (⟨7, [], 0⟩), [], (⟨.opened, some 6, blankSlots⟩), by decide +kernel⟩,
    ⟨(readBehind .suspended), 3, 9, 0, 1, 1, 2, (⟨7, [], 0⟩), [], (⟨.opened, some 6, blankSlots⟩), by decide +kernel⟩,
    ⟨(let e : Sector := ⟨.erasing, none, List.replicate 15 .blank⟩; State.reset
        |> inService fun u => { u with
        state := .busy, hostOp := some (.eraseAll 3 .settle), job := .eraseCheck, transfer := some ⟨[], 256⟩,
        eraseSector := some 1, erase := .running, badCount := 1,
        sectors := [⟨.bad, none, []⟩, e, ⟨.full, some 5, List.replicate 15 .blank⟩], openSector := some 2 }), 3, 1,
        (⟨.erasing, none, List.replicate 15 .blank⟩), [], (List.replicate 256 0xFF), 1,
        (⟨.erased, none, List.replicate 15 .blank⟩), by decide +kernel⟩,
    ⟨(let e : Sector := ⟨.erasing, none, List.replicate 15 .blank⟩; State.reset
        |> inService fun u => { u with
        state := .busy, hostOp := some (.eraseAll 3 (.erase (1 + 1))), job := .eraseCheck,
        transfer := some ⟨[], 256⟩, eraseSector := some 1, erase := .running, badCount := 1,
        sectors := [⟨.bad, none, []⟩, e, ⟨.full, some 5, List.replicate 15 .blank⟩] }), 3, 1,
        (⟨.erasing, none, List.replicate 15 .blank⟩), [], (List.replicate 256 0xFF), 2,
        (⟨.full, some 5, List.replicate 15 .blank⟩), by decide +kernel⟩,
    ⟨(let e : Sector := ⟨.erasing, none, List.replicate 15 .blank⟩; State.reset
        |> inService fun u => { u with
        state := .busy, hostOp := some (.eraseAll 3 (.erase (1 + 1))), job := .eraseCheck,
        transfer := some ⟨[], 256⟩, eraseSector := some 1, erase := .running, badCount := 1,
        sectors := [⟨.bad, none, []⟩, e, ⟨.full, some 5, List.replicate 15 .blank⟩] }), 3, 1,
        (⟨.erasing, none, List.replicate 15 .blank⟩), [], (List.replicate 256 0), 2,
        (⟨.full, some 5, List.replicate 15 .blank⟩), by decide +kernel⟩,
    ⟨(let e : Sector := ⟨.erasing, none, List.replicate 15 .blank⟩; State.reset
        |> inService fun u => { u with
        state := .busy, hostOp := some (.eraseAll 3 (.erase 2)), job := .eraseCheck, transfer := some ⟨[], 256⟩,
        eraseSector := some 1, erase := .running, badCount := 1, sectors := [⟨.bad, none, []⟩, e] }), 3, 1,
        (⟨.erasing, none, List.replicate 15 .blank⟩), [], (List.replicate 256 0xFF), 2, 1, by decide +kernel⟩,
    ⟨(let e : Sector := ⟨.erased, none, List.replicate 15 .blank⟩; State.reset
        |> inService fun u => { u with
        state := .busy, hostOp := some (.eraseAll 3 .reopen), job := .openRead, transfer := some ⟨[], 8⟩,
        eraseSector := some 1, erase := .none, badCount := 1, toOpen := some (1, 1),
        sectors := [⟨.bad, none, []⟩, e], queue := [⟨7, [], 0⟩] }), 3, 1,
        (⟨.erased, none, List.replicate 15 .blank⟩), [], (wordBytes 0x5A3C ++ bytes32 1 ++ wordBytes 0xC35A),
        by decide +kernel⟩,
    ⟨(let e : Sector := ⟨.opened, some 1, List.replicate 15 .blank⟩;
      let q : QueuedRecord := ⟨7, [], 0⟩; State.reset |> inService fun u => { u with
          state := .busy, hostOp := some (.eraseAll 3 (.drain (0 + 2))), job := .markRead, transfer := some ⟨[], 4⟩,
            eraseSector := some 1, erase := .none, badCount := 1, toOpen := none, sectors := [⟨.bad, none, []⟩, e],
            openSector := some 1, nextSlot := 3, queue := q :: [⟨8, [], 0⟩] }), 3, 1,
            (⟨.opened, some 1, List.replicate 15 .blank⟩), [], (bytes32 7), 0, (⟨7, [], 0⟩), ([⟨8, [], 0⟩]), 1,
            by decide +kernel⟩⟩

theorem test_witness_ResetSectorMapRule :
  (∃ (s : State) (k : Fin 8) (rest : List (Fin 8)),
      s.atHead (some .resetSectorMap) k rest ∧ 6 ≤ (s.param k 0).toNat ∧ s.param k 0 ≠ 0xFFFF) ∧
  (∃ (s : State) (k : Fin 8) (rest : List (Fin 8)) (c : Channel),
      s.atHead (some .resetSectorMap) k rest ∧ (s.param k 0).toNat = c.val ∧ s.watch.fitted c = false) ∧
  (∃ (s : State) (k : Fin 8) (rest : List (Fin 8)) (c : Channel),
      s.atHead (some .resetSectorMap) k rest ∧ ((s.param k 0).toNat = c.val ∨ s.param k 0 = 0xFFFF) ∧
          s.watch.fitted c = true) ∧
  (∃ (s : State) (c : Channel),
      s.watch.blockPos < 255 ∧ s.seq.restartPending = false ∧ s.watch.fitted c = true ∧ s.meas.shell.valid = false) ∧
  (∃ (s : State) (c : Channel),
      let w := s.channel c
      let here := s.meas.shell.sector
      s.watch.blockPos < 255 ∧ s.seq.restartPending = false ∧ s.watch.fitted c = true ∧ s.meas.shell.valid = true ∧
          w.visitSector = some here) ∧
  (∃ (s : State) (c : Channel),
      let w := s.channel c
      let here := s.meas.shell.sector
      s.watch.blockPos < 255 ∧ s.seq.restartPending = false ∧ s.watch.fitted c = true ∧ s.meas.shell.valid = true ∧
          w.visitSector ≠ some here) :=
  ⟨⟨(State.reset |> posted 18 [6] 3), 3, [], by decide +kernel⟩,
    ⟨(State.reset |> posted 18 [natWord 4] 3 |> fitNone), 3, [], 4, by decide +kernel⟩,
    ⟨(State.reset |> posted 18 [0xFFFF] 3 |> fit 4), 3, [], 4, by decide +kernel⟩,
    ⟨(let u := State.reset |> driving .run |> fit 4 |> armed .sectorAlert (some .manual) .waitFirst;
        { u with
        watch := { u.watch with blockPos := 3 }, meas := { u.meas with
        shell := { u.meas.shell with valid := false, sector := 5 } } }.setChannel 4 { u.channel 4 with
        heldRun := 0, visitSector := some 4, visitPeak := 900, visitCount := 4, map := List.replicate 64 7 }), 4,
        by decide +kernel⟩,
    ⟨(let u := State.reset |> driving .run |> fit 4 |> armed .sectorAlert (some .manual) .waitFirst;
        { u with
        watch := { u.watch with blockPos := 3 }, meas := { u.meas with
        shell := { u.meas.shell with valid := true, sector := 5 } } }.setChannel 4 { u.channel 4 with
        heldRun := 0, visitSector := some 5, visitPeak := 900, visitCount := 4, map := List.replicate 64 7 }), 4,
        by decide +kernel⟩,
    ⟨(let u := State.reset |> driving .run |> fit 4 |> armed .sectorAlert (some .manual) .waitFirst;
        { u with
        watch := { u.watch with blockPos := 3 }, meas := { u.meas with
        shell := { u.meas.shell with valid := true, sector := 5 } } }.setChannel 4 { u.channel 4 with
        heldRun := 0, visitSector := some 4, visitPeak := 900, visitCount := 4, map := List.replicate 64 7 }), 4,
        by decide +kernel⟩⟩

theorem test_witness_ClockRule :
  ∃ (s : State) (k : Fin 8) (rest : List (Fin 8)),
      s.atHead (some .setTime) k rest :=
  ⟨(State.reset |> posted 19 [1, 2] 3), 3, [], by decide +kernel⟩

theorem test_witness_SampleFrameArrival :
  (∃ (s : State) (x : Side) (f : SampleFrame),
      ((s.meas.links.get x).awaiting = false ∨ f.begunBeforeSync = true)) ∧
  (∃ (s : State) (x : Side) (f : SampleFrame),
      s.awaits x f ∧ s.seq.restartPending = false) :=
  ⟨⟨({ State.reset with
      meas := { State.reset.meas with
        links := State.reset.meas.links.set .a { State.reset.link .a with awaiting := false } } }), .a,
        (⟨false, 100, 200, 16000, false⟩), by decide +kernel⟩,
    ⟨(let u := State.reset |> awaiting .a; { u with seq := { u.seq with restartPending := false } }), .a,
        (⟨false, 100, 200, 16000, false⟩), by decide +kernel⟩⟩

theorem test_witness_DcLevelCounts :
  (∃ (s : State) (x : Side) (f : SampleFrame),
      let v := SampleSet.ofFrame s.cfg x f
      let n := s.level.counts.get x
      s.awaits x f ∧ s.cfg.pinion.has x = true ∧ s.seq.drive.running = true ∧ v.calm s.cfg.overcurrent ∧
          v.vdc < s.cfg.undervolt ∧ n.under = 7 ∧ s.tripReady ∧ s.sourcePresent (.dcUndervolt x) .first = false) ∧
  (∃ (s : State) (x : Side) (f : SampleFrame),
      let v := SampleSet.ofFrame s.cfg x f
      let n := s.level.counts.get x
      s.awaits x f ∧ s.cfg.pinion.has x = true ∧ s.seq.drive.running = true ∧ v.calm s.cfg.overcurrent ∧
          v.vdc < s.cfg.undervolt ∧ n.under < 7 ∧ v.vdc ≤ s.cfg.overvolt) ∧
  (∃ (s : State) (x : Side) (f : SampleFrame),
      let v := SampleSet.ofFrame s.cfg x f
      let n := s.level.counts.get x
      s.awaits x f ∧ s.cfg.pinion.has x = true ∧ s.seq.drive.running = true ∧ v.calm s.cfg.overcurrent ∧
          s.cfg.undervolt ≤ v.vdc ∧ v.vdc < s.cfg.low ∧ v.vdc ≤ s.cfg.overvolt ∧ n.low = 7 ∧
          s.sourcePresent .dcLow (sourceOf x) = false) ∧
  (∃ (s : State) (x : Side) (f : SampleFrame),
      let v := SampleSet.ofFrame s.cfg x f
      let n := s.level.counts.get x
      s.awaits x f ∧ s.cfg.pinion.has x = true ∧ s.seq.drive.running = true ∧ v.calm s.cfg.overcurrent ∧
          s.cfg.undervolt ≤ v.vdc ∧ s.cfg.low + 10 ≤ v.vdc ∧ v.vdc ≤ s.cfg.overvolt ∧ n.lowClear = 7 ∧
          s.sourcePresent .dcLow (sourceOf x) = true) ∧
  (∃ (s : State) (x : Side) (f : SampleFrame),
      let v := SampleSet.ofFrame s.cfg x f
      s.awaits x f ∧ s.cfg.pinion.has x = true ∧ s.seq.restartPending = false ∧ v.calm s.cfg.overcurrent ∧
          (s.seq.drive.running = false ∨ (s.cfg.undervolt ≤ v.vdc ∧ s.cfg.low ≤ v.vdc)) ∧ s.cfg.overvolt < v.vdc ∧
          s.tripReady ∧ s.sourcePresent (.dcOvervolt x) .first = false) ∧
  (∃ (s : State) (x : Side) (f : SampleFrame),
      let v := SampleSet.ofFrame s.cfg x f
      s.awaits x f ∧ s.cfg.pinion.has x = true ∧ s.seq.restartPending = false ∧ v.calm s.cfg.overcurrent ∧
          (s.seq.drive.running = false ∨ (s.cfg.undervolt ≤ v.vdc ∧ s.cfg.low ≤ v.vdc)) ∧ s.cfg.overvolt < v.vdc ∧
          (s.seq.drive = .unconfigured ∨ (s.seq.drive = .tripped ∧ s.faults.lock = true ∧
          s.faults.windowOpen = false)) ∧ s.sourcePresent (.dcOvervolt x) .first = false) ∧
  (∃ (s : State) (x : Side) (f : SampleFrame),
      let v := SampleSet.ofFrame s.cfg x f
      s.awaits x f ∧ s.cfg.pinion.has x = true ∧ s.seq.restartPending = false ∧ v.calm s.cfg.overcurrent ∧
          (s.seq.drive.running = false ∨ (s.cfg.undervolt ≤ v.vdc ∧ s.cfg.low ≤ v.vdc)) ∧ v.vdc ≤ s.cfg.overvolt) :=
  ⟨⟨(let u := State.reset |> awaiting .a |> driving .run |> scaled |> absent (.dcUndervolt .a);
      u.setCounts .a { u.counts .a with under := 7, low := 7, lowClear := 7 }), .a, (⟨false, 100, 200, 3000, false⟩),
      by decide +kernel⟩,
    ⟨(let u := State.reset |> awaiting .a |> driving .run |> scaled |> absent (.dcUndervolt .a);
        u.setCounts .a { u.counts .a with under := 6, low := 7, lowClear := 7 }), .a,
        (⟨false, 100, 200, 3000, false⟩), by decide +kernel⟩,
    ⟨(let u := State.reset |> awaiting .a |> driving .run |> scaled |> absent .dcLow;
        u.setCounts .a { u.counts .a with under := 0, low := 7, lowClear := 7 }), .a,
        (⟨false, 100, 200, 10000, false⟩), by decide +kernel⟩,
    ⟨(let u := State.reset |> awaiting .a |> driving .run |> scaled |> present .dcLow;
        u.setCounts .a { u.counts .a with under := 0, low := 7, lowClear := 7 }), .a,
        (⟨false, 100, 200, 16000, false⟩), by decide +kernel⟩,
    ⟨(let u := State.reset |> awaiting .a |> driving .run |> scaled |> absent (.dcOvervolt .a);
        u.setCounts .a { u.counts .a with under := 0, low := 7, lowClear := 7 }), .a,
        (⟨false, 100, 200, 32000, false⟩), by decide +kernel⟩,
    ⟨(let u := State.reset |> awaiting .a |> driving .unconfigured |> scaled |> absent (.dcOvervolt .a);
        u.setCounts .a { u.counts .a with under := 0, low := 7, lowClear := 7 }), .a,
        (⟨false, 100, 200, 32000, false⟩), by decide +kernel⟩,
    ⟨(let u := State.reset |> awaiting .a |> driving .run |> scaled |> present (.dcOvervolt .a);
        u.setCounts .a { u.counts .a with under := 0, low := 7, lowClear := 7 }), .a,
        (⟨false, 100, 200, 16000, false⟩), by decide +kernel⟩⟩

theorem test_witness_CurrentPeriodAndMissingTest :
  (∃ (s : State) (x : Side),
      let g := s.regs.get x
      g.firstPeriod = true) ∧
  (∃ (s : State) (x : Side),
      let g := s.regs.get x
      g.firstPeriod = false ∧ g.arrivalSeen = true) ∧
  (∃ (s : State) (x : Side),
      let g := s.regs.get x
      g.firstPeriod = false ∧ g.arrivalSeen = false ∧ s.cfg.pinion.has x = true ∧ g.missing ≠ 2 ∧ g.missing < 3) ∧
  (∃ (s : State) (x : Side),
      let g := s.regs.get x
      g.firstPeriod = false ∧ g.arrivalSeen = false ∧ s.cfg.pinion.has x = true ∧ g.missing = 2 ∧ g.measLoss = false ∧
          s.tripReady ∧ s.sourcePresent (.measLoss x) .first = false) :=
  ⟨⟨(State.reset |> regulator .a fun g => { g with firstPeriod := true }), .a, by decide +kernel⟩,
    ⟨(State.reset |> regulator .a fun g => { g with firstPeriod := false, arrivalSeen := true }), .a,
        by decide +kernel⟩,
    ⟨(State.reset |> scaled |> driving .run |> absent (.measLoss .a)
        |> regulator .a fun g => { g with
        firstPeriod := false, arrivalSeen := false, missing := 1, measLoss := false }), .a, by decide +kernel⟩,
    ⟨(State.reset |> scaled |> driving .run |> absent (.measLoss .a)
        |> regulator .a fun g => { g with
        firstPeriod := false, arrivalSeen := false, missing := 2, measLoss := false }), .a, by decide +kernel⟩⟩

theorem test_witness_GateFaultInput :
  (∃ (s : State) (x : Side),
      s.inputs.gateFault.get x = true) ∧
  (∃ (s : State) (x : Side),
      s.inputs.gateFault.get x = false ∧ s.cfg.pinion.has x = true ∧ s.tripReady ∧
          s.sourcePresent (.gateFault x) .first = false) ∧
  (∃ (s : State) (x : Side),
      s.inputs.gateFault.get x = false ∧ s.cfg.pinion.has x = true ∧ s.seq.drive = .unconfigured ∧
          s.sourcePresent (.gateFault x) .first = false) ∧
  (∃ (s : State) (x : Side),
      s.inputs.gateFault.get x = false ∧ s.cfg.pinion.has x = false) :=
  ⟨⟨(let u := State.reset |> driving .run |> absent (.gateFault .a)
      |> configured fun c => { c with pinion := .both }; { u with
      inputs := { u.inputs with gateFault := u.inputs.gateFault.set .a true } }), .a, by decide +kernel⟩,
    ⟨(let u := State.reset |> driving .run |> absent (.gateFault .a)
        |> configured fun c => { c with pinion := .both }; { u with
        inputs := { u.inputs with gateFault := u.inputs.gateFault.set .a false } }), .a, by decide +kernel⟩,
    ⟨(let u := State.reset |> driving .unconfigured |> absent (.gateFault .a)
        |> configured fun c => { c with pinion := .both }; { u with
        inputs := { u.inputs with gateFault := u.inputs.gateFault.set .a false } }), .a, by decide +kernel⟩,
    ⟨(let u := State.reset |> driving .run |> absent (.gateFault .a)
        |> configured fun c => { c with pinion := otherOnly .a };
        { u with inputs := { u.inputs with gateFault := u.inputs.gateFault.set .a false } }), .a, by decide +kernel⟩⟩

theorem test_witness_EncoderEdgeCounts :
  (∃ (s : State) (x : Side),
      s.inputs.lineBreak.get x = true) ∧
  (∃ (s : State) (x : Side),
      s.inputs.lineBreak.get x = false) :=
  ⟨⟨({ State.reset with
      inputs := { State.reset.inputs with lineBreak := State.reset.inputs.lineBreak.set .a true } }), .a,
        by decide +kernel⟩,
    ⟨({ State.reset with
        inputs := { State.reset.inputs with lineBreak := State.reset.inputs.lineBreak.set .a false } }), .a,
          by decide +kernel⟩⟩

theorem test_witness_LineBreakInput :
  (∃ (s : State) (x : Side),
      s.inputs.lineBreak.get x = true) ∧
  (∃ (s : State) (x : Side),
      let o := otherSide x
      s.inputs.lineBreak.get x = false ∧ (s.meas.encoders.get o).lost = false) ∧
  (∃ (s : State) (x : Side),
      let o := otherSide x
      s.inputs.lineBreak.get x = false ∧ (s.meas.encoders.get o).lost = true ∧ s.seq.drive.running = true ∧
          s.tripReady ∧ s.sourcePresent .encoderLoss .first = false) ∧
  (∃ (s : State) (x : Side),
      let o := otherSide x
      s.inputs.lineBreak.get x = false ∧ (s.meas.encoders.get o).lost = true ∧ s.seq.drive.running = false) :=
  ⟨⟨({ State.reset with
      inputs := { State.reset.inputs with lineBreak := State.reset.inputs.lineBreak.set .a true } }), .a,
        by decide +kernel⟩,
    ⟨(State.reset |> healthy), .a, by decide +kernel⟩,
    ⟨(let u := State.reset |> healthy |> driving .run |> absent .encoderLoss;
        u.setEncoder (otherSide .a) { u.meas.encoders.get (otherSide .a) with lost := true }), .a, by decide +kernel⟩,
    ⟨(let u := State.reset |> healthy |> driving .stopped |> absent .encoderLoss;
        u.setEncoder (otherSide .a) { u.meas.encoders.get (otherSide .a) with lost := true }), .a, by decide +kernel⟩⟩

theorem test_witness_SpeedWindowUpdateRule :
  (∃ (s : State),
      s.inputs.lineBreak = ⟨false, false⟩ ∧ (∀ x, (s.meas.encoders.get x).lost = false ∧
          (s.meas.encoders.get x).touched = false ∧ (s.meas.encoders.get x).speedZeroNext = false) ∧
          s.seq.restartPending = false) ∧
  (∃ (s : State),
      s.seq.restartPending = false) ∧
  (∃ (s : State) (x : Side),
      (s.meas.encoders.get x).lost = true ∧ (s.meas.encoders.get x).touched = false ∧
          s.inputs.lineBreak.get x = false ∧ s.seq.restartPending = false ∧ (s.meas.encoders.get x).clearTime = 99) ∧
  (∃ (s : State) (x : Side),
      (s.meas.encoders.get x).lost = true ∧ (s.meas.encoders.get x).touched = false ∧
          s.inputs.lineBreak.get x = false ∧ s.seq.restartPending = false ∧ (s.meas.encoders.get x).clearTime < 99) :=
  ⟨⟨(State.reset |> healthy |> driving .run), ⟨by decide +kernel, fun x => by cases x <;> decide +kernel,
      by decide +kernel⟩⟩,
    ⟨({ State.reset with seq := { State.reset.seq with restartPending := false } }), by decide +kernel⟩,
    ⟨(let u := State.reset |> healthy |> driving .run; u.setEncoder .a { u.meas.encoders.get .a with
        lost := true, clearTime := 99 }), .a, by decide +kernel⟩,
    ⟨(let u := State.reset |> healthy |> driving .run; u.setEncoder .a { u.meas.encoders.get .a with
        lost := true, clearTime := 98 }), .a, by decide +kernel⟩⟩

theorem test_witness_EncoderDisagreeTrips :
  (∃ (s : State),
      let m := s.meas.update s.cfg s.inputs.lineBreak
      s.cfg.disagreeLimit ≠ 0 ∧ m.encoders.a.lost = false ∧ m.encoders.b.lost = false ∧ s.cfg.pinion = .both ∧
          (s.seq.drive = .breakaway ∨ s.seq.drive = .run ∨ s.seq.drive = .stopping) ∧
          s.cfg.disagreeLimit < |(m.encoders.a.speed - m.encoders.b.speed)| ∧
          s.cfg.disagreeTime ≤ s.level.disagree + 1 ∧ s.tripReady ∧ s.sourcePresent .encoderDisagree .first = false) ∧
  (∃ (s : State),
      let m := s.meas.update s.cfg s.inputs.lineBreak
      s.cfg.disagreeLimit ≠ 0 ∧ m.encoders.a.lost = false ∧ m.encoders.b.lost = false ∧ s.cfg.pinion = .both ∧
          (s.seq.drive = .breakaway ∨ s.seq.drive = .run ∨ s.seq.drive = .stopping) ∧
          s.cfg.disagreeLimit < |(m.encoders.a.speed - m.encoders.b.speed)| ∧
          s.level.disagree + 1 < s.cfg.disagreeTime) ∧
  (∃ (s : State),
      let m := s.meas.update s.cfg s.inputs.lineBreak
      s.cfg.disagreeLimit ≠ 0 ∧ m.encoders.a.lost = false ∧ m.encoders.b.lost = false ∧ s.cfg.pinion = .both ∧
          (s.seq.drive = .breakaway ∨ s.seq.drive = .run ∨ s.seq.drive = .stopping) ∧
          |(m.encoders.a.speed - m.encoders.b.speed)| ≤ s.cfg.disagreeLimit ∧ 0 < s.cfg.disagreeTime) :=
  ⟨⟨(let u := State.reset |> healthy |> driving .run |> absent .encoderDisagree
      |> configured fun c => { c with
      pinion := .both, disagreeLimit := 100, disagreeTime := 10, countsPerRev := 1024 };
      { u with
      meas := { u.meas with
      encoders := ⟨{ u.meas.encoders.a with count := 50, saved := 0, window := [] },
      { u.meas.encoders.b with count := 0, saved := 0, window := [] }⟩ }, level := { u.level with disagree := 9 } }),
      by decide +kernel⟩,
    ⟨(let u := State.reset |> healthy |> driving .run |> absent .encoderDisagree
        |> configured fun c => { c with
        pinion := .both, disagreeLimit := 100, disagreeTime := 10, countsPerRev := 1024 };
        { u with
        meas := { u.meas with
        encoders := ⟨{ u.meas.encoders.a with count := 50, saved := 0, window := [] },
        { u.meas.encoders.b with count := 0, saved := 0, window := [] }⟩ },
        level := { u.level with disagree := 8 } }), by decide +kernel⟩,
    ⟨(let u := State.reset |> healthy |> driving .run |> absent .encoderDisagree
        |> configured fun c => { c with
        pinion := .both, disagreeLimit := 5000, disagreeTime := 10, countsPerRev := 1024 };
        { u with
        meas := { u.meas with
        encoders := ⟨{ u.meas.encoders.a with count := 1, saved := 0, window := [] },
        { u.meas.encoders.b with count := 0, saved := 0, window := [] }⟩ },
        level := { u.level with disagree := 8 } }), by decide +kernel⟩⟩

theorem test_witness_ShellMarkerCases :
  (∃ (s : State),
      let h := s.meas.shell
      h.inUse = none) ∧
  (∃ (s : State),
      let h := s.meas.shell
      h.inUse ≠ none) ∧
  (∃ (s : State),
      let h := s.meas.shell
      h.inUse ≠ none ∧ h.reference = false) ∧
  (∃ (s : State),
      let h := s.meas.shell
      h.inUse ≠ none ∧ h.reference = true ∧ |h.p.toInt| < s.cfg.countsPerShell / 2 ∧ h.valid = true) ∧
  (∃ (s : State),
      let h := s.meas.shell
      h.inUse ≠ none ∧ h.reference = true ∧ |h.p.toInt| < s.cfg.countsPerShell / 2 ∧ h.valid = false) ∧
  (∃ (s : State),
      let h := s.meas.shell
      h.inUse ≠ none ∧ h.reference = true ∧ s.cfg.countsPerShell / 2 ≤ |h.p.toInt|) :=
  ⟨⟨State.reset, by decide +kernel⟩,
    ⟨shellAt 0 false false, by decide +kernel⟩,
    ⟨shellAt 0 false false, by decide +kernel⟩,
    ⟨shellAt 49999 true true, by decide +kernel⟩,
    ⟨shellAt 49999 true false, by decide +kernel⟩,
    ⟨shellAt 50000 true true, by decide +kernel⟩⟩

theorem test_witness_SensorFrameCases :
  (∃ (s : State) (c : Channel),
      s.watch.fitted c = true ∧ (s.receiver c).waitIdle = false) ∧
  (∃ (s : State) (c : Channel),
      (s.watch.fitted c = false ∨ (s.receiver c).waitIdle = true)) ∧
  (∃ (s : State) (c : Channel),
      s.watch.fitted c = true) ∧
  (∃ (s : State) (c : Channel),
      s.watch.fitted c = false) :=
  ⟨⟨(let u := State.reset |> fit 4; u.setReceiver 4 { u.receiver 4 with waitIdle := false }), 4, by decide +kernel⟩,
    ⟨(State.reset |> fitNone), 4, by decide +kernel⟩,
    ⟨(State.reset |> fit 4), 4, by decide +kernel⟩,
    ⟨(State.reset |> fitNone), 4, by decide +kernel⟩⟩

theorem test_witness_VibrationSampleRule :
  (∃ (s : State),
      s.seq.restartPending = false ∧ s.watch.awaiting = none ∧ s.watch.settings.isSome = true ∧
          s.watch.cfg.dwell = 0 ∧ s.watch.blockPos < 255) ∧
  (∃ (s : State) (c : Channel),
      let tagOf := fun c => (s.receiver c).tagged
      s.seq.restartPending = false ∧ s.watch.awaiting = none ∧ s.watch.settings.isSome = true ∧
          s.watch.cfg.dwell = 0 ∧ s.watch.blockPos < 255 ∧ s.watch.fitted c = true ∧ tagOf c = .held ∧
          (s.channel c).heldRun = 31 ∧ (s.channel c).health ≠ .lost) ∧
  (∃ (s : State),
      s.seq.restartPending = false ∧ s.watch.awaiting = none ∧ s.watch.settings.isSome = true ∧
          s.watch.cfg.dwell = 0 ∧ s.watch.blockPos = 255) ∧
  (∃ (s : State) (c : Channel),
      let w := s.channel c
      let r := s.receiver c
      s.watch.blockPos = 255 ∧ s.watch.awaiting = none ∧ s.seq.restartPending = false ∧ s.watch.fitted c = true ∧
          (r.tagged ≠ .held ∨ w.heldRun < 31)) ∧
  (∃ (s : State) (c : Channel) (p : Program),
      s.watch.blockPos < 255 ∧ s.seq.restartPending = false ∧ s.watch.fitted c = true ∧ (s.receiver c).tagged = .held ∧
          (s.channel c).heldRun = 31 ∧ (s.channel c).health ≠ .lost ∧ s.waitsFor .healthChange p) :=
  ⟨⟨(let u := State.reset |> driving .run |> fit 0;
      { u with watch := { u.watch with blockPos := 254, settings := some { u.watch.cfg with dwell := 0 } } }),
      by decide +kernel⟩,
    ⟨(let u := State.reset |> driving .run |> fit 4;
        ({ u with
        watch := { u.watch with
        blockPos := 3, settings := some { u.watch.cfg with dwell := 0 } } }.setReceiver 4 { u.receiver 4 with
        full := false }).setChannel 4 { u.channel 4 with heldRun := 31, health := .suspect }), 4, by decide +kernel⟩,
    ⟨(let u := State.reset |> driving .run |> fit 0;
        { u with watch := { u.watch with blockPos := 255, settings := some { u.watch.cfg with dwell := 0 } } }),
        by decide +kernel⟩,
    ⟨(let u := State.reset |> driving .run |> fit 4 |> armed .healthChange (some .manual) .waitFirst;
        { u with watch := { u.watch with blockPos := 255 } }.setChannel 4 { u.channel 4 with heldRun := 3 }), 4,
        by decide +kernel⟩,
    ⟨(let u := State.reset |> driving .run |> fit 4 |> armed .healthChange (some .manual) .waitFirst;
        ({ u with watch := { u.watch with blockPos := 3 } }.setReceiver 4 { u.receiver 4 with
        full := false }).setChannel 4 { u.channel 4 with heldRun := 31, health := .suspect }), 4,
        (⟨.healthChange, some .manual, 7, true⟩), by decide +kernel⟩⟩

theorem test_witness_DangerDwellTrips :
  (∃ (s : State) (g : Side),
      let u := s.takeSamples.advanceBlock
      s.watch.blockPos < 255 ∧ s.watch.quarter = 3 ∧ (∃ c, u.watch.fitted c = true ∧ groupOf c = g ∧
          (u.channel c).vib = .danger) ∧ (s.seq.drive = .breakaway ∨ s.seq.drive = .run ∨ s.seq.drive = .stopping) ∧
          s.watch.cfg.dwell ≠ 0 ∧ (u.group g).dwell + 1 < s.watch.cfg.dwell ∧
          (u.group (otherSide g)).dwell + 1 < s.watch.cfg.dwell) ∧
  (∃ (s : State) (g : Side),
      let u := s.takeSamples.advanceBlock
      s.watch.blockPos < 255 ∧ s.watch.quarter = 3 ∧ (∃ c, u.watch.fitted c = true ∧ groupOf c = g ∧
          (u.channel c).vib = .danger) ∧ (s.seq.drive = .breakaway ∨ s.seq.drive = .run ∨ s.seq.drive = .stopping) ∧
          s.watch.cfg.dwell ≠ 0 ∧ s.watch.cfg.dwell ≤ (u.group g).dwell + 1 ∧
          (u.group (otherSide g)).dwell + 1 < s.watch.cfg.dwell ∧ s.tripReady ∧
          u.sourcePresent (.vibDanger g) .first = false) ∧
  (∃ (s : State),
      s.vibrationLaw) ∧
  (∃ (s : State) (k : Fin 8) (rest : List (Fin 8)),
      s.vibrationLaw ∧ s.atHead (some .resetSectorMap) k rest) :=
  ⟨⟨(let u := State.reset |> driving .run |> fit (channelOf .a) |> absent (.vibDanger .a);
      let u := { u with
          watch := { u.watch with
            blockPos := 254, quarter := 3, settings := some { u.watch.cfg with dwell := 5 },
            groups := u.watch.groups.map (fun (w : GroupWatch) => { w with dwell := 0 }) } };
      let u := u.setChannel (channelOf .a) { u.channel (channelOf .a) with heldRun := 0, vib := .danger };
          u.setGroup .a { u.group .a with dwell := 3 }), .a, by decide +kernel⟩,
    ⟨(let u := State.reset |> driving .run |> fit (channelOf .a) |> absent (.vibDanger .a);
      let u := { u with
          watch := { u.watch with
            blockPos := 254, quarter := 3, settings := some { u.watch.cfg with dwell := 5 },
            groups := u.watch.groups.map (fun (w : GroupWatch) => { w with dwell := 0 }) } };
      let u := u.setChannel (channelOf .a) { u.channel (channelOf .a) with heldRun := 0, vib := .danger };
          u.setGroup .a { u.group .a with dwell := 4 }), .a, by decide +kernel⟩,
    ⟨((State.reset.formAll 0)), formed_law⟩,
    ⟨((State.reset.formAll 0) |> posted 18 [0xFFFF] 3), 3, [], ⟨formed_law, by decide +kernel⟩⟩⟩

theorem test_witness_SequencerMillisecondTable :
  (∃ (s : State),
      let q := s.seq
      (q.drive = .unconfigured ∨ q.drive = .tripped)) ∧
  (∃ (s : State),
      let q := s.seq
      q.drive = .stopped) ∧
  (∃ (s : State),
      let c := s.cfg
      let q := s.seq
      q.drive = .magnetizing ∧ q.magCount + 1 < c.magTime) ∧
  (∃ (s : State),
      let c := s.cfg
      let q := s.seq
      q.drive = .breakaway ∧ |s.meas.n| < c.nb ∧ q.breakawayCount + 1 < c.breakawayTime) ∧
  (∃ (s : State),
      let c := s.cfg
      let q := s.seq
      q.drive = .breakaway ∧ c.nb ≤ |s.meas.n| ∧ s.encodersKnown) ∧
  (∃ (s : State),
      let q := s.seq
      q.drive = .run) ∧
  (∃ (s : State),
      let q := s.seq
      q.drive = .stopping ∧ q.phase = .decelerating) ∧
  (∃ (s : State),
      let c := s.cfg
      let q := s.seq
      let dwelt := if |s.meas.n| ≤ c.zeroBand then q.zeroCount + 1 else 0
      q.drive = .stopping ∧ q.phase = .atZero ∧ dwelt < c.zeroDwell) ∧
  (∃ (s : State),
      let c := s.cfg
      let q := s.seq
      q.drive = .stopping ∧ q.phase = .brakeSetting ∧ q.brakeCount + 1 < c.brakeSetTime) :=
  ⟨⟨(let u := State.reset |> driving .tripped |> healthy |> configured fun c => { c with
      nb := 100, zeroBand := 20, zeroDwell := 5, brakeSetTime := 6, magTime := 7, breakawayTime := 8, accelRate := 3,
        decelRate := 4 }; { u with seq := { u.seq with phase := .none } }), by decide +kernel⟩,
    ⟨(let u := State.reset |> driving .stopped |> healthy |> configured fun c => { c with
        nb := 100, zeroBand := 20, zeroDwell := 5, brakeSetTime := 6, magTime := 7, breakawayTime := 8,
          accelRate := 3, decelRate := 4 }; { u with seq := { u.seq with phase := .none } }), by decide +kernel⟩,
    ⟨(let u := State.reset |> driving .magnetizing |> healthy
        |> configured fun c => { c with
        nb := 100, zeroBand := 20, zeroDwell := 5, brakeSetTime := 6, magTime := 7, breakawayTime := 8,
        accelRate := 3, decelRate := 4 }; { u with seq := { u.seq with phase := .none, magCount := 5 } }),
        by decide +kernel⟩,
    ⟨(let u := State.reset |> driving .breakaway |> healthy |> configured fun c => { c with
        nb := 100, zeroBand := 20, zeroDwell := 5, brakeSetTime := 6, magTime := 7, breakawayTime := 8,
          accelRate := 3, decelRate := 4 };
          { u with meas := { u.meas with n := 99 }, seq := { u.seq with phase := .none, breakawayCount := 6 } }),
          by decide +kernel⟩,
    ⟨(let u := State.reset |> driving .breakaway |> healthy |> configured fun c => { c with
        nb := 100, zeroBand := 20, zeroDwell := 5, brakeSetTime := 6, magTime := 7, breakawayTime := 8,
          accelRate := 3, decelRate := 4 };
          { u with meas := { u.meas with n := -100 }, seq := { u.seq with phase := .none } }), by decide +kernel⟩,
    ⟨(let u := State.reset |> driving .run |> healthy |> configured fun c => { c with
        nb := 100, zeroBand := 20, zeroDwell := 5, brakeSetTime := 6, magTime := 7, breakawayTime := 8,
          accelRate := 3, decelRate := 4 }; { u with seq := { u.seq with phase := .none } }), by decide +kernel⟩,
    ⟨(let u := State.reset |> driving .stopping |> healthy |> configured fun c => { c with
        nb := 100, zeroBand := 20, zeroDwell := 5, brakeSetTime := 6, magTime := 7, breakawayTime := 8,
          accelRate := 3, decelRate := 4 }; { u with seq := { u.seq with phase := .decelerating } }),
          by decide +kernel⟩,
    ⟨(let u := State.reset |> driving .stopping |> healthy |> configured fun c => { c with
        nb := 100, zeroBand := 20, zeroDwell := 5, brakeSetTime := 6, magTime := 7, breakawayTime := 8,
          accelRate := 3, decelRate := 4 };
          { u with meas := { u.meas with n := 20 }, seq := { u.seq with phase := .atZero, zeroCount := 3 } }),
          by decide +kernel⟩,
    ⟨(let u := State.reset |> driving .stopping |> healthy |> configured fun c => { c with
        nb := 100, zeroBand := 20, zeroDwell := 5, brakeSetTime := 6, magTime := 7, breakawayTime := 8,
          accelRate := 3, decelRate := 4 };
          { u with seq := { u.seq with phase := .brakeSetting, brakeCount := 4 } }), by decide +kernel⟩⟩

theorem test_witness_SequencerExpiries :
  (∃ (s : State),
      let c := s.cfg
      let q := s.seq
      q.drive = .magnetizing ∧ c.magTime ≤ q.magCount + 1 ∧ s.encodersKnown) ∧
  (∃ (s : State),
      let c := s.cfg
      let q := s.seq
      q.drive = .breakaway ∧ |s.meas.n| < c.nb ∧ c.breakawayTime ≤ q.breakawayCount + 1 ∧ s.tripReady ∧
          s.sourcePresent .stall .first = false) ∧
  (∃ (s : State),
      let c := s.cfg
      let q := s.seq
      let dwelt := if |s.meas.n| ≤ c.zeroBand then q.zeroCount + 1 else 0
      q.drive = .stopping ∧ q.phase = .atZero ∧ c.zeroDwell ≤ dwelt ∧ c.brakeSetTime ≠ 0) ∧
  (∃ (s : State),
      let c := s.cfg
      let q := s.seq
      q.drive = .stopping ∧ q.phase = .brakeSetting ∧ c.brakeSetTime ≤ q.brakeCount + 1 ∧ q.restartPending = false) ∧
  (∃ (s : State),
      let c := s.cfg
      let q := s.seq
      q.drive = .stopping ∧ q.phase = .brakeSetting ∧ c.brakeSetTime ≤ q.brakeCount + 1 ∧ q.restartPending = true) ∧
  (∃ (s : State),
      let c := s.cfg
      let q := s.seq
      q.drive = .breakaway ∧ c.nb ≤ |s.meas.n| ∧ c.breakawayTime ≤ q.breakawayCount + 1 ∧ s.encodersKnown) ∧
  (∃ (s : State),
      let c := s.cfg
      let q := s.seq
      let dwelt := if |s.meas.n| ≤ c.zeroBand then q.zeroCount + 1 else 0
      q.drive = .stopping ∧ q.phase = .atZero ∧ c.zeroDwell ≤ dwelt ∧ c.brakeSetTime = 0 ∧ q.restartPending = false) ∧
  (∃ (s : State),
      let c := s.cfg
      let q := s.seq
      let dwelt := if |s.meas.n| ≤ c.zeroBand then q.zeroCount + 1 else 0
      q.drive = .stopping ∧ q.phase = .atZero ∧ c.zeroDwell ≤ dwelt ∧ c.brakeSetTime = 0 ∧ q.restartPending = true) ∧
  (∃ (s : State),
      let q := s.seq
      q.drive ≠ .magnetizing) ∧
  (∃ (s : State),
      let q := s.seq
      q.drive ≠ .breakaway) ∧
  (∃ (s : State),
      let q := s.seq
      q.drive ≠ .stopping) :=
  ⟨⟨(let u := State.reset |> driving .magnetizing |> healthy
      |> configured fun c => { c with
      nb := 100, zeroBand := 20, zeroDwell := 5, brakeSetTime := 6, magTime := 7, breakawayTime := 8, accelRate := 3,
      decelRate := 4 }; { u with seq := { u.seq with phase := .none, magCount := 6 } }), by decide +kernel⟩,
    ⟨(let u := State.reset |> driving .breakaway |> healthy |> absent .stall
        |> configured fun c => { c with
        nb := 100, zeroBand := 20, zeroDwell := 5, brakeSetTime := 6, magTime := 7, breakawayTime := 8,
        accelRate := 3, decelRate := 4 };
        { u with meas := { u.meas with n := -99 }, seq := { u.seq with phase := .none, breakawayCount := 7 } }),
        by decide +kernel⟩,
    ⟨(let u := State.reset |> driving .stopping |> healthy |> configured fun c => { c with
        nb := 100, zeroBand := 20, zeroDwell := 5, brakeSetTime := 6, magTime := 7, breakawayTime := 8,
          accelRate := 3, decelRate := 4 };
          { u with meas := { u.meas with n := -20 }, seq := { u.seq with phase := .atZero, zeroCount := 4 } }),
          by decide +kernel⟩,
    ⟨(let u := State.reset |> driving .stopping |> healthy |> configured fun c => { c with
        nb := 100, zeroBand := 20, zeroDwell := 5, brakeSetTime := 6, magTime := 7, breakawayTime := 8,
          accelRate := 3, decelRate := 4 };
          { u with seq := { u.seq with phase := .brakeSetting, brakeCount := 5 } }), by decide +kernel⟩,
    ⟨(let u := State.reset |> driving .stopping |> healthy |> configured fun c => { c with
        nb := 100, zeroBand := 20, zeroDwell := 5, brakeSetTime := 6, magTime := 7, breakawayTime := 8,
          accelRate := 3, decelRate := 4 };
          { u with seq := { u.seq with phase := .brakeSetting, brakeCount := 5, restartPending := true } }),
          by decide +kernel⟩,
    ⟨(let u := State.reset |> driving .breakaway |> healthy |> configured fun c => { c with
        nb := 100, zeroBand := 20, zeroDwell := 5, brakeSetTime := 6, magTime := 7, breakawayTime := 8,
          accelRate := 3, decelRate := 4 };
          { u with meas := { u.meas with n := -100 }, seq := { u.seq with phase := .none, breakawayCount := 7 } }),
          by decide +kernel⟩,
    ⟨(let u := State.reset |> driving .stopping |> healthy |> configured fun c => { c with
        nb := 100, zeroBand := 20, zeroDwell := 5, brakeSetTime := 0, magTime := 7, breakawayTime := 8,
          accelRate := 3, decelRate := 4 };
          { u with meas := { u.meas with n := -20 }, seq := { u.seq with phase := .atZero, zeroCount := 4 } }),
          by decide +kernel⟩,
    ⟨(let u := State.reset |> driving .stopping |> healthy |> configured fun c => { c with
        nb := 100, zeroBand := 20, zeroDwell := 5, brakeSetTime := 0, magTime := 7, breakawayTime := 8,
          accelRate := 3, decelRate := 4 };
          { u with
          meas := { u.meas with n := -20 },
          seq := { u.seq with phase := .atZero, zeroCount := 4, restartPending := true } }), by decide +kernel⟩,
    ⟨(let u := State.reset |> driving .stopped |> healthy |> configured fun c => { c with
        nb := 100, zeroBand := 20, zeroDwell := 5, brakeSetTime := 6, magTime := 7, breakawayTime := 8,
          accelRate := 3, decelRate := 4 }; { u with seq := { u.seq with phase := .none } }), by decide +kernel⟩,
    ⟨(let u := State.reset |> driving .stopped |> healthy |> configured fun c => { c with
        nb := 100, zeroBand := 20, zeroDwell := 5, brakeSetTime := 6, magTime := 7, breakawayTime := 8,
          accelRate := 3, decelRate := 4 }; { u with seq := { u.seq with phase := .none } }), by decide +kernel⟩,
    ⟨(let u := State.reset |> driving .stopped |> healthy |> configured fun c => { c with
        nb := 100, zeroBand := 20, zeroDwell := 5, brakeSetTime := 6, magTime := 7, breakawayTime := 8,
          accelRate := 3, decelRate := 4 }; { u with seq := { u.seq with phase := .none } }), by decide +kernel⟩⟩

theorem test_witness_PermitAndEStop :
  (∃ (s : State),
      s.inputs.runPermit = false) ∧
  (∃ (s : State),
      s.inputs.runPermit = true ∧ (s.seq.drive.running = false ∨ (s.cfg.permitAction = .ramp ∧
          s.seq.drive = .stopping))) ∧
  (∃ (s : State),
      s.inputs.runPermit = true ∧ s.cfg.permitAction = .ramp ∧ s.seq.drive = .magnetizing ∧
          s.seq.restartPending = false) ∧
  (∃ (s : State),
      s.inputs.runPermit = true ∧ s.cfg.permitAction = .ramp ∧ (s.seq.drive = .breakaway ∨ s.seq.drive = .run) ∧
          s.encodersKnown) ∧
  (∃ (s : State),
      s.inputs.runPermit = true ∧ s.cfg.permitAction = .trip ∧ s.seq.drive.running = true ∧ s.tripReady ∧
          s.sourcePresent .permit .first = false) ∧
  (∃ (s : State),
      s.inputs.eStop = true) ∧
  (∃ (s : State),
      s.inputs.eStop = false ∧ s.sourcePresent .eStop .first = false) :=
  ⟨⟨(let u := State.reset |> driving .run |> healthy |> absent .permit
      |> configured fun c => { c with permitAction := .trip };
      { u with inputs := { u.inputs with runPermit := false } }), by decide +kernel⟩,
    ⟨(let u := State.reset |> driving .stopping |> healthy |> absent .permit
        |> configured fun c => { c with permitAction := .ramp };
        { u with inputs := { u.inputs with runPermit := true } }), by decide +kernel⟩,
    ⟨(let u := State.reset |> driving .magnetizing |> healthy |> absent .permit
        |> configured fun c => { c with permitAction := .ramp };
        { u with inputs := { u.inputs with runPermit := true } }), by decide +kernel⟩,
    ⟨(let u := State.reset |> driving .breakaway |> healthy |> absent .permit
        |> configured fun c => { c with permitAction := .ramp };
        { u with inputs := { u.inputs with runPermit := true } }), by decide +kernel⟩,
    ⟨(let u := State.reset |> driving .stopping |> healthy |> absent .permit
        |> configured fun c => { c with permitAction := .trip };
        { u with inputs := { u.inputs with runPermit := true } }), by decide +kernel⟩,
    ⟨({ State.reset with inputs := { State.reset.inputs with eStop := true } }), by decide +kernel⟩,
    ⟨(let u := State.reset |> absent .eStop |> driving .run; { u with inputs := { u.inputs with eStop := false } }),
        by decide +kernel⟩⟩

theorem test_witness_TripRecordLife :
  (∃ (s : State) (r : RecordSettings),
      s.inputs.eStop = false ∧ s.sourcePresent .eStop .first = false ∧ s.tripReady ∧ s.record.settings = some r ∧
          r.window ≠ 0 ∧ s.record.idCounter < 0xFFFFFFFF) ∧
  (∃ (s : State) (r : RecordSettings),
      s.inputs.eStop = false ∧ s.sourcePresent .eStop .first = false ∧ s.tripReady ∧ s.record.settings = some r ∧
          r.window = 0 ∧ s.record.idCounter < 0xFFFFFFFF) ∧
  (∃ (s : State) (o : Record),
      s.inputs.eStop = false ∧ s.sourcePresent .eStop .first = false ∧ s.seq.drive = .tripped ∧ s.faults.lock = true ∧
          s.faults.windowOpen = true ∧ s.record.openRecord = some o) ∧
  (∃ (s : State) (o : Record),
      s.faults.windowOpen = true ∧ 1000 * s.faults.windowLen ≤ s.faults.timer ∧ s.record.openRecord = some o) ∧
  (∃ (s : State),
      s.faults.windowOpen = false) ∧
  (∃ (s : State),
      s.record.trigState = .waitSecond ∧ 1000 * s.record.triggerWindow ≤ s.record.windowTimer) ∧
  (∃ (s : State),
      s.record.trigState ≠ .waitSecond) :=
  ⟨⟨(let r : RecordSettings := ⟨1, 100⟩;
      let u := State.reset |> absent .eStop |> driving .run; { u with
          inputs := { u.inputs with eStop := false }, record := { u.record with
            settings := some r, idCounter := 0xFFFFFFFE } }), (⟨1, 100⟩), by decide +kernel⟩,
    ⟨(let r : RecordSettings := ⟨0, 100⟩;
      let u := State.reset |> absent .eStop |> driving .run; { u with
          inputs := { u.inputs with eStop := false }, record := { u.record with
            settings := some r, idCounter := u.record.idCounter % 0xFFFFFFFF,
            entries := u.record.entries.map fun e => { e with state := .empty } } }), (⟨0, 100⟩), by decide +kernel⟩,
    ⟨(let u := State.reset |> absent .eStop |> driving .tripped;
        { u with
        inputs := { u.inputs with eStop := false }, faults := { u.faults with lock := true, windowOpen := true },
        record := { u.record with
        openRecord := some (State.reset.newRecord (some (.permit, none)) .queued none) } }),
        ((State.reset.newRecord (some (.permit, none)) .queued none)), by decide +kernel⟩,
    ⟨(let u := { State.reset with
        faults := { State.reset.faults with windowOpen := true, windowLen := 5, timer := 5000 },
          record := { State.reset.record with
          openRecord := some (State.reset.newRecord (some (.permit, none)) .queued none) } }; u
          |> inService fun u => { u with
          openSector := some 0, sectors := [⟨.opened, some 1, List.replicate 15 .blank⟩], erase := .running }),
          ((State.reset.newRecord (some (.permit, none)) .queued none)), by decide +kernel⟩,
    ⟨(State.reset |> driving .run), by decide +kernel⟩,
    ⟨({ State.reset with
        record := { State.reset.record with
          trigState := .waitSecond, program := some ⟨.manual, none, 5, false⟩, windowTimer := 5000 } }),
          by decide +kernel⟩,
    ⟨({ State.reset with record := { State.reset.record with trigState := .waitFirst } }), by decide +kernel⟩⟩

theorem test_witness_GovernorPeriodRule :
  (∃ (s : State),
      s.seq.restartPending = false ∧ s.gov.awaiting = none) ∧
  (∃ (s : State) (x : Side),
      s.tripReady ∧ s.seq.drive.governed = true ∧ s.cfg.pinion.has x = true ∧ (s.regs.get x).voltageLimited = false ∧
          s.cfg.devTime ≤ s.gov.devCount.get x + 1 ∧
          s.cfg.devLimit < |((if (s.regs.get x).iqCount = 0 then s.gov.estimate.get x
              else truncDiv (truncDiv (s.regs.get x).iqSum (s.regs.get x).iqCount * s.cfg.k x) 1000) - s.gov.torque.get x)| ∧
          s.sourcePresent (.torqueDev x) .first = false) ∧
  (∃ (s : State) (x : Side),
      s.seq.restartPending = false ∧ s.gov.awaiting = none ∧ s.cfg.pinion.has x = true ∧
          (s.regs.get x).voltageLimited = true ∧ (s.regs.get x).limitedRun = 1999 ∧
          s.sourcePresent .voltageLimited (sourceOf x) = false) ∧
  (∃ (s : State),
      let g := s.governorValues (s.regs.map Regulator.handOver) (s.watch.groups.map GroupWatch.demand)
      s.seq.restartPending = false ∧ s.gov.awaiting = none ∧ s.tripReady ∧ s.seq.drive.governed = true ∧
          g.atLimit = true ∧ s.cfg.jamDecel ≠ 0 ∧
          s.cfg.jamDecel < signOf g.tg * (s.gov.history.getLastD 0 - s.meas.n) ∧
          s.sourcePresent .jam .first = false) ∧
  (∃ (s : State),
      let fast := s.cfg.nmax * 110 / 100 < |s.meas.n|
      s.seq.restartPending = false ∧ s.gov.awaiting = none ∧ s.tripReady ∧ fast ∧
          s.sourcePresent .overspeed .first = false) ∧
  (∃ (s : State),
      let fast := s.cfg.nmax * 110 / 100 < |s.meas.n|
      s.seq.restartPending = false ∧ s.gov.awaiting = none ∧ s.seq.drive = .unconfigured ∧ fast ∧
          s.sourcePresent .overspeed .first = false) ∧
  (∃ (s : State),
      let fast := s.cfg.nmax * 110 / 100 < |s.meas.n|
      s.seq.restartPending = false ∧ s.gov.awaiting = none ∧ ¬fast) ∧
  (∃ (s : State) (p : Program),
      let g := s.governorValues (s.regs.map Regulator.handOver) (s.watch.groups.map GroupWatch.demand)
      s.seq.restartPending = false ∧ s.gov.awaiting = none ∧ s.waitsFor .torqueAtLimit p ∧ s.gov.atLimit = false ∧
          g.atLimit = true) ∧
  (∃ (s : State) (x : Side) (p : Program),
      s.seq.restartPending = false ∧ s.gov.awaiting = none ∧ s.waitsFor .voltageLimited p ∧
          (s.regs.get x).voltageLimited = true ∧ (s.regs.get x).lastPeriod = false) ∧
  (∃ (s : State),
      s.seq.restartPending = false ∧ s.gov.awaiting = none ∧ s.req.starting = false) ∧
  (∃ (s : State) (e : List Breakpoint) (k : Fin 8),
      s.gov.awaiting = some (e, k) ∧ s.seq.restartPending = false) :=
  ⟨⟨(let u := State.reset |> driving .run; { u with gov := { u.gov with awaiting := none } }), by decide +kernel⟩,
    ⟨(let u := State.reset |> driving .run |> absent (.torqueDev .a)
        |> (configured fun c => { c with pinion := .both, devTime := 10, devLimit := 50 })
        |> (regulator .a fun g => { g with voltageLimited := false, iqCount := 0 });
        { u with
        gov := { u.gov with
        estimate := u.gov.estimate.set .a 100, torque := u.gov.torque.set .a 0, devCount := ⟨9, 9⟩ } }), .a,
        by decide +kernel⟩,
    ⟨(let u := State.reset |> driving .run |> absent .voltageLimited
        |> (configured fun c => { c with pinion := .both }) |> regulator .a fun g => { g with
        voltageLimited := true, limitedRun := 1999 }; { u with gov := { u.gov with awaiting := none } }), .a,
        by decide +kernel⟩,
    ⟨(let u := State.reset |> driving .run |> absent .jam |> absent .overspeed
        |> (configured fun _ => { DriveSettings.ofImage driveWords with
        pinion := .both, kp := 100, rate := 6000, jamDecel := 10 });
        { u with
        meas := { u.meas with n := 100 }, seq := { u.seq with ramp := 3000000 },
        gov := { u.gov with
        awaiting := none, h := 1000, atLimit := false, iacc := 0, hold := false, tp := 0,
        history := List.replicate 8 500, envelope := some (envelopeOf envelopeWords) },
        regs := u.regs.map (fun g => { g with voltageLimited := false }),
        watch := { u.watch with groups := u.watch.groups.map fun g => { g with demand := 10 } } }),
        by decide +kernel⟩,
    ⟨(let u := State.reset |> driving .run |> absent .overspeed |> (configured fun c => { c with nmax := 100 });
        { u with meas := { u.meas with n := -111 }, gov := { u.gov with awaiting := none } }), by decide +kernel⟩,
    ⟨(let u := State.reset |> driving .unconfigured |> absent .overspeed
        |> (configured fun c => { c with nmax := 100 }); { u with
        meas := { u.meas with n := -111 }, gov := { u.gov with awaiting := none } }), by decide +kernel⟩,
    ⟨(let u := State.reset |> driving .run |> (configured fun c => { c with nmax := 100 });
        { u with meas := { u.meas with n := -110 }, gov := { u.gov with awaiting := none } }), by decide +kernel⟩,
    ⟨(let u := State.reset |> driving .run |> armed .torqueAtLimit (some .manual) .waitFirst |> absent .jam
        |> absent .overspeed |> (configured fun _ => { DriveSettings.ofImage driveWords with
        pinion := .both, kp := 100, rate := 6000, jamDecel := 10 });
        { u with
        meas := { u.meas with n := 100 }, seq := { u.seq with ramp := 3000000 },
        gov := { u.gov with
        awaiting := none, h := 1000, atLimit := false, iacc := 0, hold := false, tp := 0,
        history := List.replicate 8 100, envelope := some (envelopeOf envelopeWords) },
        regs := u.regs.map (fun g => { g with voltageLimited := false }),
        watch := { u.watch with groups := u.watch.groups.map fun g => { g with demand := 10 } } }),
        (⟨.torqueAtLimit, some .manual, 7, true⟩), by decide +kernel⟩,
    ⟨(let u := State.reset |> driving .run |> armed .voltageLimited (some .manual) .waitFirst
        |> regulator .a fun g => { g with voltageLimited := true, lastPeriod := false };
        { u with gov := { u.gov with awaiting := none } }), .a, (⟨.voltageLimited, some .manual, 7, true⟩),
        by decide +kernel⟩,
    ⟨(let u := State.reset |> driving .run;
        { u with gov := { u.gov with awaiting := none }, req := { u.req with starting := false } }),
        by decide +kernel⟩,
    ⟨(let u := State.reset |> others;
        { u with gov := { u.gov with awaiting := some ((envelopeOf envelopeWords), 3) } }),
        ((envelopeOf envelopeWords)), 3, by decide +kernel⟩⟩

theorem test_witness_GrantAndDemandsWithinLimits :
  (∃ (s : State),
      s.seq.drive.governed = true ∧ s.seq.restartPending = false ∧ s.gov.awaiting = none ∧ s.cfg.sane ∧
          (∀ e, s.gov.envelope = some e → envelopeSane e) ∧ 0 ≤ s.gov.h ∧ (∀ x, 0 ≤ (s.watch.groups.get x).demand)) ∧
  (∃ (before after : List Breakpoint) (b b' : Breakpoint) (v : Int),
      envelopeSane (before ++ b :: b' :: after) ∧ b.speed ≤ v ∧ v < b'.speed) ∧
  (∃ (before : List Breakpoint) (b : Breakpoint) (v : Int),
      envelopeSane (before ++ [b]) ∧ b.speed ≤ v) :=
  ⟨⟨(let u := State.reset |> driving .run |> configured fun c => { DriveSettings.ofImage driveWords with
      pinion := c.pinion, lb := |c.lb|, lc := |c.lc|, share := c.share.natAbs % 1001, kp := c.kp, ki := c.ki,
        rate := 1 + |c.rate| };
        { u with
        gov := { u.gov with awaiting := none, envelope := some (envelopeOf envelopeWords), h := |u.gov.h| },
        watch := { u.watch with groups := u.watch.groups.map fun w => { w with demand := |w.demand| } } }),
        ⟨by decide +kernel, by decide +kernel, by decide +kernel, by decide +kernel,
      fun _ he => (Option.some.inj he) ▸ sane_envelope, by decide +kernel, fun x => by cases x <;> decide +kernel⟩⟩,
    ⟨([⟨0, 1800, 1200⟩]), [], (⟨3000, 1500, 1000⟩), (⟨15000, 1200, 800⟩), 12345,
        ⟨⟨by decide +kernel, by decide +kernel, fun b hb => by cases (Option.some.inj hb); decide +kernel⟩,
        by decide +kernel⟩⟩,
    ⟨([⟨0, 1800, 1200⟩]), (⟨3000, 1500, 1000⟩), 3000, ⟨⟨by decide +kernel, by decide +kernel,
        fun b hb => by cases (Option.some.inj hb); decide +kernel⟩, by decide +kernel⟩⟩⟩

theorem test_witness_CapturePeriodAndFreeze :
  (∃ (s : State),
      let still := s.record.trigState = .disarmed ∨ s.record.program = none
      still ∧ s.record.activeBanks = 0) ∧
  (∃ (s : State) (i : Fin 4),
      let b := s.record.bank i
      (b.state = .live ∨ b.state = .post) ∧ s.record.activeBanks = 1) ∧
  (∃ (s : State) (i : Fin 4),
      let still := s.record.trigState = .disarmed ∨ s.record.program = none
      let b := s.record.bank i
      still ∧ b.state = .live ∧ s.record.activeBanks = 1) ∧
  (∃ (s : State) (i : Fin 4),
      let still := s.record.trigState = .disarmed ∨ s.record.program = none
      let b := s.record.bank i
      still ∧ b.state = .post ∧ s.record.activeBanks = 1 ∧ b.postWritten + 1 < b.post) ∧
  (∃ (s : State) (i j : Fin 4),
      let still := s.record.trigState = .disarmed ∨ s.record.program = none
      let b := s.record.bank i
      still ∧ b.state = .post ∧ s.record.activeBanks = 1 ∧ b.postWritten + 1 = b.post ∧ j ≠ i ∧
          (s.record.bank j).state = .free ∧ (∀ m : Fin 4, m ≠ i → m - i < j - i → (s.record.bank m).state ≠ .free)) ∧
  (∃ (s : State) (i : Fin 4),
      let still := s.record.trigState = .disarmed ∨ s.record.program = none
      let b := s.record.bank i
      still ∧ b.state = .post ∧ s.record.activeBanks = 1 ∧ b.postWritten + 1 = b.post ∧
          (∀ j : Fin 4, (s.record.bank j).state ≠ .free)) ∧
  (∃ (s : State) (p : Program) (x : Int),
      s.record.program = some p ∧ p.first = .speedBelow x ∧ s.record.trigState = .waitFirst ∧
          s.record.activeBanks ≤ 1 ∧ x ≤ |s.meas.n|) ∧
  (∃ (s : State) (p : Program) (x : Int),
      s.record.program = some p ∧ p.first = .speedBelow x ∧ s.record.trigState = .waitFirst ∧
          s.record.activeBanks ≤ 1 ∧ |s.meas.n| < x ∧ s.record.belowFirst = true) ∧
  (∃ (s : State) (p : Program) (x : Int),
      s.record.program = some p ∧ p.first = .speedBelow x ∧ s.record.trigState = .waitFirst ∧
          s.record.activeBanks ≤ 1 ∧ |s.meas.n| < x ∧ s.record.belowFirst = false ∧ p.second = some .manual) ∧
  (∃ (s : State) (p : Program) (x : Int),
      s.record.program = some p ∧ p.first = .speedBelow x ∧ s.record.trigState = .waitFirst ∧
          s.record.activeBanks ≤ 1 ∧ |s.meas.n| < x ∧ s.record.belowFirst = false ∧ p.second = none ∧
          s.record.idCounter < 0xFFFFFFFF ∧ (s.record.listEntry s.record.nextIndex).state = .empty ∧
          s.record.activeBanks = 0) ∧
  (∃ (s : State) (p : Program) (x : Int) (i : Fin 4),
      let b := s.record.bank i
      s.record.program = some p ∧ p.first = .speedBelow x ∧ s.record.trigState = .waitFirst ∧
          s.record.activeBanks ≤ 1 ∧ |s.meas.n| < x ∧ s.record.belowFirst = false ∧ p.second = none ∧
          s.record.idCounter < 0xFFFFFFFF ∧ (s.record.listEntry s.record.nextIndex).state = .empty ∧ b.state = .live ∧
          s.record.activeBanks = 1) :=
  ⟨⟨(let u := State.reset |> onlyBank 0 fun b => { b with state := .free };
      { u with record := { u.record with trigState := .disarmed } }), by decide +kernel⟩,
    ⟨(State.reset |> armed .manual none .waitFirst |> onlyBank 1 fun b => { b with state := .live }), 1,
        by decide +kernel⟩,
    ⟨(let u := State.reset |> onlyBank 1 fun b => { b with state := .live };
        { u with record := { u.record with trigState := .disarmed } }), 1, by decide +kernel⟩,
    ⟨(let u := State.reset |> onlyBank 1 fun b => { b with state := .post, post := 512, postWritten := 510 };
        { u with record := { u.record with trigState := .disarmed } }), 1, by decide +kernel⟩,
    ⟨(let u := State.reset |> onlyBank 1 fun b => { b with state := .post, post := 512, postWritten := 511 };
        { u with record := { u.record with trigState := .disarmed } }), 1, 2, by decide +kernel⟩,
    ⟨(let u := State.reset |> onlyBank 1 fun b => { b with state := .post, post := 512, postWritten := 511 };
        { u with
        record := { u.record with
        trigState := .disarmed, banks := u.record.banks.map fun b => if b.state = .free then { b with
        state := .frozen } else b } }), 1, by decide +kernel⟩,
    ⟨(let u := State.reset |> armed (.speedBelow 100) (some .manual) .waitFirst
        |> onlyBank 0 fun b => { b with state := .live, pre := 512 };
        { u with
        meas := { u.meas with n := -100 }, record := { u.record with
        belowFirst := true, idCounter := 7, entries := u.record.entries.map fun y => { y with state := .empty } } }),
        (⟨.speedBelow 100, some .manual, 7, true⟩), 100, by decide +kernel⟩,
    ⟨(let u := State.reset |> armed (.speedBelow 100) (some .manual) .waitFirst
        |> onlyBank 0 fun b => { b with state := .live, pre := 512 };
        { u with
        meas := { u.meas with n := 99 }, record := { u.record with
        belowFirst := true, idCounter := 7, entries := u.record.entries.map fun y => { y with state := .empty } } }),
        (⟨.speedBelow 100, some .manual, 7, true⟩), 100, by decide +kernel⟩,
    ⟨(let u := State.reset |> armed (.speedBelow 100) (some .manual) .waitFirst
        |> onlyBank 0 fun b => { b with state := .live, pre := 512 };
        { u with
        meas := { u.meas with n := 99 }, record := { u.record with
        belowFirst := false, idCounter := 7, entries := u.record.entries.map fun y => { y with
        state := .empty } } }), (⟨.speedBelow 100, some .manual, 7, true⟩), 100, by decide +kernel⟩,
    ⟨(let u := State.reset |> armed (.speedBelow 100) none .waitFirst
        |> onlyBank 0 fun b => { b with state := .frozen, pre := 512 };
        { u with
        meas := { u.meas with n := 99 }, record := { u.record with
        belowFirst := false, idCounter := 7, entries := u.record.entries.map fun y => { y with
        state := .empty } } }), (⟨.speedBelow 100, none, 7, true⟩), 100, by decide +kernel⟩,
    ⟨(let u := State.reset |> armed (.speedBelow 100) none .waitFirst
        |> onlyBank 1 fun b => { b with state := .live, pre := 512 };
        { u with
        meas := { u.meas with n := 99 }, record := { u.record with
        belowFirst := false, idCounter := 7, entries := u.record.entries.map fun y => { y with
        state := .empty } } }), (⟨.speedBelow 100, none, 7, true⟩), 100, 1, by decide +kernel⟩⟩

theorem test_witness_StorePortEvents :
  (∃ (s : State),
      let u := s.store
      u.transfer = none) ∧
  (∃ (s : State),
      let u := s.store
      u.transfer.isSome = true ∧ u.job = .bodyEnable) ∧
  (∃ (s : State),
      let u := s.store
      u.transfer.isSome = true ∧ u.job = .markEnable) ∧
  (∃ (s : State),
      let u := s.store
      u.transfer.isSome = true ∧ u.job = .bodyProgram) ∧
  (∃ (s : State),
      let u := s.store
      u.transfer.isSome = true ∧ u.job = .markProgram) ∧
  (∃ (s : State),
      let u := s.store
      u.transfer.isSome = true ∧ u.job = .openProgram) ∧
  (∃ (s : State),
      let u := s.store
      u.transfer.isSome = true ∧ u.job = .suspendSend) ∧
  (∃ (s : State) (i q : Nat),
      let u := s.store
      u.transfer.isSome = true ∧ u.job = .openEnable ∧ u.toOpen = some (i, q)) ∧
  (∃ (s : State) (i : Nat),
      let u := s.store
      u.transfer.isSome = true ∧ u.job = .eraseEnable ∧ u.eraseSector = some i) ∧
  (∃ (s : State),
      let u := s.store
      let c := u.cfg
      let ready := u.state = .ready ∧ u.hostOp = none
      u.transfer.isSome = true ∧ u.job = .eraseSend ∧ ready ∧ u.erase = .running ∧
          (u.queue = [] ∨ u.blankSlot = none ∨ c.suspendSupported = false)) ∧
  (∃ (s : State),
      let u := s.store
      let c := u.cfg
      let ready := u.state = .ready ∧ u.hostOp = none
      u.transfer.isSome = true ∧ u.job = .eraseSend ∧ ready ∧ u.erase = .running ∧ u.queue ≠ [] ∧
          u.blankSlot.isSome = true ∧ c.suspendSupported = true) ∧
  (∃ (s : State),
      let u := s.store
      let c := u.cfg
      let ready := u.state = .ready ∧ u.hostOp = none
      u.transfer.isSome = true ∧ u.job = .resumeSend ∧ ready ∧
          (u.queue = [] ∨ u.blankSlot = none ∨ c.suspendSupported = false)) ∧
  (∃ (s : State) (st : Byte),
      let u := s.store
      u.polls ∧ st.getLsbD 0 = true) ∧
  (∃ (s : State),
      let u := s.store
      ¬u.polls) ∧
  (∃ (s : State) (st : Byte),
      let u := s.store
      st.getLsbD 0 = false ∧ u.job = .bodyPoll) ∧
  (∃ (s : State) (st : Byte),
      let u := s.store
      st.getLsbD 0 = false ∧ u.job = .markPoll) ∧
  (∃ (s : State) (st : Byte) (i q : Nat),
      let u := s.store
      st.getLsbD 0 = false ∧ u.job = .openPoll ∧ u.toOpen = some (i, q)) ∧
  (∃ (s : State) (st : Byte) (i : Nat),
      let u := s.store
      st.getLsbD 0 = false ∧ u.job = .idle ∧ u.erase = .running ∧ (u.state = .ready ∨ u.state = .busy) ∧
          u.eraseSector = some i) ∧
  (∃ (s : State) (st : Byte),
      let u := s.store
      let ready := u.state = .ready ∧ u.hostOp = none
      st.getLsbD 0 = false ∧ u.job = .suspendPoll ∧ ready ∧ u.queue ≠ [] ∧ u.blankSlot.isSome = true) ∧
  (∃ (s : State) (st : Byte) (k : Fin 8) (id sector number : Nat),
      let u := s.store
      st.getLsbD 0 = false ∧ u.job = .suspendPoll ∧ u.state = .busy ∧ u.hostOp = some (.read k id sector number) ∧
          u.queue = []) ∧
  (∃ (s : State) (st : Byte),
      let u := s.store
      st.getLsbD 0 = false ∧ u.job = .scanPoll) ∧
  (∃ (s : State) (tx rx : List Byte) (q : QueuedRecord) (rest : List QueuedRecord) (o : Nat) (e : Sector),
      let u := s.store
      let body := u.head.image.flatMap wordBytes
      let ready := u.state = .ready ∧ u.hostOp = none
      u.queue = q :: rest ∧ u.openSector = some o ∧ u.sectors[o]? = some e ∧ u.toOpen = none ∧ ready ∧
          u.erase ≠ .running ∧ u.job = .bodyRead ∧ u.transfer = some ⟨tx, 256⟩ ∧ body.length = 256 ∧ rx = body) ∧
  (∃ (s : State) (tx rx : List Byte) (q : QueuedRecord) (rest : List QueuedRecord) (o : Nat) (e : Sector) (p : Nat),
      let u := s.store
      let body := u.head.image.flatMap wordBytes
      let ready := u.state = .ready ∧ u.hostOp = none
      let slots := fun x : FlashSlot => e.slots.set (u.nextSlot - 1) x
      u.queue = q :: rest ∧ u.openSector = some o ∧ u.sectors[o]? = some e ∧ u.toOpen = none ∧ ready ∧
          u.erase ≠ .running ∧ q.attempts = 0 ∧ firstBlank (slots .spoiled) = some p ∧ u.job = .bodyRead ∧
          u.transfer = some ⟨tx, 256⟩ ∧ rx.length = 256 ∧ rx ≠ body) ∧
  (∃ (s : State) (tx rx : List Byte) (q : QueuedRecord) (rest : List QueuedRecord) (o : Nat) (e : Sector) (p : Nat),
      let u := s.store
      let mark := bytes32 u.head.id
      let ready := u.state = .ready ∧ u.hostOp = none
      let slots := fun x : FlashSlot => e.slots.set (u.nextSlot - 1) x
      u.queue = q :: rest ∧ u.openSector = some o ∧ u.sectors[o]? = some e ∧ u.toOpen = none ∧ ready ∧
          u.erase ≠ .running ∧ q.attempts = 0 ∧ firstBlank (slots .spoiled) = some p ∧ u.job = .markRead ∧
          u.transfer = some ⟨tx, 4⟩ ∧ rx.length = 4 ∧ rx ≠ mark) ∧
  (∃ (s : State) (q : QueuedRecord) (rest : List QueuedRecord) (o : Nat) (e : Sector) (p : Nat),
      let u := s.store
      let c := u.cfg
      let ready := u.state = .ready ∧ u.hostOp = none
      let slots := fun x : FlashSlot => e.slots.set (u.nextSlot - 1) x
      u.queue = q :: rest ∧ u.openSector = some o ∧ u.sectors[o]? = some e ∧ u.toOpen = none ∧ ready ∧
          u.erase ≠ .running ∧ q.attempts = 0 ∧ firstBlank (slots .spoiled) = some p ∧
          (u.job = .bodyPoll ∨ u.job = .markPoll) ∧ 1000 * c.programLimit ≤ u.pollElapsed) ∧
  (∃ (s : State) (tx rx : List Byte) (q : QueuedRecord) (rest : List QueuedRecord) (o : Nat) (e : Sector) (n q0 : Nat) (e' : Sector),
      let u := s.store
      let body := u.head.image.flatMap wordBytes
      let ready := u.state = .ready ∧ u.hostOp = none
      let slots := fun x : FlashSlot => e.slots.set (u.nextSlot - 1) x
      u.queue = q :: rest ∧ u.openSector = some o ∧ u.sectors[o]? = some e ∧ u.toOpen = none ∧ ready ∧
          u.erase ≠ .running ∧ q.attempts = 0 ∧ firstBlank (slots .spoiled) = none ∧ e.seq = some q0 ∧
          q0 + 1 < 0xFFFFFFFF ∧ n = (o + 1) % u.sectors.length ∧ n ≠ o ∧ u.sectors[n]? = some e' ∧
          e'.state = .erased ∧ u.job = .bodyRead ∧ u.transfer = some ⟨tx, 256⟩ ∧ rx.length = 256 ∧ rx ≠ body) ∧
  (∃ (s : State) (tx rx : List Byte) (q : QueuedRecord) (rest : List QueuedRecord) (o : Nat) (e : Sector) (p : Nat),
      let u := s.store
      let ready := u.state = .ready ∧ u.hostOp = none
      let slots := fun x : FlashSlot => e.slots.set (u.nextSlot - 1) x
      u.queue = q :: rest ∧ u.openSector = some o ∧ u.sectors[o]? = some e ∧ u.toOpen = none ∧ ready ∧
          u.erase ≠ .running ∧ u.job = .markRead ∧ u.transfer = some ⟨tx, 4⟩ ∧ rx = bytes32 q.id ∧
          firstBlank (slots (.valid q.id)) = some p) ∧
  (∃ (s : State) (tx rx : List Byte) (q : QueuedRecord) (rest : List QueuedRecord) (o : Nat) (e : Sector) (n q0 : Nat) (e' : Sector),
      let u := s.store
      let ready := u.state = .ready ∧ u.hostOp = none
      let slots := fun x : FlashSlot => e.slots.set (u.nextSlot - 1) x
      u.queue = q :: rest ∧ u.openSector = some o ∧ u.sectors[o]? = some e ∧ u.toOpen = none ∧ ready ∧
          u.erase ≠ .running ∧ u.job = .markRead ∧ u.transfer = some ⟨tx, 4⟩ ∧ rx = bytes32 q.id ∧
          firstBlank (slots (.valid q.id)) = none ∧ e.seq = some q0 ∧ q0 + 1 < 0xFFFFFFFF ∧
          n = (o + 1) % u.sectors.length ∧ n ≠ o ∧ u.sectors[n]? = some e' ∧ e'.state ≠ .bad) ∧
  (∃ (s : State) (tx rx : List Byte) (q : QueuedRecord) (rest : List QueuedRecord) (o : Nat) (e : Sector),
      let u := s.store
      let body := u.head.image.flatMap wordBytes
      let ready := u.state = .ready ∧ u.hostOp = none
      u.queue = q :: rest ∧ u.openSector = some o ∧ u.sectors[o]? = some e ∧ u.toOpen = none ∧ ready ∧
          u.erase ≠ .running ∧ q.attempts = 1 ∧ u.job = .bodyRead ∧ u.transfer = some ⟨tx, 256⟩ ∧ rx.length = 256 ∧
          rx ≠ body) ∧
  (∃ (s : State) (tx rx : List Byte) (q : QueuedRecord) (rest : List QueuedRecord) (o : Nat) (e : Sector),
      let u := s.store
      let mark := bytes32 u.head.id
      let ready := u.state = .ready ∧ u.hostOp = none
      u.queue = q :: rest ∧ u.openSector = some o ∧ u.sectors[o]? = some e ∧ u.toOpen = none ∧ ready ∧
          u.erase ≠ .running ∧ q.attempts = 1 ∧ u.job = .markRead ∧ u.transfer = some ⟨tx, 4⟩ ∧ rx.length = 4 ∧
          rx ≠ mark) ∧
  (∃ (s : State) (q : QueuedRecord) (rest : List QueuedRecord) (o : Nat) (e : Sector),
      let u := s.store
      let c := u.cfg
      let ready := u.state = .ready ∧ u.hostOp = none
      u.queue = q :: rest ∧ u.openSector = some o ∧ u.sectors[o]? = some e ∧ u.toOpen = none ∧ ready ∧
          u.erase ≠ .running ∧ q.attempts = 1 ∧ (u.job = .bodyPoll ∨ u.job = .markPoll) ∧
          1000 * c.programLimit ≤ u.pollElapsed) ∧
  (∃ (s : State) (tx rx : List Byte) (i q : Nat) (e : Sector),
      let u := s.store
      let header := fun seq : Nat => wordBytes 0x5A3C ++ bytes32 seq ++ wordBytes 0xC35A
      let ready := u.state = .ready ∧ u.hostOp = none
      u.toOpen = some (i, q) ∧ u.sectors[i]? = some e ∧ u.openSector = none ∧ ready ∧ u.erase ≠ .running ∧
          q < 0xFFFFFFFF ∧ u.job = .openRead ∧ u.transfer = some ⟨tx, 8⟩ ∧ rx = header q ∧ u.queue ≠ []) ∧
  (∃ (s : State) (tx rx : List Byte) (i q : Nat) (e e' : Sector),
      let u := s.store
      let header := fun seq : Nat => wordBytes 0x5A3C ++ bytes32 seq ++ wordBytes 0xC35A
      let ready := u.state = .ready ∧ u.hostOp = none
      let n := (i + 1) % u.sectors.length
      u.toOpen = some (i, q) ∧ u.sectors[i]? = some e ∧ u.openSector = none ∧ ready ∧ u.erase ≠ .running ∧
          q < 0xFFFFFFFF ∧ u.job = .openRead ∧ u.transfer = some ⟨tx, 8⟩ ∧ rx = header q ∧ u.queue = [] ∧
          u.erase = .none ∧ n ≠ i ∧ u.sectors[n]? = some e' ∧ e'.state ≠ .bad ∧ e'.state = .erased) ∧
  (∃ (s : State) (tx rx : List Byte) (i q : Nat) (e e' : Sector),
      let u := s.store
      let header := fun seq : Nat => wordBytes 0x5A3C ++ bytes32 seq ++ wordBytes 0xC35A
      let ready := u.state = .ready ∧ u.hostOp = none
      let n := (i + 1) % u.sectors.length
      u.toOpen = some (i, q) ∧ u.sectors[i]? = some e ∧ u.openSector = none ∧ ready ∧ u.erase ≠ .running ∧
          q < 0xFFFFFFFF ∧ u.job = .openRead ∧ u.transfer = some ⟨tx, 8⟩ ∧ rx = header q ∧ u.queue = [] ∧
          u.erase = .none ∧ n ≠ i ∧ u.sectors[n]? = some e' ∧ e'.state ≠ .bad ∧ e'.state ≠ .erased) ∧
  (∃ (s : State) (tx rx : List Byte) (i q : Nat) (e e' : Sector),
      let u := s.store
      let header := fun seq : Nat => wordBytes 0x5A3C ++ bytes32 seq ++ wordBytes 0xC35A
      let ready := u.state = .ready ∧ u.hostOp = none
      let n := (i + 1) % u.sectors.length
      let failing := (u.job = .openRead ∧ u.transfer = some ⟨tx, 8⟩ ∧ rx.length = 8 ∧ rx ≠ header q)
      u.toOpen = some (i, q) ∧ u.sectors[i]? = some e ∧ u.openSector = none ∧ ready ∧ u.erase ≠ .running ∧
          q < 0xFFFFFFFF ∧ u.badCount < 2 ∧ n ≠ i ∧ u.sectors[n]? = some e' ∧ e'.state = .erased ∧ failing) ∧
  (∃ (s : State) (i q : Nat) (e e' : Sector),
      let u := s.store
      let c := u.cfg
      let ready := u.state = .ready ∧ u.hostOp = none
      let n := (i + 1) % u.sectors.length
      let late := u.job = .openPoll ∧ 1000 * c.programLimit ≤ u.pollElapsed
      u.toOpen = some (i, q) ∧ u.sectors[i]? = some e ∧ u.openSector = none ∧ ready ∧ u.erase ≠ .running ∧
          q < 0xFFFFFFFF ∧ u.badCount < 2 ∧ n ≠ i ∧ u.sectors[n]? = some e' ∧ e'.state = .erased ∧ late) ∧
  (∃ (s : State) (tx rx : List Byte) (i q : Nat) (e e' : Sector),
      let u := s.store
      let header := fun seq : Nat => wordBytes 0x5A3C ++ bytes32 seq ++ wordBytes 0xC35A
      let ready := u.state = .ready ∧ u.hostOp = none
      let n := (i + 1) % u.sectors.length
      let failing := (u.job = .openRead ∧ u.transfer = some ⟨tx, 8⟩ ∧ rx.length = 8 ∧ rx ≠ header q)
      u.toOpen = some (i, q) ∧ u.sectors[i]? = some e ∧ u.openSector = none ∧ ready ∧ u.erase ≠ .running ∧
          q < 0xFFFFFFFF ∧ u.badCount < 2 ∧ n ≠ i ∧ u.sectors[n]? = some e' ∧ e'.state ≠ .erased ∧ e'.state ≠ .bad ∧
          u.erase = .none ∧ failing) ∧
  (∃ (s : State) (tx rx : List Byte) (i q : Nat) (e : Sector),
      let u := s.store
      let header := fun seq : Nat => wordBytes 0x5A3C ++ bytes32 seq ++ wordBytes 0xC35A
      let ready := u.state = .ready ∧ u.hostOp = none
      let failing := (u.job = .openRead ∧ u.transfer = some ⟨tx, 8⟩ ∧ rx.length = 8 ∧ rx ≠ header q)
      u.toOpen = some (i, q) ∧ u.sectors[i]? = some e ∧ u.openSector = none ∧ ready ∧ u.erase ≠ .running ∧
          q < 0xFFFFFFFF ∧ 2 ≤ u.badCount ∧ failing) ∧
  (∃ (s : State) (i q : Nat) (e : Sector),
      let u := s.store
      let c := u.cfg
      let ready := u.state = .ready ∧ u.hostOp = none
      let late := u.job = .openPoll ∧ 1000 * c.programLimit ≤ u.pollElapsed
      u.toOpen = some (i, q) ∧ u.sectors[i]? = some e ∧ u.openSector = none ∧ ready ∧ u.erase ≠ .running ∧
          q < 0xFFFFFFFF ∧ 2 ≤ u.badCount ∧ late) ∧
  (∃ (s : State) (tx rx : List Byte) (i : Nat) (e : Sector) (q : Nat),
      let u := s.store
      let ready := u.state = .ready ∧ u.hostOp = none
      let checked := u.job = .eraseCheck ∧ u.transfer = some ⟨tx, 256⟩ ∧ rx.length = 256
      let blank := rx = List.replicate 256 0xFF
      u.eraseSector = some i ∧ u.sectors[i]? = some e ∧ ready ∧ u.erase = .running ∧ checked ∧ blank ∧
          (u.queue = [] ∨ u.blankSlot = none) ∧ u.toOpen = some (i, q) ∧ q < 0xFFFFFFFF) ∧
  (∃ (s : State) (tx rx : List Byte) (i : Nat) (e : Sector) (o : Nat),
      let u := s.store
      let ready := u.state = .ready ∧ u.hostOp = none
      let checked := u.job = .eraseCheck ∧ u.transfer = some ⟨tx, 256⟩ ∧ rx.length = 256
      let blank := rx = List.replicate 256 0xFF
      u.eraseSector = some i ∧ u.sectors[i]? = some e ∧ ready ∧ u.erase = .running ∧ checked ∧ blank ∧
          (u.queue = [] ∨ u.blankSlot = none) ∧ u.toOpen = none ∧ u.openSector = some o ∧
          (o + 1) % u.sectors.length = i ∧ e.state ≠ .bad ∧ o ≠ i) ∧
  (∃ (s : State) (tx rx : List Byte) (i : Nat) (e : Sector),
      let u := s.store
      let ready := u.state = .ready ∧ u.hostOp = none
      let checked := u.job = .eraseCheck ∧ u.transfer = some ⟨tx, 256⟩ ∧ rx.length = 256
      let blank := rx = List.replicate 256 0xFF
      u.eraseSector = some i ∧ u.sectors[i]? = some e ∧ ready ∧ u.erase = .running ∧ checked ∧ blank ∧ u.queue ≠ [] ∧
          u.blankSlot.isSome = true ∧ u.openSector ≠ some i ∧ u.toOpen = none) ∧
  (∃ (s : State) (tx rx : List Byte) (i : Nat) (e e' : Sector),
      let u := s.store
      let ready := u.state = .ready ∧ u.hostOp = none
      let n := (i + 1) % u.sectors.length
      let checked := u.job = .eraseCheck ∧ u.transfer = some ⟨tx, 256⟩ ∧ rx.length = 256
      let blank := rx = List.replicate 256 0xFF
      u.eraseSector = some i ∧ u.sectors[i]? = some e ∧ ready ∧ u.erase = .running ∧ u.badCount < 2 ∧ n ≠ i ∧
          u.sectors[n]? = some e' ∧ e'.state ≠ .bad ∧ checked ∧ ¬blank) ∧
  (∃ (s : State) (i : Nat) (e e' : Sector),
      let u := s.store
      let c := u.cfg
      let ready := u.state = .ready ∧ u.hostOp = none
      let n := (i + 1) % u.sectors.length
      let late := u.job = .idle ∧ 1000 * c.eraseLimit ≤ u.eraseElapsed
      u.eraseSector = some i ∧ u.sectors[i]? = some e ∧ ready ∧ u.erase = .running ∧ u.badCount < 2 ∧ n ≠ i ∧
          u.sectors[n]? = some e' ∧ e'.state ≠ .bad ∧ late) ∧
  (∃ (s : State) (tx rx : List Byte) (i : Nat) (e : Sector),
      let u := s.store
      let ready := u.state = .ready ∧ u.hostOp = none
      let checked := u.job = .eraseCheck ∧ u.transfer = some ⟨tx, 256⟩ ∧ rx.length = 256
      let blank := rx = List.replicate 256 0xFF
      u.eraseSector = some i ∧ u.sectors[i]? = some e ∧ ready ∧ u.erase = .running ∧ 2 ≤ u.badCount ∧ checked ∧
          ¬blank) ∧
  (∃ (s : State) (i : Nat) (e : Sector),
      let u := s.store
      let c := u.cfg
      let ready := u.state = .ready ∧ u.hostOp = none
      let late := u.job = .idle ∧ 1000 * c.eraseLimit ≤ u.eraseElapsed
      u.eraseSector = some i ∧ u.sectors[i]? = some e ∧ ready ∧ u.erase = .running ∧ 2 ≤ u.badCount ∧ late) ∧
  (∃ (s : State),
      let u := s.store
      u.limitPassed = false) ∧
  (∃ (s : State),
      let u := s.store
      let c := u.cfg
      u.job = .suspendPoll ∧ (u.state = .ready ∨ u.state = .busy) ∧ 1000 * c.suspendLimit ≤ u.pollElapsed) ∧
  (∃ (s : State),
      let u := s.store
      let c := u.cfg
      u.state = .scanning ∧ u.job = .scanPoll ∧ s.seq.drive ≠ .unconfigured ∧ u.hostOp = none ∧
          1000 * max c.programLimit c.eraseLimit ≤ u.pollElapsed) ∧
  (∃ (s : State) (tx rx : List Byte),
      let u := s.store
      let c := u.cfg
      u.state = .scanning ∧ u.job = .scanIdent ∧ u.transfer = some ⟨tx, 3⟩ ∧ c.ident.length = 3 ∧ rx = c.ident) ∧
  (∃ (s : State) (tx rx : List Byte) (d : StoreSettings) (k : Fin 8),
      let u := s.store
      let c := u.cfg
      u.state = .scanning ∧ u.job = .scanIdent ∧ u.transfer = some ⟨tx, 3⟩ ∧ rx.length = 3 ∧ rx ≠ c.ident ∧
          u.awaiting = some (d, k) ∧ s.seq.drive ≠ .unconfigured) ∧
  (∃ (s : State) (tx rx : List Byte) (i : Nat) (e : Sector),
      let u := s.store
      let c := u.cfg
      let header := fun seq : Nat => wordBytes 0x5A3C ++ bytes32 seq ++ wordBytes 0xC35A
      u.state = .scanning ∧ u.job = .scanHeader i ∧ u.transfer = some ⟨tx, 256⟩ ∧ rx.length = 256 ∧
          ((rx = List.replicate 256 0xFF ∧ e = ⟨.erased, none, List.replicate 15 .blank⟩) ∨ (∃ q, 1 ≤ q ∧
          q ≤ 0xFFFFFFFE ∧ rx.take 8 = header q ∧ ((∀ e' ∈ u.sectors, e'.state = .bad ∨ e'.seq ≠ some q) ∧
          e = ⟨.full, some q, List.replicate 15 .blank⟩ ∨ (∃ e' ∈ u.sectors, e'.state ≠ .bad ∧ e'.seq = some q) ∧
          e = ⟨.bad, none, []⟩)) ∨ (rx ≠ List.replicate 256 0xFF ∧
          (rx.take 2 ≠ wordBytes 0x5A3C ∨ (rx.drop 6).take 2 ≠ wordBytes 0xC35A) ∧ e = ⟨.bad, none, []⟩)) ∧
          i + 1 < c.ns) ∧
  (∃ (s : State) (tx rx : List Byte) (i : Nat) (e : Sector) (j : Nat),
      let u := s.store
      let c := u.cfg
      let header := fun seq : Nat => wordBytes 0x5A3C ++ bytes32 seq ++ wordBytes 0xC35A
      let v := { u with
          sectors := u.sectors ++ [e], badCount := u.badCount + if e.state = SectorState.bad then 1 else 0 }
      u.state = .scanning ∧ u.job = .scanHeader i ∧ u.transfer = some ⟨tx, 256⟩ ∧ rx.length = 256 ∧
          ((rx = List.replicate 256 0xFF ∧ e = ⟨.erased, none, List.replicate 15 .blank⟩) ∨ (∃ q, 1 ≤ q ∧
          q ≤ 0xFFFFFFFE ∧ rx.take 8 = header q ∧ ((∀ e' ∈ u.sectors, e'.state = .bad ∨ e'.seq ≠ some q) ∧
          e = ⟨.full, some q, List.replicate 15 .blank⟩ ∨ (∃ e' ∈ u.sectors, e'.state ≠ .bad ∧ e'.seq = some q) ∧
          e = ⟨.bad, none, []⟩)) ∨ (rx ≠ List.replicate 256 0xFF ∧
          (rx.take 2 ≠ wordBytes 0x5A3C ∨ (rx.drop 6).take 2 ≠ wordBytes 0xC35A) ∧ e = ⟨.bad, none, []⟩)) ∧
          c.ns ≤ i + 1 ∧ v.badCount < 3 ∧ j < v.sectors.length ∧ v.sectorState j = .full ∧
          (∀ m, m < j → v.sectorState m ≠ .full)) ∧
  (∃ (s : State) (tx rx : List Byte) (i : Nat) (e : Sector),
      let u := s.store
      let c := u.cfg
      let header := fun seq : Nat => wordBytes 0x5A3C ++ bytes32 seq ++ wordBytes 0xC35A
      let v := { u with
          sectors := u.sectors ++ [e], badCount := u.badCount + if e.state = SectorState.bad then 1 else 0 }
      u.state = .scanning ∧ u.job = .scanHeader i ∧ u.transfer = some ⟨tx, 256⟩ ∧ rx.length = 256 ∧
          ((rx = List.replicate 256 0xFF ∧ e = ⟨.erased, none, List.replicate 15 .blank⟩) ∨ (∃ q, 1 ≤ q ∧
          q ≤ 0xFFFFFFFE ∧ rx.take 8 = header q ∧ ((∀ e' ∈ u.sectors, e'.state = .bad ∨ e'.seq ≠ some q) ∧
          e = ⟨.full, some q, List.replicate 15 .blank⟩ ∨ (∃ e' ∈ u.sectors, e'.state ≠ .bad ∧ e'.seq = some q) ∧
          e = ⟨.bad, none, []⟩)) ∨ (rx ≠ List.replicate 256 0xFF ∧
          (rx.take 2 ≠ wordBytes 0x5A3C ∨ (rx.drop 6).take 2 ≠ wordBytes 0xC35A) ∧ e = ⟨.bad, none, []⟩)) ∧
          c.ns ≤ i + 1 ∧ 3 ≤ v.badCount ∧ s.seq.drive ≠ .unconfigured ∧ u.hostOp = none) ∧
  (∃ (s : State) (tx rx : List Byte) (i number : Nat) (x : FlashSlot),
      let u := s.store
      u.state = .scanning ∧ u.job = .scanSlot i number ∧ u.transfer = some ⟨tx, 256⟩ ∧ rx.length = 256 ∧
          ((rx = List.replicate 256 0xFF ∧ x = .blank) ∨ (∃ id, 1 ≤ id ∧ id ≤ 0xFFFFFFFE ∧ rx.take 4 = bytes32 id ∧
          rx.drop 252 = bytes32 id ∧ x = .valid id) ∨ (rx ≠ List.replicate 256 0xFF ∧ rx.take 4 ≠ rx.drop 252 ∧
          x = .spoiled)) ∧ number < 15) ∧
  (∃ (s : State) (tx rx : List Byte) (i number : Nat) (x : FlashSlot) (j : Nat),
      let u := s.store
      let v := { u with sectors := u.sectors.modify i fun e => { e with slots := e.slots.set (number - 1) x } }
      u.state = .scanning ∧ u.job = .scanSlot i number ∧ u.transfer = some ⟨tx, 256⟩ ∧ rx.length = 256 ∧
          ((rx = List.replicate 256 0xFF ∧ x = .blank) ∨ (∃ id, 1 ≤ id ∧ id ≤ 0xFFFFFFFE ∧ rx.take 4 = bytes32 id ∧
          rx.drop 252 = bytes32 id ∧ x = .valid id) ∨ (rx ≠ List.replicate 256 0xFF ∧ rx.take 4 ≠ rx.drop 252 ∧
          x = .spoiled)) ∧ 15 ≤ number ∧ j < v.sectors.length ∧ i < j ∧ v.sectorState j = .full ∧
          (∀ m, m < j → i < m → v.sectorState m ≠ .full)) :=
  ⟨⟨(State.reset |> inService fun u => { u with transfer := none }), by decide +kernel⟩,
    ⟨(State.reset |> inService fun u => { u with transfer := some ⟨[6], 0⟩, job := .bodyEnable }), by decide +kernel⟩,
    ⟨(State.reset |> inService fun u => { u with transfer := some ⟨[6], 0⟩, job := .markEnable }), by decide +kernel⟩,
    ⟨(State.reset |> inService fun u => { u with transfer := some ⟨[6], 0⟩, job := .bodyProgram }),
        by decide +kernel⟩,
    ⟨(State.reset |> inService fun u => { u with transfer := some ⟨[6], 0⟩, job := .markProgram }),
        by decide +kernel⟩,
    ⟨(State.reset |> inService fun u => { u with transfer := some ⟨[6], 0⟩, job := .openProgram }),
        by decide +kernel⟩,
    ⟨(State.reset |> inService fun u => { u with transfer := some ⟨[6], 0⟩, job := .suspendSend }),
        by decide +kernel⟩,
    ⟨(State.reset
        |> inService fun u => { u with transfer := some ⟨[6], 0⟩, job := .openEnable, toOpen := some (1, 7) }), 1, 7,
        by decide +kernel⟩,
    ⟨(State.reset
        |> inService fun u => { u with transfer := some ⟨[6], 0⟩, job := .eraseEnable, eraseSector := some 1 }), 1,
        by decide +kernel⟩,
    ⟨(State.reset |> inService fun u => { u with transfer := some ⟨[6], 0⟩, job := .eraseSend, erase := .running }),
        by decide +kernel⟩,
    ⟨(State.reset
        |> inService fun u => { u with
        transfer := some ⟨[6], 0⟩, job := .eraseSend, erase := .running, queue := [⟨7, [], 0⟩], openSector := some 0,
        sectors := [⟨.opened, some 1, List.replicate 15 .blank⟩] }), by decide +kernel⟩,
    ⟨(State.reset |> inService fun u => { u with transfer := some ⟨[6], 0⟩, job := .resumeSend }), by decide +kernel⟩,
    ⟨(State.reset |> inService fun u => { u with erase := .running }), 3, by decide +kernel⟩,
    ⟨(State.reset |> inService fun u => { u with job := .bodyEnable }), by decide +kernel⟩,
    ⟨(State.reset |> inService fun u => { u with job := .bodyPoll }), 2, by decide +kernel⟩,
    ⟨(State.reset |> inService fun u => { u with job := .markPoll }), 2, by decide +kernel⟩,
    ⟨(State.reset |> inService fun u => { u with job := .openPoll, toOpen := some (1, 7) }), 2, 1, 7,
        by decide +kernel⟩,
    ⟨(State.reset |> inService fun u => { u with erase := .running, eraseSector := some 1 }), 0, 1,
        by decide +kernel⟩,
    ⟨(State.reset
        |> inService fun u => { u with
        job := .suspendPoll, erase := .running, queue := [⟨7, [], 0⟩], openSector := some 0,
        sectors := [⟨.opened, some 1, List.replicate 15 .blank⟩] }), 0, by decide +kernel⟩,
    ⟨(State.reset
        |> inService fun u => { u with
        job := .suspendPoll, erase := .running, state := .busy, hostOp := some (.read 3 1 1 2) }), 0, 3, 1, 1, 2,
        by decide +kernel⟩,
    ⟨(State.reset |> inService fun u => { u with job := .scanPoll, state := .scanning }), 0, by decide +kernel⟩,
    ⟨(let q : QueuedRecord := ⟨7, List.replicate 128 5, 0⟩;
      let e : Sector := ⟨.opened, some 1, List.replicate 15 .blank⟩; State.reset
          |> inService fun u => { u with
          queue := q :: [], openSector := some 1, sectors := [⟨.erased, none, List.replicate 15 .blank⟩, e],
          nextSlot := 3, pollElapsed := 50000, job := .bodyRead, transfer := some ⟨[], 256⟩ }), [],
          ((List.replicate 128 (5 : Word)).flatMap wordBytes), (⟨7, List.replicate 128 5, 0⟩), [], 1,
          (⟨.opened, some 1, List.replicate 15 .blank⟩), by decide +kernel⟩,
    ⟨(let q : QueuedRecord := ⟨7, [], 0⟩;
      let e : Sector := ⟨.opened, some 1, List.replicate 15 .blank⟩; State.reset
          |> inService fun u => { u with
          queue := q :: [], openSector := some 1, sectors := [⟨.erased, none, List.replicate 15 .blank⟩, e],
          nextSlot := 3, pollElapsed := 50000, job := .bodyRead, transfer := some ⟨[], 256⟩ }), [],
          (List.replicate 256 0), (⟨7, [], 0⟩), [], 1, (⟨.opened, some 1, List.replicate 15 .blank⟩), 1,
          by decide +kernel⟩,
    ⟨(let q : QueuedRecord := ⟨7, [], 0⟩;
      let e : Sector := ⟨.opened, some 1, List.replicate 15 .blank⟩; State.reset
          |> inService fun u => { u with
          queue := q :: [], openSector := some 1, sectors := [⟨.erased, none, List.replicate 15 .blank⟩, e],
          nextSlot := 3, pollElapsed := 50000, job := .markRead, transfer := some ⟨[], 4⟩ }), [], ([8, 0, 0, 0]),
          (⟨7, [], 0⟩), [], 1, (⟨.opened, some 1, List.replicate 15 .blank⟩), 1, by decide +kernel⟩,
    ⟨(let q : QueuedRecord := ⟨7, [], 0⟩;
      let e : Sector := ⟨.opened, some 1, List.replicate 15 .blank⟩; State.reset
          |> inService fun u => { u with
          queue := q :: [], openSector := some 1, sectors := [⟨.erased, none, List.replicate 15 .blank⟩, e],
          nextSlot := 3, pollElapsed := 50000, job := .markPoll }), (⟨7, [], 0⟩), [], 1,
          (⟨.opened, some 1, List.replicate 15 .blank⟩), 1, by decide +kernel⟩,
    ⟨(let q : QueuedRecord := ⟨7, [], 0⟩;
      let e : Sector := ⟨.opened, some 1, List.replicate 15 .spoiled⟩; State.reset
          |> inService fun u => { u with
          queue := q :: [], openSector := some 1, sectors := [⟨.erased, none, List.replicate 15 .blank⟩, e],
          nextSlot := 3, pollElapsed := 50000, job := .bodyRead, transfer := some ⟨[], 256⟩ }), [],
          (List.replicate 256 0), (⟨7, [], 0⟩), [], 1, (⟨.opened, some 1, List.replicate 15 .spoiled⟩), 0, 1,
          (⟨.erased, none, List.replicate 15 .blank⟩), by decide +kernel⟩,
    ⟨(let q : QueuedRecord := ⟨7, [], 0⟩;
      let e : Sector := ⟨.opened, some 1, List.replicate 15 .blank⟩; State.reset
          |> inService fun u => { u with
          queue := q :: [], openSector := some 1, sectors := [⟨.erased, none, List.replicate 15 .blank⟩, e],
          nextSlot := 3, pollElapsed := 50000, job := .markRead, transfer := some ⟨[], 4⟩, erase := .suspended }),
          [], (bytes32 7), (⟨7, [], 0⟩), [], 1, (⟨.opened, some 1, List.replicate 15 .blank⟩), 1, by decide +kernel⟩,
    ⟨(let q : QueuedRecord := ⟨7, [], 0⟩;
      let e : Sector := ⟨.opened, some 1, List.replicate 15 .spoiled⟩; State.reset
          |> inService fun u => { u with
          queue := q :: [], openSector := some 1, sectors := [⟨.erased, none, List.replicate 15 .blank⟩, e],
          nextSlot := 3, pollElapsed := 50000, job := .markRead, transfer := some ⟨[], 4⟩ }), [], (bytes32 7),
          (⟨7, [], 0⟩), [], 1, (⟨.opened, some 1, List.replicate 15 .spoiled⟩), 0, 1,
          (⟨.erased, none, List.replicate 15 .blank⟩), by decide +kernel⟩,
    ⟨(let q : QueuedRecord := ⟨7, [], 1⟩;
      let e : Sector := ⟨.opened, some 1, List.replicate 15 .blank⟩; State.reset
          |> inService fun u => { u with
          queue := q :: [], openSector := some 1, sectors := [⟨.erased, none, List.replicate 15 .blank⟩, e],
          nextSlot := 3, pollElapsed := 50000, job := .bodyRead, transfer := some ⟨[], 256⟩ }), [],
          (List.replicate 256 0), (⟨7, [], 1⟩), [], 1, (⟨.opened, some 1, List.replicate 15 .blank⟩),
          by decide +kernel⟩,
    ⟨(let q : QueuedRecord := ⟨7, [], 1⟩;
      let e : Sector := ⟨.opened, some 1, List.replicate 15 .blank⟩; State.reset
          |> inService fun u => { u with
          queue := q :: [], openSector := some 1, sectors := [⟨.erased, none, List.replicate 15 .blank⟩, e],
          nextSlot := 3, pollElapsed := 50000, job := .markRead, transfer := some ⟨[], 4⟩ }), [], ([8, 0, 0, 0]),
          (⟨7, [], 1⟩), [], 1, (⟨.opened, some 1, List.replicate 15 .blank⟩), by decide +kernel⟩,
    ⟨(let q : QueuedRecord := ⟨7, [], 1⟩;
      let e : Sector := ⟨.opened, some 1, List.replicate 15 .blank⟩; State.reset
          |> inService fun u => { u with
          queue := q :: [], openSector := some 1, sectors := [⟨.erased, none, List.replicate 15 .blank⟩, e],
          nextSlot := 3, pollElapsed := 50000, job := .bodyPoll }), (⟨7, [], 1⟩), [], 1,
          (⟨.opened, some 1, List.replicate 15 .blank⟩), by decide +kernel⟩,
    ⟨(let e : Sector := ⟨.erased, none, List.replicate 15 .blank⟩; State.reset
        |> inService fun u => { u with
        toOpen := some (1, 7), sectors := [⟨.erased, none, List.replicate 15 .blank⟩, e], openSector := none,
        pollElapsed := 50000, badCount := 1, job := .openRead, transfer := some ⟨[], 8⟩, queue := [⟨7, [], 0⟩] }),
        [], (wordBytes 0x5A3C ++ bytes32 7 ++ wordBytes 0xC35A), 1, 7, (⟨.erased, none, List.replicate 15 .blank⟩),
        by decide +kernel⟩,
    ⟨(let e : Sector := ⟨.erased, none, List.replicate 15 .blank⟩; State.reset
        |> inService fun u => { u with
        toOpen := some (1, 7), sectors := [⟨.erased, none, List.replicate 15 .blank⟩, e], openSector := none,
        pollElapsed := 50000, badCount := 1, job := .openRead, transfer := some ⟨[], 8⟩ }), [],
        (wordBytes 0x5A3C ++ bytes32 7 ++ wordBytes 0xC35A), 1, 7, (⟨.erased, none, List.replicate 15 .blank⟩),
        (⟨.erased, none, List.replicate 15 .blank⟩), by decide +kernel⟩,
    ⟨(let e : Sector := ⟨.erased, none, List.replicate 15 .blank⟩; State.reset
        |> inService fun u => { u with
        toOpen := some (1, 7), sectors := [⟨.full, some 5, List.replicate 15 .spoiled⟩, e], openSector := none,
        pollElapsed := 50000, badCount := 1, job := .openRead, transfer := some ⟨[], 8⟩ }), [],
        (wordBytes 0x5A3C ++ bytes32 7 ++ wordBytes 0xC35A), 1, 7, (⟨.erased, none, List.replicate 15 .blank⟩),
        (⟨.full, some 5, List.replicate 15 .spoiled⟩), by decide +kernel⟩,
    ⟨(let e : Sector := ⟨.erased, none, List.replicate 15 .blank⟩; State.reset
        |> inService fun u => { u with
        toOpen := some (1, 7), sectors := [⟨.erased, none, List.replicate 15 .blank⟩, e], openSector := none,
        pollElapsed := 50000, badCount := 1, job := .openRead, transfer := some ⟨[], 8⟩ }), [], (List.replicate 8 0),
        1, 7, (⟨.erased, none, List.replicate 15 .blank⟩), (⟨.erased, none, List.replicate 15 .blank⟩),
        by decide +kernel⟩,
    ⟨(let e : Sector := ⟨.erased, none, List.replicate 15 .blank⟩; State.reset
        |> inService fun u => { u with
        toOpen := some (1, 7), sectors := [⟨.erased, none, List.replicate 15 .blank⟩, e], openSector := none,
        pollElapsed := 50000, badCount := 1, job := .openPoll }), 1, 7, (⟨.erased, none, List.replicate 15 .blank⟩),
        (⟨.erased, none, List.replicate 15 .blank⟩), by decide +kernel⟩,
    ⟨(let e : Sector := ⟨.erased, none, List.replicate 15 .blank⟩; State.reset
        |> inService fun u => { u with
        toOpen := some (1, 7), sectors := [⟨.full, some 5, List.replicate 15 .spoiled⟩, e], openSector := none,
        pollElapsed := 50000, badCount := 1, job := .openRead, transfer := some ⟨[], 8⟩ }), [], (List.replicate 8 0),
        1, 7, (⟨.erased, none, List.replicate 15 .blank⟩), (⟨.full, some 5, List.replicate 15 .spoiled⟩),
        by decide +kernel⟩,
    ⟨(let e : Sector := ⟨.erased, none, List.replicate 15 .blank⟩; State.reset
        |> inService fun u => { u with
        toOpen := some (1, 7), sectors := [⟨.erased, none, List.replicate 15 .blank⟩, e], openSector := none,
        pollElapsed := 50000, badCount := 2, job := .openRead, transfer := some ⟨[], 8⟩ }), [], (List.replicate 8 0),
        1, 7, (⟨.erased, none, List.replicate 15 .blank⟩), by decide +kernel⟩,
    ⟨(let e : Sector := ⟨.erased, none, List.replicate 15 .blank⟩; State.reset
        |> inService fun u => { u with
        toOpen := some (1, 7), sectors := [⟨.erased, none, List.replicate 15 .blank⟩, e], openSector := none,
        pollElapsed := 50000, badCount := 2, job := .openPoll }), 1, 7, (⟨.erased, none, List.replicate 15 .blank⟩),
        by decide +kernel⟩,
    ⟨(let e : Sector := ⟨.erasing, none, List.replicate 15 .blank⟩; State.reset
        |> inService fun u => { u with
        erase := .running, eraseSector := some 1, sectors := [⟨.opened, some 5, List.replicate 15 .blank⟩, e],
        openSector := none, eraseElapsed := 5000000, badCount := 1, job := .eraseCheck, transfer := some ⟨[], 256⟩,
        toOpen := some (1, 7) }), [], (List.replicate 256 0xFF), 1, (⟨.erasing, none, List.replicate 15 .blank⟩), 7,
        by decide +kernel⟩,
    ⟨(let e : Sector := ⟨.erasing, none, List.replicate 15 .blank⟩; State.reset
        |> inService fun u => { u with
        erase := .running, eraseSector := some 1, sectors := [⟨.opened, some 5, List.replicate 15 .blank⟩, e],
        eraseElapsed := 5000000, badCount := 1, job := .eraseCheck, transfer := some ⟨[], 256⟩,
        openSector := some 0 }), [], (List.replicate 256 0xFF), 1, (⟨.erasing, none, List.replicate 15 .blank⟩), 0,
        by decide +kernel⟩,
    ⟨(let e : Sector := ⟨.erasing, none, List.replicate 15 .blank⟩; State.reset
        |> inService fun u => { u with
        erase := .running, eraseSector := some 1, sectors := [⟨.opened, some 5, List.replicate 15 .blank⟩, e],
        eraseElapsed := 5000000, badCount := 1, job := .eraseCheck, transfer := some ⟨[], 256⟩, openSector := some 0,
        nextSlot := 1, queue := [⟨7, [], 0⟩] }), [], (List.replicate 256 0xFF), 1,
        (⟨.erasing, none, List.replicate 15 .blank⟩), by decide +kernel⟩,
    ⟨(let e : Sector := ⟨.erasing, none, List.replicate 15 .blank⟩; State.reset
        |> inService fun u => { u with
        erase := .running, eraseSector := some 1, sectors := [⟨.opened, some 5, List.replicate 15 .blank⟩, e],
        openSector := none, eraseElapsed := 5000000, badCount := 1, job := .eraseCheck,
        transfer := some ⟨[], 256⟩ }), [], (List.replicate 256 0), 1, (⟨.erasing, none, List.replicate 15 .blank⟩),
        (⟨.opened, some 5, List.replicate 15 .blank⟩), by decide +kernel⟩,
    ⟨(let e : Sector := ⟨.erasing, none, List.replicate 15 .blank⟩; State.reset
        |> inService fun u => { u with
        erase := .running, eraseSector := some 1, sectors := [⟨.opened, some 5, List.replicate 15 .blank⟩, e],
        openSector := none, eraseElapsed := 5000000, badCount := 1, job := .idle }), 1,
        (⟨.erasing, none, List.replicate 15 .blank⟩), (⟨.opened, some 5, List.replicate 15 .blank⟩),
        by decide +kernel⟩,
    ⟨(let e : Sector := ⟨.erasing, none, List.replicate 15 .blank⟩; State.reset
        |> inService fun u => { u with
        erase := .running, eraseSector := some 1, sectors := [⟨.opened, some 5, List.replicate 15 .blank⟩, e],
        openSector := none, eraseElapsed := 5000000, badCount := 2, job := .eraseCheck,
        transfer := some ⟨[], 256⟩ }), [], (List.replicate 256 0), 1, (⟨.erasing, none, List.replicate 15 .blank⟩),
        by decide +kernel⟩,
    ⟨(let e : Sector := ⟨.erasing, none, List.replicate 15 .blank⟩; State.reset
        |> inService fun u => { u with
        erase := .running, eraseSector := some 1, sectors := [⟨.opened, some 5, List.replicate 15 .blank⟩, e],
        openSector := none, eraseElapsed := 5000000, badCount := 2, job := .idle }), 1,
        (⟨.erasing, none, List.replicate 15 .blank⟩), by decide +kernel⟩,
    ⟨(State.reset |> inService fun u => { u with job := .bodyEnable }), by decide +kernel⟩,
    ⟨(State.reset |> inService fun u => { u with job := .suspendPoll, pollElapsed := 20000 }), by decide +kernel⟩,
    ⟨(State.reset |> driving .stopped |> inScan fun u => { u with job := .scanPoll, pollElapsed := 400000 }),
        by decide +kernel⟩,
    ⟨(State.reset |> driving .stopped |> inScan fun u => { u with job := .scanIdent, transfer := some ⟨[], 3⟩ }), [],
        ([0xEF, 0x40, 0x18]), by decide +kernel⟩,
    ⟨(State.reset |> driving .stopped |> inScan fun u => { u with
        job := .scanIdent, transfer := some ⟨[], 3⟩, awaiting := some ((StoreSettings.ofImage storeWords), 3) }), [],
          ([0, 0, 0]), ((StoreSettings.ofImage storeWords)), 3, by decide +kernel⟩,
    ⟨(State.reset |> driving .stopped |> inScan fun u => { u with
        job := .scanHeader 1, transfer := some ⟨[], 256⟩, sectors := [⟨.full, some 7, []⟩], badCount := 0 }), [],
          (wordBytes 0x5A3C ++ bytes32 7 ++ wordBytes 0xC35A ++ List.replicate 248 0xFF), 1, (⟨.bad, none, []⟩),
          ⟨by decide +kernel, by decide +kernel, by decide +kernel, by decide +kernel,
      Or.inr (Or.inl ⟨7, by decide +kernel⟩), by decide +kernel⟩⟩,
    ⟨(State.reset |> driving .stopped |> inScan fun u => { u with
        job := .scanHeader 7, transfer := some ⟨[], 256⟩, sectors := [], badCount := 0 }), [],
          (wordBytes 0x5A3C ++ bytes32 7 ++ wordBytes 0xC35A ++ List.replicate 248 0xFF), 7,
          (⟨.full, some 7, List.replicate 15 .blank⟩), 0, ⟨by decide +kernel, by decide +kernel, by decide +kernel,
          by decide +kernel,
      Or.inr (Or.inl ⟨7, by decide +kernel⟩), by decide +kernel, by decide +kernel, by decide +kernel,
          by decide +kernel, by decide +kernel⟩⟩,
    ⟨(State.reset |> driving .stopped |> inScan fun u => { u with
        job := .scanHeader 7, transfer := some ⟨[], 256⟩, sectors := [], badCount := 2 }), [],
          (List.replicate 256 0), 7, (⟨.bad, none, []⟩), ⟨by decide +kernel, by decide +kernel, by decide +kernel,
          by decide +kernel,
      Or.inr (Or.inr (by decide +kernel)), by decide +kernel⟩⟩,
    ⟨(State.reset |> driving .stopped |> inScan fun u => { u with
        job := .scanSlot 0 14, transfer := some ⟨[], 256⟩,
          sectors := [⟨.full, some 7, List.replicate 15 .blank⟩, ⟨.full, some 8, List.replicate 15 .blank⟩] }), [],
          (bytes32 10 ++ List.replicate 248 0 ++ bytes32 10), 0, 14, (.valid 10),
          ⟨by decide +kernel, by decide +kernel, by decide +kernel, by decide +kernel,
      Or.inr (Or.inl ⟨10, by decide +kernel⟩), by decide +kernel⟩⟩,
    ⟨(State.reset |> driving .stopped |> inScan fun u => { u with
        job := .scanSlot 0 15, transfer := some ⟨[], 256⟩,
          sectors := [⟨.full, some 7, List.replicate 15 .blank⟩, ⟨.full, some 8, List.replicate 15 .blank⟩] }), [],
          (List.replicate 252 0 ++ bytes32 9), 0, 15, .spoiled, 1,
          ⟨by decide +kernel, by decide +kernel, by decide +kernel, by decide +kernel,
      Or.inr (Or.inr (by decide +kernel)), by decide +kernel⟩⟩⟩

/-- The parts of the E-STOP clause: a drive that trips, UNCONFIGURED, and TRIPPED with the lock SET and the window CLOSED. -/
theorem test_witness_PermitAndEStop_eStop :
  (∃ s : State, s.inputs.eStop = false ∧ s.sourcePresent .eStop .first = false ∧ s.tripReady) ∧
  (∃ s : State, s.inputs.eStop = false ∧ s.sourcePresent .eStop .first = false ∧ s.seq.drive = .unconfigured) ∧
  (∃ s : State, s.inputs.eStop = false ∧ s.sourcePresent .eStop .first = false ∧ s.seq.drive = .tripped ∧
      s.faults.lock = true ∧ s.faults.windowOpen = false) :=
  ⟨⟨State.reset |> absent .eStop |> driving .run |> healthy, by decide +kernel⟩,
    ⟨State.reset |> absent .eStop, by decide +kernel⟩,
    ⟨(let u := State.reset |> absent .eStop |> driving .tripped;
      { u with faults := { u.faults with lock := true, windowOpen := false } }), by decide +kernel⟩⟩

/-- The parts of the position clause at a speed window update: above 105 % of C, at 105 % and INVALID, at 105 % and VALID. -/
theorem test_witness_SpeedWindowUpdateRule_position :
  (∃ s : State, s.seq.restartPending = false ∧ s.cfg.countsPerShell * 105 / 100 < |s.meas.shell.p.toInt|) ∧
  (∃ s : State, s.seq.restartPending = false ∧ |s.meas.shell.p.toInt| = s.cfg.countsPerShell * 105 / 100 ∧
      s.meas.shell.valid = false) ∧
  (∃ s : State, s.seq.restartPending = false ∧ |s.meas.shell.p.toInt| = s.cfg.countsPerShell * 105 / 100 ∧
      s.meas.shell.valid = true) :=
  ⟨⟨{ State.reset with meas := { State.reset.meas with shell := { State.reset.meas.shell with p := -105001 } } },
      by decide +kernel⟩,
    ⟨{ State.reset with meas := { State.reset.meas with shell := { State.reset.meas.shell with p := -105000 } } },
      by decide +kernel⟩,
    ⟨{ State.reset with meas := { State.reset.meas with shell :=
        { State.reset.meas.shell with p := 105000, valid := true } } }, by decide +kernel⟩⟩

/-! ### Witnesses of the laws' hypotheses -/

/-- A state that meets the laws and takes a step. -/
def lawful : State := { State.reset with pending := [.noticeEnableWrite 5] }

theorem lawful_steps : ∃ t, step lawful = .next t := ⟨_, rfl⟩

theorem lawful_recordLaw : lawful.recordLaw :=
  ⟨by decide +kernel, fun r h => by simp [lawful, State.reset, RecordUnit.reset] at h⟩

theorem lawful_lostLaw : lawful.lostLaw := fun c => by revert c; decide +kernel

theorem lawful_requestLaw : lawful.requestLaw :=
  ⟨⟨by decide +kernel, by decide +kernel, by decide +kernel, by decide +kernel⟩,
    by decide +kernel, by decide +kernel, by decide +kernel, by decide +kernel⟩

theorem test_witness_MemoryCanonicalKept : ∃ s t : State, s.mem.wf = true ∧ step s = .next t :=
  let ⟨t, h⟩ := lawful_steps; ⟨lawful, t, by decide +kernel, h⟩

theorem test_witness_DriveLawKept : ∃ s t : State, s.driveLaw ∧ step s = .next t :=
  let ⟨t, h⟩ := lawful_steps; ⟨lawful, t, by decide +kernel, h⟩

theorem test_witness_RestLawKept : ∃ s t : State, s.restLaw ∧ step s = .next t :=
  let ⟨t, h⟩ := lawful_steps; ⟨lawful, t, by decide +kernel, h⟩

theorem test_witness_BankLawKept : ∃ s t : State, s.bankLaw ∧ step s = .next t :=
  let ⟨t, h⟩ := lawful_steps; ⟨lawful, t, by decide +kernel, h⟩

theorem test_witness_QueueLawKept : ∃ s t : State, s.queueLaw ∧ step s = .next t :=
  let ⟨t, h⟩ := lawful_steps; ⟨lawful, t, by decide +kernel, h⟩

theorem test_witness_RecordLawKept : ∃ s t : State, s.recordLaw ∧ step s = .next t :=
  let ⟨t, h⟩ := lawful_steps; ⟨lawful, t, lawful_recordLaw, h⟩

theorem test_witness_LostLawKept : ∃ s t : State, s.lostLaw ∧ step s = .next t :=
  let ⟨t, h⟩ := lawful_steps; ⟨lawful, t, lawful_lostLaw, h⟩

theorem test_witness_RequestLawKept : ∃ s t : State, s.requestLaw ∧ step s = .next t :=
  let ⟨t, h⟩ := lawful_steps; ⟨lawful, t, lawful_requestLaw, h⟩

end Sys2Proof.Tests
end

section
/-! The split of the grant (R55): the share of motor A, the excess over a limit, the sum and the limits kept. -/

namespace Sys2Proof.Machine

/-! ### Signs -/

theorem signOf_mul_abs (x : Int) : signOf x * |x| = x := by
  unfold signOf
  split_ifs with hpos hneg
  · rw [abs_of_pos hpos, one_mul]
  · rw [abs_of_neg hneg, neg_one_mul, neg_neg]
  · have hx : x = 0 := by omega
    simp [hx]

theorem abs_signOf {x : Int} (hx : x ≠ 0) : |signOf x| = 1 := by
  unfold signOf
  split_ifs
  · exact abs_one
  · rw [abs_neg, abs_one]
  · omega

/-- A magnitude given the sign of a number other than 0 keeps its size. -/
theorem abs_signOf_mul {x k : Int} (hx : x ≠ 0) (hk : 0 ≤ k) : |signOf x * k| = k := by
  rw [abs_mul, abs_signOf hx, one_mul, abs_of_nonneg hk]

/-! ### The share of motor A (R55, step 1) -/

/-- `a` is a part of `t`: it lies between 0 and `t`. -/
def partOf (t a : Int) : Prop := (0 ≤ a ∧ a ≤ t) ∨ (t ≤ a ∧ a ≤ 0)

theorem partOf.rest {t a : Int} (h : partOf t a) : partOf t (t - a) := by
  unfold partOf at *
  omega

theorem partOf.signOf_mul {t a : Int} (h : partOf t a) : signOf t * |a| = a := by
  unfold signOf
  obtain ⟨h0, ht⟩ | ⟨ht, h0⟩ := h
  · rw [abs_of_nonneg h0]
    split_ifs <;> omega
  · rw [abs_of_nonpos h0]
    split_ifs <;> omega

theorem partOf.mul_nonneg {t a : Int} (h : partOf t a) : 0 ≤ t * a := by
  obtain ⟨h0, ht⟩ | ⟨ht, h0⟩ := h
  · exact Int.mul_nonneg (h0.trans ht) h0
  · exact mul_nonneg_of_nonpos_of_nonpos (ht.trans h0) h0

/-- The magnitudes of the two parts add up to that of the whole. -/
theorem partOf.abs_add_abs {t a : Int} (h : partOf t a) : |a| + |t - a| = |t| := by
  obtain ⟨h0, ht⟩ | ⟨ht, h0⟩ := h
  · rw [abs_of_nonneg h0, abs_of_nonneg (by omega), abs_of_nonneg (h0.trans ht)]
    ring
  · rw [abs_of_nonpos h0, abs_of_nonpos (by omega), abs_of_nonpos (ht.trans h0)]
    ring

/-- The rest, with the excess of a part over `k` added to it. -/
theorem partOf.rest_add_excess {t a : Int} (h : partOf t a) (k : Int) :
    t - a + signOf t * (|a| - k) = signOf t * (|t| - k) := by
  rw [mul_sub, mul_sub, h.signOf_mul, signOf_mul_abs]
  ring

theorem partOf.ne_zero_of_excess {t a k : Int} (h : partOf t a) (hk : 0 ≤ k) (hx : k < |a|) : t ≠ 0 := by
  rintro rfl
  have hsum := h.abs_add_abs
  rw [abs_zero] at hsum
  linarith [abs_nonneg (0 - a)]

theorem partOf.abs_rest_add_excess {t a k : Int} (h : partOf t a) (hk : 0 ≤ k) (hx : k < |a|) :
    |t - a + signOf t * (|a| - k)| = |t| - k := by
  rw [h.rest_add_excess]
  exact abs_signOf_mul (h.ne_zero_of_excess hk hx) (by linarith [h.abs_add_abs, abs_nonneg (t - a)])

section share

variable {share tg : Int}

/-- The share of motor A, rounded to nearest, halves away from zero. -/
def shareA (share tg : Int) : Int := roundDiv (tg * share) 1000

/-- The split with both pinions, its steps read on the two shares. -/
theorem splitBoth_eq (la lb : Int) : splitBoth share tg la lb =
    let a := if la < |shareA share tg| then signOf tg * la else shareA share tg
    let b := if la < |shareA share tg| then tg - shareA share tg + signOf tg * (|shareA share tg| - la)
      else tg - shareA share tg
    if lb < |b| then (a + signOf tg * (|b| - lb), signOf tg * lb) else (a, b) := rfl

/-- The rounding reads the sign of the grant, since the share is not negative. -/
theorem shareA_eq (h0 : 0 ≤ share) : shareA share tg =
    if 0 ≤ tg then (tg * share + 500) / 1000 else -((-tg * share + 500) / 1000) := by
  unfold shareA roundDiv
  rw [Int.neg_mul]
  by_cases htg : 0 ≤ tg
  · have hx : 0 ≤ tg * share := Int.mul_nonneg htg h0
    rw [if_pos htg, if_pos hx]
    omega
  · have hx : tg * share ≤ 0 := Int.mul_nonpos_of_nonpos_of_nonneg (by omega) h0
    rw [if_neg htg]
    split_ifs <;> omega

/-- A share of at most 1000 per mille is a part of the grant. -/
theorem partOf_shareA (h0 : 0 ≤ share) (h1 : share ≤ 1000) : partOf tg (shareA share tg) := by
  rw [shareA_eq h0, Int.neg_mul]
  split_ifs with htg
  · have hlo : 0 ≤ tg * share := Int.mul_nonneg htg h0
    have hhi : tg * share ≤ tg * 1000 := Int.mul_le_mul_of_nonneg_left h1 htg
    left
    omega
  · have hlo : tg * share ≤ 0 := Int.mul_nonpos_of_nonpos_of_nonneg (by omega) h0
    have hhi : tg * 1000 ≤ tg * share := Int.mul_le_mul_of_nonpos_left (by omega) h1
    right
    omega

end share

/-! ### The excess over a limit (R55, steps 2 and 3) -/

section excess

variable {share tg la lb : Int}

theorem splitBoth_of_within (ha : |shareA share tg| ≤ la) (hb : |tg - shareA share tg| ≤ lb) :
    splitBoth share tg la lb = (shareA share tg, tg - shareA share tg) := by
  simp only [splitBoth_eq, if_neg ha.not_gt, if_neg hb.not_gt]

/-- An excess of motor A goes to motor B, which has room for it. -/
theorem splitBoth_of_excess_a (h0 : 0 ≤ share) (h1 : share ≤ 1000) (hla : 0 ≤ la) (hl : |tg| ≤ la + lb)
    (ha : la < |shareA share tg|) :
    splitBoth share tg la lb = (signOf tg * la, tg - shareA share tg + signOf tg * (|shareA share tg| - la)) ∧
    |signOf tg * la| = la ∧ |tg - shareA share tg + signOf tg * (|shareA share tg| - la)| = |tg| - la := by
  have hp : partOf tg (shareA share tg) := partOf_shareA h0 h1
  have hb : |tg - shareA share tg + signOf tg * (|shareA share tg| - la)| = |tg| - la :=
    hp.abs_rest_add_excess hla ha
  have hroom : ¬ lb < |tg| - la := by omega
  refine ⟨?_, abs_signOf_mul (hp.ne_zero_of_excess hla ha) hla, hb⟩
  simp only [splitBoth_eq, if_pos ha, hb, if_neg hroom]

/-- An excess of motor B goes to motor A. -/
theorem splitBoth_of_excess_b (h0 : 0 ≤ share) (h1 : share ≤ 1000) (hlb : 0 ≤ lb)
    (ha : |shareA share tg| ≤ la) (hb : lb < |tg - shareA share tg|) :
    splitBoth share tg la lb = (shareA share tg + signOf tg * (|tg - shareA share tg| - lb), signOf tg * lb) ∧
    |signOf tg * lb| = lb ∧ |shareA share tg + signOf tg * (|tg - shareA share tg| - lb)| = |tg| - lb := by
  have hp : partOf tg (tg - shareA share tg) := (partOf_shareA h0 h1).rest
  have ha' : |shareA share tg + signOf tg * (|tg - shareA share tg| - lb)| = |tg| - lb := by
    simpa only [sub_sub_cancel] using hp.abs_rest_add_excess hlb hb
  refine ⟨?_, abs_signOf_mul (hp.ne_zero_of_excess hlb hb) hlb, ha'⟩
  simp only [splitBoth_eq, if_neg ha.not_gt, if_pos hb]

/-- The split with both pinions adds up to the grant and keeps both limits. -/
theorem splitBoth_law (h0 : 0 ≤ share) (h1 : share ≤ 1000) (hla : 0 ≤ la) (hlb : 0 ≤ lb) (hl : |tg| ≤ la + lb) :
    (splitBoth share tg la lb).1 + (splitBoth share tg la lb).2 = tg ∧
    |(splitBoth share tg la lb).1| ≤ la ∧ |(splitBoth share tg la lb).2| ≤ lb := by
  have hp : partOf tg (shareA share tg) := partOf_shareA h0 h1
  have hsum := hp.abs_add_abs
  rcases lt_or_ge la |shareA share tg| with ha | ha
  · obtain ⟨heq, hA, hB⟩ := splitBoth_of_excess_a h0 h1 hla hl ha
    rw [heq, hA, hB, mul_sub, hp.signOf_mul]
    exact ⟨by ring, le_rfl, by omega⟩
  rcases lt_or_ge lb |tg - shareA share tg| with hb | hb
  · obtain ⟨heq, hB, hA⟩ := splitBoth_of_excess_b h0 h1 hlb ha hb
    rw [heq, hA, hB, mul_sub, hp.rest.signOf_mul]
    exact ⟨by ring, by omega, le_rfl⟩
  · rw [splitBoth_of_within ha hb]
    exact ⟨by ring, ha, hb⟩

end excess

/-! ### The split by pinion set (R55) -/

section pinions

variable {c : DriveSettings} {tg la lb : Int}

theorem split_of_both (h : c.pinion = .both) :
    split c tg la lb = ⟨(splitBoth c.share tg la lb).1, (splitBoth c.share tg la lb).2⟩ := by
  simp only [split, h]

theorem split_of_aOnly (h : c.pinion = .aOnly) : split c tg la lb = ⟨tg, 0⟩ := by simp only [split, h]

theorem split_of_bOnly (h : c.pinion = .bOnly) : split c tg la lb = ⟨0, tg⟩ := by simp only [split, h]

theorem split_of_within (h : c.pinion = .both) (ha : |shareA c.share tg| ≤ la) (hb : |tg - shareA c.share tg| ≤ lb) :
    split c tg la lb = ⟨shareA c.share tg, tg - shareA c.share tg⟩ := by
  rw [split_of_both h, splitBoth_of_within ha hb]

theorem split_of_excess_a (h0 : 0 ≤ c.share) (h1 : c.share ≤ 1000) (hla : 0 ≤ la) (hl : |tg| ≤ la + lb)
    (h : c.pinion = .both) (ha : la < |shareA c.share tg|) :
    split c tg la lb =
      ⟨signOf tg * la, tg - shareA c.share tg + signOf tg * (|shareA c.share tg| - la)⟩ ∧
    |(split c tg la lb).a| = la ∧ |(split c tg la lb).b| = |tg| - la := by
  obtain ⟨heq, habsA, habsB⟩ := splitBoth_of_excess_a h0 h1 hla hl ha
  rw [split_of_both h, heq]
  exact ⟨rfl, habsA, habsB⟩

theorem split_of_excess_b (h0 : 0 ≤ c.share) (h1 : c.share ≤ 1000) (hlb : 0 ≤ lb) (h : c.pinion = .both)
    (ha : |shareA c.share tg| ≤ la) (hb : lb < |tg - shareA c.share tg|) :
    split c tg la lb =
      ⟨shareA c.share tg + signOf tg * (|tg - shareA c.share tg| - lb), signOf tg * lb⟩ ∧
    |(split c tg la lb).b| = lb ∧ |(split c tg la lb).a| = |tg| - lb := by
  obtain ⟨heq, habsB, habsA⟩ := splitBoth_of_excess_b h0 h1 hlb ha hb
  rw [split_of_both h, heq]
  exact ⟨rfl, habsB, habsA⟩

/-- The law of R55: the parts add up to the grant and keep their limits, where the grant keeps the sum of the limits and a
motor outside the set has the limit 0. -/
theorem split_law (h0 : 0 ≤ c.share) (h1 : c.share ≤ 1000) (hla : 0 ≤ la) (hlb : 0 ≤ lb) (hl : |tg| ≤ la + lb)
    (hA : c.pinion = .aOnly → lb = 0) (hB : c.pinion = .bOnly → la = 0) :
    (split c tg la lb).a + (split c tg la lb).b = tg ∧ |(split c tg la lb).a| ≤ la ∧ |(split c tg la lb).b| ≤ lb := by
  cases hp : c.pinion with
  | both =>
    rw [split_of_both hp]
    exact splitBoth_law h0 h1 hla hlb hl
  | aOnly =>
    rw [split_of_aOnly hp]
    rw [hA hp, add_zero] at hl
    exact ⟨add_zero tg, hl, by simpa using hlb⟩
  | bOnly =>
    rw [split_of_bOnly hp]
    rw [hB hp, zero_add] at hl
    exact ⟨zero_add tg, by simpa using hla, hl⟩

end pinions

end Sys2Proof.Machine
end

section
/-! The grant stays within the limits of its own direction (R47 to R54), and the limits are not negative. -/

namespace Sys2Proof.Machine

/-! ### The envelope (R48, R49) -/

/-- Between two breakpoints of no negative limit the line has no negative value (R48). -/
theorem interpolate_nonneg {l0 l1 s0 s1 s : Int} (h0 : 0 ≤ l0) (h1 : 0 ≤ l1) (hlo : s0 ≤ s) (hhi : s < s1) :
    0 ≤ interpolate l0 l1 s0 s1 s := by
  have hx : -l0 * (s1 - s0) ≤ (l1 - l0) * (s - s0) := by
    have hl : 0 ≤ l1 * (s - s0) := Int.mul_nonneg h1 (by omega)
    have hr : 0 ≤ l0 * (s1 - s) := Int.mul_nonneg h0 (by omega)
    linarith
  have hd : -l0 ≤ truncDiv ((l1 - l0) * (s - s0)) (s1 - s0) := Int.le_tdiv_of_mul_le (by omega) hx
  unfold interpolate
  omega

/-- Limits of no negative value in both directions. -/
def DirLimit.nonneg (l : DirLimit) : Prop := ∀ d, 0 ≤ l.get d

theorem DirLimit.nonneg_mk {m g : Int} (hm : 0 ≤ m) (hg : 0 ≤ g) : DirLimit.nonneg ⟨m, g⟩
  | .motoring => hm
  | .regenerating => hg

/-- The envelope has no negative limit at a speed that its first breakpoint does not exceed. -/
theorem envelopeAt_nonneg (e : List Breakpoint) (v : Int) (hl : ∀ b ∈ e, 0 ≤ b.lm ∧ 0 ≤ b.lg)
    (hv : ∀ b, e.head? = some b → b.speed ≤ v) : (envelopeAt e v).nonneg := by
  induction e with
  | nil => exact DirLimit.nonneg_mk le_rfl le_rfl
  | cons b rest ih =>
    obtain ⟨hm, hg⟩ := hl b (by simp)
    cases rest with
    | nil => exact DirLimit.nonneg_mk hm hg
    | cons b' bs =>
      obtain ⟨hm', hg'⟩ := hl b' (by simp)
      have hb : b.speed ≤ v := hv b rfl
      unfold envelopeAt
      split_ifs with hlt
      · exact DirLimit.nonneg_mk (interpolate_nonneg hm hm' hb hlt) (interpolate_nonneg hg hg' hb hlt)
      · refine ih (fun x hx => hl x (List.mem_cons_of_mem _ hx)) fun x hx => ?_
        obtain rfl : b' = x := Option.some.inj hx
        omega

theorem baseLimit_nonneg {c : DriveSettings} (hc : c.sane) (drive : DriveState) (kind : RunKind) (n : Int) {l : Int}
    (hl : 0 ≤ l) : 0 ≤ baseLimit c drive kind n l := by
  obtain ⟨hlb, hlc, -⟩ := hc
  unfold baseLimit
  dsimp only
  split_ifs
  · exact le_max_of_le_right hlb
  · exact le_max_of_le_right hlb
  · exact hlc
  · exact hl

theorem baseLimits_nonneg {c : DriveSettings} (hc : c.sane) (drive : DriveState) (kind : RunKind) (n : Int)
    {e : List Breakpoint} (he : envelopeSane e) : (baseLimits c drive kind n e).nonneg := by
  obtain ⟨hl, -, hfirst⟩ := he
  have henv : (envelopeAt e |n|).nonneg := envelopeAt_nonneg e |n| hl fun b hb => (hfirst b hb).trans (abs_nonneg n)
  exact DirLimit.nonneg_mk (baseLimit_nonneg hc drive kind n (henv .motoring))
    (baseLimit_nonneg hc drive kind n (henv .regenerating))

theorem envelopeSane_nil : envelopeSane [] := ⟨by simp, List.Pairwise.nil, by simp⟩

/-! ### The limits of the motors (R51) -/

/-- Both motors' limits are not negative. -/
def limitsNonneg (l : Pair DirLimit) : Prop := ∀ x, (l.get x).nonneg

theorem motorLimit_nonneg (c : DriveSettings) {l0 : DirLimit} (hl : l0.nonneg) {factor : Int} (hf : 0 ≤ factor) (x : Side) :
    (motorLimit c l0 factor x).nonneg := by
  unfold motorLimit
  split_ifs
  · exact DirLimit.nonneg_mk (Int.ediv_nonneg (Int.mul_nonneg (hl .motoring) hf) (by decide))
      (Int.ediv_nonneg (Int.mul_nonneg (hl .regenerating) hf) (by decide))
  · exact DirLimit.nonneg_mk le_rfl le_rfl

/-- A motor outside the pinion set has the limit 0 in each direction. -/
theorem motorLimit_get_of_not_has {c : DriveSettings} {x : Side} (h : c.pinion.has x = false) (l0 : DirLimit)
    (factor : Int) (d : LimitDir) : (motorLimit c l0 factor x).get d = 0 := by
  rw [motorLimit, h, if_neg Bool.false_ne_true]
  cases d <;> rfl

theorem totalLimit_nonneg {l : Pair DirLimit} (hl : limitsNonneg l) (d : LimitDir) : 0 ≤ totalLimit l d :=
  Int.add_nonneg (hl .a d) (hl .b d)

/-! ### The clamp in the torque's own direction (R51, R54) -/

/-- A magnitude other than 0 with the sign of `t` has the direction of `t`. -/
theorem directionOf_signOf_mul (t n : Int) {m : Int} (hm : 0 < m) : directionOf (signOf t * m) n = directionOf t n := by
  unfold signOf
  split_ifs with hpos hneg
  · simp [directionOf, hpos, hm, hpos.not_gt, hm.not_gt]
  · have hmn : ¬ m < 0 := hm.not_gt
    simp [directionOf, hneg, hm, hneg.not_gt, hmn]
  · have ht : t = 0 := by omega
    simp [ht]

/-- A clamped torque keeps the sum of the limits of the direction that it has itself. -/
theorem abs_clampDirectional_le {l : Pair DirLimit} (hl : limitsNonneg l) (n t : Int) :
    |clampDirectional l n t| ≤ totalLimit l (directionOf (clampDirectional l n t) n) := by
  have htot := totalLimit_nonneg hl (directionOf t n)
  have hmin : 0 ≤ min |t| (totalLimit l (directionOf t n)) := le_min (abs_nonneg t) htot
  rcases hmin.eq_or_lt with h0 | hpos
  · rw [clampDirectional, ← h0, mul_zero, abs_zero]
    exact totalLimit_nonneg hl _
  · have ht : t ≠ 0 := by
      rintro rfl
      simp at hpos
    rw [clampDirectional, directionOf_signOf_mul t n hpos, abs_signOf_mul ht hmin]
    exact min_le_right _ _

/-! ### The grant of an expiry (R49 to R55) -/

/-- The law of R55 on what the governor publishes: the torques add up to the grant and keep the published limits. -/
def Governor.splitLaw (g : Governor) : Prop :=
  g.torque.a + g.torque.b = g.tg ∧ |g.torque.a| ≤ g.publishedLimit .a ∧ |g.torque.b| ≤ g.publishedLimit .b

section grant

variable (g : Governor) (c : DriveSettings) (t : Pair Taken) (n : Int) (l0 : DirLimit)

/-- The torques of an expiry are the split of its grant over the limits that it publishes. -/
theorem Governor.grant_torque : (g.grant c t n l0).torque =
    split c (g.grant c t n l0).tg ((g.grant c t n l0).publishedLimit .a) ((g.grant c t n l0).publishedLimit .b) := by
  simp only [Governor.grant, Governor.publishedLimit, Pair.get_a, Pair.get_b]

theorem Governor.grant_limit (x : Side) : (g.grant c t n l0).limit.get x = motorLimit c l0 (g.factor.get x) x := by
  cases x <;> rfl

/-- The grant is a torque clamped in its own direction, over the limits and the direction that it publishes. -/
theorem Governor.grant_tg : ∃ tr, (g.grant c t n l0).tg = clampDirectional (g.grant c t n l0).limit n tr ∧
    (g.grant c t n l0).limitDir = directionOf (g.grant c t n l0).tg n := ⟨_, rfl, rfl⟩

variable {g c l0}

theorem Governor.grant_limitsNonneg (hl : l0.nonneg) (hf : ∀ x, 0 ≤ g.factor.get x) :
    limitsNonneg (g.grant c t n l0).limit := fun x => by
  rw [Governor.grant_limit]
  exact motorLimit_nonneg c hl (hf x) x

theorem Governor.grant_abs_tg_le (hl : limitsNonneg (g.grant c t n l0).limit) :
    |(g.grant c t n l0).tg| ≤ (g.grant c t n l0).publishedLimit .a + (g.grant c t n l0).publishedLimit .b := by
  obtain ⟨tr, htg, hdir⟩ := Governor.grant_tg g c t n l0
  have hle := abs_clampDirectional_le hl n tr
  rw [← htg, ← hdir] at hle
  exact hle

theorem Governor.grant_publishedLimit_of_not_has {x : Side} (h : c.pinion.has x = false) :
    (g.grant c t n l0).publishedLimit x = 0 := by
  rw [Governor.publishedLimit, Governor.grant_limit, motorLimit_get_of_not_has h]

theorem Governor.grant_splitLaw (hc : c.sane) (hl : l0.nonneg) (hf : ∀ x, 0 ≤ g.factor.get x) :
    (g.grant c t n l0).splitLaw := by
  obtain ⟨-, -, -, h0, h1, -⟩ := hc
  have hn := Governor.grant_limitsNonneg (c := c) t n hl hf
  unfold Governor.splitLaw
  rw [Governor.grant_torque]
  exact split_law h0 h1 (hn .a _) (hn .b _) (Governor.grant_abs_tg_le t n hn)
    (fun hp => Governor.grant_publishedLimit_of_not_has t n (by rw [hp]; rfl))
    (fun hp => Governor.grant_publishedLimit_of_not_has t n (by rw [hp]; rfl))

end grant

end Sys2Proof.Machine
end

section
/-! What an event can do to the grant besides a governor period: keep it, or end it by an entry into a state at rest (R43)
or by a reset (R37). -/

namespace Sys2Proof.Machine

/-- From `s` to `t` the drive state and the governor stay, or the drive comes to a state without a grant and the governor is at
rest or reset. -/
inductive State.GrantStep (s t : State) : Prop
  | kept (drive : t.seq.drive = s.seq.drive) (gov : t.gov = s.gov)
  | zeroed (drive : t.seq.drive.governed = false) (gov : t.gov = s.gov.zeroed)
  | reset (drive : t.seq.drive.governed = false) (gov : t.gov = .reset)

namespace State.GrantStep

variable {s t u : State}

theorem of_frame (hseq : t.seq = s.seq) (hgov : t.gov = s.gov) : s.GrantStep t := .kept (by rw [hseq]) hgov

theorem refl (s : State) : s.GrantStep s := .kept rfl rfl

theorem trans (h : s.GrantStep t) (h' : t.GrantStep u) : s.GrantStep u := by
  cases h' with
  | kept hdrive' hgov' =>
    cases h with
    | kept hdrive hgov => exact .kept (hdrive'.trans hdrive) (hgov'.trans hgov)
    | zeroed hdrive hgov => exact .zeroed (hdrive' ▸ hdrive) (hgov'.trans hgov)
    | reset hdrive hgov => exact .reset (hdrive' ▸ hdrive) (hgov'.trans hgov)
  | zeroed hdrive' hgov' =>
    cases h with
    | kept hdrive hgov => exact .zeroed hdrive' (hgov ▸ hgov')
    | zeroed hdrive hgov => exact .zeroed hdrive' (by rw [hgov', hgov]; rfl)
    | reset hdrive hgov => exact .reset hdrive' (by rw [hgov', hgov]; rfl)
  | reset hdrive' hgov' => exact .reset hdrive' hgov'

/-- What follows in an event keeps or ends the grant if what it follows does. -/
theorem unlessReset {f : State → State} (s0 : State) (h : s.GrantStep t) (hf : ∀ u : State, u.GrantStep (f u)) :
    s.GrantStep (s0.unlessReset f t) :=
  State.unlessReset_holds s.GrantStep s0 f t h (h.trans (hf t))

end State.GrantStep

/-! ### Resets and entries -/

theorem State.performReset_grantStep (s : State) : s.GrantStep s.performReset := by
  refine .reset ?_ ?_
  · unfold State.performReset State.freshEStop
    split_ifs <;> simp [State.resetBlocks] <;> rfl
  · simp [State.performReset, State.resetBlocks]

theorem State.pendingRestart_grantStep (s : State) : s.GrantStep s.pendingRestart := by
  unfold State.pendingRestart
  split_ifs
  · exact s.performReset_grantStep
  · exact .refl s

theorem State.enterStopped_grantStep (s : State) : s.GrantStep s.enterStopped := by
  refine .trans (t := (s.gatesOff.setDriveState .stopped).restEntry) (.zeroed ?_ ?_) (State.pendingRestart_grantStep _)
  · simp [DriveState.governed]
  · simp

theorem State.enterTripped_grantStep (s : State) : s.GrantStep s.enterTripped := by
  refine .trans (t := (s.gatesOff.setSeq { s.gatesOff.seq.tripped with drive := .tripped }).backrollOff.restEntry)
    (.zeroed ?_ ?_) (State.pendingRestart_grantStep _)
  · simp [DriveState.governed]
  · simp

/-! ### Trips (R106 to R110) -/

theorem State.firstCause_grantStep (s : State) (k : FaultKind) (d : Option Nat) : s.GrantStep (s.firstCause k d) :=
  .trans (.of_frame (by simp) (by simp)) (State.enterTripped_grantStep _)

theorem State.tripCause_grantStep (s : State) (k : FaultKind) (d : Option Nat) : s.GrantStep (s.tripCause k d) := by
  unfold State.tripCause
  split
  · exact .refl s
  · split_ifs
    · exact .of_frame (by simp) (by simp)
    · exact (s.firstCause_grantStep k d).trans (.of_frame (by simp) (by simp))

theorem State.tripRise_grantStep (s : State) (k : FaultKind) (src : Source) : s.GrantStep (s.tripRise k src) := by
  unfold State.tripRise
  split_ifs
  · exact .refl s
  · exact .trans (.of_frame (by simp) (by simp)) (State.tripCause_grantStep _ k none)

theorem State.fall_grantStep (s : State) (k : FaultKind) (src : Source) : s.GrantStep (s.fall k src) :=
  .of_frame (by simp) (by simp)

theorem State.tripPulse_grantStep (s : State) (k : FaultKind) : s.GrantStep (s.tripPulse k) :=
  (s.tripRise_grantStep k .first).trans (State.fall_grantStep _ k .first)

theorem State.tripLevel_grantStep (s : State) (k : FaultKind) (now : Bool) : s.GrantStep (s.tripLevel k now) := by
  unfold State.tripLevel
  split_ifs
  · exact s.tripRise_grantStep k .first
  · exact s.fall_grantStep k .first

theorem State.takeLatched_grantStep (s : State) (k : FaultKind) : s.GrantStep (s.takeLatched k) := by
  unfold State.takeLatched
  dsimp only
  split_ifs
  · exact .of_frame (by simp) (by simp)
  · exact s.firstCause_grantStep k _

/-- The departure from UNCONFIGURED (R20, R107). -/
theorem State.departureTest_grantStep (s : State) : s.GrantStep s.departureTest := by
  have hlatched : s.GrantStep (s.faults.latchedKinds.foldl State.takeLatched s.enterStopped) :=
    foldl_holds s.GrantStep State.takeLatched (fun u k h => h.trans (u.takeLatched_grantStep k)) _ _
      s.enterStopped_grantStep
  unfold State.departureTest
  split_ifs
  · exact s.enterStopped_grantStep
  · exact hlatched.trans (.of_frame (by simp) (by simp))
  · exact .refl s

/-! ### The reports and the end of a governor period (R59 to R61, R64) -/

theorem State.governorReports_grantStep (s : State) (devA devB jam fast : Bool) :
    s.GrantStep (s.governorReports devA devB jam fast) := by
  have hpulse : ∀ (report : Bool) (k : FaultKind) (u : State), u.GrantStep (if report then u.tripPulse k else u) := by
    intro report k u
    split_ifs
    · exact u.tripPulse_grantStep k
    · exact .refl u
  exact (((hpulse devA (.torqueDev .a) s).unlessReset s (hpulse devB (.torqueDev .b))).unlessReset s
    (hpulse jam .jam)).unlessReset s fun u => u.tripLevel_grantStep .overspeed fast

theorem State.rewriteStatus_grantStep (s : State) : s.GrantStep s.rewriteStatus := .of_frame (by simp) (by simp)

theorem State.governorEnd_grantStep (slot : Option (Fin 8)) (s : State) : s.GrantStep (State.governorEnd slot s) := by
  cases slot with
  | none => exact s.rewriteStatus_grantStep
  | some k =>
    have hfinish : s.GrantStep (s.finish k .ok [1]) := .of_frame (by simp) (by simp)
    exact (hfinish.trans (State.departureTest_grantStep _)).trans (State.rewriteStatus_grantStep _)

end Sys2Proof.Machine
end

section
/-! The governor period: what it computes and publishes, and that the law of the split holds after it (R41 to R55). -/

namespace Sys2Proof.Machine

theorem exec_governorPeriod (s : State) : exec .governorPeriod s = .next s.governorPeriod := rfl

/-! ### The computation of an expiry -/

/-- The state that an expiry computes from: both regulators taken (R41), a table awaiting force in force (R64). -/
def State.periodStart (s : State) : State :=
  ((s.takeRegulator .a).takeRegulator .b).setGov s.gov.takeEnvelope

/-- The governor as an expiry computes it, before the supervisions. -/
def State.periodValues (s : State) : Governor :=
  s.periodStart.governorValues (s.regs.map Regulator.handOver) (s.watch.groups.map GroupWatch.demand)

/-- The state that an expiry publishes, before the reports. -/
def State.periodPublished (s : State) : State :=
  s.periodStart.setGov (s.periodValues.supervised s.cfg s.seq.drive s.meas.n)

@[simp] theorem State.periodStart_seq (s : State) : s.periodStart.seq = s.seq := by simp [State.periodStart]
@[simp] theorem State.periodStart_meas (s : State) : s.periodStart.meas = s.meas := by simp [State.periodStart]
@[simp] theorem State.periodStart_watch (s : State) : s.periodStart.watch = s.watch := by simp [State.periodStart]
@[simp] theorem State.periodStart_gov (s : State) : s.periodStart.gov = s.gov.takeEnvelope := by simp [State.periodStart]
@[simp] theorem State.periodStart_cfg (s : State) : s.periodStart.cfg = s.cfg := by simp [State.periodStart, State.cfg]

@[simp] theorem State.periodPublished_seq (s : State) : s.periodPublished.seq = s.seq := by simp [State.periodPublished]
@[simp] theorem State.periodPublished_gov (s : State) :
    s.periodPublished.gov = s.periodValues.supervised s.cfg s.seq.drive s.meas.n := by simp [State.periodPublished]

/-- After the publication an expiry only keeps the grant or ends it. -/
theorem State.governorPeriod_grantStep (s : State) : s.periodPublished.GrantStep s.governorPeriod := by
  have hpublish : s.periodPublished.GrantStep (s.periodStart.governorPublish (s.regs.map Regulator.handOver)) := by
    unfold State.governorPublish
    rw [State.periodStart_cfg, State.periodStart_seq, State.periodStart_meas, State.periodStart_watch]
    refine .trans (.of_frame ?_ ?_) (State.governorReports_grantStep _ _ _ _ _)
    · split_ifs <;> simp
    · split_ifs <;> simp [State.periodValues]
  have hstart : s.governorPeriod = s.unlessReset (State.governorEnd (s.gov.awaiting.map Prod.snd))
      (s.periodStart.governorPublish (s.regs.map Regulator.handOver)) := by
    simp [State.governorPeriod, State.periodStart]
  rw [hstart]
  exact hpublish.unlessReset s (State.governorEnd_grantStep _)

section values

variable (s : State)

/-- In BREAKAWAY, RUN and STOPPING an expiry grants over the limits of the envelope in force (R49). -/
theorem State.periodValues_of_governed (h : s.seq.drive.governed = true) : s.periodValues =
    (((s.gov.takeEnvelope.common s.cfg (s.regs.map Regulator.handOver) (s.watch.groups.map GroupWatch.demand)).regulate
      s.cfg (s.seq.r - s.meas.n)).grant s.cfg (s.regs.map Regulator.handOver) s.meas.n
      (baseLimits s.cfg s.seq.drive s.seq.runKind s.meas.n (s.gov.takeEnvelope.envelope.getD []))) := by
  simp [State.periodValues, State.governorValues, h, Governor.common]

theorem State.periodValues_of_not_governed (h : s.seq.drive.governed = false) : s.periodValues =
    (s.gov.takeEnvelope.common s.cfg (s.regs.map Regulator.handOver) (s.watch.groups.map GroupWatch.demand)).idlePeriod
      s.seq.drive s.seq.flux := by
  simp [State.periodValues, State.governorValues, h]

theorem State.periodValues_torque (h : s.seq.drive.governed = true) : s.periodValues.torque =
    split s.cfg s.periodValues.tg (s.periodValues.publishedLimit .a) (s.periodValues.publishedLimit .b) := by
  rw [s.periodValues_of_governed h, Governor.grant_torque]

end values

/-! ### The law of the split after a governor period -/

theorem Governor.takeEnvelope_envelopeSane {g : Governor} (he : ∀ e, g.envelope = some e → envelopeSane e)
    (ha : ∀ e k, g.awaiting = some (e, k) → envelopeSane e) : envelopeSane (g.takeEnvelope.envelope.getD []) := by
  unfold Governor.takeEnvelope
  split
  · next e k hawait => exact ha e k hawait
  · cases henv : g.envelope with
    | none => exact envelopeSane_nil
    | some e => exact he e henv

theorem Governor.takeEnvelope_h (g : Governor) : g.takeEnvelope.h = g.h := by
  unfold Governor.takeEnvelope
  split <;> rfl

/-- The derate factors are not negative where the host factor and the group demands are not (R50). -/
theorem Governor.common_factor_nonneg {g : Governor} (c : DriveSettings) (t : Pair Taken) {demand : Pair Int}
    (hh : 0 ≤ g.h) (hd : ∀ x, 0 ≤ demand.get x) (x : Side) : 0 ≤ (g.common c t demand).factor.get x := by
  cases x with
  | a => exact le_min hh (hd .a)
  | b => exact le_min hh (hd .b)

/-- With no grant the law holds over any limits that are not negative. -/
theorem Governor.splitLaw_of_still {g : Governor} (hl : limitsNonneg g.limit) (h : g.tg = 0) (ht : g.torque = ⟨0, 0⟩) :
    g.splitLaw := by
  unfold Governor.splitLaw
  rw [h, ht, abs_zero]
  exact ⟨rfl, hl .a _, hl .b _⟩

theorem limitsNonneg_zero : limitsNonneg ⟨⟨0, 0⟩, ⟨0, 0⟩⟩
  | .a => DirLimit.nonneg_mk le_rfl le_rfl
  | .b => DirLimit.nonneg_mk le_rfl le_rfl

/-- What keeps or ends a grant keeps the law. -/
theorem State.GrantStep.splitLaw {s t : State} (h : s.GrantStep t) (hl : limitsNonneg s.gov.limit) (hs : s.gov.splitLaw) :
    t.gov.splitLaw := by
  cases h with
  | kept _ hgov => rwa [hgov]
  | zeroed _ hgov =>
    rw [hgov]
    exact Governor.splitLaw_of_still hl rfl rfl
  | reset _ hgov =>
    rw [hgov]
    exact Governor.splitLaw_of_still limitsNonneg_zero rfl rfl

section law

variable {s : State} (hc : s.cfg.sane) (he : ∀ e, s.gov.envelope = some e → envelopeSane e)
  (ha : ∀ e k, s.gov.awaiting = some (e, k) → envelopeSane e) (hh : 0 ≤ s.gov.h)
  (hd : ∀ x, 0 ≤ (s.watch.groups.get x).demand)

include hc he ha hh hd

theorem State.periodValues_law : limitsNonneg s.periodValues.limit ∧ s.periodValues.splitLaw := by
  cases hg : s.seq.drive.governed with
  | true =>
    have hl0 := baseLimits_nonneg hc s.seq.drive s.seq.runKind s.meas.n (Governor.takeEnvelope_envelopeSane he ha)
    have hdemand : ∀ x, 0 ≤ (s.watch.groups.map GroupWatch.demand).get x
      | .a => hd .a
      | .b => hd .b
    have hfactor := Governor.common_factor_nonneg (g := s.gov.takeEnvelope) s.cfg (s.regs.map Regulator.handOver)
      (by rwa [Governor.takeEnvelope_h]) hdemand
    rw [s.periodValues_of_governed hg]
    exact ⟨Governor.grant_limitsNonneg _ _ hl0 hfactor, Governor.grant_splitLaw _ _ hc hl0 hfactor⟩
  | false =>
    rw [s.periodValues_of_not_governed hg]
    exact ⟨limitsNonneg_zero, Governor.splitLaw_of_still limitsNonneg_zero rfl rfl⟩

/-- After every governor period the torques add up to the grant and keep the published limits. -/
theorem State.governorPeriod_splitLaw : s.governorPeriod.gov.splitLaw := by
  obtain ⟨hlimit, hlaw⟩ := State.periodValues_law hc he ha hh hd
  refine s.governorPeriod_grantStep.splitLaw ?_ ?_
  · rw [State.periodPublished_gov]
    exact hlimit
  · rw [State.periodPublished_gov]
    exact hlaw

end law

/-- A governor period that keeps BREAKAWAY, RUN or STOPPING publishes the split of its grant. -/
theorem State.governorPeriod_torque (s : State) (h : s.seq.drive.governed = true)
    (hdrive : s.governorPeriod.seq.drive = s.seq.drive) : s.governorPeriod.gov.torque =
    split s.cfg s.governorPeriod.gov.tg (s.governorPeriod.gov.publishedLimit .a)
      (s.governorPeriod.gov.publishedLimit .b) := by
  cases s.governorPeriod_grantStep with
  | kept _ hgov =>
    rw [hgov, State.periodPublished_gov]
    exact s.periodValues_torque h
  | zeroed hrest _ =>
    rw [hdrive, h] at hrest
    contradiction
  | reset hrest _ =>
    rw [hdrive, h] at hrest
    contradiction

/-- A governor period outside BREAKAWAY, RUN and STOPPING leaves no grant and no torque (R42). -/
theorem State.governorPeriod_rest (s : State) (h : s.seq.drive.governed = false) :
    s.governorPeriod.gov.tg = 0 ∧ s.governorPeriod.gov.torque = ⟨0, 0⟩ := by
  cases s.governorPeriod_grantStep with
  | kept _ hgov =>
    rw [hgov, State.periodPublished_gov, s.periodValues_of_not_governed h]
    exact ⟨rfl, rfl⟩
  | zeroed _ hgov =>
    rw [hgov]
    exact ⟨rfl, rfl⟩
  | reset _ hgov =>
    rw [hgov]
    exact ⟨rfl, rfl⟩

/-! ### The obligation -/

/-- Settles O13: the split is read on the parts of the grant, and the governor period publishes it; what follows the
publication only keeps the grant or ends it. -/
theorem splitKeepsSumAndLimits : Obligations.SplitKeepsSumAndLimits := by
  unfold Obligations.SplitKeepsSumAndLimits
  refine ⟨fun c tg la lb h0 h1 hla hlb hl hA hB => ?_, fun s h => ?_, fun s h => ?_, fun s hc he ha hh hd => ?_⟩
  · rw [← shareA_eq h0]
    have hpart : partOf tg (shareA c.share tg) := partOf_shareA h0 h1
    obtain ⟨hsum, hlimA, hlimB⟩ := split_law h0 h1 hla hlb hl hA hB
    exact ⟨hsum, hlimA, hlimB, split_of_aOnly, split_of_bOnly, fun _ => ⟨hpart.mul_nonneg, hpart.rest.mul_nonneg⟩,
      split_of_within, split_of_excess_a h0 h1 hla hl, split_of_excess_b h0 h1 hlb⟩
  · exact ⟨s.governorPeriod, exec_governorPeriod s, s.governorPeriod_torque h⟩
  · exact ⟨s.governorPeriod, exec_governorPeriod s, s.governorPeriod_rest h⟩
  · exact ⟨s.governorPeriod, exec_governorPeriod s, State.governorPeriod_splitLaw hc he ha hh hd⟩

end Sys2Proof.Machine
end

section
/-! Host writes to the state word of a list entry (R141): what such a write leaves of the record list, of its own state word and of
everything else, row by row of the table. -/

namespace Sys2Proof.Machine

/-! ### The record list -/

@[simp] theorem RecordUnit.listEntry_setListEntry_same (r : RecordUnit) (k : Fin 8) (e : ListEntry) :
    (r.setListEntry k e).listEntry k = e :=
  vget_vset_same r.entries k e

theorem RecordUnit.listEntry_setListEntry_other (r : RecordUnit) {k j : Fin 8} (e : ListEntry) (h : j ≠ k) :
    (r.setListEntry k e).listEntry j = r.listEntry j :=
  vget_vset_other r.entries e h

theorem ListEntry.held_iff (e : ListEntry) : e.held = true ↔ e.state ≠ .empty := decide_eq_true_iff

/-! ### An entry put into the list and its state word -/

theorem State.putEntry_record (s : State) (k : Fin 8) (e : ListEntry) :
    (s.putEntry k e).record = s.record.setListEntry k e := rfl

theorem State.putEntry_mem (s : State) (k : Fin 8) (e : ListEntry) :
    (s.putEntry k e).mem = s.mem.writeWord (entryAddr k) (natWord e.state.code) := rfl

@[simp] theorem State.putEntry_listEntry (s : State) (k : Fin 8) (e : ListEntry) :
    (s.putEntry k e).record.listEntry k = e := by
  rw [State.putEntry_record, RecordUnit.listEntry_setListEntry_same]

/-- Putting an entry touches that entry and its state word, and the word shows the state kept. -/
theorem State.putEntry_entryOnly (s : State) (k : Fin 8) (e : ListEntry) : s.entryOnly (s.putEntry k e) k := by
  refine ⟨rfl, rfl, fun j hj => ?_, ?_, fun a ha => ?_⟩
  · rw [State.putEntry_record, RecordUnit.listEntry_setListEntry_other _ _ hj]
  · rw [State.putEntry_mem, Memory.readWord_writeWord_same, State.putEntry_listEntry]
  · rw [State.putEntry_mem]
    exact Memory.read_writeWords_outside _ _ _ _ (by simp only [List.length_singleton]; omega)

/-! ### The MISUSE count -/

theorem State.misuse_count (s : State) :
    s.misuse.req.misuse = if s.req.misuse < 65535 then s.req.misuse + 1 else 65535 := rfl

/-- Counting a misuse afterwards stays within the entry, its state word and the count. -/
theorem State.entryOnly.misuse {s t : State} {k : Fin 8} (h : s.entryOnly t k) : s.entryOnly t.misuse k := by
  obtain ⟨hstate, hrecord, hothers, hword, hmem⟩ := h
  refine ⟨?_, hrecord, hothers, hword, hmem⟩
  rw [hstate]
  rfl

/-! ### The rows of R141 -/

theorem exec_listEntryStateWrite (k : Fin 8) (v : Word) (s : State) :
    exec (.listEntryStateWrite k v) s = .next (s.entryWrite k v) := rfl

/-- TAKEN on FILLED or TAKEN. -/
theorem State.entryWrite_taken {s : State} {k : Fin 8} (hs : s.req.starting = false)
    (he : (s.record.listEntry k).state ≠ .empty) :
    s.entryWrite k 2 = s.putEntry k { s.record.listEntry k with state := .taken } := by
  simp [State.entryWrite, hs, (ListEntry.held_iff _).mpr he]

/-- EMPTY on any state. -/
theorem State.entryWrite_empty {s : State} {k : Fin 8} (hs : s.req.starting = false) :
    s.entryWrite k 0 = s.putEntry k ⟨.empty, none, .none⟩ := by
  simp [State.entryWrite, hs]

/-- Any other value or case: the entry held is written back, and the write counts as misuse. -/
theorem State.entryWrite_misuse {s : State} {k : Fin 8} {v : Word} (hs : s.req.starting = false) (h0 : v ≠ 0)
    (h2 : ¬(v = 2 ∧ (s.record.listEntry k).state ≠ .empty)) :
    s.entryWrite k v = (s.putEntry k (s.record.listEntry k)).misuse := by
  have htaken : ¬(v = 2 ∧ (s.record.listEntry k).held = true) := by rwa [ListEntry.held_iff]
  simp only [State.entryWrite, hs, Bool.and_eq_true, decide_eq_true_eq, Bool.false_eq_true, if_false, if_neg htaken, if_neg h0]

/-! ### The obligation -/

/-- Settles O21: the three outcomes of R141's table are an entry put, an entry put EMPTY, and the entry held put back and
counted as misuse. -/
theorem listEntryWriteTable : Obligations.ListEntryWriteTable := by
  unfold Obligations.ListEntryWriteTable
  intro s k hs
  refine ⟨fun hheld => ?_, ?_, fun v h0 h2 => ?_⟩
  · have he : (s.record.listEntry k).state ≠ .empty := by
      rcases hheld with h | h <;> simp [h]
    rw [exec_listEntryStateWrite, State.entryWrite_taken hs he]
    exact ⟨_, rfl, State.putEntry_entryOnly _ _ _, by simp, by simp⟩
  · rw [exec_listEntryStateWrite, State.entryWrite_empty hs]
    exact ⟨_, rfl, State.putEntry_entryOnly _ _ _, by simp, by simp, by simp⟩
  · rw [exec_listEntryStateWrite, State.entryWrite_misuse hs h0 h2]
    exact ⟨_, rfl, (State.putEntry_entryOnly _ _ _).misuse, by simp, by simp [State.misuse_count]⟩

end Sys2Proof.Machine
end

section
/-! What a command leaves behind, and the relation between two states that the laws of the device go through: the queue stays,
the exchange memory stays canonical, and each law is kept. An event's effects are composed from the replacements of single
blocks by transitivity, so that each law is looked at once per block. -/

namespace Sys2Proof.Machine

/-! ### Steps and commands -/

/-- The state that a command answers; of one that stops, the state before it. -/
def State.after (s : State) (c : Instr) : State :=
  match exec c s with
  | .next t => t
  | _ => s

theorem State.after_of_next {c : Instr} {s t : State} (h : exec c s = .next t) : s.after c = t := by
  simp [State.after, h]

/-- What holds after an idle microsecond and after every command holds after every step. -/
theorem step_holds {P : State → Prop} {s t : State} (hidle : P s.idleMicrosecond)
    (hafter : ∀ c rest, P ((s.setPending rest).after c)) (h : step s = .next t) : P t := by
  unfold step at h
  split at h
  · exact Host.Outcome.next.inj h ▸ hidle
  · exact State.after_of_next h ▸ hafter _ _

/-! ### The laws kept -/

/-- `t` has the queue of `s`, and keeps the canonical form of the exchange memory and each law that `s` meets. -/
structure State.Keeps (s t : State) : Prop where
  pending : t.pending = s.pending
  memory : s.mem.wf = true → t.mem.wf = true
  drive : s.driveLaw → t.driveLaw
  rest : s.restLaw → t.restLaw
  bank : s.bankLaw → t.bankLaw
  queue : s.queueLaw → t.queueLaw
  record : s.recordLaw → t.recordLaw
  lost : s.lostLaw → t.lostLaw

/-- The request unit's slots, order, holder, fetch and start-up are those of `q`. -/
structure RequestUnit.SameSlots (q r : RequestUnit) : Prop where
  slots : r.slots = q.slots
  order : r.order = q.order
  holder : r.holder = q.holder
  fetch : r.fetch = q.fetch
  starting : r.starting = q.starting

/-- The store unit's part in the requests is that of `u`: the group awaiting force, the host operation's slot, the store state, and
no step of a scan where there was none. -/
structure StoreUnit.SameHost (u v : StoreUnit) : Prop where
  awaiting : v.awaiting = u.awaiting
  slot : v.hostOp.map HostOp.slot = u.hostOp.map HostOp.slot
  readSlot : v.hostOp.bind HostOp.readSlot = u.hostOp.bind HostOp.readSlot
  state : v.state = u.state
  job : v.job.ofScan = true → u.job.ofScan = true

/-- Everything that the laws of the request unit speak of is in `t` as in `s`, and no reset lies between. -/
structure State.SameRequests (s t : State) : Prop where
  req : s.req.SameSlots t.req
  store : s.store.SameHost t.store
  gov : t.gov.awaiting = s.gov.awaiting
  watch : t.watch.awaiting = s.watch.awaiting
  resets : t.record.resets = s.record.resets

/-- The requests stand as they did, or a reset has been performed since and the laws of the request unit hold. -/
def State.Undisturbed (s t : State) : Prop :=
  s.SameRequests t ∨ (s.record.resets < t.record.resets ∧ t.requestLaw)

/-- From `s` to `t` the laws are kept by effects that take and complete no request. -/
structure State.Beside (s t : State) : Prop extends s.Keeps t where
  requests : s.Undisturbed t

/-! ### Composition -/

theorem State.Keeps.refl (s : State) : s.Keeps s := ⟨rfl, id, id, id, id, id, id, id⟩

theorem State.Keeps.trans {s t u : State} (h : s.Keeps t) (h' : t.Keeps u) : s.Keeps u where
  pending := h'.pending.trans h.pending
  memory := h'.memory ∘ h.memory
  drive := h'.drive ∘ h.drive
  rest := h'.rest ∘ h.rest
  bank := h'.bank ∘ h.bank
  queue := h'.queue ∘ h.queue
  record := h'.record ∘ h.record
  lost := h'.lost ∘ h.lost

theorem RequestUnit.SameSlots.refl (q : RequestUnit) : q.SameSlots q := ⟨rfl, rfl, rfl, rfl, rfl⟩

theorem RequestUnit.SameSlots.trans {q r p : RequestUnit} (h : q.SameSlots r) (h' : r.SameSlots p) : q.SameSlots p :=
  ⟨h'.slots.trans h.slots, h'.order.trans h.order, h'.holder.trans h.holder, h'.fetch.trans h.fetch,
    h'.starting.trans h.starting⟩

theorem StoreUnit.SameHost.refl (u : StoreUnit) : u.SameHost u := ⟨rfl, rfl, rfl, rfl, id⟩

theorem StoreUnit.SameHost.trans {u v w : StoreUnit} (h : u.SameHost v) (h' : v.SameHost w) : u.SameHost w :=
  ⟨h'.awaiting.trans h.awaiting, h'.slot.trans h.slot, h'.readSlot.trans h.readSlot, h'.state.trans h.state, h.job ∘ h'.job⟩

theorem State.SameRequests.refl (s : State) : s.SameRequests s := ⟨.refl _, .refl _, rfl, rfl, rfl⟩

theorem State.SameRequests.trans {s t u : State} (h : s.SameRequests t) (h' : t.SameRequests u) : s.SameRequests u :=
  ⟨h.req.trans h'.req, h.store.trans h'.store, h'.gov.trans h.gov, h'.watch.trans h.watch, h'.resets.trans h.resets⟩

section same
variable {s t : State} (h : s.SameRequests t)
include h

theorem State.SameRequests.slot (k : Fin 8) : t.slot k = s.slot k := by rw [State.slot, State.slot, h.req.slots]

theorem State.SameRequests.running : t.running = s.running := by
  unfold State.running
  rw [h.gov, h.watch, h.store.awaiting, h.req.fetch, h.store.slot]

theorem State.SameRequests.isSome_hostOp : t.store.hostOp.isSome = s.store.hostOp.isSome := by
  simpa using congrArg Option.isSome h.store.slot

theorem State.SameRequests.resourceLaw (hs : s.resourceLaw) : t.resourceLaw := by
  obtain ⟨hholder, hone, hbusy, hscan, hstart⟩ := hs
  unfold State.resourceLaw
  rw [h.req.holder, h.req.fetch, h.store.readSlot, h.isSome_hostOp, h.store.state, h.req.starting, h.req.order, h.running]
  exact ⟨hholder, hone, hbusy, hscan ∘ h.store.job, hstart⟩

theorem State.SameRequests.requestLaw (hs : s.requestLaw) : t.requestLaw := by
  refine ⟨?_, h.resourceLaw hs.2⟩
  unfold State.postingLaw
  rw [h.req.order, h.running]
  simp only [h.slot]
  exact hs.1

end same

theorem State.Undisturbed.requestLaw {s t : State} (h : s.Undisturbed t) (hs : s.requestLaw) : t.requestLaw :=
  h.elim (fun hsame => hsame.requestLaw hs) And.right

theorem State.Undisturbed.trans {s t u : State} (h : s.Undisturbed t) (h' : t.Undisturbed u) : s.Undisturbed u := by
  rcases h with hst | ⟨hlt, hlaw⟩
  · rcases h' with htu | ⟨hlt', hlaw'⟩
    · exact .inl (hst.trans htu)
    · exact .inr ⟨hst.resets ▸ hlt', hlaw'⟩
  · refine .inr ⟨?_, h'.requestLaw hlaw⟩
    rcases h' with htu | ⟨hlt', -⟩
    · exact htu.resets ▸ hlt
    · exact hlt.trans hlt'

theorem State.Beside.refl (s : State) : s.Beside s := ⟨.refl s, .inl (.refl s)⟩

theorem State.Beside.trans {s t u : State} (h : s.Beside t) (h' : t.Beside u) : s.Beside u :=
  ⟨h.toKeeps.trans h'.toKeeps, h.requests.trans h'.requests⟩

theorem State.Beside.ite {s t u : State} {p : Prop} [Decidable p] (ht : p → s.Beside t) (hu : ¬p → s.Beside u) :
    s.Beside (if p then t else u) := by
  split_ifs with hp
  · exact ht hp
  · exact hu hp

/-- What follows unless a reset was performed. -/
theorem State.Beside.unlessReset {s t : State} {f : State → State} (s0 : State) (h : s.Beside t)
    (hf : ∀ u : State, u.Beside (f u)) : s.Beside (s0.unlessReset f t) :=
  State.unlessReset_holds s.Beside s0 f t h (h.trans (hf t))

theorem State.Beside.foldl {α : Type} {f : State → α → State} (hf : ∀ (s : State) a, s.Beside (f s a)) (l : List α) (s : State) :
    s.Beside (l.foldl f s) :=
  foldl_holds s.Beside f (fun t a h => h.trans (hf t a)) l s (.refl s)

/-! ### One block replaced -/

/-- Where the laws' blocks are those of `s`, so are the laws. -/
theorem State.Keeps.of_frame {s t : State} (hpending : t.pending = s.pending) (hmem : s.mem.wf = true → t.mem.wf = true)
    (hdrive : t.drive = s.drive) (hseq : t.seq = s.seq) (hgov : t.gov = s.gov) (hlock : t.faults.lock = s.faults.lock)
    (hwatch : t.watch = s.watch) (hrecord : t.record = s.record) (hqueue : t.store.queue = s.store.queue) : s.Keeps t where
  pending := hpending
  memory := hmem
  drive := by unfold State.driveLaw State.cfg; rw [hdrive, hseq, hlock]; exact id
  rest := by unfold State.restLaw; rw [hseq, hgov]; exact id
  bank := by unfold State.bankLaw; rw [hrecord]; exact id
  queue := by unfold State.queueLaw; rw [hqueue]; exact id
  record := by unfold State.recordLaw; rw [hrecord]; exact id
  lost := by unfold State.lostLaw State.channel; rw [hwatch]; exact id

section blocks
variable (s : State)

theorem State.setMem_beside {m : Memory} (hm : s.mem.wf = true → m.wf = true) : s.Beside (s.setMem m) :=
  ⟨.of_frame rfl hm rfl rfl rfl rfl rfl rfl rfl, .inl ⟨.refl _, .refl _, rfl, rfl, rfl⟩⟩

theorem State.writeWords_beside (a : Nat) (ws : List Word) : s.Beside (s.writeWords a ws) :=
  s.setMem_beside (Memory.writeWords_wf _ _ _)

theorem State.writeWord_beside (a : Nat) (w : Word) : s.Beside (s.writeWord a w) := s.setMem_beside (Memory.writeWord_wf _ _ _)

theorem State.setInputs_beside (x : Inputs) : s.Beside (s.setInputs x) :=
  ⟨.of_frame rfl id rfl rfl rfl rfl rfl rfl rfl, .inl ⟨.refl _, .refl _, rfl, rfl, rfl⟩⟩

theorem State.setMeas_beside (x : MeasUnit) : s.Beside (s.setMeas x) :=
  ⟨.of_frame rfl id rfl rfl rfl rfl rfl rfl rfl, .inl ⟨.refl _, .refl _, rfl, rfl, rfl⟩⟩

theorem State.setRegs_beside (x : Pair Regulator) : s.Beside (s.setRegs x) :=
  ⟨.of_frame rfl id rfl rfl rfl rfl rfl rfl rfl, .inl ⟨.refl _, .refl _, rfl, rfl, rfl⟩⟩

theorem State.setReg_beside (x : Side) (g : Regulator) : s.Beside (s.setReg x g) := s.setRegs_beside _

theorem State.setLevel_beside (x : LevelWatch) : s.Beside (s.setLevel x) :=
  ⟨.of_frame rfl id rfl rfl rfl rfl rfl rfl rfl, .inl ⟨.refl _, .refl _, rfl, rfl, rfl⟩⟩

theorem State.setFaults_beside {f : FaultUnit} (hlock : f.lock = s.faults.lock) : s.Beside (s.setFaults f) :=
  ⟨.of_frame rfl id rfl rfl rfl hlock rfl rfl rfl, .inl ⟨.refl _, .refl _, rfl, rfl, rfl⟩⟩

/-- Of the request unit any change is beside the other laws. -/
theorem State.setReq_keeps (q : RequestUnit) : s.Keeps (s.setReq q) := .of_frame rfl id rfl rfl rfl rfl rfl rfl rfl

theorem State.setReq_beside {q : RequestUnit} (h : s.req.SameSlots q) : s.Beside (s.setReq q) :=
  ⟨s.setReq_keeps q, .inl ⟨h, .refl _, rfl, rfl, rfl⟩⟩

/-- The sequencer changes as its own law and the drive state allow: the drive is TRIPPED afterwards where it was before, and comes
to a state without a grant from none other. -/
theorem State.setSeq_beside {q : Sequencer} (hlaw : s.driveLaw → q.law s.cfg.pinion)
    (htrip : q.drive = .tripped ↔ s.seq.drive = .tripped) (hrest : q.drive.governed = false → s.seq.drive.governed = false) :
    s.Beside (s.setSeq q) where
  pending := rfl
  memory := id
  drive h := ⟨hlaw h, h.2.trans htrip.symm⟩
  rest h := h ∘ hrest
  bank := id
  queue := id
  record := id
  lost := id
  requests := .inl ⟨.refl _, .refl _, rfl, rfl, rfl⟩

/-- A change of the sequencer that leaves drive state, phase, outputs and pending restart as they are. -/
theorem State.setSeq_same_beside {q : Sequencer} (hdrive : q.drive = s.seq.drive) (hphase : q.phase = s.seq.phase)
    (hgate : q.gate = s.seq.gate) (hbrake : q.brakeRelease = s.seq.brakeRelease)
    (hpending : q.restartPending = s.seq.restartPending) : s.Beside (s.setSeq q) := by
  refine s.setSeq_beside (fun h => ?_) (by rw [hdrive]) (by rw [hdrive]; exact id)
  unfold Sequencer.law Sequencer.outputLaw
  rw [hdrive, hphase, hgate, hbrake, hpending]
  exact h.1

/-- The DRIVE settings change while the drive is at rest. -/
theorem State.setDrive_beside {x : Option DriveSettings} (h : s.seq.drive.running = false) : s.Beside (s.setDrive x) where
  pending := rfl
  memory := id
  drive := by
    rintro ⟨⟨⟨hgate, hbrake⟩, hphase, hrestart⟩, hlock⟩
    refine ⟨⟨⟨?_, hbrake⟩, hphase, hrestart⟩, hlock⟩
    simpa [h] using hgate
  rest := id
  bank := id
  queue := id
  record := id
  lost := id
  requests := .inl ⟨.refl _, .refl _, rfl, rfl, rfl⟩

/-- The governor's values change, the drive having a grant where they do not stay at zero. -/
theorem State.setGov_keeps {g : Governor} (h : s.seq.drive.governed = false → s.gov.still → g.still) :
    s.Keeps (s.setGov g) where
  pending := rfl
  memory := id
  drive := id
  rest hs hrest := h hrest (hs hrest)
  bank := id
  queue := id
  record := id
  lost := id

theorem State.setGov_beside {g : Governor} (h : s.seq.drive.governed = false → s.gov.still → g.still)
    (ha : g.awaiting = s.gov.awaiting) : s.Beside (s.setGov g) :=
  ⟨s.setGov_keeps h, .inl ⟨.refl _, .refl _, ha, rfl, rfl⟩⟩

/-- A LOST channel is UNKNOWN (R90). -/
def ChannelWatch.lawful (w : ChannelWatch) : Prop := w.health = .lost → w.vib = .unknown

theorem State.lostLaw_iff : s.lostLaw ↔ ∀ c, (s.channel c).lawful := Iff.rfl

theorem State.setWatch_keeps {w : Watch} (h : ∀ c, (vget s.watch.channels c).lawful → (vget w.channels c).lawful) :
    s.Keeps (s.setWatch w) where
  pending := rfl
  memory := id
  drive := id
  rest := id
  bank := id
  queue := id
  record := id
  lost hs c := h c (hs c)

theorem State.setWatch_beside {w : Watch} (h : ∀ c, (vget s.watch.channels c).lawful → (vget w.channels c).lawful)
    (ha : w.awaiting = s.watch.awaiting) : s.Beside (s.setWatch w) :=
  ⟨s.setWatch_keeps h, .inl ⟨.refl _, .refl _, rfl, ha, rfl⟩⟩

theorem State.setWatch_same_beside {w : Watch} (h : w.channels = s.watch.channels) (ha : w.awaiting = s.watch.awaiting) :
    s.Beside (s.setWatch w) :=
  s.setWatch_beside (by rw [h]; exact fun _ => id) ha

theorem State.setChannel_beside {c : Channel} {w : ChannelWatch} (h : (s.channel c).lawful → w.lawful) :
    s.Beside (s.setChannel c w) := by
  refine s.setWatch_beside (fun j hj => ?_) rfl
  rw [vget_vset]
  split_ifs with hjc
  · subst hjc
    exact h hj
  · exact hj

/-- The laws of the record unit, as one. -/
structure RecordUnit.Keeps (r u : RecordUnit) : Prop where
  bank : r.activeBanks ≤ 1 → u.activeBanks ≤ 1
  record : r.idLaw ∧ r.openLaw → u.idLaw ∧ u.openLaw
  resets : u.resets = r.resets

theorem State.setRecord_beside {r : RecordUnit} (h : s.record.Keeps r) : s.Beside (s.setRecord r) where
  pending := rfl
  memory := id
  drive := id
  rest := id
  bank := h.bank
  queue := id
  record := h.record
  lost := id
  requests := .inl ⟨.refl _, .refl _, rfl, rfl, h.resets⟩

theorem State.setStore_keeps {u : StoreUnit} (h : s.store.queue.length ≤ 4 → u.queue.length ≤ 4) : s.Keeps (s.setStore u) where
  pending := rfl
  memory := id
  drive := id
  rest := id
  bank := id
  queue := h
  record := id
  lost := id

theorem State.setStore_beside {u : StoreUnit} (h : s.store.queue.length ≤ 4 → u.queue.length ≤ 4) (hs : s.store.SameHost u) :
    s.Beside (s.setStore u) :=
  ⟨s.setStore_keeps h, .inl ⟨.refl _, hs, rfl, rfl, rfl⟩⟩

end blocks

end Sys2Proof.Machine
end

section
/-! The laws of capture banks and records (7.3, R135, R138) over the changes that the record unit makes. -/

namespace Sys2Proof.Machine

/-! ### At most one bank is LIVE or POST -/

theorem length_filter_allBanks_le_one (p : Fin 4 → Bool) :
    (allBanks.filter p).length ≤ 1 ↔ ∀ i j, p i = true → p j = true → i = j := by
  revert p
  decide

theorem RecordUnit.activeBanks_le_one_iff (r : RecordUnit) :
    r.activeBanks ≤ 1 ↔ ∀ i j, (r.bank i).active = true → (r.bank j).active = true → i = j :=
  length_filter_allBanks_le_one _

theorem RecordUnit.activeBanks_le_one_of_imp {r u : RecordUnit}
    (h : ∀ i, (u.bank i).active = true → (r.bank i).active = true) (hr : r.activeBanks ≤ 1) : u.activeBanks ≤ 1 := by
  rw [activeBanks_le_one_iff] at hr ⊢
  exact fun i j hi hj => hr i j (h i hi) (h j hj)

theorem RecordUnit.bank_setBank (r : RecordUnit) (i j : Fin 4) (b : Bank) :
    (r.setBank i b).bank j = if j = i then b else r.bank j := vget_vset _ _ _ _

/-- With no bank LIVE or POST, one may go LIVE. -/
theorem RecordUnit.activeBanks_setBank_le_one {r : RecordUnit} (i : Fin 4) (b : Bank)
    (h : ∀ j, j ≠ i → (r.bank j).active = false) : (r.setBank i b).activeBanks ≤ 1 := by
  have only : ∀ j, ((r.setBank i b).bank j).active = true → j = i := by
    intro j hj
    by_contra hji
    rw [bank_setBank, if_neg hji, h j hji] at hj
    contradiction
  rw [activeBanks_le_one_iff]
  exact fun j k hj hk => (only j hj).trans (only k hk).symm

theorem mem_allBanks (i : Fin 4) : i ∈ allBanks := by revert i; decide

theorem RecordUnit.activeBank_some {r : RecordUnit} {i : Fin 4} (h : r.activeBank = some i) : (r.bank i).active = true :=
  List.find?_some (p := fun j => (r.bank j).active) h

theorem RecordUnit.activeBank_none {r : RecordUnit} (h : r.activeBank = none) (i : Fin 4) : (r.bank i).active = false := by
  have := List.find?_eq_none.mp h i (mem_allBanks i)
  simpa using this

/-! ### Record ids (R135) -/

/-- The ids that the record unit holds: the open record's and those of the list. -/
def RecordUnit.ids (r : RecordUnit) : List Nat := r.openId ++ r.listIds

theorem RecordUnit.idLaw_iff (r : RecordUnit) : r.idLaw ↔ r.ids.Nodup ∧ ∀ i ∈ r.ids, i < r.idCounter := Iff.rfl

theorem nodup_of_subperm {α : Type} {l l' : List α} (h : l.Subperm l') (hl' : l'.Nodup) : l.Nodup := by
  obtain ⟨m, hperm, hsub⟩ := h
  exact hperm.nodup_iff.mp (hl'.sublist hsub)

theorem RecordUnit.idLaw_of_subperm {r u : RecordUnit} (h : u.ids.Subperm r.ids) (hc : r.idCounter ≤ u.idCounter)
    (hr : r.idLaw) : u.idLaw :=
  ⟨nodup_of_subperm h hr.1, fun i hi => (hr.2 i (h.subset hi)).trans_le hc⟩

/-- A record takes the counter's id, and the counter moves on. -/
theorem RecordUnit.idLaw_of_new {r u : RecordUnit} (h : u.ids.Subperm (r.idCounter :: r.ids))
    (hc : u.idCounter = r.idCounter + 1) (hr : r.idLaw) : u.idLaw := by
  have hnew : r.idCounter ∉ r.ids := fun hmem => lt_irrefl _ (hr.2 _ hmem)
  refine ⟨nodup_of_subperm h (List.nodup_cons.mpr ⟨hnew, hr.1⟩), fun i hi => ?_⟩
  rw [hc]
  rcases List.mem_cons.mp (h.subset hi) with rfl | hi
  · exact Nat.lt_succ_self _
  · exact (hr.2 i hi).trans (Nat.lt_succ_self _)

/-- The list's ids with entry `k` replaced: those before it, its own, those behind it. -/
theorem listIds_vset (es : Vector ListEntry 8) (k : Fin 8) (e : ListEntry) :
    (vset es k e).toList.filterMap ListEntry.id =
      (es.toList.take k.val).filterMap ListEntry.id ++ e.id.toList ++ (es.toList.drop (k.val + 1)).filterMap ListEntry.id := by
  have hset : (vset es k e).toList = es.toList.set k.val e := Vector.toList_set ..
  have hk : k.val < es.toList.length := by simp
  rw [hset, List.set_eq_take_append_cons_drop, if_pos hk, List.filterMap_append]
  cases he : e.id <;> simp [he]

theorem vset_vget_self {α : Type} {n : Nat} (v : Vector α n) (i : Fin n) : vset v i (vget v i) = v := by
  simp [vset, vget]

theorem RecordUnit.listIds_setListEntry_sublist (r : RecordUnit) {k : Fin 8} {e : ListEntry}
    (he : e.id = none ∨ e.id = (r.listEntry k).id) : ((r.setListEntry k e).listIds).Sublist r.listIds := by
  have hself : r.listIds = _ := (congrArg (fun v => v.toList.filterMap ListEntry.id) (vset_vget_self r.entries k)).symm.trans
    (listIds_vset r.entries k (r.listEntry k))
  have hset : (r.setListEntry k e).listIds = _ := listIds_vset r.entries k e
  rw [hself, hset]
  rcases he with he | he <;> rw [he]
  · simp

/-- An entry takes the id of a record that the list does not hold. -/
theorem RecordUnit.listIds_setListEntry_subperm (r : RecordUnit) {k : Fin 8} {e : ListEntry} {id : Nat}
    (he : e.id = some id) : ((r.setListEntry k e).listIds).Subperm (id :: r.listIds) := by
  have hself : r.listIds = _ := (congrArg (fun v => v.toList.filterMap ListEntry.id) (vset_vget_self r.entries k)).symm.trans
    (listIds_vset r.entries k (r.listEntry k))
  have hset : (r.setListEntry k e).listIds = _ := listIds_vset r.entries k e
  rw [hself, hset, he, Option.toList_some, List.append_assoc, List.singleton_append]
  refine List.perm_middle.subperm.trans (List.Sublist.subperm (List.Sublist.cons_cons _ ?_))
  simp

/-! ### The laws kept -/

namespace RecordUnit

theorem Keeps.refl (r : RecordUnit) : r.Keeps r := ⟨id, id, rfl⟩

theorem Keeps.trans {r u v : RecordUnit} (h : r.Keeps u) (h' : u.Keeps v) : r.Keeps v :=
  ⟨h'.bank ∘ h.bank, h'.record ∘ h.record, h'.resets.trans h.resets⟩

/-- A change of the banks alone. -/
theorem Keeps.of_banks {r u : RecordUnit} (hbank : r.activeBanks ≤ 1 → u.activeBanks ≤ 1)
    (hopen : u.openRecord = r.openRecord) (hkind : u.kindSet = r.kindSet) (hentries : u.entries = r.entries)
    (hcounter : u.idCounter = r.idCounter) (hresets : u.resets = r.resets) : r.Keeps u where
  bank := hbank
  record := by
    unfold RecordUnit.idLaw RecordUnit.openLaw RecordUnit.openId RecordUnit.listIds
    rw [hopen, hkind, hentries, hcounter]
    exact id
  resets := hresets

/-- A change of neither banks nor records. -/
theorem Keeps.of_same {r u : RecordUnit} (hbanks : u.banks = r.banks)
    (hopen : u.openRecord = r.openRecord) (hkind : u.kindSet = r.kindSet) (hentries : u.entries = r.entries)
    (hcounter : u.idCounter = r.idCounter) (hresets : u.resets = r.resets) : r.Keeps u :=
  .of_banks (by unfold activeBanks RecordUnit.bank; rw [hbanks]; exact id) hopen hkind hentries hcounter hresets

/-- A bank that becomes active only where it was. -/
theorem setBank_keeps (r : RecordUnit) {i : Fin 4} {b : Bank} (h : b.active = true → (r.bank i).active = true) :
    r.Keeps (r.setBank i b) := by
  refine .of_banks (activeBanks_le_one_of_imp fun j hj => ?_) rfl rfl rfl rfl rfl
  rw [bank_setBank] at hj
  split_ifs at hj with hji
  · exact hji ▸ h hj
  · exact hj

/-- A bank goes LIVE where no other is LIVE or POST. -/
theorem goLive_keeps (r : RecordUnit) {i : Fin 4} (h : ∀ j, j ≠ i → (r.bank j).active = false) : r.Keeps (r.goLive i) :=
  .of_banks (fun _ => activeBanks_setBank_le_one i _ h) rfl rfl rfl rfl rfl

theorem goLiveFirst_keeps (r : RecordUnit) (is : List (Fin 4)) (h : ∀ j, (r.bank j).active = false) :
    r.Keeps (r.goLiveFirst is) := by
  unfold goLiveFirst
  split
  · exact r.goLive_keeps fun j _ => h j
  · exact .refl r

theorem trigger_keeps (r : RecordUnit) (id : Option Nat) : r.Keeps (r.trigger id) := by
  unfold trigger
  split
  · next i hi => exact r.setBank_keeps fun _ => activeBank_some hi
  · exact .refl r

/-- Changes of the records that leave the banks and have the unit hold no id that it did not. -/
theorem Keeps.of_records {r u : RecordUnit} (hbanks : u.banks = r.banks) (hids : u.ids.Subperm r.ids)
    (hcounter : r.idCounter ≤ u.idCounter) (hopen : r.openLaw → u.openLaw) (hresets : u.resets = r.resets) : r.Keeps u where
  bank := by unfold activeBanks RecordUnit.bank; rw [hbanks]; exact id
  record h := ⟨idLaw_of_subperm hids hcounter h.1, hopen h.2⟩
  resets := hresets

theorem countUnmade_keeps (r : RecordUnit) : r.Keeps r.countUnmade := .of_same rfl rfl rfl rfl rfl rfl

/-- An entry keeps its id or loses it. -/
theorem setListEntry_keeps (r : RecordUnit) {k : Fin 8} {e : ListEntry} (he : e.id = none ∨ e.id = (r.listEntry k).id) :
    r.Keeps (r.setListEntry k e) :=
  .of_records rfl ((r.listIds_setListEntry_sublist he).append_left _).subperm le_rfl id rfl

theorem openLaw_of_none {r : RecordUnit} (h : r.openRecord = none) : r.openLaw := by
  intro o ho
  rw [h] at ho
  contradiction

/-- The open record is closed without a place in the list. -/
theorem close_keeps (r : RecordUnit) : r.Keeps { r with openRecord := none, kindSet := [] } :=
  .of_records rfl (List.sublist_append_right _ _).subperm le_rfl (fun _ => openLaw_of_none rfl) rfl

/-- The open record is closed, and entry `k` of the list takes its id. -/
theorem close_fill_keeps (r : RecordUnit) {k n : Fin 8} {e : ListEntry} {o : Record} (ho : r.openRecord = some o)
    (he : e.id = some o.id) :
    r.Keeps { r.setListEntry k e with nextIndex := n, openRecord := none, kindSet := [] } := by
  refine .of_records rfl ?_ le_rfl (fun _ => openLaw_of_none rfl) rfl
  have hids : r.ids = o.id :: r.listIds := by simp [ids, openId, ho]
  rw [hids]
  exact r.listIds_setListEntry_subperm he

/-- Entry `k` of the list takes the counter's id, and the counter moves on. -/
theorem new_fill_keeps (r : RecordUnit) {k n : Fin 8} {e : ListEntry} (he : e.id = some r.idCounter) :
    r.Keeps { r.nextId.setListEntry k e with nextIndex := n } where
  bank h := h
  record h := ⟨idLaw_of_new ((List.Subperm.append (.refl _) (r.listIds_setListEntry_subperm he)).trans
    List.perm_middle.subperm) rfl h.1, h.2⟩
  resets := rfl

/-- The counter moves on. -/
theorem nextId_keeps (r : RecordUnit) : r.Keeps r.nextId := .of_records rfl (.refl _) (Nat.le_succ _) id rfl

theorem raiseCounter_keeps (r : RecordUnit) (greatest : Nat) : r.Keeps (r.raiseCounter greatest) :=
  .of_records rfl (.refl _) (le_max_left _ _) id rfl

end RecordUnit

/-- A follow-on of a new kind keeps the record's law. -/
theorem Record.addFollowOn_law {o : Record} {ks : List FaultKind} {f : FollowOn}
    (h : o.first.isSome = true ∧ o.followOns.length ≤ 7 ∧ o.kinds.Nodup ∧ ∀ k ∈ o.kinds, k ∈ ks) (hf : f.kind ∉ ks) :
    (o.addFollowOn f).first.isSome = true ∧ (o.addFollowOn f).followOns.length ≤ 7 ∧ (o.addFollowOn f).kinds.Nodup ∧
      ∀ k ∈ (o.addFollowOn f).kinds, k ∈ ks ++ [f.kind] := by
  obtain ⟨hfirst, hlen, hnodup, hmem⟩ := h
  unfold Record.addFollowOn
  split_ifs with hroom
  · have hkinds : Record.kinds { o with followOns := o.followOns ++ [f] } = o.kinds ++ [f.kind] := by simp [Record.kinds]
    rw [hkinds]
    refine ⟨hfirst, by simpa using hroom, ?_, ?_⟩
    · exact hnodup.append (List.nodup_singleton _) (by simpa using fun hk => hf (hmem _ hk))
    · intro k hk
      rcases List.mem_append.mp hk with hk | hk
      · exact List.mem_append_left _ (hmem k hk)
      · exact List.mem_append_right _ hk
  · exact ⟨hfirst, hlen, hnodup, fun k hk => List.mem_append_left _ (hmem k hk)⟩

theorem Record.addFollowOn_id (o : Record) (f : FollowOn) : (o.addFollowOn f).id = o.id := by
  unfold Record.addFollowOn
  split <;> rfl

theorem RecordUnit.followOn_keeps (r : RecordUnit) (f : FollowOn) : r.Keeps (r.followOn f) := by
  unfold RecordUnit.followOn
  split
  · next o ho =>
    split_ifs with hseen
    · exact .refl r
    · refine .of_records rfl ?_ le_rfl (fun hlaw u hu => ?_) rfl
      · have hids : RecordUnit.ids { r with openRecord := some (o.addFollowOn f), kindSet := r.kindSet ++ [f.kind] } = r.ids := by
          simp [ids, openId, listIds, ho, Record.addFollowOn_id]
        rw [hids]
      · obtain rfl := Option.some.inj hu
        exact Record.addFollowOn_law (hlaw o ho) (by simpa using hseen)
  · exact .refl r

/-- A trip record is opened with the counter's id (R135, R136). -/
theorem RecordUnit.open_keeps (r : RecordUnit) {o : Record} {k : FaultKind} {d : Option Nat} (hid : o.id = r.idCounter)
    (hfirst : o.first = some (k, d)) (hfollow : o.followOns = []) :
    r.Keeps { r.nextId with openRecord := some o, kindSet := [k] } where
  bank := id
  record h := by
    refine ⟨idLaw_of_new (r := r) ?_ rfl h.1, fun u hu => ?_⟩
    · have hids : RecordUnit.ids { r.nextId with openRecord := some o, kindSet := [k] } = r.idCounter :: r.listIds := by
        simp [ids, openId, hid, listIds, nextId]
      rw [hids]
      exact ((List.sublist_append_right _ _).cons_cons _).subperm
    · obtain rfl := Option.some.inj hu
      simp [Record.kinds, hfirst, hfollow]
  resets := rfl

end Sys2Proof.Machine
end

section
/-! Effects beside the requests: flags, records and their hand-over to the store, the trigger program, resets, entries and trips keep
every law of the device. -/

namespace Sys2Proof.Machine

/-! ### Flags -/

namespace State
variable (s : State)

theorem raiseNotice_beside (i : Nat) : s.Beside (s.raiseNotice i) := s.setReq_beside ⟨rfl, rfl, rfl, rfl, rfl⟩

theorem setEntry_beside (k : FaultKind) (e : FaultEntry) : s.Beside (s.setEntry k e) := s.setFaults_beside (by simp)

theorem fall_beside (k : FaultKind) (src : Source) : s.Beside (s.fall k src) :=
  .ite (fun _ => s.setEntry_beside k _) fun _ => .refl s

theorem alarmRise_beside (k : FaultKind) (src : Source) (d : Option Nat) : s.Beside (s.alarmRise k src d) :=
  .ite (fun _ => .refl s) fun _ => (s.setEntry_beside k _).trans (raiseNotice_beside _ _)

theorem alarmPulse_beside (k : FaultKind) (src : Source) (d : Option Nat) : s.Beside (s.alarmPulse k src d) :=
  (s.alarmRise_beside k src d).trans (fall_beside _ k src)

theorem alarmLevel_beside (k : FaultKind) (src : Source) (d : Option Nat) (now : Bool) :
    s.Beside (s.alarmLevel k src d now) :=
  .ite (fun _ => s.alarmRise_beside k src d) fun _ => s.fall_beside k src

/-! ### Layouts -/

theorem rewriteStatus_beside : s.Beside s.rewriteStatus :=
  .ite (fun _ => .refl s) fun _ => (s.setReq_beside (by constructor <;> rfl)).trans (writeWords_beside _ _ _)

theorem rewriteMap_beside : s.Beside s.rewriteMap :=
  .trans (s.setWatch_same_beside (by rfl) (by rfl)) (writeWords_beside _ _ _)

/-! ### Request unit -/

theorem setChain_beside (c : Chain) : s.Beside (s.setChain c) := s.setReq_beside ⟨rfl, rfl, rfl, rfl, rfl⟩

theorem breakStoreChain_beside : s.Beside s.breakStoreChain := .ite (fun _ => s.setChain_beside _) fun _ => .refl s

theorem misuse_beside : s.Beside s.misuse := s.setReq_beside ⟨rfl, rfl, rfl, rfl, rfl⟩

theorem writeArea_beside (off : Nat) (ws : List Word) : s.Beside (s.writeArea off ws) := s.writeWords_beside _ _

end State

/-! ### Record list -/

theorem ListEntry.not_held {e : ListEntry} (h : e.held = false) : e.state = .empty := by simpa [ListEntry.held] using h

namespace State
variable (s : State)

theorem putEntry_beside {k : Fin 8} {e : ListEntry} (he : e.id = none ∨ e.id = (s.record.listEntry k).id) :
    s.Beside (s.putEntry k e) :=
  (s.setRecord_beside (s.record.setListEntry_keeps he)).trans (writeWord_beside _ _ _)

theorem noteStoreEntry_beside (id : Nat) (st : StoreStatus) (k : Fin 8) : s.Beside (State.noteStoreEntry id st s k) :=
  .ite (fun _ => s.writeWord_beside _ _) fun _ => .refl s

theorem noteStoreEnd_beside (id : Nat) (st : StoreStatus) : s.Beside (s.noteStoreEnd id st) :=
  .foldl (fun s k => s.noteStoreEntry_beside id st k) _ s

theorem completeEntry_beside (i : Fin 4) (gen : Word) (k : Fin 8) : s.Beside (State.completeEntry i gen s k) :=
  .ite (fun _ => .trans (s.setRecord_beside (s.record.setListEntry_keeps (.inr (by rfl)))) (writeWord_beside _ _ _))
    fun _ => .refl s

end State

@[simp] theorem State.completeEntry_banks (i : Fin 4) (gen : Word) (s : State) (k : Fin 8) :
    (State.completeEntry i gen s k).record.banks = s.record.banks := by
  unfold State.completeEntry
  dsimp only
  split_ifs <;> rfl

/-- Only the capture reference of the open record changes. -/
theorem RecordUnit.mapOpenRef_keeps (r : RecordUnit) (f : CaptureRef → CaptureRef) :
    r.Keeps { r with openRecord := r.openRecord.map fun o => { o with ref := f o.ref } } := by
  refine .of_records rfl ?_ le_rfl (fun h o ho => ?_) rfl
  · have hids : RecordUnit.ids { r with openRecord := r.openRecord.map fun o => { o with ref := f o.ref } } = r.ids := by
      cases ho : r.openRecord <;> simp [ids, openId, listIds, ho]
    rw [hids]
  · obtain ⟨o', ho', rfl⟩ := Option.map_eq_some_iff.mp ho
    exact h o' ho'

/-- The record unit at a freeze of bank `i`, before the list entries and the next bank follow (R127). -/
def RecordUnit.frozen (r : RecordUnit) (i : Fin 4) : RecordUnit :=
  { r.setBank i { r.bank i with state := .frozen } with
    openRecord := r.openRecord.map fun o => { o with ref := o.ref.completeFor i (r.bank i).generation } }

theorem RecordUnit.frozen_keeps (r : RecordUnit) (i : Fin 4) : r.Keeps (r.frozen i) :=
  (r.setBank_keeps (i := i) (b := { r.bank i with state := .frozen }) (by simp [Bank.active])).trans
    (RecordUnit.mapOpenRef_keeps _ fun ref => ref.completeFor i (r.bank i).generation)

/-- The state between the freeze of bank `i` and the next bank's going LIVE (R127). -/
def State.frozen (s : State) (i : Fin 4) : State :=
  (allEntries.foldl (State.completeEntry i (s.record.bank i).generation) (s.setRecord (s.record.frozen i))).raiseNotice
    noticeCapture

theorem State.freezeBank_eq (s : State) (i : Fin 4) :
    s.freezeBank i = (s.frozen i).setRecord ((s.frozen i).record.goLiveFirst [i + 1, i + 2, i + 3]) := rfl

theorem State.frozen_banks (s : State) (i : Fin 4) :
    (s.frozen i).record.banks = vset s.record.banks i { s.record.bank i with state := .frozen } := by
  unfold State.frozen
  rw [(State.raiseNotice_frame _ _).2.2.2.2.2.2.2.2.2.2.1,
    foldl_keeps (fun s : State => s.record.banks) _ (State.completeEntry_banks i _)]
  rfl

theorem State.frozen_beside (s : State) (i : Fin 4) : s.Beside (s.frozen i) := by
  unfold State.frozen
  exact ((s.setRecord_beside (s.record.frozen_keeps i)).trans (.foldl (fun s k => s.completeEntry_beside i _ k) _ _)).trans
    (State.raiseNotice_beside _ _)

/-- With the one active bank frozen, no bank is LIVE or POST. -/
theorem State.frozen_inactive {s : State} {i : Fin 4} (hs : s.bankLaw) (hi : (s.record.bank i).active = true) (j : Fin 4) :
    ((s.frozen i).record.bank j).active = false := by
  rw [RecordUnit.bank, s.frozen_banks, vget_vset]
  split_ifs with hji
  · simp [Bank.active]
  · by_contra hj
    exact hji ((RecordUnit.activeBanks_le_one_iff _).mp hs j i (Bool.of_not_eq_false hj) hi)

/-- A last change of the banks, of which the law of `s` tells that it leaves at most one active. -/
theorem State.Beside.setBanks {s t : State} (h : s.Beside t) {r : RecordUnit} (hbank : s.bankLaw → r.activeBanks ≤ 1)
    (hopen : r.openRecord = t.record.openRecord) (hkind : r.kindSet = t.record.kindSet)
    (hentries : r.entries = t.record.entries) (hcounter : r.idCounter = t.record.idCounter)
    (hresets : r.resets = t.record.resets) : s.Beside (t.setRecord r) := by
  by_cases hs : s.bankLaw
  · exact h.trans (t.setRecord_beside (.of_banks (fun _ => hbank hs) hopen hkind hentries hcounter hresets))
  · have hrecord : t.record.Keeps { r with banks := t.record.banks } := .of_same rfl hopen hkind hentries hcounter hresets
    obtain ⟨hkeeps, hrequests⟩ := h.trans (t.setRecord_beside hrecord)
    exact ⟨{ hkeeps with bank := fun hs' => absurd hs' hs },
      hrequests.imp (fun h => ⟨h.req, h.store, h.gov, h.watch, h.resets⟩) fun h => ⟨h.1, h.2⟩⟩

/-- A freeze of the active bank (R127). -/
theorem State.freezeBank_beside (s : State) {i : Fin 4} (hi : (s.record.bank i).active = true) :
    s.Beside (s.freezeBank i) := by
  rw [s.freezeBank_eq]
  refine (s.frozen_beside i).setBanks (fun hs => ?_) ?_ ?_ ?_ ?_ ?_
  · exact (RecordUnit.goLiveFirst_keeps _ _ (State.frozen_inactive hs hi)).bank
      (RecordUnit.activeBanks_le_one_of_imp (r := s.record) (fun j hj => by
        rw [State.frozen_inactive hs hi j] at hj
        contradiction) hs)
  all_goals simp

/-! ### The hand-over of a record to the store (R139, R154) -/

theorem RequestUnit.SameSlots.of_notice (q : RequestUnit) (w : Word) : q.SameSlots { q with notice := w } :=
  ⟨rfl, rfl, rfl, rfl, rfl⟩

theorem State.alarmPulse_sameSlots (s : State) (k : FaultKind) (src : Source) (d : Option Nat) :
    s.req.SameSlots (s.alarmPulse k src d).req := by
  unfold State.alarmPulse State.alarmRise State.fall
  split_ifs
  all_goals constructor <;> rfl

theorem State.countDropped_sameSlots (s : State) : s.req.SameSlots s.countDropped.req := by
  unfold State.countDropped
  exact State.alarmPulse_sameSlots (s.setStore { s.store with dropped := countTo 65535 s.store.dropped }) _ _ _

theorem State.countDropped_store (s : State) :
    s.countDropped.store = { s.store with dropped := countTo 65535 s.store.dropped } := by
  simp [State.countDropped]

theorem State.handOver_sameSlots (s : State) (o : Record) : s.req.SameSlots (s.handOver o).req := by
  unfold State.handOver
  split
  · exact .refl _
  · exact s.countDropped_sameSlots.trans (.of_notice _ _)
  · exact .refl _

/-! ### The store's own work (R154 to R158, R162, R163) -/

namespace StoreUnit
variable (u : StoreUnit)

theorem send_sameHost {j : Job} (tx : List Byte) (rx : Nat) (hj : j.ofScan = false) : u.SameHost (u.send j tx rx) :=
  ⟨rfl, rfl, rfl, rfl, fun h => absurd (hj.symm.trans h) (by simp)⟩

theorem startErase_sameHost (i : Nat) : u.SameHost (u.startErase i) := ⟨rfl, rfl, rfl, rfl, nofun⟩

theorem serveSuspended_sameHost : u.SameHost u.serveSuspended := by
  unfold serveSuspended
  split_ifs
  all_goals exact u.send_sameHost _ _ rfl

theorem serveReady_sameHost : u.SameHost u.serveReady := by
  unfold serveReady
  split
  · split_ifs
    · exact u.send_sameHost _ _ rfl
    · exact u.send_sameHost _ _ rfl
    · split
      · exact u.startErase_sameHost _
      · exact .refl u
  · split_ifs
    · exact u.send_sameHost _ _ rfl
    · exact .refl u
  · exact u.serveSuspended_sameHost

theorem serveRead_sameHost (sector page : Nat) : u.SameHost (u.serveRead sector page) := by
  unfold serveRead
  split
  · exact u.send_sameHost _ _ rfl
  · split_ifs
    · exact u.send_sameHost _ _ rfl
    · exact .refl u
  · split_ifs
    all_goals exact u.send_sameHost _ _ rfl

theorem serveReopen_sameHost : u.SameHost u.serveReopen := by
  unfold serveReopen
  split
  · split_ifs
    · exact u.send_sameHost _ _ rfl
    · split
      · exact u.startErase_sameHost _
      · exact .refl u
  · exact .refl u

section phases
variable {u} {k : Fin 8} {p : ErasePhase} (h : u.hostOp = some (.eraseAll k p))
include h

theorem setPhase_sameHost (p' : ErasePhase) : u.SameHost (u.setPhase k p') :=
  ⟨rfl, by rw [h]; rfl, by rw [h]; rfl, rfl, id⟩

theorem serveErase_sameHost (next : Nat) : u.SameHost (u.serveErase k next) := by
  unfold serveErase
  split
  · split
    · exact (setPhase_sameHost h _).trans (startErase_sameHost _ _)
    · refine .trans (v := { u.setPhase k .reopen with toOpen := (u.goodFrom 0).map fun t => (t, 1) }) ?_ (serveReopen_sameHost _)
      exact ⟨rfl, by rw [h]; rfl, by rw [h]; rfl, rfl, id⟩
  · exact .refl u

theorem serveSettle_sameHost : u.SameHost (u.serveSettle k) := by
  unfold serveSettle
  split
  · refine .trans (v := { u.setPhase k (.erase 0) with openSector := none, toOpen := none }) ?_ (serveErase_sameHost rfl 0)
    exact ⟨rfl, by rw [h]; rfl, by rw [h]; rfl, rfl, id⟩
  · exact setPhase_sameHost h _
  · exact (setPhase_sameHost h _).trans (send_sameHost _ _ _ rfl)

theorem serveEraseAll_sameHost : u.SameHost (u.serveEraseAll k p) := by
  unfold serveEraseAll
  split
  · exact u.serveReady_sameHost
  · exact serveSettle_sameHost h
  · exact serveSettle_sameHost h
  · exact serveErase_sameHost h _
  · exact u.serveReopen_sameHost

end phases

/-- Whatever work starts, it is for the same host operation, and no step of a scan. -/
theorem serve_sameHost : u.SameHost u.serve := by
  unfold serve
  split_ifs
  · exact .refl u
  · split
    · exact u.serveReady_sameHost
    · exact u.serveRead_sameHost _ _
    · next h => exact serveEraseAll_sameHost h
    · exact .refl u

end StoreUnit

theorem State.serveStore_beside (s : State) : s.Beside s.serveStore :=
  s.setStore_beside (by simp) s.store.serve_sameHost

/-! ### The close of a record (R139) -/

theorem StoreUnit.answer_queued {u : StoreUnit} (h : u.answer = .queued) : u.queue.length < 4 := by
  unfold StoreUnit.answer at h
  split at h
  · contradiction
  · contradiction
  · split_ifs at h with hlen
    exact hlen

theorem State.handOver_queue (s : State) (o : Record) (h : s.store.queue.length ≤ 4) :
    (s.handOver o).store.queue.length ≤ 4 := by
  unfold State.handOver
  split
  · next hq =>
    have := StoreUnit.answer_queued hq
    simp
    omega
  · simpa [State.countDropped_store] using h
  · exact h

theorem State.handOver_sameHost (s : State) (o : Record) : s.store.SameHost (s.handOver o).store := by
  unfold State.handOver
  split
  · exact .trans (v := { s.store with queue := s.store.queue ++ [QueuedRecord.mk o.id o.words 0] })
      ⟨rfl, rfl, rfl, rfl, id⟩ (StoreUnit.serve_sameHost _)
  · rw [(State.raiseNotice_frame _ _).2.2.2.2.2.2.2.2.2.2.2.1, s.countDropped_store]
    exact ⟨rfl, rfl, rfl, rfl, id⟩
  · exact .refl _

/-- The record unit after the post of a record. -/
theorem State.postRecord_record (s : State) (o : Record) : (s.postRecord o).record =
    if (s.record.listEntry s.record.nextIndex).held then { s.record with unposted := countTo 65535 s.record.unposted }
    else { s.record.setListEntry s.record.nextIndex ⟨.filled, some o.id, o.ref⟩ with nextIndex := s.record.nextIndex + 1 } := by
  unfold State.postRecord
  dsimp only
  split_ifs <;> rfl

theorem State.postRecord_sameSlots (s : State) (o : Record) : s.req.SameSlots (s.postRecord o).req := by
  unfold State.postRecord
  dsimp only
  split_ifs
  · exact .refl _
  · exact .of_notice _ _

/-- An effect is beside the requests if it is so in each unit. -/
theorem State.Beside.of_units {s t : State} (hpending : t.pending = s.pending) (hmem : s.mem.wf = true → t.mem.wf = true)
    (hdrive : t.drive = s.drive) (hseq : t.seq = s.seq) (hgov : t.gov = s.gov) (hlock : t.faults.lock = s.faults.lock)
    (hwatch : t.watch = s.watch) (hrecord : s.record.Keeps t.record)
    (hqueue : s.store.queue.length ≤ 4 → t.store.queue.length ≤ 4) (hstore : s.store.SameHost t.store)
    (hreq : s.req.SameSlots t.req) : s.Beside t where
  pending := hpending
  memory := hmem
  drive := by unfold State.driveLaw State.cfg; rw [hdrive, hseq, hlock]; exact id
  rest := by unfold State.restLaw; rw [hseq, hgov]; exact id
  bank := hrecord.bank
  queue := hqueue
  record := hrecord.record
  lost := by unfold State.lostLaw State.channel; rw [hwatch]; exact id
  requests := .inl ⟨hreq, hstore, by rw [hgov], by rw [hwatch], hrecord.resets⟩

/-- The record unit after the close of a record. -/
theorem State.closeRecord_record {s : State} {o : Record} (ho : s.record.openRecord = some o) :
    s.closeRecord.record = { (s.postRecord o).record with openRecord := none, kindSet := [] } := by
  simp [State.closeRecord, ho]

theorem State.closeRecord_record_keeps {s : State} {o : Record} (ho : s.record.openRecord = some o) :
    s.record.Keeps s.closeRecord.record := by
  rw [State.closeRecord_record ho, State.postRecord_record]
  split_ifs
  · exact .trans (u := { s.record with unposted := countTo 65535 s.record.unposted }) (.of_same rfl rfl rfl rfl rfl rfl)
      (RecordUnit.close_keeps _)
  · exact s.record.close_fill_keeps ho rfl

theorem State.closeRecord_beside (s : State) : s.Beside s.closeRecord := by
  cases ho : s.record.openRecord with
  | none =>
    have hsame : s.closeRecord = s := by simp [State.closeRecord, ho]
    rw [hsame]
    exact .refl s
  | some o =>
    have hstore : s.closeRecord.store = ((s.postRecord o).handOver o).store := by simp [State.closeRecord, ho]
    have hreq : s.closeRecord.req = ((s.postRecord o).handOver o).req := by simp [State.closeRecord, ho]
    have hpost : (s.postRecord o).store = s.store := by simp
    refine .of_units (by simp) s.closeRecord_mem_wf (by simp) (by simp) (by simp) (by simp) (by simp)
      (State.closeRecord_record_keeps ho) ?_ ?_ ?_
    · rw [hstore, ← hpost]
      exact State.handOver_queue _ o
    · rw [hstore, ← hpost]
      exact State.handOver_sameHost _ o
    · rw [hreq]
      exact (s.postRecord_sameSlots o).trans (State.handOver_sameSlots _ o)

/-! ### The trigger program (R129 to R133) -/

/-- A record that takes the counter's id is posted (R133). -/
theorem State.postNew_beside (s : State) {o : Record} (ho : o.id = s.record.idCounter) :
    s.Beside ((s.setRecord s.record.nextId).postRecord o) := by
  refine .of_units (by simp) (State.postRecord_mem_wf (s.setRecord s.record.nextId) o) (by simp) (by simp) (by simp) (by simp) (by simp) ?_ (by simp) ?_
    (State.postRecord_sameSlots (s.setRecord s.record.nextId) o)
  · rw [State.postRecord_record]
    split_ifs
    · exact s.record.nextId_keeps.trans (.of_same rfl rfl rfl rfl rfl rfl)
    · exact s.record.new_fill_keeps (by rw [ho])
  · have hstore : ((s.setRecord s.record.nextId).postRecord o).store = s.store := by simp
    rw [hstore]
    exact .refl _

/-- Of the record unit only the trigger program's own fields change. -/
theorem State.setTrigger_beside (s : State) {r : RecordUnit} (h : r = { s.record with
    program := r.program, trigState := r.trigState, deadline := r.deadline, windowTimer := r.windowTimer
    belowFirst := r.belowFirst, belowSecond := r.belowSecond }) : s.Beside (s.setRecord r) := by
  rw [h]
  exact s.setRecord_beside (.of_same rfl rfl rfl rfl rfl rfl)

theorem State.trigger_beside (s : State) (id : Option Nat) : s.Beside (s.setRecord (s.record.trigger id)) :=
  s.setRecord_beside (s.record.trigger_keeps id)

theorem State.fire_beside (s : State) (p : Program) (detail : Option Nat) : s.Beside (s.fire p detail) := by
  have hfired : s.Beside (s.setRecord { s.record with trigState := .fired }) := s.setTrigger_beside rfl
  unfold State.fire
  dsimp only
  refine .trans (hfired.trans ?_) (State.setTrigger_beside _ rfl)
  split_ifs
  · exact (State.trigger_beside _ none).trans (State.setRecord_beside _ (RecordUnit.countUnmade_keeps _))
  · exact (State.trigger_beside _ _).trans (State.postNew_beside _ (by simp [State.newRecord]))

theorem State.takeCond_beside (s : State) (c : TrigCond) (detail : Option Nat) : s.Beside (s.takeCond c detail) := by
  unfold State.takeCond
  split
  · split_ifs
    · split
      · exact s.fire_beside _ detail
      · exact s.setTrigger_beside rfl
    · exact .refl s
  · split_ifs
    · exact s.fire_beside _ detail
    · exact .refl s
  · exact .refl s

/-! ### Trip records (R135, R138) -/

theorem State.openTrip_beside (s : State) (k : FaultKind) (d : Option Nat) : s.Beside (s.openTrip k d) := by
  unfold State.openTrip
  split_ifs
  · exact (s.trigger_beside none).trans (State.setRecord_beside _ (RecordUnit.countUnmade_keeps _))
  · refine (s.trigger_beside (some s.record.idCounter)).trans (State.setRecord_beside _ ?_)
    exact RecordUnit.open_keeps _ (d := d) (by simp [State.newRecord]) rfl rfl

theorem State.followOnCause_beside (s : State) (k : FaultKind) (d : Option Nat) (offset : Nat) :
    s.Beside (s.followOnCause k d offset) :=
  .ite (fun _ => s.setRecord_beside (s.record.followOn_keeps _)) fun _ => .refl s

/-! ### Resets (R37, R38) -/

/-- What a reset leaves of the units that the laws speak of. -/
theorem State.performReset_units (s : State) :
    s.performReset.drive = none ∧ s.performReset.gov = .reset ∧ s.performReset.watch = .reset ∧
    s.performReset.faults.lock = false ∧ s.performReset.record = { RecordUnit.reset with resets := s.record.resets + 1 } ∧
    s.performReset.store = .reset ∧ s.performReset.req = .reset := by
  simp [State.performReset, State.resetBlocks, FaultUnit.reset]

theorem State.performReset_seq (s : State) :
    s.performReset.seq = { Sequencer.reset with eStop := s.inputs.eStop } := by
  have hinputs : s.inputs = s.resetBlocks.inputs := rfl
  simp only [State.performReset, State.freshEStop, State.freshGateFault_frame]
  split_ifs with h
  · simp [State.resetBlocks] at h ⊢
    rw [h]
  · simp [State.resetBlocks] at h ⊢
    rw [h]
    rfl

theorem RecordUnit.reset_laws :
    RecordUnit.reset.activeBanks ≤ 1 ∧ RecordUnit.reset.idLaw ∧ RecordUnit.reset.openLaw :=
  ⟨by decide, by decide, openLaw_of_none rfl⟩

/-- With governor, watch, store and request unit at their values after reset nothing is posted or running. -/
theorem State.requestLaw_of_reset {s : State} (hgov : s.gov = .reset) (hwatch : s.watch = .reset) (hstore : s.store = .reset)
    (hreq : s.req = .reset) : s.requestLaw := by
  have hrunning : s.running = [] := by simp [State.running, hgov, hwatch, hstore, hreq, Governor.reset,
    Watch.reset, StoreUnit.reset, RequestUnit.reset]
  have hslot : ∀ k, s.slot k = .reset := fun k => by simp [State.slot, hreq, RequestUnit.reset]
  refine ⟨⟨?_, ?_, ?_, ?_⟩, ?_⟩
  · simp [hreq, RequestUnit.reset]
  · simp [hreq, RequestUnit.reset, hslot, Slot.reset]
  · simp [hrunning]
  · simp [hrunning, hslot, Slot.reset]
  · simp [State.resourceLaw, hrunning, hreq, hstore, RequestUnit.reset, StoreUnit.reset, Job.ofScan]

theorem State.performReset_requestLaw (s : State) : s.performReset.requestLaw := by
  obtain ⟨-, hgov, hwatch, -, -, hstore, hreq⟩ := s.performReset_units
  exact State.requestLaw_of_reset hgov hwatch hstore hreq

end Sys2Proof.Machine
end

section
/-! Entries and trips keep every law of the device (R20, R31, R34 to R38, R43, R106 to R110, R120). -/

namespace Sys2Proof.Machine

/-- An entry into a state without a grant: the outputs and the lock follow the new drive state, and the governor is at zero. -/
theorem State.Beside.entry {s v : State} (hpending : v.pending = s.pending) (hmem : v.mem = s.mem)
    (hlaw : s.driveLaw → v.driveLaw) (hstill : v.gov.still) (hawait : v.gov.awaiting = s.gov.awaiting)
    (hwatch : v.watch = s.watch) (hrecord : v.record = s.record) (hstore : v.store = s.store) (hreq : v.req = s.req) :
    s.Beside v where
  pending := hpending
  memory h := by rw [hmem]; exact h
  drive := hlaw
  rest _ _ := hstill
  bank := by unfold State.bankLaw; rw [hrecord]; exact id
  queue := by unfold State.queueLaw; rw [hstore]; exact id
  record := by unfold State.recordLaw; rw [hrecord]; exact id
  lost := by unfold State.lostLaw State.channel; rw [hwatch]; exact id
  requests := .inl ⟨by rw [hreq]; exact .refl _, by rw [hstore]; exact .refl _, hawait, by rw [hwatch], by rw [hrecord]⟩

/-- A reset performed on a state that has the queue, the exchange memory and the count of resets of `s`. -/
theorem State.Beside.reset {s u : State} (hpending : u.pending = s.pending) (hmem : u.mem = s.mem)
    (hresets : u.record.resets = s.record.resets) : s.Beside u.performReset := by
  obtain ⟨hdrive, hgov, hwatch, hlock, hrecord, hstore, -⟩ := u.performReset_units
  obtain ⟨hbank, hrecords⟩ := RecordUnit.reset_laws
  have hlaws : s.Keeps u.performReset :=
    { pending := by simpa using hpending
      memory := fun h => by simpa [hmem] using h
      drive := fun _ => by
        simp [State.driveLaw, State.performReset_seq, hlock, Sequencer.reset, brakeOf, DriveState.running, Pair.ofFn, lockLaw,
          Sequencer.law, Sequencer.outputLaw]
      rest := fun _ _ => by rw [hgov]; exact ⟨rfl, rfl, rfl⟩
      bank := fun _ => by rw [State.bankLaw, hrecord]; exact hbank
      queue := fun _ => by rw [State.queueLaw, hstore]; decide
      record := fun _ => by rw [State.recordLaw, hrecord]; exact hrecords
      lost := fun _ c => by rw [State.channel, hwatch]; simp [Watch.reset, ChannelWatch.reset] }
  exact ⟨hlaws, .inr ⟨by rw [hrecord, ← hresets]; exact Nat.lt_succ_self _, u.performReset_requestLaw⟩⟩

theorem State.performReset_beside (s : State) : s.Beside s.performReset := .reset rfl rfl rfl

/-! ### The blocks at rest (R36, R43, R116, R117, R120) -/

theorem State.levelAtRest_beside (s : State) : s.Beside s.levelAtRest := by
  unfold State.levelAtRest
  exact ((((s.setLevel_beside _).trans (State.fall_beside _ _ _)).trans (State.fall_beside _ _ _)).trans
    (State.fall_beside _ _ _)).trans (State.fall_beside _ _ _)

theorem State.formSingle_beside (s : State) : s.Beside s.formSingle := by
  have hfall : ∀ (u : State) (p : Bool) (src : Source), u.Beside (if p then u else u.fall .encoderSingle src) :=
    fun u _ src => .ite (fun _ => .refl u) fun _ => u.fall_beside _ src
  have hrise : ∀ (u : State) (p : Bool) (src : Source) (d : Option Nat),
      u.Beside (if p then u.alarmRise .encoderSingle src d else u) :=
    fun u _ src d => .ite (fun _ => u.alarmRise_beside _ src d) fun _ => .refl u
  exact (((hfall s _ .first).trans (hfall _ _ .second)).trans (hrise _ _ .first _)).trans (hrise _ _ .second _)

theorem State.encodersAtRest_beside (s : State) : s.Beside s.encodersAtRest :=
  s.formSingle_beside.trans (State.fall_beside _ _ _)

theorem State.backrollOff_beside (s : State) : s.Beside s.backrollOff :=
  .trans (s.setSeq_same_beside (by rfl) (by rfl) (by rfl) (by rfl) (by rfl)) (State.fall_beside _ _ _)

/-! ### The entries into STOPPED and TRIPPED -/

/-- The entry into STOPPED from a state `u` that has come from `s` by changes of sequencer and lock: with no stopping phase, the brake
set and the lock CLEAR. -/
theorem State.Beside.enterStopped {s u : State} (hpending : u.pending = s.pending) (hmem : u.mem = s.mem)
    (hgov : u.gov = s.gov) (hwatch : u.watch = s.watch) (hrecord : u.record = s.record) (hstore : u.store = s.store)
    (hreq : u.req = s.req)
    (hlaw : s.driveLaw → u.seq.phase = .none ∧ u.seq.brakeRelease = false ∧ u.faults.lock = false) :
    s.Beside u.enterStopped := by
  cases hr : u.seq.restartPending with
  | true =>
    have hreset : u.enterStopped = State.performReset ((u.gatesOff.setDriveState .stopped).restEntry) := by
      simp [State.enterStopped, State.pendingRestart, hr]
    rw [hreset]
    exact .reset (by simpa using hpending) (by simpa using hmem) (by simpa using congrArg RecordUnit.resets hrecord)
  | false =>
    have hcalm : u.enterStopped = (u.gatesOff.setDriveState .stopped).restEntry :=
      State.pendingRestart_calm _ (by simpa using hr)
    rw [hcalm]
    refine .trans (.trans (t := (u.gatesOff.setDriveState .stopped).setGov (u.gatesOff.setDriveState .stopped).gov.zeroed)
      (.entry (by simpa using hpending) (by simpa using hmem) (fun h => ?_) ⟨rfl, rfl, rfl⟩ ?_ (by simpa using hwatch)
      (by simpa using hrecord) (by simpa using hstore) (by simpa using hreq)) (State.levelAtRest_beside _))
      (State.encodersAtRest_beside _)
    · obtain ⟨hphase, hbrake, hlock⟩ := hlaw h
      simp [State.driveLaw, Sequencer.law, Sequencer.outputLaw, lockLaw, hphase, hbrake, hlock, hr, Pair.ofFn, brakeOf,
        DriveState.running]
    · simpa [Governor.zeroed] using congrArg Governor.awaiting hgov

/-- The entry into TRIPPED, with the lock SET, of a state that has come from `s` by changes of the fault unit. -/
theorem State.Beside.enterTripped {s u : State} (hpending : u.pending = s.pending) (hmem : u.mem = s.mem)
    (hgov : u.gov = s.gov) (hwatch : u.watch = s.watch) (hrecord : u.record = s.record) (hstore : u.store = s.store)
    (hreq : u.req = s.req) (hlock : u.faults.lock = true) : s.Beside u.enterTripped := by
  cases hr : u.seq.restartPending with
  | true =>
    have hreset : u.enterTripped = State.performReset
        ((u.gatesOff.setSeq { u.gatesOff.seq.tripped with drive := .tripped }).backrollOff.restEntry) := by
      simp [State.enterTripped, State.pendingRestart, hr]
    rw [hreset]
    exact .reset (by simpa using hpending) (by simpa using hmem) (by simpa using congrArg RecordUnit.resets hrecord)
  | false =>
    have hcalm : u.enterTripped =
        (u.gatesOff.setSeq { u.gatesOff.seq.tripped with drive := .tripped }).backrollOff.restEntry :=
      State.pendingRestart_calm _ (by simpa using hr)
    rw [hcalm]
    refine .trans (.trans (t := State.setGov (u.gatesOff.setSeq { u.gatesOff.seq.tripped with drive := .tripped }).backrollOff _)
      (.entry (by simpa using hpending) (by simpa using hmem) (fun _ => ?_) ⟨rfl, rfl, rfl⟩ ?_ (by simpa using hwatch)
      (by simpa using hrecord) (by simpa using hstore) (by simpa using hreq)) (State.levelAtRest_beside _))
      (State.encodersAtRest_beside _)
    · simp [State.driveLaw, Sequencer.law, Sequencer.outputLaw, lockLaw, hlock, hr, Pair.ofFn, brakeOf,
        DriveState.running, Sequencer.tripped]
    · simpa [Governor.zeroed] using congrArg Governor.awaiting hgov

/-! ### Trip causes (R106 to R110) -/

theorem State.closeWindow_beside (s : State) : s.Beside s.closeWindow :=
  .trans (s.setFaults_beside (by rfl)) (State.closeRecord_beside _)

theorem State.closeIfZero_beside (s : State) : s.Beside s.closeIfZero :=
  .ite (fun _ => s.closeWindow_beside) fun _ => .refl s

theorem State.firstCause_beside (s : State) (k : FaultKind) (d : Option Nat) : s.Beside (s.firstCause k d) := by
  unfold State.firstCause
  rw [State.openTrip_setFaults]
  refine (s.openTrip_beside k d).trans (.enterTripped ?_ ?_ ?_ ?_ ?_ ?_ ?_ ?_)
  all_goals rfl

theorem State.latchRise_beside (s : State) (k : FaultKind) (src : Source) (d : Option Nat) :
    s.Beside (s.latchRise k src d) :=
  .ite (fun _ => .refl s) fun _ => s.setEntry_beside k _

theorem State.tripCause_beside (s : State) (k : FaultKind) (d : Option Nat) : s.Beside (s.tripCause k d) := by
  unfold State.tripCause
  split
  · exact .refl s
  · exact .ite (fun _ => s.followOnCause_beside k d _) fun _ => (s.firstCause_beside k d).trans (State.closeIfZero_beside _)

theorem State.tripRise_beside (s : State) (k : FaultKind) (src : Source) : s.Beside (s.tripRise k src) :=
  .ite (fun _ => .refl s) fun _ => (s.latchRise_beside k src none).trans (State.tripCause_beside _ k none)

theorem State.tripPulse_beside (s : State) (k : FaultKind) : s.Beside (s.tripPulse k) :=
  (s.tripRise_beside k .first).trans (State.fall_beside _ k .first)

theorem State.tripLevel_beside (s : State) (k : FaultKind) (now : Bool) : s.Beside (s.tripLevel k now) :=
  .ite (fun _ => s.tripRise_beside k .first) fun _ => s.fall_beside k .first

/-! ### Running states and departure -/

theorem State.formEncoders_beside (s : State) : s.Beside s.formEncoders :=
  s.formSingle_beside.trans (State.tripLevel_beside _ _ _)

/-- The entry into MAGNETIZING out of STOPPED (R21, R43). -/
theorem State.enterMagnetizing_beside (s : State) (h : s.seq.drive = .stopped) : s.Beside s.enterMagnetizing := by
  unfold State.enterMagnetizing
  refine .trans (.trans (.entry (by rfl) (by rfl) (fun hs => ?_) ⟨rfl, rfl, rfl⟩ (by rfl) (by rfl) (by rfl) (by rfl) (by rfl))
    (State.backrollOff_beside _)) (State.formEncoders_beside _)
  obtain ⟨⟨⟨-, hbrake⟩, hphase, -⟩, hlock⟩ := hs
  simp_all [State.driveLaw, Sequencer.law, Sequencer.outputLaw, lockLaw, brakeOf, DriveState.running, State.cfg]

theorem State.enterStopping_beside (s : State) (h : s.seq.drive = .breakaway ∨ s.seq.drive = .run) :
    s.Beside s.enterStopping := by
  unfold State.enterStopping
  refine .trans (s.setSeq_beside (fun hs => ?_) ?_ (by simp [DriveState.governed])) (State.formEncoders_beside _)
  · obtain ⟨⟨⟨hgate, hbrake⟩, -, -⟩, -⟩ := hs
    rcases h with h | h <;> simp_all [Sequencer.law, Sequencer.outputLaw, brakeOf, DriveState.running]
  · rcases h with h | h <;> simp [h]

theorem State.takeLatched_beside (s : State) (k : FaultKind) : s.Beside (s.takeLatched k) :=
  .ite (fun _ => s.followOnCause_beside k _ 0) fun _ => s.firstCause_beside k _

/-- The departure from UNCONFIGURED (R20, R107). -/
theorem State.departureTest_beside (s : State) : s.Beside s.departureTest := by
  have hstop : s.seq.drive = .unconfigured → s.Beside s.enterStopped := fun h =>
    .enterStopped rfl rfl rfl rfl rfl rfl rfl fun hs => by
      obtain ⟨⟨⟨-, hbrake⟩, hphase, -⟩, hlock⟩ := hs
      simp_all [brakeOf, lockLaw]
  unfold State.departureTest
  split_ifs with hready
  · exact hstop (by simp_all)
  · exact ((hstop (by simp_all)).trans (.foldl State.takeLatched_beside _ _)).trans (State.closeIfZero_beside _)
  · exact .refl s

end Sys2Proof.Machine
end

section
/-! The periods and inputs of the regulators, the measurement unit, the vibration watch, the sequencer and the capture keep every law
of the device, but for the completions that two of the periods bring. -/

namespace Sys2Proof.Machine

namespace State
variable (s : State)

/-! ### Links and regulators (R1, R65 to R72, R80, R116 to R118) -/

theorem setGateBlock_beside (x : Side) : s.Beside (s.setGateBlock x) := s.setReg_beside x _

theorem arrival_beside (x : Side) (f : SampleSet) : s.Beside (s.arrival x f) := by
  have hseen : ∀ oc, s.Beside (s.arrivalSeen x oc) := fun oc =>
    .ite (fun _ => .trans (s.setReg_beside x _) (State.setGateBlock_beside _ x)) fun _ => s.setReg_beside x _
  exact (((hseen _).trans (setReg_beside _ x _)).trans (setReg_beside _ x _)).trans (tripLevel_beside _ _ _)

theorem setCounts_beside (x : Side) (c : LevelCounts) : s.Beside (s.setCounts x c) := s.setLevel_beside _

theorem undervoltTest_beside (x : Side) (vdc : Int) : s.Beside (s.undervoltTest x vdc) := by
  refine .ite (fun _ => .ite (fun _ => ?_) fun _ => ?_) fun _ => .refl s
  · exact .ite (fun _ => (s.setCounts_beside x _).trans (tripRise_beside _ _ _)) fun _ => s.setCounts_beside x _
  · exact (s.setCounts_beside x _).trans (fall_beside _ _ _)

theorem lowTest_beside (x : Side) (vdc : Int) : s.Beside (s.lowTest x vdc) := by
  refine .ite (fun _ => .ite (fun _ => ?_) fun _ => ?_) fun _ => .refl s
  · exact .ite (fun _ => (s.setCounts_beside x _).trans (fall_beside _ _ _)) fun _ => s.setCounts_beside x _
  · exact .ite (fun _ => (s.setCounts_beside x _).trans (alarmRise_beside _ _ _ _)) fun _ => s.setCounts_beside x _

theorem overvoltTest_beside (x : Side) (vdc : Int) : s.Beside (s.overvoltTest x vdc) :=
  .ite (fun _ => s.tripLevel_beside _ _) fun _ => .refl s

theorem frameEnd_beside (x : Side) (f : SampleFrame) : s.Beside (s.frameEnd x f) := by
  refine .ite (fun _ => ?_) fun _ => .refl s
  refine .unlessReset s (.trans (s.setMeas_beside _) (arrival_beside _ x _)) fun u => ?_
  refine .unlessReset u (u.undervoltTest_beside x _) fun v => ?_
  exact .unlessReset v (v.lowTest_beside x _) fun w => w.overvoltTest_beside x _

theorem missingTest_beside (x : Side) : s.Beside (s.missingTest x) := by
  have hseen : s.Beside (s.periodSeen x) := (s.setReg_beside x _).trans (fall_beside _ _ _)
  have hrise : ∀ u : State, u.Beside (u.measLossRise x) := fun u =>
    .trans ((u.setGateBlock_beside x).trans (setReg_beside _ x _)) (tripRise_beside _ _ _)
  have hmissing : s.Beside (s.periodMissing x) :=
    .ite (fun _ => (s.setReg_beside x _).trans (hrise _)) fun _ => s.setReg_beside x _
  exact .ite (fun _ => .refl s) fun _ => .ite (fun _ => hseen) fun _ => hmissing

theorem currentPeriod_beside (x : Side) : s.Beside (s.currentPeriod x) :=
  .unlessReset s ((s.setReg_beside x _).trans (missingTest_beside _ x)) fun u =>
    .trans (u.setReg_beside x _) (setMeas_beside _ _)

theorem gateFaultRise_beside (x : Side) : s.Beside (s.gateFaultRise x) := (s.setReg_beside x _).trans (tripRise_beside _ _ _)

theorem takeRegulator_beside (x : Side) : s.Beside (s.takeRegulator x) := by
  have htaken : ∀ g c, s.Beside ((s.setReg x g).alarmLevel .voltageLimited (sideSource x) (some (sideCode x)) c) :=
    fun g c => (s.setReg_beside x g).trans (alarmLevel_beside _ _ _ _ _)
  exact .ite (fun _ => (htaken _ _).trans (takeCond_beside _ _ _)) fun _ => htaken _ _

/-! ### Measurement (R4 to R12, R120, R121) -/

theorem reportPosition_beside : s.Beside s.reportPosition := s.alarmLevel_beside _ _ _ _

theorem setEncoder_beside (x : Side) (e : Encoder) : s.Beside (s.setEncoder x e) := s.setMeas_beside _

theorem disagreeTest_beside : s.Beside s.disagreeTest :=
  .ite (fun _ => (s.setLevel_beside _).trans (tripPulse_beside _ _)) fun _ => s.setLevel_beside _

theorem speedUpdate_beside : s.Beside s.speedUpdate :=
  .unlessReset s (((s.setMeas_beside _).trans (reportPosition_beside _)).trans (formEncoders_beside _)) disagreeTest_beside

theorem setReceiver_beside (c : Channel) (r : Receiver) : s.Beside (s.setReceiver c r) := s.setMeas_beside _

/-! ### Vibration watch (R83 to R100) -/

theorem setGroup_beside (g : Side) (w : GroupWatch) : s.Beside (s.setGroup g w) := s.setWatch_same_beside rfl rfl

theorem formSuspect_beside (c : Channel) : s.Beside (s.formSuspect c) :=
  .trans (s.setWatch_same_beside (by rfl) (by rfl)) (alarmLevel_beside _ _ _ _ _)

theorem formLost_beside (c : Channel) : s.Beside (s.formLost c) :=
  .trans (s.setWatch_same_beside (by rfl) (by rfl)) (alarmLevel_beside _ _ _ _ _)

theorem formDemand_beside (g : Side) : s.Beside (s.formDemand g) := s.setGroup_beside g _

theorem formAlert_beside (g : Side) : s.Beside (s.formAlert g) := (s.setGroup_beside g _).trans (alarmLevel_beside _ _ _ _ _)

theorem formDwell_beside (g : Side) : s.Beside (s.formDwell g) := .ite (fun _ => .refl s) fun _ => s.setGroup_beside g _

theorem formGroup_beside (g : Side) : s.Beside (s.formGroup g) :=
  ((s.formDemand_beside g).trans (formAlert_beside _ g)).trans (formDwell_beside _ g)

theorem healthChanged_beside (c : Channel) : s.Beside (s.healthChanged c) :=
  (((s.takeCond_beside _ _).trans (formSuspect_beside _ c)).trans (formLost_beside _ c)).trans (formGroup_beside _ _)

end State

namespace ChannelWatch
variable (w : ChannelWatch)

theorem lose_lawful : w.lose.lawful := fun _ => rfl

/-- Health after a block keeps a LOST channel UNKNOWN. -/
theorem stepHealth_lawful (bad : Bool) (h : w.lawful) : (w.stepHealth bad).lawful := by
  unfold stepHealth
  split
  · split_ifs <;> simp_all [lawful]
  · split_ifs
    · exact w.lose_lawful
    · simp_all [lawful]
  · exact h
  · simp [lawful]
  · split_ifs <;> simp_all [lawful]
  · simp_all [lawful]

theorem lawful_of_not_lost {w : ChannelWatch} (h : w.health ≠ .lost) : w.lawful := fun hlost => absurd hlost h

theorem stepDown_health (threshold off : Nat) (below : VibState) : (w.stepDown threshold off below).health = w.health := by
  unfold stepDown
  dsimp only
  split_ifs <;> rfl

theorem evalNormal_health (v : VibSettings) (c : Channel) : (w.evalNormal v c).health = w.health := by
  unfold evalNormal
  dsimp only
  split_ifs <;> rfl

theorem evalAlert_health (v : VibSettings) (c : Channel) : (w.evalAlert v c).health = w.health := by
  unfold evalAlert
  dsimp only
  generalize (if vget v.danger c ≤ w.level then countTo 255 w.dangerOn else 0) = d
  split_ifs
  · rfl
  · exact stepDown_health _ _ _ _

theorem evaluate_health (v : VibSettings) (c : Channel) : (w.evaluate v c).health = w.health := by
  unfold evaluate
  split
  · exact evalNormal_health _ _ _
  · exact evalNormal_health _ _ _
  · exact evalAlert_health _ _ _
  · exact stepDown_health _ _ _ _

theorem follow_lawful (sector : Nat) (h : w.lawful) : (w.follow sector).lawful := by
  unfold follow closeVisit
  split
  · exact h
  · split_ifs <;> exact h

end ChannelWatch

namespace State
variable (s : State)

theorem heldLost_beside (c : Channel) : s.Beside (s.heldLost c) :=
  .ite (fun _ => s.setChannel_beside id) fun _ =>
    (s.setChannel_beside fun _ => ChannelWatch.lose_lawful _).trans (healthChanged_beside _ c)

theorem vibEntry_beside (c : Channel) (v0 : VibState) : s.Beside (s.vibEntry c v0) := by
  unfold State.vibEntry
  split
  · exact .ite (fun _ => .refl s) fun _ => s.takeCond_beside _ _
  · exact s.takeCond_beside _ _
  · exact .refl s

theorem evaluateChannel_beside (c : Channel) : s.Beside (s.evaluateChannel c) := by
  refine .ite (fun hev => ?_) fun _ => .refl s
  have hhealth : (s.channel c).health ≠ .lost := by
    have hev' := hev
    simp only [State.evaluates, Bool.and_eq_true, decide_eq_true_eq] at hev'
    exact hev'.2
  have hset : s.Beside (s.setChannel c ((s.channel c).evaluate s.watch.cfg c)) := s.setChannel_beside fun _ =>
    ChannelWatch.lawful_of_not_lost (by rw [ChannelWatch.evaluate_health]; exact hhealth)
  exact .ite (fun _ => hset) fun _ => (hset.trans (vibEntry_beside _ c _)).trans (formGroup_beside _ _)

theorem testMemory_beside (c : Channel) (evaluated : Bool) : s.Beside (s.testMemory c evaluated) :=
  .ite (fun _ => .trans (.trans (s.setChannel_beside (by exact id)) (formDemand_beside _ _)) (formAlert_beside _ _))
    fun _ => .refl s

theorem blockEndChannel_beside (c : Channel) : s.Beside (s.blockEndChannel c) := by
  have hset : ∀ bad, s.Beside (s.setChannel c ((s.channel c).closeBlock.stepHealth bad)) := fun bad =>
    s.setChannel_beside fun h => ChannelWatch.stepHealth_lawful _ bad h
  refine .trans (.trans ?_ (evaluateChannel_beside _ c)) (testMemory_beside _ c _)
  exact .ite (fun _ => hset _) fun _ => (hset _).trans (healthChanged_beside _ c)

theorem formSectors_beside (c : Channel) : s.Beside (s.formSectors c) := by
  have hset : s.Beside (s.setChannel c ((s.channel c).formMap (vget s.watch.cfg.sector c))) := s.setChannel_beside id
  refine .ite (fun _ => hset) fun _ => .trans (.trans (hset.trans ?_) (formDemand_beside _ _)) (formAlert_beside _ _)
  exact .ite (fun _ => takeCond_beside _ _ _) fun _ => .refl _

theorem visitWork_beside (c : Channel) (t : Tag) (y : Int) : s.Beside (s.visitWork c t y) := by
  refine .ite (fun _ => ?_) fun _ => s.setChannel_beside (by exact id)
  have hset : ∀ p : Bool, s.Beside (s.setChannel c (if p = true then
      ((s.channel c).follow s.meas.shell.sector).visitSample y else (s.channel c).follow s.meas.shell.sector)) := by
    refine fun p => s.setChannel_beside fun h => ?_
    have hfollow := (s.channel c).follow_lawful s.meas.shell.sector h
    split_ifs <;> exact hfollow
  exact .ite (fun _ => (hset _).trans (formSectors_beside _ c)) fun _ => hset _

theorem sampleWork_beside (c : Channel) (r : Receiver) : s.Beside (s.sampleWork c r) := by
  have hset : ∀ t x, s.Beside (s.setChannel c (((s.channel c).noteTag t x).accumulate t x)) := fun t x =>
    s.setChannel_beside id
  refine .trans ?_ (visitWork_beside _ c _ _)
  exact .ite (fun _ => (hset _ _).trans (heldLost_beside _ c)) fun _ => hset _ _

theorem takeSamples_beside : s.Beside s.takeSamples :=
  .trans (s.setMeas_beside _) (.foldl (fun u c => u.sampleWork_beside c _) _ _)

theorem resetChannel_beside (c : Channel) (fitted : Bool) : s.Beside (s.resetChannel c fitted) := by
  have hset : s.Beside ((s.setChannel c .reset).setReceiver c { Receiver.reset with waitIdle := fitted }) :=
    (s.setChannel_beside fun _ => by simp [ChannelWatch.lawful, ChannelWatch.reset]).trans (setReceiver_beside _ c _)
  exact .ite (fun _ => hset) fun _ => hset.trans (writeWord_beside _ _ _)

theorem adoptChannel_beside (old : Channel → Bool) (c : Channel) : s.Beside (State.adoptChannel old s c) := by
  unfold State.adoptChannel
  split
  · exact s.formSectors_beside c
  · exact .refl s
  · exact s.resetChannel_beside c _

theorem formAll_beside (c : Channel) : s.Beside (s.formAll c) :=
  (((((((s.formSuspect_beside c).trans (formLost_beside _ c)).trans (formAlert_beside _ .a)).trans
    (formAlert_beside _ .b)).trans (formDemand_beside _ .a)).trans (formDemand_beside _ .b)).trans
    (formDwell_beside _ .a)).trans (formDwell_beside _ .b)

theorem dwellStep_beside (g : Side) : s.Beside (s.dwellStep g) :=
  .ite (fun _ => (s.setGroup_beside g _).trans (tripPulse_beside _ _)) fun _ =>
    .ite (fun _ => s.setGroup_beside g _) fun _ => s.formDwell_beside g

theorem advanceQuarter_beside : s.Beside s.advanceQuarter :=
  .ite (fun _ => .unlessReset s (.trans (s.setWatch_same_beside (by rfl) (by rfl)) (dwellStep_beside _ .a))
    fun u => u.dwellStep_beside .b) fun _ => s.setWatch_same_beside rfl rfl

theorem requestSamples_beside : s.Beside s.requestSamples := s.setWatch_same_beside rfl rfl

theorem zeroMap_beside (c : Channel) : s.Beside (s.zeroMap c) :=
  .trans (.trans (.trans (s.setChannel_beside (by exact id)) (formSectors_beside _ c)) (formDemand_beside _ _))
    (formAlert_beside _ _)

/-! ### Sequencer (R19 to R36) -/

theorem magnetizingStep_beside (h : s.seq.drive = .magnetizing) : s.Beside s.magnetizingStep := by
  have hcount : ∀ n, s.Beside (s.setSeq { s.seq with magCount := n, flux := fluxAt s.cfg.idf n s.cfg.magTime }) :=
    fun n => s.setSeq_same_beside rfl rfl rfl rfl rfl
  refine .ite (fun _ => (hcount (s.seq.magCount + 1)).trans ?_) fun _ => hcount _
  refine .trans (setSeq_beside _ (fun hs => ?_) ?_ (by simp [DriveState.governed])) (formEncoders_beside _)
  · obtain ⟨⟨⟨hgate, hbrake⟩, hphase, -⟩, -⟩ := hs
    simp_all [Sequencer.law, Sequencer.outputLaw, brakeOf, DriveState.running, State.cfg]
  · simp [h]

theorem breakawayStep_beside (h : s.seq.drive = .breakaway) : s.Beside s.breakawayStep := by
  have hcount : s.Beside (s.setSeq { s.seq.stepRamp s.cfg with breakawayCount := s.seq.breakawayCount + 1 }) :=
    s.setSeq_same_beside rfl rfl rfl rfl rfl
  refine .ite (fun _ => ?_) fun _ => .ite (fun _ => hcount.trans (tripPulse_beside _ _)) fun _ => hcount
  refine hcount.trans (.trans (setSeq_beside _ (fun hs => ?_) ?_ (by simp [DriveState.governed])) (formEncoders_beside _))
  · obtain ⟨⟨⟨hgate, hbrake⟩, hphase, -⟩, -⟩ := hs
    simp_all [Sequencer.law, Sequencer.outputLaw, brakeOf, DriveState.running, State.cfg, Sequencer.stepRamp]
  · simp [h, Sequencer.stepRamp]

/-- The end of the brake set time, in a state that has come from `s` in BRAKE SETTING, or in AT ZERO with the brake set. -/
theorem Beside.brakeSetEnd {s u : State} {q : Sequencer} (hu : u = s.setSeq q) (hdrive : s.seq.drive ≠ .tripped)
    (hbrake : s.driveLaw → q.brakeRelease = false) : s.Beside u.brakeSetEnd := by
  subst hu
  refine .enterStopped (by rfl) (by rfl) (by rfl) (by rfl) (by rfl) (by rfl) (by rfl) fun hs => ⟨rfl, hbrake hs, ?_⟩
  have hlock : lockLaw s.faults.lock s.seq.drive := hs.2
  simpa [lockLaw, hdrive] using hlock

theorem stoppingStep_beside (h : s.seq.drive = .stopping) : s.Beside s.stoppingStep := by
  unfold State.stoppingStep
  split
  · next hphase =>
    unfold State.deceleratingStep
    refine s.setSeq_beside (fun hs => ?_) (by rfl) (by exact id)
    obtain ⟨⟨⟨hgate, hbrake⟩, -, -⟩, -⟩ := hs
    refine ⟨⟨hgate, ?_⟩, ?_, ?_⟩
    · simp only [Sequencer.stepRamp, hbrake, h, hphase]
      split_ifs <;> rfl
    · simp only [Sequencer.stepRamp, h, hphase]
      split_ifs <;> simp
    · simp [Sequencer.stepRamp, h, DriveState.running]
  · next hphase =>
    refine .ite (fun _ => ?_) fun _ => s.setSeq_same_beside rfl rfl rfl rfl rfl
    refine .ite (fun _ => .brakeSetEnd rfl (by simp [h]) fun _ => rfl) fun _ => ?_
    refine s.setSeq_beside (fun hs => ?_) (by rfl) (by exact id)
    obtain ⟨⟨⟨hgate, -⟩, -, -⟩, -⟩ := hs
    exact ⟨⟨hgate, by simp [h, brakeOf]⟩, by simp [h], by simp [h, DriveState.running]⟩
  · next hphase =>
    refine .ite (fun _ => .brakeSetEnd rfl (by simp [h]) fun hs => ?_) fun _ => s.setSeq_same_beside rfl rfl rfl rfl rfl
    obtain ⟨⟨⟨-, hbrake⟩, -, -⟩, -⟩ := hs
    simpa [h, hphase, brakeOf] using hbrake
  · exact .refl s

theorem stoppedStep_beside : s.Beside s.stoppedStep :=
  .trans (s.setSeq_same_beside (by rfl) (by rfl) (by rfl) (by rfl) (by rfl)) (alarmLevel_beside _ _ _ _ _)

theorem sequencerStep_beside : s.Beside s.sequencerStep := by
  unfold State.sequencerStep
  split
  · exact .refl s
  · exact s.stoppedStep_beside
  · next h => exact s.magnetizingStep_beside h
  · next h => exact s.breakawayStep_beside h
  · exact s.setSeq_same_beside rfl rfl rfl rfl rfl
  · next h => exact s.stoppingStep_beside h
  · exact .refl s

theorem stopMagnetizing_beside (h : s.seq.drive = .magnetizing) : s.Beside s.stopMagnetizing := by
  refine .enterStopped (by rfl) (by rfl) (by rfl) (by rfl) (by rfl) (by rfl) (by rfl) fun hs => ?_
  obtain ⟨⟨⟨-, hbrake⟩, hphase, -⟩, hlock⟩ := hs
  simp_all [brakeOf, lockLaw]

theorem permitDrop_beside : s.Beside s.permitDrop := by
  refine .ite (fun _ => ?_) fun _ => .refl s
  split
  · exact .trans (s.setSeq_same_beside (by rfl) (by rfl) (by rfl) (by rfl) (by rfl)) (tripRise_beside _ _ _)
  · split
    · next h => exact s.stopMagnetizing_beside h
    · next h => exact s.enterStopping_beside (.inl h)
    · next h => exact s.enterStopping_beside (.inr h)
    · exact .refl s

/-! ### Restart (R37) -/

theorem restartWrite_beside : s.Beside s.restartWrite := by
  refine .ite (fun _ => s.performReset_beside) fun h => s.setSeq_beside (fun hs => ?_) (by rfl) (by exact id)
  obtain ⟨⟨hout, hphase, -⟩, -⟩ := hs
  refine ⟨hout, hphase, fun _ => ?_⟩
  cases hd : s.seq.drive <;> simp_all [DriveState.idleClass, DriveState.running]

/-! ### Capture (R123 to R127, R131) -/

theorem writeFrame_beside (i : Fin 4) : s.Beside (s.writeFrame i) :=
  s.setRecord_beside (s.record.setBank_keeps id)

theorem recordFrame_beside : s.Beside s.recordFrame := by
  unfold State.recordFrame
  split
  · exact .refl s
  · next i _ =>
    refine .ite (fun hdone => (s.writeFrame_beside i).trans (freezeBank_beside _ ?_)) fun _ => s.writeFrame_beside i
    simp only [Bank.postDone, Bool.and_eq_true, decide_eq_true_eq] at hdone
    simp [Bank.active, hdone.1]

theorem takeBelow_beside (c : Option TrigCond) (was now : Bool) : s.Beside (s.takeBelow c was now) := by
  unfold State.takeBelow
  split
  · exact .ite (fun _ => s.takeCond_beside _ _) fun _ => .refl s
  · exact .refl s

theorem belowConditions_beside : s.Beside s.belowConditions := by
  have hstep : s.Beside (s.setRecord (s.record.stepBelow s.meas.n)) := by
    refine s.setTrigger_beside ?_
    unfold RecordUnit.stepBelow
    split
    · split_ifs <;> rfl
    · rfl
  unfold State.belowConditions
  dsimp only
  split
  · exact .ite (fun _ => hstep.trans (takeBelow_beside _ _ _ _)) fun _ =>
      (hstep.trans (takeBelow_beside _ _ _ _)).trans (takeBelow_beside _ _ _ _)
  · exact hstep

theorem capturePeriod_beside : s.Beside s.capturePeriod := by
  refine .trans (s.recordFrame_beside.trans (setWatch_beside _ (fun c hc => ?_) (by rfl))) (belowConditions_beside _)
  simpa [Watch.takeFlags, ChannelWatch.clearSeen, ChannelWatch.lawful] using hc

/-! ### Host writes and time -/

theorem clearStateWords_beside : s.Beside s.clearStateWords :=
  .trans (.foldl (fun u _ => u.writeWord_beside _ _) _ s) (.foldl (fun u _ => u.writeWord_beside _ _) _ _)

theorem initMemory_beside : s.Beside s.initMemory :=
  ((((s.writeWords_beside _ _).trans (clearStateWords_beside _)).trans (writeWords_beside _ _ _)).trans
    (writeWords_beside _ _ _)).trans (writeWords_beside _ _ _)

theorem entryWrite_beside (k : Fin 8) (v : Word) : s.Beside (s.entryWrite k v) :=
  .ite (fun _ => s.writeWord_beside _ _) fun _ => .ite (fun _ => s.putEntry_beside (.inr rfl)) fun _ =>
    .ite (fun _ => s.putEntry_beside (.inl rfl)) fun _ => (s.putEntry_beside (.inr rfl)).trans (misuse_beside _)

theorem elapse_beside (us : Nat) : s.Beside (s.elapse us) := by
  refine .trans (.trans (s.setFaults_beside ?_) (setRecord_beside _ (.of_same ?_ ?_ ?_ ?_ ?_ ?_)))
    (setStore_beside _ (by exact id) ⟨rfl, rfl, rfl, rfl, id⟩)
  all_goals simp

theorem idleMicrosecond_beside : s.Beside s.idleMicrosecond :=
  .ite (fun _ => (s.elapse_beside 1).trans (setReq_beside _ (by constructor <;> simp))) fun _ => .refl s

/-! ### A DRIVE or RECORD group in force (R40, R71, R119, R143) -/

theorem leaveSet_beside (x : Side) : s.Beside (s.leaveSet x) :=
  ((((((((s.setReg_beside x _).trans (fall_beside _ _ _)).trans (fall_beside _ _ _)).trans (fall_beside _ _ _)).trans
    (fall_beside _ _ _)).trans (fall_beside _ _ _)).trans (fall_beside _ _ _)).trans (fall_beside _ _ _)).trans
    (setCounts_beside _ _ _)

theorem enterSet_beside (x : Side) : s.Beside (s.enterSet x) := by
  have hset : ∀ g c, s.Beside ((s.setReg x g).setCounts x c) := fun g c => (s.setReg_beside x g).trans (setCounts_beside _ x c)
  exact .ite (fun _ => ((hset _ _).trans (setGateBlock_beside _ x)).trans (gateFaultRise_beside _ x)) fun _ => hset _ _

theorem adoptMotor_beside (old : PinionSet) (x : Side) : s.Beside (State.adoptMotor old s x) := by
  unfold State.adoptMotor
  split
  · exact s.leaveSet_beside x
  · exact s.enterSet_beside x
  · exact .refl s

theorem adoptDrive_beside (new : DriveSettings) (h : s.seq.drive.running = false) : s.Beside (s.adoptDrive new) := by
  refine .unlessReset s ?_ fun u => u.adoptMotor_beside _ .b
  refine .trans (.trans (.trans (.trans (s.setDrive_beside h) (setMeas_beside _ _)) (setSeq_same_beside _ ?_ ?_ ?_ ?_ ?_))
    (reportPosition_beside _)) (adoptMotor_beside _ _ .a)
  all_goals rfl

theorem adoptRecord_beside (r : RecordSettings) : s.Beside (s.adoptRecord r) := by
  refine s.setRecord_beside ?_
  have hset : s.record.Keeps { s.record with settings := some r } := .of_same rfl rfl rfl rfl rfl rfl
  split_ifs with hactive
  · exact hset
  · refine hset.trans (RecordUnit.goLiveFirst_keeps _ _ fun j => RecordUnit.activeBank_none ?_ j)
    simpa using hactive

end State

end Sys2Proof.Machine
end

section
/-! The laws of the request unit over a take and what answers it: a request that has been taken, or whose timed work is over, is in the
unit's hands until it is completed or becomes ACTIVE (R166 to R168). -/

namespace Sys2Proof.Machine

/-! ### A request in hand -/

/-- The request of slot `k` is in the unit's hands: it is neither posted nor running, and but for it, and for the transfer area that it
may still hold, the laws of the request unit stand. -/
structure State.Handling (s : State) (k : Fin 8) : Prop where
  nodup : s.req.order.Nodup
  posted : ∀ j, j ∈ s.req.order ↔ j ≠ k ∧ (s.slot j).state = .posted
  runs : s.running.Nodup
  active : ∀ j, j ∈ s.running ↔ j ≠ k ∧ (s.slot j).state = .active
  holder : (s.req.release k).holder = (s.req.fetch.map Fetch.slot).or (s.store.hostOp.bind HostOp.readSlot)
  single : s.req.fetch = none ∨ s.store.hostOp.bind HostOp.readSlot = none
  busy : s.store.hostOp.isSome = true → s.store.state = .busy
  scans : s.store.job.ofScan = true → s.store.state = .scanning
  started : s.req.starting = false

/-- The laws are kept, those of the request unit too. -/
structure State.Serves (s t : State) : Prop extends s.Keeps t where
  requests : s.requestLaw → t.requestLaw

/-- From a state with the request of slot `k` in hand to one in which the laws of the request unit hold. -/
structure State.Answers (k : Fin 8) (s t : State) : Prop extends s.Keeps t where
  requests : s.Handling k → t.requestLaw

/-- The laws are kept up to the request of slot `k`, which comes to be in hand. -/
structure State.Drops (k : Fin 8) (s t : State) : Prop extends s.Keeps t where
  requests : s.requestLaw → t.Handling k

theorem State.Beside.serves {s t : State} (h : s.Beside t) : s.Serves t := ⟨h.toKeeps, h.requests.requestLaw⟩

theorem State.Serves.refl (s : State) : s.Serves s := ⟨.refl s, id⟩

theorem State.Serves.trans {s t u : State} (h : s.Serves t) (h' : t.Serves u) : s.Serves u :=
  ⟨h.toKeeps.trans h'.toKeeps, h'.requests ∘ h.requests⟩

theorem State.Serves.ite {s t u : State} {p : Prop} [Decidable p] (ht : p → s.Serves t) (hu : ¬p → s.Serves u) :
    s.Serves (if p then t else u) := by
  split_ifs with hp
  · exact ht hp
  · exact hu hp

theorem State.Answers.ite {k : Fin 8} {s t u : State} {p : Prop} [Decidable p] (ht : p → State.Answers k s t)
    (hu : ¬p → State.Answers k s u) : State.Answers k s (if p then t else u) := by
  split_ifs with hp
  · exact ht hp
  · exact hu hp

theorem State.Answers.serves {k : Fin 8} {s t u : State} (h : State.Answers k s t) (h' : t.Serves u) : State.Answers k s u :=
  ⟨h.toKeeps.trans h'.toKeeps, h'.requests ∘ h.requests⟩

theorem State.Drops.answers {k : Fin 8} {s t u : State} (h : State.Drops k s t) (h' : State.Answers k t u) : s.Serves u :=
  ⟨h.toKeeps.trans h'.toKeeps, h'.requests ∘ h.requests⟩

theorem State.SameRequests.handling {s t : State} {k : Fin 8} (h : s.SameRequests t) (hs : s.Handling k) : t.Handling k := by
  obtain ⟨hnodup, hposted, hruns, hactive, hholder, hsingle, hbusy, hscans, hstarted⟩ := hs
  have hslot := h.slot
  have hrunning := h.running
  have hrelease : (t.req.release k).holder = (s.req.release k).holder := by simp [RequestUnit.release, h.req.holder]
  constructor
  · rwa [h.req.order]
  · simpa only [h.req.order, hslot] using hposted
  · rwa [hrunning]
  · simpa only [hrunning, hslot] using hactive
  · rw [hrelease, h.req.fetch, h.store.readSlot, hholder]
  · rwa [h.req.fetch, h.store.readSlot]
  · rwa [h.isSome_hostOp, h.store.state]
  · rw [h.store.state]; exact hscans ∘ h.store.job
  · rwa [h.req.starting]

/-- Where no reset came about, what stands beside the requests leaves them as they are. -/
theorem State.Beside.same {s t : State} (h : s.Beside t) (hr : t.record.resets = s.record.resets) : s.SameRequests t :=
  h.requests.resolve_right fun hlt => absurd hr (Nat.ne_of_gt hlt.1)

theorem State.Beside.answers {k : Fin 8} {s t u : State} (h : s.Beside t) (hr : t.record.resets = s.record.resets)
    (h' : State.Answers k t u) : State.Answers k s u :=
  ⟨h.toKeeps.trans h'.toKeeps, fun hs => h'.requests ((h.same hr).handling hs)⟩

theorem State.Beside.drops {k : Fin 8} {s t u : State} (h : s.Beside t) (h' : State.Drops k t u) : State.Drops k s u :=
  ⟨h.toKeeps.trans h'.toKeeps, fun hs => h'.requests (h.requests.requestLaw hs)⟩

theorem State.Drops.beside {k : Fin 8} {s t u : State} (h : State.Drops k s t) (h' : t.Beside u)
    (hr : u.record.resets = t.record.resets) : State.Drops k s u :=
  ⟨h.toKeeps.trans h'.toKeeps, fun hs => (h'.same hr).handling (h.requests hs)⟩

/-- An answer that is due unless a reset came about, which has ended the request. -/
theorem State.Beside.answers_unlessReset {k : Fin 8} {s t : State} {f : State → State} (h : s.Beside t)
    (hf : ∀ u, State.Answers k u (f u)) : State.Answers k s (s.unlessReset f t) := by
  unfold State.unlessReset
  split_ifs with hr
  · exact h.answers hr (hf t)
  · exact ⟨h.toKeeps, fun _ => (h.requests.resolve_left fun hsame => hr hsame.resets).2⟩

/-! ### The holder of the transfer area (R168) -/

/-- The slot that holds the transfer area is one of those running. -/
theorem State.mem_running_of_holder {s : State} (hs : s.resourceLaw) {j : Fin 8} (h : s.req.holder = some j) :
    j ∈ s.running := by
  rw [hs.1] at h
  rcases Option.or_eq_some_iff.mp h with h | ⟨-, h⟩
  · simp [State.running, h]
  · obtain ⟨op, hop, hslot⟩ := Option.bind_eq_some_iff.mp h
    cases op with
    | read => simp_all [State.running, HostOp.readSlot, HostOp.slot]
    | eraseAll => simp [HostOp.readSlot] at hslot

theorem RequestUnit.release_holder_of_ne {q : RequestUnit} {k : Fin 8} (h : q.holder ≠ some k) :
    (q.release k).holder = q.holder := by
  simp [RequestUnit.release, h]

/-! ### A take (R166) -/

theorem State.takeSlot_slot (s : State) (k j : Fin 8) (rest : List (Fin 8)) : (s.takeSlot k rest).slot j =
    if j = k then ⟨(s.slot k).state, RequestKind.ofCode (s.kindWord k), s.slotParams k, false⟩ else s.slot j :=
  vget_vset _ _ _ _

theorem State.takeSlot_drops {s : State} {k : Fin 8} {rest : List (Fin 8)} (h : s.req.order = k :: rest) :
    State.Drops k s (s.takeSlot k rest) := by
  refine ⟨s.setReq_keeps _, fun hs => ?_⟩
  obtain ⟨⟨hnodup, hposted, hruns, hactive⟩, hresource⟩ := hs
  have hholds := fun j => State.mem_running_of_holder hresource (j := j)
  obtain ⟨hholder, hsingle, hbusy, hscans, hstart⟩ := hresource
  rw [h] at hnodup hposted hstart
  obtain ⟨hk, hrest⟩ := List.nodup_cons.mp hnodup
  have hkposted : (s.slot k).state = .posted := (hposted k).mp List.mem_cons_self
  have hkruns : k ∉ s.running := fun hmem => by simp_all
  have hrunning : (s.takeSlot k rest).running = s.running := rfl
  constructor
  · exact hrest
  · intro j
    rw [State.takeSlot_slot]
    by_cases hj : j = k
    · simp only [hj, ne_eq, not_true_eq_false, false_and, iff_false]
      exact hk
    · rw [if_neg hj, ← hposted j]
      simp [State.takeSlot, hj]
  · exact hruns
  · intro j
    rw [State.takeSlot_slot, hrunning]
    by_cases hj : j = k
    · simpa [hj] using hkruns
    · simp [hj, hactive]
  · rw [RequestUnit.release_holder_of_ne]
    · exact hholder
    · exact fun hmem => hkruns (hholds k hmem)
  · exact hsingle
  · exact hbusy
  · exact hscans
  · exact Bool.eq_false_iff.mpr fun hst => by simpa using (hstart hst).1

theorem State.withTake_serves {s : State} {kind : Option RequestKind} {f : State → Fin 8 → List Word → State}
    (h : ∀ (u : State) k ps, State.Answers k u (f u k ps)) : s.Serves (s.withTake kind f) := by
  unfold State.withTake
  split
  · exact .refl s
  · next k rest horder =>
    split
    · exact (State.takeSlot_drops horder).answers (h _ k _)
    · exact .refl s

/-! ### Completion (R167) -/

theorem State.complete_keeps (s : State) (k : Fin 8) (st : SlotState) (rc : ResultCode) (ws : List Word) :
    s.Keeps (s.complete k st rc ws) :=
  .of_frame (by simp) (s.complete_mem_wf k st rc ws) (by simp) (by simp) (by simp) (by simp) (by simp) (by simp) (by simp)

theorem State.complete_answers (s : State) (k : Fin 8) {st : SlotState} (rc : ResultCode) (ws : List Word)
    (hposted : st ≠ .posted) (hactive : st ≠ .active) : State.Answers k s (s.complete k st rc ws) := by
  refine ⟨s.complete_keeps k st rc ws, fun h => ?_⟩
  have horder : (s.complete k st rc ws).req.order = s.req.order := by rw [State.complete_req]
  have hrunning : (s.complete k st rc ws).running = s.running := by
    unfold State.running
    rw [State.complete_req]
    simp
  refine ⟨⟨?_, fun j => ?_, ?_, fun j => ?_⟩, ?_⟩
  · rw [horder]
    exact h.nodup
  · rw [horder, h.posted j, State.complete_slot]
    by_cases hj : j = k <;> simp [hj, hposted]
  · rw [hrunning]
    exact h.runs
  · rw [hrunning, h.active j, State.complete_slot]
    by_cases hj : j = k <;> simp [hj, hactive]
  · have hholder := h.holder
    simp only [RequestUnit.release] at hholder
    unfold State.resourceLaw
    rw [hrunning, State.complete_req, (s.complete_frame k st rc ws).2.2.2.2.2.2.2.2.2.2.2]
    exact ⟨hholder, h.single, h.busy, h.scans, fun hst => absurd (hst.symm.trans h.started) (by simp)⟩

theorem State.finish_answers (s : State) (k : Fin 8) (rc : ResultCode) (ws : List Word) :
    State.Answers k s (s.finish k rc ws) := s.complete_answers k rc ws (by simp) (by simp)

theorem State.refuse_answers (s : State) (k : Fin 8) (rc : ResultCode) : State.Answers k s (s.refuse k rc) :=
  s.complete_answers k rc [] (by simp) (by simp)

theorem State.refuseInvalid_answers (s : State) (k : Fin 8) (i : Nat) (image : Bool) :
    State.Answers k s (s.refuseInvalid k i image) := s.complete_answers k _ _ (by simp) (by simp)

/-! ### A timed request becomes ACTIVE (R166) -/

theorem State.putSlotState_keeps (s : State) (k : Fin 8) (st : SlotState) : s.Keeps (s.putSlotState k st) :=
  (s.setReq_keeps _).trans (writeWord_beside _ _ _).toKeeps

theorem State.putSlotState_slot (s : State) (k j : Fin 8) (st : SlotState) :
    (s.putSlotState k st).slot j = if j = k then { s.slot k with state := st } else s.slot j := vget_vset _ _ _ _

/-- The work of slot `k` is running in `t`, and the slot becomes ACTIVE. -/
theorem State.Handling.activate {s t : State} {k : Fin 8} (h : s.Handling k) (hperm : t.running.Perm (k :: s.running))
    (hslots : t.req.slots = s.req.slots) (horder : t.req.order = s.req.order) (hstart : t.req.starting = s.req.starting)
    (hholder : t.req.holder = (t.req.fetch.map Fetch.slot).or (t.store.hostOp.bind HostOp.readSlot))
    (hsingle : t.req.fetch = none ∨ t.store.hostOp.bind HostOp.readSlot = none)
    (hbusy : t.store.hostOp.isSome = true → t.store.state = .busy)
    (hscans : t.store.job.ofScan = true → t.store.state = .scanning) : (t.activate k).requestLaw := by
  have hslot : ∀ j, t.slot j = s.slot j := fun j => by rw [State.slot, State.slot, hslots]
  have hk : k ∉ s.running := fun hmem => ((h.active k).mp hmem).1 rfl
  have horder' : (t.activate k).req.order = s.req.order := horder
  have hrunning : (t.activate k).running = t.running := rfl
  refine ⟨⟨?_, fun j => ?_, ?_, fun j => ?_⟩, hholder, hsingle, hbusy, hscans, fun hst => ?_⟩
  · rw [horder']
    exact h.nodup
  · rw [horder', h.posted j, State.activate, State.putSlotState_slot, hslot, hslot]
    by_cases hj : j = k <;> simp [hj]
  · rw [hrunning]
    exact hperm.nodup_iff.mpr (List.nodup_cons.mpr ⟨hk, h.runs⟩)
  · rw [hrunning, hperm.mem_iff, List.mem_cons, h.active j, State.activate, State.putSlotState_slot, hslot, hslot]
    by_cases hj : j = k <;> simp [hj]
  · exact absurd ((hst.symm.trans hstart).trans h.started) (by simp)

/-- The holder of the transfer area while a request is in hand that does not hold it. -/
theorem State.Handling.holder_of_free {s : State} {k : Fin 8} (h : s.Handling k) (hfree : s.req.holder = none) :
    s.req.fetch = none ∧ s.store.hostOp.bind HostOp.readSlot = none := by
  have hor := h.holder
  simp only [RequestUnit.release, hfree, reduceCtorEq, if_false] at hor
  obtain ⟨hfetch, hread⟩ := Option.or_eq_none_iff.mp hor.symm
  exact ⟨by simpa using hfetch, hread⟩

/-! ### The end of timed work -/

/-- The slot of what no longer runs in `t` is in hand. -/
theorem State.requestLaw_handling {s t : State} {k : Fin 8} (hs : s.requestLaw) (hperm : s.running.Perm (k :: t.running))
    (hslots : t.req.slots = s.req.slots) (horder : t.req.order = s.req.order) (hstart : t.req.starting = s.req.starting)
    (hholder : t.req.holder = s.req.holder)
    (hrest : (t.req.fetch.map Fetch.slot).or (t.store.hostOp.bind HostOp.readSlot) =
      if s.req.holder = some k then none else s.req.holder)
    (hsingle : t.req.fetch = none ∨ t.store.hostOp.bind HostOp.readSlot = none)
    (hbusy : t.store.hostOp.isSome = true → t.store.state = .busy)
    (hscans : t.store.job.ofScan = true → t.store.state = .scanning) : t.Handling k := by
  obtain ⟨⟨hnodup, hposted, hruns, hactive⟩, -, -, -, -, hempty⟩ := hs
  have hslot : ∀ j, t.slot j = s.slot j := fun j => by rw [State.slot, State.slot, hslots]
  have hk : k ∈ s.running := hperm.mem_iff.mpr List.mem_cons_self
  have hkactive : (s.slot k).state = .active := (hactive k).mp hk
  obtain ⟨hnot, hrunst⟩ := List.nodup_cons.mp (hperm.nodup_iff.mp hruns)
  constructor
  · rwa [horder]
  · intro j
    rw [horder, hposted j, hslot]
    by_cases hj : j = k <;> simp [hj, hkactive]
  · exact hrunst
  · intro j
    rw [hslot, ← hactive j, hperm.mem_iff, List.mem_cons]
    by_cases hj : j = k <;> simp [hj, hnot]
  · rw [hrest, ← hholder]
    rfl
  · exact hsingle
  · exact hbusy
  · exact hscans
  · rw [hstart]
    exact Bool.eq_false_iff.mpr fun hst => by simp [(hempty hst).2] at hk

end Sys2Proof.Machine
end

section
/-! The work of the store unit and the laws: records that end, host operations and scans that end, and the steps of the port (R146 to
R163). -/

namespace Sys2Proof.Machine

/-! ### Changes of the store unit -/

/-- A change of the store unit that leaves host operation, awaiting group and store state, and brings no step of a scan. -/
theorem StoreUnit.SameHost.of_eq {u v : StoreUnit} (hawait : v.awaiting = u.awaiting) (hop : v.hostOp = u.hostOp)
    (hstate : v.state = u.state) (hjob : v.job.ofScan = true → u.job.ofScan = true) : u.SameHost v :=
  ⟨hawait, by rw [hop], by rw [hop], hstate, hjob⟩

namespace State
variable {s : State}

/-- A change of the store unit that leaves the slots of its timed requests. -/
theorem setStore_serves {u : StoreUnit} (hqueue : s.store.queue.length ≤ 4 → u.queue.length ≤ 4)
    (hawait : u.awaiting = s.store.awaiting) (hop : u.hostOp = s.store.hostOp)
    (hbusy : s.requestLaw → u.hostOp.isSome = true → u.state = .busy)
    (hscans : s.requestLaw → u.job.ofScan = true → u.state = .scanning) : s.Serves (s.setStore u) := by
  refine ⟨s.setStore_keeps hqueue, fun hs => ?_⟩
  have hrunning : (s.setStore u).running = s.running := by simp [State.running, hawait, hop]
  obtain ⟨hposting, hholder, hsingle, -, -, hstart⟩ := id hs
  refine ⟨?_, ?_, ?_, hbusy hs, hscans hs, ?_⟩
  · unfold State.postingLaw
    rw [hrunning]
    exact hposting
  · exact hop ▸ hholder
  · exact hop ▸ hsingle
  · rw [hrunning]
    exact hstart

/-- Outside the scan, whose steps have it SCANNING, the host operation is none, so that the store state may change (R150). -/
theorem hostOp_none_of_scan (hs : s.requestLaw) (hjob : s.store.job.ofScan = true) : s.store.hostOp = none := by
  obtain ⟨-, -, -, hbusy, hscans, -⟩ := hs
  by_contra hop
  exact absurd ((hbusy (Option.isSome_iff_ne_none.mpr hop)).symm.trans (hscans hjob)) (by simp)

/-- The scan is left, after effects beside the requests. -/
theorem Beside.leaveScan {t : State} (h : s.Beside t) (hjob : s.store.job.ofScan = true)
    (hop : t.store.hostOp = s.store.hostOp) {u : StoreUnit} (hqueue : u.queue = t.store.queue)
    (hawait : u.awaiting = t.store.awaiting) (hop' : u.hostOp = t.store.hostOp) (hscan : u.job.ofScan = false) :
    s.Serves (t.setStore u) := by
  refine ⟨h.toKeeps.trans (t.setStore_keeps (by rw [hqueue]; exact id)), fun hs => ?_⟩
  have hnone : u.hostOp = none := (hop'.trans hop).trans (hostOp_none_of_scan hs hjob)
  refine (setStore_serves (by rw [hqueue]; exact id) hawait hop' (fun _ => ?_) fun _ => ?_).requests (h.requests.requestLaw hs)
  · simp [hnone]
  · simp [hscan]

/-- The host operation is over; its request is in hand (R161, R162). -/
theorem setStore_drops {u : StoreUnit} {op : HostOp} (hsome : s.store.hostOp = some op)
    (hqueue : s.store.queue.length ≤ 4 → u.queue.length ≤ 4) (hawait : u.awaiting = s.store.awaiting) (hop : u.hostOp = none)
    (hjob : u.job.ofScan = true → s.store.job.ofScan = true) : State.Drops op.slot s (s.setStore u) := by
  refine ⟨s.setStore_keeps hqueue, fun hs => ?_⟩
  have hlaw := hs
  obtain ⟨⟨-, -, hruns, -⟩, hholder, hsingle, -, -, -⟩ := hlaw
  rw [hsome, Option.bind_some] at hholder hsingle
  have hrunning : s.running = (s.setStore u).running ++ [op.slot] := by simp [State.running, hawait, hop, hsome]
  refine State.requestLaw_handling hs ?_ rfl rfl rfl rfl ?_ (.inr ?_) ?_ ?_
  · rw [hrunning]
    exact (List.perm_append_singleton _ _)
  · cases op with
    | read k _ _ _ =>
      have hfetch : s.req.fetch = none := by simpa [HostOp.readSlot] using hsingle
      simp [hop, hfetch, hholder, HostOp.readSlot, HostOp.slot]
    | eraseAll k _ =>
      have hnot : s.req.fetch.map Fetch.slot ≠ some k := by
        intro hk
        rw [hrunning] at hruns
        refine (List.disjoint_of_nodup_append hruns) (a := k) ?_ (by simp [HostOp.slot])
        simp [State.running, hk]
      simp [hop, hholder, HostOp.readSlot, HostOp.slot, hnot]
  · simp [hop]
  · simp [hop]
  · intro hscan
    exact absurd ((hostOp_none_of_scan hs (hjob hscan)).symm.trans hsome) (by simp)

variable (s)

theorem changeStore_beside (u : StoreUnit) : (s.setStore u).Beside (s.changeStore u) :=
  .ite (fun _ => .refl _) fun _ => raiseNotice_beside _ _

/-! ### Records that end (R154) -/

theorem countDropped_beside : s.Beside s.countDropped := by
  refine (s.setStore_beside ?_ ?_).trans (alarmPulse_beside _ _ _ _)
  · exact id
  · exact ⟨rfl, rfl, rfl, rfl, id⟩

theorem countFailed_beside : s.Beside s.countFailed := by
  refine (s.setStore_beside ?_ ?_).trans (alarmPulse_beside _ _ _ _)
  · exact id
  · exact ⟨rfl, rfl, rfl, rfl, id⟩

theorem countEnd_beside (st : StoreStatus) : s.Beside (s.countEnd st) := by
  unfold State.countEnd
  split
  · exact s.countDropped_beside
  · exact s.countFailed_beside
  · exact .refl s

theorem endRecord_beside (id : Nat) (st : StoreStatus) : s.Beside (s.endRecord id st) :=
  ((s.countEnd_beside st).trans (noteStoreEnd_beside _ id st)).trans (raiseNotice_beside _ _)

theorem endHead_beside (st : StoreStatus) (r : QueuedRecord) : s.Beside (State.endHead st s r) := by
  refine (s.setStore_beside (u := { s.store with queue := s.store.queue.tail }) (fun h => ?_) ?_).trans
    (endRecord_beside _ _ _)
  · rw [List.length_tail]
    omega
  · exact ⟨rfl, rfl, rfl, rfl, id⟩

theorem endQueue_beside (st : StoreStatus) : s.Beside (s.endQueue st) := .foldl (fun u r => u.endHead_beside st r) _ _

/-! ### OUT OF SERVICE (R161) and the group of a scan (R151) -/

theorem running_storeAwaiting {s t : State} {c : StoreSettings} {k : Fin 8} (hs : s.store.awaiting = some (c, k))
    (ht : t.store.awaiting = none) (hgov : t.gov.awaiting = s.gov.awaiting) (hwatch : t.watch.awaiting = s.watch.awaiting)
    (hfetch : t.req.fetch = s.req.fetch) (hop : t.store.hostOp = s.store.hostOp) : s.running.Perm (k :: t.running) := by
  simp only [State.running, hs, ht, hgov, hwatch, hfetch, hop, Option.map_some, Option.map_none, Option.toList_some,
    Option.toList_none, List.append_assoc, List.nil_append, List.singleton_append]
  rw [← List.append_assoc, ← List.append_assoc (Option.toList _) (Option.toList _) (_ ++ _)]
  exact List.perm_middle

/-- Work that neither holds the transfer area nor was the store's is over. -/
theorem requestLaw_handling_of_group {s t : State} {k : Fin 8} (hs : s.requestLaw) (hperm : s.running.Perm (k :: t.running))
    (hreq : s.req.SameSlots t.req) (hop : t.store.hostOp = s.store.hostOp) (hstate : t.store.state = s.store.state)
    (hjob : t.store.job = s.store.job) : t.Handling k := by
  have hlaw := hs
  obtain ⟨⟨-, -, hruns, -⟩, hholder, hsingle, hbusy, hscans, -⟩ := hlaw
  obtain ⟨hnot, -⟩ := List.nodup_cons.mp (hperm.nodup_iff.mp hruns)
  have hfree : s.req.holder ≠ some k := by
    intro hk
    rw [hholder, Option.or_eq_some_iff] at hk
    apply hnot
    rcases hk with hk | ⟨-, hk⟩
    · simp [State.running, hreq.fetch, hk]
    · obtain ⟨op, hsome, hslot⟩ := Option.bind_eq_some_iff.mp hk
      cases op with
      | read => simp_all [State.running, HostOp.readSlot, HostOp.slot]
      | eraseAll => simp [HostOp.readSlot] at hslot
  refine State.requestLaw_handling hs hperm hreq.slots hreq.order hreq.starting hreq.holder ?_ ?_ ?_ ?_
  · rw [hreq.fetch, hop, ← hholder, if_neg hfree]
  · rwa [hreq.fetch, hop]
  · rwa [hop, hstate]
  · rwa [hjob, hstate]

theorem storeInForce_serves (rc : ResultCode) : s.Serves (s.storeInForce rc) := by
  unfold State.storeInForce
  split
  · next c k hawait =>
    refine State.Drops.answers (t := s.setStore { s.store with settings := some c, awaiting := none })
      ⟨s.setStore_keeps id, fun hs => ?_⟩ (finish_answers _ k rc _)
    exact requestLaw_handling_of_group hs (running_storeAwaiting hawait rfl rfl rfl rfl rfl) (.refl _) rfl rfl rfl
  · exact .refl s

theorem endHostOp_answers (op : HostOp) : State.Answers op.slot s (s.endHostOp (some op)) := by
  cases op with
  | read k _ _ _ => exact (s.refuse_answers k .store).serves (setChain_beside _ _).serves
  | eraseAll k _ => exact (s.refuse_answers k .store).serves (breakStoreChain_beside _).serves

theorem storeOut_serves : s.Serves s.storeOut := by
  unfold State.storeOut
  dsimp only
  refine .trans ?_ (storeInForce_serves _ _)
  have hafter : ∀ u, (s.setStore u).Beside (((s.changeStore u).endQueue .failed).alarmRise .storeFault .first
      (some stateDetailOutOfService)) := fun u =>
    ((s.changeStore_beside u).trans (endQueue_beside _ _)).trans (alarmRise_beside _ _ _ _)
  cases hop : s.store.hostOp with
  | none =>
    refine .trans (setStore_serves (by exact id) (by rfl) hop.symm (fun _ => ?_) fun _ => ?_) (hafter _).serves
    · simp
    · simp [StoreUnit.rest, Job.ofScan]
  | some op =>
    refine State.Drops.answers (State.Drops.beside ?_ (hafter _) (by simp)) (endHostOp_answers _ op)
    exact setStore_drops hop id rfl rfl (by simp [StoreUnit.rest, Job.ofScan])

theorem storeGoOn_serves {u : StoreUnit} (h : s.Beside (s.setStore u)) : s.Serves (s.storeGoOn u) :=
  .ite (fun _ => h.serves.trans (storeOut_serves _)) fun _ => (h.trans (serveStore_beside _)).serves

end State

/-! ### The values of the store unit -/

namespace StoreUnit
variable (u : StoreUnit)

theorem rest_sameHost : u.SameHost u.rest := ⟨rfl, rfl, rfl, rfl, nofun⟩

theorem modSector_sameHost (i : Nat) (f : Sector → Sector) : u.SameHost (u.modSector i f) := ⟨rfl, rfl, rfl, rfl, id⟩

theorem markBad_sameHost (i : Nat) : u.SameHost (u.markBad i) := ⟨rfl, rfl, rfl, rfl, id⟩

theorem markSlot_sameHost (x : FlashSlot) : u.SameHost (u.markSlot x) := ⟨rfl, rfl, rfl, rfl, id⟩

theorem slotUsed_sameHost : u.SameHost u.slotUsed := by
  unfold slotUsed
  split
  all_goals exact ⟨rfl, rfl, rfl, rfl, id⟩

theorem slotUsed_queue : u.slotUsed.queue = u.queue := by simp

theorem drained_sameHost : u.SameHost u.drained := by
  unfold drained
  split
  · next h => exact setPhase_sameHost h _
  · exact .refl u

theorem poll_sameHost {j : Job} (hj : j.ofScan = false) : u.SameHost (u.poll j) :=
  ⟨rfl, rfl, rfl, rfl, fun h => absurd (hj.symm.trans h) (by simp)⟩

theorem replaceToOpen_sameHost (i n : Nat) : u.SameHost (u.replaceToOpen i n) := by
  unfold replaceToOpen
  split
  · split_ifs
    · exact ⟨rfl, rfl, rfl, rfl, id⟩
    · exact .refl u
  · exact .refl u

end StoreUnit

namespace State
variable (s : State)

/-- A change of the store unit beside the requests that leaves the queue. -/
theorem setStore_same_beside {u : StoreUnit} (hqueue : u.queue = s.store.queue) (h : s.store.SameHost u) :
    s.Beside (s.setStore u) := s.setStore_beside (by rw [hqueue]; exact id) h

/-! ### Storing (R156, R159) -/

theorem slotUsed_serves : s.Serves (s.storeGoOn s.store.slotUsed) :=
  s.storeGoOn_serves (s.setStore_same_beside (by simp) s.store.slotUsed_sameHost)

theorem storeDone_serves : s.Serves s.storeDone := by
  have hset : s.Beside (s.setStore { (s.store.markSlot (.valid s.store.head.id)).drained.rest with
      queue := s.store.queue.tail }) := by
    refine s.setStore_beside (fun h => ?_) (.trans (.trans (s.store.markSlot_sameHost _) (StoreUnit.drained_sameHost _))
      ⟨rfl, rfl, rfl, rfl, nofun⟩)
    rw [List.length_tail]
    omega
  exact ((hset.trans (endRecord_beside _ _ _)).serves).trans (slotUsed_serves _)

theorem storeFailed_serves : s.Serves s.storeFailed := by
  have hmark : s.store.SameHost (s.store.markSlot .spoiled).rest :=
    (s.store.markSlot_sameHost _).trans (StoreUnit.rest_sameHost _)
  have hqueue : (s.store.markSlot .spoiled).rest.queue = s.store.queue := by simp
  unfold State.storeFailed
  dsimp only
  split
  · next r rs hrs =>
    have hq : s.store.queue = r :: rs := hqueue.symm.trans hrs
    refine .ite (fun _ => storeGoOn_serves _ (s.setStore_beside ?_ ?_)) fun _ => ?_
    · simp [hq]
    · exact .trans hmark (.trans (v := { (s.store.markSlot .spoiled).rest with queue := { r with attempts := 1 } :: rs })
        ⟨rfl, rfl, rfl, rfl, id⟩ (StoreUnit.slotUsed_sameHost _))
    · refine .trans (State.Beside.serves ?_) (storeOut_serves _)
      refine .trans (s.setStore_beside ?_ ?_) (endRecord_beside _ _ _)
      · simp [hq]
        omega
      · exact .trans hmark (.trans (StoreUnit.slotUsed_sameHost _) ⟨rfl, rfl, rfl, rfl, id⟩)
  · exact storeGoOn_serves _ (s.setStore_same_beside (by simp) (hmark.trans (StoreUnit.slotUsed_sameHost _)))

/-! ### Erasing (R155, R160) -/

theorem eraseDone_serves : s.Serves s.eraseDone :=
  s.storeGoOn_serves (s.setStore_same_beside (by rfl) ⟨rfl, rfl, rfl, rfl, nofun⟩)

/-- A waiting store read ends (R162). -/
theorem endWaitingRead_serves {k : Fin 8} {id sector page : Nat} (h : s.store.hostOp = some (.read k id sector page))
    (rc : ResultCode) : s.Serves (s.endWaitingRead k rc) := by
  have hdrops : State.Drops k s (s.setStore { s.store with state := .ready, hostOp := none }) :=
    setStore_drops h (by exact fun h => h) rfl rfl (by exact fun h => h)
  exact hdrops.answers ((refuse_answers _ k rc).serves (setChain_beside _ _).serves)

theorem dropBadRead_serves (i : Nat) : s.Serves (s.dropBadRead i) := by
  unfold State.dropBadRead
  split
  · next h => exact .ite (fun _ => s.endWaitingRead_serves h _) fun _ => .refl s
  · exact .refl s

theorem eraseFailed_serves : s.Serves s.eraseFailed := by
  have hset : s.Beside (s.setStore { (s.store.markBad (s.store.eraseSector.getD 0)).rest with
      erase := .none, eraseSector := none }) := s.setStore_same_beside rfl ⟨rfl, rfl, rfl, rfl, nofun⟩
  refine .ite (fun _ => hset.serves.trans (storeOut_serves _)) fun _ => .ite (fun _ => ?_) fun _ => ?_
  · exact (hset.trans (serveStore_beside _)).serves
  · refine .trans (hset.serves.trans (dropBadRead_serves _ (s.store.eraseSector.getD 0))) ?_
    dsimp only
    split
    · refine (setStore_same_beside _ (by simp) ?_).serves
      exact (StoreUnit.replaceToOpen_sameHost _ _ _).trans (StoreUnit.startErase_sameHost _ _)
    · exact .refl _

/-! ### Opening (R158, R163) -/

theorem eraseAllDone_serves {k : Fin 8} {p : ErasePhase} (h : s.store.hostOp = some (.eraseAll k p)) :
    s.Serves (s.eraseAllDone k) := by
  have hdrops : State.Drops k s (s.setStore { s.store with state := .ready, hostOp := none, readPtr := none }) :=
    setStore_drops h (by exact id) rfl rfl (by exact id)
  exact hdrops.answers ((finish_answers _ k _ _).serves
    ((breakStoreChain_beside _).trans (serveStore_beside _)).serves)

theorem openDone_serves : s.Serves s.openDone := by
  unfold State.openDone
  split
  · next t q _ =>
    have hset : s.Beside (s.setStore { (s.store.modSector t fun e =>
        { e with state := .opened, seq := some q, slots := blankSlots }).rest with
        openSector := some t, nextSlot := 1, toOpen := none }) := s.setStore_same_beside rfl ⟨rfl, rfl, rfl, rfl, nofun⟩
    dsimp only
    split
    · next h => exact hset.serves.trans (eraseAllDone_serves _ h)
    · exact (hset.trans (serveStore_beside _)).serves
  · exact .refl s

theorem openFailed_serves : s.Serves s.openFailed := by
  unfold State.openFailed
  split
  · next t q _ =>
    have hset : s.Beside (s.setStore (s.store.markBad t).rest) := s.setStore_same_beside rfl ⟨rfl, rfl, rfl, rfl, nofun⟩
    refine .ite (fun _ => hset.serves.trans (storeOut_serves _)) fun _ => ?_
    refine .trans (.trans (State.Beside.serves (s.setStore_same_beside ?_ ?_)) (dropBadRead_serves _ t))
      (storeGoOn_serves _ (.refl _))
    · rfl
    · exact ⟨rfl, rfl, rfl, rfl, nofun⟩
  · exact .refl s

/-! ### Store reads (R162) -/

theorem endRead_serves {k : Fin 8} {id sector page : Nat} (h : s.store.hostOp = some (.read k id sector page))
    (rc : ResultCode) (ws : List Word) : s.Serves (s.endRead k rc ws) := by
  have hdrops : State.Drops k s (s.setStore { s.store.rest with state := .ready, hostOp := none }) :=
    setStore_drops h (by exact fun h => h) rfl rfl nofun
  unfold State.endRead
  dsimp only
  split
  · exact hdrops.answers ((finish_answers _ k _ _).serves ((setChain_beside _ _).trans (serveStore_beside _)).serves)
  · exact hdrops.answers ((complete_answers _ k _ _ (by simp) (by simp)).serves
      ((setChain_beside _ _).trans (serveStore_beside _)).serves)

theorem pageReadDone_serves (bs : List Byte) {k : Fin 8} {id sector page : Nat}
    (h : s.store.hostOp = some (.read k id sector page)) : s.Serves (s.pageReadDone bs k id sector page) := by
  have hmem : s.Beside (s.setMem (s.mem.blit transferAddr bs)) := s.setMem_beside (Memory.blit_wf _ _ _)
  have hend : ∀ (u : StoreUnit) rc ws, u.hostOp = s.store.hostOp →
      ((s.setMem (s.mem.blit transferAddr bs)).setStore u).Serves
        (((s.setMem (s.mem.blit transferAddr bs)).setStore u).endRead k rc ws) :=
    fun u rc ws hu => endRead_serves _ (hu.trans h) rc ws
  refine .ite (fun _ => hmem.serves.trans (hend s.store _ _ rfl)) fun _ => .ite (fun _ => ?_) fun _ => ?_
  · refine (hmem.trans (setStore_same_beside _ ?_ ?_)).serves.trans (hend _ _ _ ?_)
    · rfl
    · exact ⟨rfl, rfl, rfl, rfl, fun h => h⟩
    · rfl
  · refine (hmem.trans (setStore_same_beside _ ?_ ?_)).serves.trans (hend _ _ _ ?_)
    · rfl
    · exact ⟨rfl, rfl, rfl, rfl, fun h => h⟩
    · rfl

theorem cancelRead_serves (k : Fin 8) : s.Serves (s.cancelRead k) := by
  unfold State.cancelRead
  split
  · next k' _ _ _ h =>
    refine .ite (fun hk => ?_) fun _ => .refl s
    have hk' : k' = k := by simp_all
    subst hk'
    exact (s.endWaitingRead_serves h _).trans (serveStore_beside _).serves
  · exact .refl s

/-! ### Scan (R151 to R153) -/

/-- Of the store unit the end of a record changes the counts alone. -/
@[simp] theorem endRecord_store (id : Nat) (st : StoreStatus) : (s.endRecord id st).store = (s.countEnd st).store := by
  simp [State.endRecord]

theorem countEnd_store (st : StoreStatus) : (s.countEnd st).store =
    { s.store with dropped := (s.countEnd st).store.dropped, failed := (s.countEnd st).store.failed } := by
  unfold State.countEnd
  split
  · simp [State.countDropped]
  · simp [State.countFailed]
  · rfl

theorem dropStored_beside (g : Nat) : s.Beside (s.dropStored g) := by
  refine .trans (s.setStore_beside (u := { s.store with queue := s.store.queue.filter fun r => decide (g < r.id) })
    (fun h => ?_) ?_) (.foldl (fun u r => u.endRecord_beside _ _) _ _)
  · exact (List.length_filter_le _ _).trans h
  · exact ⟨rfl, rfl, rfl, rfl, id⟩

theorem dropStored_job (g : Nat) : (s.dropStored g).store.job = s.store.job := by
  unfold State.dropStored
  rw [foldl_keeps (fun u : State => u.store.job) _ fun u r => by rw [endRecord_store, countEnd_store]]
  rfl

theorem dropStored_hostOp (g : Nat) : (s.dropStored g).store.hostOp = s.store.hostOp := by
  unfold State.dropStored
  rw [foldl_keeps (fun u : State => u.store.hostOp) _ fun u r => by rw [endRecord_store, countEnd_store]]
  rfl

section scan
variable (hjob : s.store.job.ofScan = true)
include hjob

theorem scanAbsent_serves : s.Serves s.scanAbsent := by
  refine .trans (.trans ((State.Beside.refl s).leaveScan hjob rfl (u := { s.store.rest with state := .absent }) rfl rfl rfl rfl) ?_)
    (storeInForce_serves _ _)
  exact ((s.changeStore_beside _).trans (endQueue_beside _ _)).serves

theorem scanJob_beside {u : StoreUnit} (hqueue : u.queue = s.store.queue) (hawait : u.awaiting = s.store.awaiting)
    (hop : u.hostOp = s.store.hostOp) (hstate : u.state = s.store.state) : s.Beside (s.setStore u) :=
  s.setStore_same_beside hqueue (.of_eq hawait hop hstate fun _ => hjob)

theorem scanDone_serves : s.Serves s.scanDone := by
  have hset : s.Beside (s.setStore s.store.rest.scanOpen) :=
    s.setStore_same_beside (by simp) (.of_eq (by simp) (by simp) (by simp) (by simp [StoreUnit.rest, Job.ofScan]))
  have hdone : s.Beside (((s.setStore s.store.rest.scanOpen).setRecord
      (s.record.raiseCounter s.store.rest.scanOpen.greatestId)).dropStored s.store.rest.scanOpen.greatestId) :=
    (hset.trans (setRecord_beside _ (RecordUnit.raiseCounter_keeps _ _))).trans (dropStored_beside _ _)
  refine .ite (fun _ => hdone.serves.trans (storeOut_serves _)) fun _ => ?_
  refine .trans (.trans (hdone.leaveScan hjob (by simp [dropStored_hostOp]) (u := { State.store _ with state := .ready }) ?_ ?_ ?_ ?_)
    (changeStore_beside _ _).serves) (storeInForce_serves _ _)
  · rfl
  · rfl
  · rfl
  · simp [dropStored_job, StoreUnit.rest, Job.ofScan]

theorem scanSector_serves {u : StoreUnit} (hu : u.job.ofScan = true) (hqueue : u.queue = s.store.queue)
    (hawait : u.awaiting = s.store.awaiting) (hop : u.hostOp = s.store.hostOp) (hstate : u.state = s.store.state) (i : Nat) :
    s.Serves (s.scanSector u i) := by
  unfold State.scanSector
  split
  · exact (s.scanJob_beside hjob (by simpa using hqueue) (by simpa using hawait) (by simpa using hop)
      (by simpa using hstate)).serves
  · exact (s.scanJob_beside hjob hqueue hawait hop hstate).serves.trans (scanDone_serves _ hu)

theorem scanHeaderDone_serves (bs : List Byte) (i : Nat) : s.Serves (s.scanHeaderDone bs i) := by
  refine .ite (fun _ => (s.scanJob_beside hjob ?_ ?_ ?_ ?_).serves) fun _ => .ite (fun _ => .trans
    (s.scanJob_beside hjob ?_ ?_ ?_ ?_).serves (storeOut_serves _)) fun _ => s.scanSector_serves hjob (u := s.store.addSector _) ?_ ?_ ?_ ?_ ?_ 0
  case refine_9 => simpa using hjob
  all_goals simp [StoreUnit.sendRead, StoreUnit.send]

theorem scanSlotDone_serves (bs : List Byte) (i page : Nat) : s.Serves (s.scanSlotDone bs i page) := by
  refine .ite (fun _ => (s.scanJob_beside hjob ?_ ?_ ?_ ?_).serves) fun _ => s.scanSector_serves hjob ?_ ?_ ?_ ?_ ?_ _
  case refine_5 => exact hjob
  all_goals rfl

theorem scanIdentDone_serves (bs : List Byte) : s.Serves (s.scanIdentDone bs) :=
  .ite (fun _ => (s.scanJob_beside hjob (by rfl) (by rfl) (by rfl) (by rfl)).serves) fun _ => s.scanAbsent_serves hjob

end scan

/-! ### Events of the store port (R146, R147) -/

/-- A transfer that is no step of a scan begins. -/
theorem send_beside {j : Job} (tx : List Byte) (rx : Nat) (hj : j.ofScan = false) : s.Beside (s.setStore (s.store.send j tx rx)) :=
  s.setStore_same_beside rfl (s.store.send_sameHost tx rx hj)

theorem poll_beside {j : Job} (hj : j.ofScan = false) : s.Beside (s.setStore (s.store.poll j)) :=
  s.setStore_same_beside rfl (s.store.poll_sameHost hj)

theorem rest_beside : s.Beside (s.setStore s.store.rest) := s.setStore_same_beside rfl s.store.rest_sameHost

/-- The port is free, and the work that is due starts. -/
theorem serve_rest_beside {u : StoreUnit} (hqueue : u.queue = s.store.queue) (hawait : u.awaiting = s.store.awaiting)
    (hop : u.hostOp = s.store.hostOp) (hstate : u.state = s.store.state) (hjob : u.job.ofScan = false) :
    s.Beside (s.setStore u.serve) :=
  .trans (s.setStore_same_beside hqueue (.of_eq hawait hop hstate fun h => absurd (hjob.symm.trans h) (by simp)))
    (serveStore_beside _)

theorem transferDone_serves (bs : List Byte) : s.Serves (s.transferDone bs) := by
  unfold State.transferDone
  dsimp only
  split
  case h_1 h => exact s.scanIdentDone_serves (by rw [h]; rfl) bs
  case h_2 h => exact s.scanHeaderDone_serves (by rw [h]; rfl) bs _
  case h_3 h => exact s.scanSlotDone_serves (by rw [h]; rfl) bs _ _
  case h_4 => exact (s.send_beside _ _ rfl).serves
  case h_5 => exact (s.poll_beside rfl).serves
  case h_6 => exact .ite (fun _ => (s.send_beside _ _ rfl).serves) fun _ => s.storeFailed_serves
  case h_7 => exact (s.send_beside _ _ rfl).serves
  case h_8 => exact (s.poll_beside rfl).serves
  case h_9 => exact .ite (fun _ => s.storeDone_serves) fun _ => s.storeFailed_serves
  case h_10 =>
    split
    · exact (s.send_beside _ _ rfl).serves
    · exact s.rest_beside.serves
  case h_11 => exact (s.poll_beside rfl).serves
  case h_12 =>
    split
    · exact .ite (fun _ => s.openDone_serves) fun _ => s.openFailed_serves
    · exact s.rest_beside.serves
  case h_13 => exact (s.send_beside _ _ rfl).serves
  case h_14 => exact (s.rest_beside.trans (serveStore_beside _)).serves
  case h_15 => exact .ite (fun _ => s.eraseDone_serves) fun _ => s.eraseFailed_serves
  case h_16 => exact (s.poll_beside rfl).serves
  case h_17 => exact (s.serve_rest_beside (by rfl) (by rfl) (by rfl) (by rfl) (by rfl)).serves
  case h_18 =>
    split
    · next h => exact s.pageReadDone_serves bs h
    · exact s.rest_beside.serves
  all_goals exact .refl s

theorem pollClear_serves : s.Serves s.pollClear := by
  unfold State.pollClear
  dsimp only
  split
  case h_1 h => exact (s.scanJob_beside (by rw [h]; rfl) (by rfl) (by rfl) (by rfl) (by rfl)).serves
  case h_2 => exact (s.send_beside _ _ rfl).serves
  case h_3 => exact (s.send_beside _ _ rfl).serves
  case h_4 =>
    split
    · exact (s.send_beside _ _ rfl).serves
    · exact s.rest_beside.serves
  case h_5 => exact (s.serve_rest_beside (by rfl) (by rfl) (by rfl) (by rfl) (by rfl)).serves
  case h_6 => exact .ite (fun _ => (s.send_beside _ _ rfl).serves) fun _ => .refl s
  case h_7 => exact .refl s

theorem pollFailed_serves : s.Serves s.pollFailed := by
  unfold State.pollFailed
  split
  · exact s.storeOut_serves
  · exact s.storeOut_serves
  · exact s.storeFailed_serves
  · exact s.storeFailed_serves
  · exact s.openFailed_serves
  · exact s.eraseFailed_serves
  · exact .refl s

theorem readStatus_beside : s.Beside s.readStatus :=
  .ite (fun _ => s.setStore_same_beside rfl ⟨rfl, rfl, rfl, rfl, id⟩) fun _ => .refl s

theorem scanLeft_beside (s0 : State) : s.Beside (s0.scanLeft s) :=
  .ite (fun _ => s.departureTest_beside.trans (serveStore_beside _)) fun _ => .refl s

theorem flashTransfer_serves (bs : List Byte) :
    s.Serves (s.scanLeft ((s.setStore { s.store with transfer := none }).transferDone bs)) := by
  refine .trans (.trans (State.Beside.serves (s.setStore_same_beside ?_ ?_)) (transferDone_serves _ bs))
    (scanLeft_beside _ s).serves
  · rfl
  · exact ⟨rfl, rfl, rfl, rfl, id⟩

end State

end Sys2Proof.Machine
end

section
/-! The takes of the requests, the periods that complete one, and the host's writes keep every law of the device. -/

namespace Sys2Proof.Machine
namespace State
variable (s : State)

/-- A command that answers `t`. -/
theorem serves_of_exec {s : State} {c : Instr} {t : State} (h : exec c s = .next t) (ht : s.Serves t) : s.Serves (s.after c) := by
  rw [State.after_of_next h]
  exact ht

/-! ### Settings (R172, R173) -/

theorem idleClass_not_running {d : DriveState} (h : d.idleClass = true) : d.running = false := by
  cases d <;> simp_all [DriveState.idleClass, DriveState.running]

theorem loadDrive_answers (k : Fin 8) (ws : List Word) (h : s.seq.drive.running = false) :
    State.Answers k s (s.loadDrive k ws) :=
  (s.adoptDrive_beside _ h).answers_unlessReset fun u =>
    (u.finish_answers k _ _).serves (departureTest_beside _).serves

theorem loadRecord_answers (k : Fin 8) (ws : List Word) : State.Answers k s (s.loadRecord k ws) :=
  (s.adoptRecord_beside _).answers (by simp) ((finish_answers _ k _ _).serves (departureTest_beside _).serves)

theorem Handling.resources {s : State} {k : Fin 8} (h : s.Handling k) (hfree : s.areaHeld = false) :
    s.req.fetch = none ∧ s.store.hostOp.bind HostOp.readSlot = none :=
  h.holder_of_free (by simpa [State.areaHeld] using hfree)

/-- The work of slot `k` begins without the transfer area, and the slot becomes ACTIVE. -/
theorem Handling.activate_free {s t : State} {k : Fin 8} (h : s.Handling k) (hfree : s.areaHeld = false)
    (hperm : t.running.Perm (k :: s.running)) (hreq : s.req.SameSlots t.req)
    (hread : t.store.hostOp.bind HostOp.readSlot = s.store.hostOp.bind HostOp.readSlot)
    (hbusy : t.store.hostOp.isSome = true → t.store.state = .busy)
    (hscans : t.store.job.ofScan = true → t.store.state = .scanning) : (t.activate k).requestLaw := by
  obtain ⟨hfetch, hop⟩ := h.resources hfree
  have hholder : s.req.holder = none := by simpa [State.areaHeld] using hfree
  refine h.activate hperm hreq.slots hreq.order hreq.starting ?_ ?_ hbusy hscans
  · rw [hreq.holder, hreq.fetch, hread, hholder, hfetch, hop]
    rfl
  · exact .inl (hreq.fetch.trans hfetch)

theorem loadEnvelope_answers (k : Fin 8) (ws : List Word) (hfree : s.areaHeld = false) (h : s.gov.awaiting = none) :
    State.Answers k s (s.loadEnvelope k ws) := by
  refine ⟨(s.setGov_keeps (g := { s.gov with awaiting := some (envelopeOf ws, k) }) fun _ => id).trans
    (putSlotState_keeps _ _ _), fun hs => hs.activate_free hfree ?_ (.refl _) rfl
    hs.busy hs.scans⟩
  simp [State.running, h]

theorem loadVibration_answers (k : Fin 8) (ws : List Word) (hfree : s.areaHeld = false) (h : s.watch.awaiting = none) :
    State.Answers k s (s.loadVibration k ws) := by
  refine ⟨(s.setWatch_keeps (w := { s.watch with awaiting := some (VibSettings.ofImage ws, k) }) fun _ => id).trans
    (putSlotState_keeps _ _ _), fun hs => hs.activate_free hfree ?_ (.refl _) rfl
    hs.busy hs.scans⟩
  simp only [State.running, State.setWatch, h, Option.map_some, Option.map_none, Option.toList_some, Option.toList_none,
    List.append_assoc, List.nil_append, List.singleton_append]
  exact List.perm_middle

/-! ### A STORE group (R151) -/

theorem fall_sameSlots (f : FaultKind) (src : Source) : s.req.SameSlots (s.fall f src).req := by
  unfold State.fall
  split_ifs
  all_goals exact .refl _

theorem changeStore_store (u : StoreUnit) : (s.changeStore u).store = u := by
  unfold State.changeStore
  split_ifs <;> rfl

theorem changeStore_sameSlots (u : StoreUnit) : s.req.SameSlots (s.changeStore u).req := by
  unfold State.changeStore
  split_ifs
  · exact .refl _
  · exact .of_notice _ _

/-- The store unit after the acceptance of a STORE group (R151). -/
def StoreUnit.adopted (u : StoreUnit) (c : StoreSettings) (k : Fin 8) : StoreUnit :=
  if c.present then ({ u.cleared with state := .scanning, awaiting := some (c, k) }).poll .scanPoll
  else { u.cleared with state := .absent, settings := some c }

theorem adoptStore_eq (c : StoreSettings) (k : Fin 8) :
    s.adoptStore c k = (s.changeStore (StoreUnit.adopted s.store c k)).fall .storeFault .first := by
  unfold State.adoptStore StoreUnit.adopted
  dsimp only
  split_ifs <;> rfl

theorem adoptStore_store (c : StoreSettings) (k : Fin 8) : (s.adoptStore c k).store = StoreUnit.adopted s.store c k := by
  rw [s.adoptStore_eq]
  simp [changeStore_store]

theorem adoptStore_sameSlots (c : StoreSettings) (k : Fin 8) : s.req.SameSlots (s.adoptStore c k).req := by
  rw [s.adoptStore_eq]
  exact (s.changeStore_sameSlots _).trans (fall_sameSlots _ _ _)

theorem adoptStore_keeps' (c : StoreSettings) (k : Fin 8) : s.Keeps (s.adoptStore c k) := by
  rw [s.adoptStore_eq]
  refine ((s.setStore_keeps ?_).trans (s.changeStore_beside _).toKeeps).trans (fall_beside _ _ _).toKeeps
  unfold StoreUnit.adopted
  split_ifs
  all_goals exact id

theorem not_engaged {u : StoreUnit} (h : u.engaged = false) : u.state ≠ .busy := by
  intro hb
  simp [StoreUnit.engaged, hb] at h

theorem Handling.hostOp_none {s : State} {k : Fin 8} (h : s.Handling k) (hstate : s.store.state ≠ .busy) :
    s.store.hostOp = none := by
  by_contra hop
  exact hstate (h.busy (Option.isSome_iff_ne_none.mpr hop))

/-- Changes of the store unit without a host operation, and of nothing else that the laws of the request unit speak of. -/
theorem Handling.of_store {s t : State} {k : Fin 8} (h : s.Handling k) (hreq : s.req.SameSlots t.req)
    (hgov : t.gov.awaiting = s.gov.awaiting) (hwatch : t.watch.awaiting = s.watch.awaiting)
    (hawait : t.store.awaiting = s.store.awaiting) (hop : t.store.hostOp = s.store.hostOp) (hnone : s.store.hostOp = none)
    (hscans : t.store.job.ofScan = true → t.store.state = .scanning) : t.Handling k := by
  have hslot : ∀ j, t.slot j = s.slot j := fun j => by rw [State.slot, State.slot, hreq.slots]
  have hrunning : t.running = s.running := by simp only [State.running, hgov, hwatch, hawait, hreq.fetch, hop]
  have hrelease : (t.req.release k).holder = (s.req.release k).holder := by simp [RequestUnit.release, hreq.holder]
  constructor
  · rw [hreq.order]; exact h.nodup
  · simpa only [hreq.order, hslot] using h.posted
  · rw [hrunning]; exact h.runs
  · simpa only [hrunning, hslot] using h.active
  · rw [hrelease, hreq.fetch, hop]; exact h.holder
  · rw [hreq.fetch, hop]; exact h.single
  · simp [hop, hnone]
  · exact hscans
  · rw [hreq.starting]; exact h.started

theorem loadStore_answers (k : Fin 8) (ws : List Word) (hfree : s.areaHeld = false) (hawait : s.store.awaiting = none)
    (hengaged : s.store.engaged = false) : State.Answers k s (s.loadStore k ws) := by
  have hframe := s.adoptStore_frame (StoreSettings.ofImage ws) k
  have hkeeps := s.adoptStore_keeps' (StoreSettings.ofImage ws) k
  have hslots := s.adoptStore_sameSlots (StoreSettings.ofImage ws) k
  have hstore := s.adoptStore_store (StoreSettings.ofImage ws) k
  unfold State.loadStore
  dsimp only
  split_ifs with hpresent
  · refine ⟨hkeeps.trans (putSlotState_keeps _ _ _), fun hs => hs.activate_free hfree ?_ hslots ?_ ?_ ?_⟩
    · have hnone := hs.hostOp_none (not_engaged hengaged)
      have hfetch := (hs.resources hfree).1
      have hnew : (s.adoptStore (StoreSettings.ofImage ws) k).store.awaiting = some (StoreSettings.ofImage ws, k) := by
        rw [hstore, StoreUnit.adopted, if_pos hpresent]
        rfl
      have hop : (s.adoptStore (StoreSettings.ofImage ws) k).store.hostOp = s.store.hostOp := by
        rw [hstore, StoreUnit.adopted, if_pos hpresent, hnone]
        rfl
      exact running_storeAwaiting hnew hawait (by simp) (by simp) hslots.fetch.symm hop.symm
    · have hnone := hs.hostOp_none (not_engaged hengaged)
      rw [hstore, StoreUnit.adopted, if_pos hpresent, hnone]
      rfl
    · rw [hstore, StoreUnit.adopted, if_pos hpresent]
      nofun
    · rw [hstore, StoreUnit.adopted, if_pos hpresent]
      exact fun _ => rfl
  · refine ⟨hkeeps.trans ((finish_answers _ k _ _).serves (departureTest_beside _).serves).toKeeps, fun hs => ?_⟩
    refine ((finish_answers _ k _ _).serves (departureTest_beside _).serves).requests ?_
    have hnone := hs.hostOp_none (not_engaged hengaged)
    have hadopted : (s.adoptStore (StoreSettings.ofImage ws) k).store =
        { s.store.cleared with state := .absent, settings := some (StoreSettings.ofImage ws) } := by
      rw [hstore, StoreUnit.adopted, if_neg hpresent]
    refine hs.of_store hslots (by simp) (by simp) ?_ ?_ hnone ?_
    · rw [hadopted]
      rfl
    · rw [hadopted, hnone]
      rfl
    · rw [hadopted]
      nofun

theorem loadBadParam_group {ps : List Word} (h : loadBadParam ps = none) : natAt ps 0 ≤ 4 := by
  by_contra hg
  simp [loadBadParam, Nat.not_le.mp hg] at h

theorem loadGroup_answers (k : Fin 8) {group : Nat} (ws : List Word) (hgroup : group ≤ 4)
    (hclass : loadClass group s.seq.drive = true) (hbusy : s.loadBusy group = false) :
    State.Answers k s (s.loadGroup k group ws) := by
  obtain ⟨hfree, hheld⟩ := Bool.or_eq_false_iff.mp hbusy
  match group, hgroup with
  | 0, _ => exact s.loadDrive_answers k ws (idleClass_not_running (by simpa [loadClass] using hclass))
  | 1, _ => exact s.loadEnvelope_answers k ws hfree (by simpa using hheld)
  | 2, _ => exact s.loadVibration_answers k ws hfree (by simpa using hheld)
  | 3, _ => exact s.loadRecord_answers k ws
  | 4, _ =>
    obtain ⟨hawait, hengaged⟩ := Bool.or_eq_false_iff.mp hheld
    exact s.loadStore_answers k ws hfree (by simpa using hawait) hengaged

theorem loadSettings_serves : s.Serves (s.after .loadSettings) := by
  refine serves_of_exec rfl (withTake_serves fun u k ps => ?_)
  dsimp only
  refine .ite (fun _ => u.refuse_answers k _) fun hclass => ?_
  split
  · exact u.refuseInvalid_answers k _ _
  · next hparam =>
    refine .ite (fun _ => u.refuse_answers k _) fun hbusy => ?_
    have hfree : u.loadBusy (natAt ps 0) = false := by simpa using hbusy
    refine (u.setChain_beside .broken).answers rfl ?_
    split
    · exact refuseInvalid_answers _ k _ _
    · exact loadGroup_answers _ k _ (loadBadParam_group hparam) (by simpa using hclass) hfree

theorem readSettings_serves : s.Serves (s.after .readSettings) := by
  refine serves_of_exec rfl (withTake_serves fun u k ps => ?_)
  dsimp only
  refine .ite (fun _ => u.refuseInvalid_answers k _ _) fun _ =>
    .ite (fun _ => u.refuseInvalid_answers k _ _) fun _ => .ite (fun _ => u.refuse_answers k _) fun _ => ?_
  split
  · exact u.finish_answers k _ _
  · exact ((u.writeArea_beside _ _).trans (setChain_beside _ _)).answers (by simp) (finish_answers _ k _ _)

/-! ### Drive, trips and torque (R21 to R27, R50, R114, R115) -/

theorem start_serves : s.Serves (s.after .start) := by
  refine serves_of_exec rfl (withTake_serves fun u k ps => ?_)
  dsimp only
  refine .ite (fun _ => u.refuse_answers k _) fun hstopped => ?_
  split
  · exact u.refuseInvalid_answers k _ _
  · exact u.refuseInvalid_answers k _ _
  · next r d _ _ =>
    refine .ite (fun _ => u.refuse_answers k _) fun _ => Beside.answers_unlessReset ?_ fun v => v.finish_answers k _ _
    exact (u.setSeq_same_beside (q := { u.seq with runKind := r, direction := d }) rfl rfl rfl rfl rfl).trans
      (enterMagnetizing_beside _ (not_not.mp hstopped))

theorem stop_serves : s.Serves (s.after .stop) := by
  refine serves_of_exec rfl (withTake_serves fun u k ps => ?_)
  split
  · next h => exact (u.stopMagnetizing_beside h).answers_unlessReset fun v => v.finish_answers k _ _
  · next h => exact (u.enterStopping_beside (.inl h)).answers_unlessReset fun v => v.finish_answers k _ _
  · next h => exact (u.enterStopping_beside (.inr h)).answers_unlessReset fun v => v.finish_answers k _ _
  · exact u.finish_answers k _ _
  · exact u.finish_answers k _ _
  · exact u.refuse_answers k _
  · exact u.refuse_answers k _

theorem setSpeed_serves : s.Serves (s.after .setSpeed) := by
  refine serves_of_exec rfl (withTake_serves fun u k ps => ?_)
  refine (u.setSeq_same_beside ?_ ?_ ?_ ?_ ?_).answers ?_ (finish_answers _ k _ _)
  case refine_6 => rfl
  all_goals
    unfold Sequencer.retarget
    split <;> rfl

theorem limitTorque_serves : s.Serves (s.after .limitTorque) := by
  refine serves_of_exec rfl (withTake_serves fun u k ps => ?_)
  dsimp only
  refine (u.setGov_beside ?_ ?_).answers ?_ (finish_answers _ k _ _)
  · exact fun _ => id
  all_goals rfl

theorem tripNow_serves : s.Serves (s.after .tripNow) := by
  refine serves_of_exec rfl (withTake_serves fun u k ps => ?_)
  split
  · exact u.refuse_answers k _
  · exact u.finish_answers k _ _
  · exact (u.tripPulse_beside _).answers_unlessReset fun v => v.finish_answers k _ _

theorem clearTrip_beside (h : s.seq.drive = .tripped) : s.Beside s.clearTrip := by
  refine .enterStopped ?_ ?_ ?_ ?_ ?_ ?_ ?_ fun hs => ?_
  case refine_8 =>
    obtain ⟨⟨⟨-, hbrake⟩, hphase, -⟩, -⟩ := hs
    simp_all [brakeOf]
  all_goals rfl

theorem tripClear_serves : s.Serves (s.after .tripClear) := by
  refine serves_of_exec rfl (withTake_serves fun u k ps => ?_)
  refine .ite (fun _ => u.refuse_answers k _) fun htripped => .ite (fun _ => u.refuse_answers k _) fun _ =>
    .ite (fun _ => u.refuse_answers k _) fun _ => ?_
  exact (u.clearTrip_beside (not_not.mp htripped)).answers_unlessReset fun v => v.finish_answers k _ _

/-! ### Trigger, time and map requests (R102, R130, R134, R174) -/

theorem armTrigger_serves : s.Serves (s.after .armTrigger) := by
  refine serves_of_exec rfl (withTake_serves fun u k ps => ?_)
  split
  · exact u.refuseInvalid_answers k _ _
  · refine (u.setTrigger_beside ?_).answers ?_ (finish_answers _ k _ _)
    all_goals rfl

theorem disarmTrigger_serves : s.Serves (s.after .disarmTrigger) := by
  refine serves_of_exec rfl (withTake_serves fun u k ps => ?_)
  dsimp only
  refine .ite (fun _ => u.finish_answers k _ _) fun _ => (u.setTrigger_beside ?_).answers ?_ (finish_answers _ k _ _)
  all_goals rfl

theorem manualTrigger_serves : s.Serves (s.after .manualTrigger) := by
  refine serves_of_exec rfl (withTake_serves fun u k ps => ?_)
  exact .ite (fun _ => (u.takeCond_beside _ _).answers (by simp) (finish_answers _ k _ _)) fun _ => u.finish_answers k _ _

theorem setTime_serves : s.Serves (s.after .setTime) := by
  refine serves_of_exec rfl (withTake_serves fun u k ps => ?_)
  dsimp only
  refine (u.setReq_beside ?_).answers ?_ (finish_answers _ k _ _)
  · exact ⟨rfl, rfl, rfl, rfl, rfl⟩
  · rfl

theorem requestUnknownKind_serves : s.Serves (s.after .requestUnknownKind) :=
  serves_of_exec rfl (withTake_serves fun u k _ => u.refuse_answers k _)

theorem resetSectorMap_serves : s.Serves (s.after .resetSectorMap) := by
  refine serves_of_exec rfl (withTake_serves fun u k ps => ?_)
  split
  · exact u.refuseInvalid_answers k _ _
  · next cs _ =>
    refine .ite (fun _ => u.finish_answers k _ _) fun _ => ?_
    exact ((Beside.foldl zeroMap_beside (cs.filter u.watch.fitted) u).trans (rewriteMap_beside _)).answers
      (by simp) (finish_answers _ k _ _)

/-! ### Fetches (R170, R171) -/

theorem startFetch_answers (k : Fin 8) (i : Fin 4) (gen : Word) (first count : Nat) (hfree : s.areaHeld = false) :
    State.Answers k s (s.startFetch k i gen first count) := by
  refine ⟨(s.setReq_keeps { s.req with holder := some k, fetch := some ⟨k, i, gen, first, count, 0⟩ }).trans
    (putSlotState_keeps _ _ _), fun hs => ?_⟩
  obtain ⟨hfetch, hop⟩ := hs.resources hfree
  refine hs.activate ?_ rfl rfl rfl ?_ (.inr hop) hs.busy hs.scans
  · simp only [State.running, State.setReq, hfetch, Option.map_some, Option.map_none, Option.toList_some, Option.toList_none,
      List.append_nil]
    rw [← List.append_cons]
    exact List.perm_middle
  · rfl

theorem fetchFrom_answers (k : Fin 8) (i : Fin 4) (gen : Word) (first count a b : Nat) (hfree : s.areaHeld = false) :
    State.Answers k s (s.fetchFrom k i gen first count a b) :=
  .ite (fun _ => s.refuse_answers k _) fun _ => .ite (fun _ => s.refuseInvalid_answers k _ _) fun _ =>
    .ite (fun _ => s.refuseInvalid_answers k _ _) fun _ => s.startFetch_answers k i gen first count hfree

theorem fetchCapture_serves : s.Serves (s.after .fetchCapture) := by
  refine serves_of_exec rfl (withTake_serves fun u k ps => ?_)
  split_ifs with hbank hfirst hcount hheld
  · exact u.refuseInvalid_answers k _ _
  · exact u.refuseInvalid_answers k _ _
  · exact u.refuse_answers k _
  · exact u.fetchFrom_answers k _ _ _ _ _ _ (by simpa using hheld)
  · exact u.refuseInvalid_answers k _ _

theorem fetchNext_serves : s.Serves (s.after .fetchNext) := by
  refine serves_of_exec rfl (withTake_serves fun u k ps => ?_)
  refine .ite (fun _ => u.refuseInvalid_answers k _ _) fun _ => .ite (fun _ => u.refuse_answers k _) fun hheld => ?_
  split
  · exact u.fetchFrom_answers k _ _ _ _ _ _ (by simpa using hheld)
  · exact u.refuse_answers k _

/-- The fetch goes on with another count of copied frames. -/
theorem setFetch_serves {f f1 : Fetch} (h : s.req.fetch = some f) (hslot : f1.slot = f.slot) :
    s.Serves (s.setReq { s.req with fetch := some f1 }) := by
  refine ⟨s.setReq_keeps _, fun hs => ?_⟩
  obtain ⟨hposting, hholder, hsingle, hbusy, hscans, hstart⟩ := hs
  have hrunning : (s.setReq { s.req with fetch := some f1 }).running = s.running := by
    simp [State.running, h, hslot]
  refine ⟨?_, ?_, ?_, hbusy, hscans, ?_⟩
  · unfold State.postingLaw
    rw [hrunning]
    exact hposting
  · rw [h] at hholder
    simpa [hslot] using hholder
  · exact .inr (hsingle.resolve_left (by simp [h]))
  · rw [hrunning]
    exact hstart

theorem clearFetch_drops {f : Fetch} (h : s.req.fetch = some f) : State.Drops f.slot s s.clearFetch := by
  refine ⟨s.setReq_keeps _, fun hs => ?_⟩
  obtain ⟨-, hholder, hsingle, hbusy, hscans, -⟩ := id hs
  have hop : s.store.hostOp.bind HostOp.readSlot = none := hsingle.resolve_left (by simp [h])
  rw [h] at hholder
  refine State.requestLaw_handling hs ?_ rfl rfl rfl rfl ?_ (.inl rfl) hbusy hscans
  · simp only [State.running, State.clearFetch, State.setReq, h, Option.map_some, Option.map_none, Option.toList_some,
      Option.toList_none, List.append_nil]
    rw [← List.append_cons]
    exact List.perm_middle
  · simp [hholder, hop, State.clearFetch]

theorem breakFetch_serves {f f1 : Fetch} (h : s.req.fetch = some f) (hslot : f1.slot = f.slot) (rc : ResultCode) :
    s.Serves (s.breakFetch f1 rc) := by
  have hanswer : State.Answers f.slot s.clearFetch (s.breakFetch f1 rc) := by
    rw [← hslot]
    exact (complete_answers _ _ _ _ (by simp) (by simp)).serves (setChain_beside _ _).serves
  exact (s.clearFetch_drops h).answers hanswer

theorem endFetch_serves {f f1 : Fetch} (h : s.req.fetch = some f) (hslot : f1.slot = f.slot) :
    s.Serves (s.endFetch f1) := by
  have hanswer : State.Answers f.slot s.clearFetch (s.endFetch f1) := by
    rw [← hslot]
    exact (finish_answers _ _ _ _).serves (setChain_beside _ _).serves
  exact (s.clearFetch_drops h).answers hanswer

theorem frameBoundary_serves {f : Fetch} (h : s.req.fetch = some f) : s.Serves (s.frameBoundary f) := by
  have harea : s.Serves ((s.writeArea (24 * f.copied) (padWords 24 (s.record.frameOf f.bank ((f.first + f.copied) % 2048)))).setReq
      { s.req with fetch := some { f with copied := f.copied + 1 } }) :=
    (s.writeArea_beside _ _).serves.trans (setFetch_serves _ h rfl)
  refine .ite (fun _ => harea.trans (breakFetch_serves _ rfl rfl _)) fun _ =>
    .ite (fun _ => harea.trans (breakFetch_serves _ rfl rfl _)) fun _ =>
    .ite (fun _ => harea.trans (endFetch_serves _ rfl rfl)) fun _ => harea

theorem fetchFrameBoundary_serves : s.Serves (s.after .fetchFrameBoundary) := by
  refine serves_of_exec rfl ?_
  split
  · next h => exact s.frameBoundary_serves h
  · exact .refl s

theorem release_keeps (r : RecordUnit) (i : Fin 4) : r.Keeps (r.release i) := by
  have hfree : r.Keeps (r.setBank i { r.bank i with state := .free }) := r.setBank_keeps (by simp [Bank.active])
  refine (if hactive : r.activeBank.isSome = true then ?_ else ?_ : r.Keeps (r.release i))
  · simpa [RecordUnit.release, hactive] using hfree
  · have hnone : r.activeBank = none := by simpa using hactive
    simp only [RecordUnit.release, hnone, Option.isSome_none, Bool.false_eq_true, if_false]
    refine hfree.trans (RecordUnit.goLive_keeps _ fun j hj => ?_)
    rw [RecordUnit.bank_setBank, if_neg hj]
    exact RecordUnit.activeBank_none hnone j

theorem releaseCapture_serves : s.Serves (s.after .releaseCapture) := by
  refine serves_of_exec rfl (withTake_serves fun u k ps => ?_)
  split_ifs
  · exact (u.setRecord_beside (release_keeps _ _)).answers (release_keeps _ _).resets (finish_answers _ k _ _)
  · exact u.refuse_answers k _
  · exact u.refuseInvalid_answers k _ _

/-! ### Store requests (R162, R163) -/

theorem startRead_answers (k : Fin 8) (x : Nat × Nat × Nat) (hfree : s.areaHeld = false) (hready : s.store.state = .ready) :
    State.Answers k s (s.startRead k x) := by
  refine Answers.serves ⟨((s.setReq_keeps { s.req with holder := some k }).trans (setStore_keeps _
    (u := { s.store with state := .busy, hostOp := some (.read k x.1 x.2.1 x.2.2) }) id)).trans
    (putSlotState_keeps _ _ _), fun hs => ?_⟩ (serveStore_beside _).serves
  have hnone := hs.hostOp_none (by simp [hready])
  obtain ⟨hfetch, -⟩ := hs.resources hfree
  refine hs.activate ?_ rfl rfl rfl ?_ (.inl hfetch) (fun _ => rfl) fun hscan => ?_
  · simp only [State.running, State.setReq, State.setStore, hnone, Option.map_some, Option.map_none, Option.toList_some,
      Option.toList_none, List.append_nil, HostOp.slot]
    exact List.perm_append_singleton _ _
  · simp [hfetch, HostOp.readSlot]
  · exact absurd ((hs.scans hscan).symm.trans hready) (by simp)

theorem readFrom_answers (k : Fin 8) (x : Option (Nat × Nat × Nat)) (hfree : s.areaHeld = false) :
    State.Answers k s (s.readFrom k x) := by
  refine .ite (fun _ => s.refuse_answers k _) fun hready => ?_
  split
  · exact s.startRead_answers k _ hfree (not_not.mp hready)
  · exact s.refuse_answers k _

theorem areaHeld_of_readBusy {s : State} (h : ¬s.readBusy = true) : s.areaHeld = false := by
  simp only [State.readBusy, Bool.or_eq_true, not_or, Bool.not_eq_true] at h
  exact h.1

theorem readStored_serves : s.Serves (s.after .readStored) := by
  refine serves_of_exec rfl (withTake_serves fun u k ps => ?_)
  exact .ite (fun _ => u.refuseInvalid_answers k _ _) fun _ => .ite (fun _ => u.refuse_answers k _) fun hbusy =>
    u.readFrom_answers k _ (areaHeld_of_readBusy hbusy)

theorem readStoredNext_serves : s.Serves (s.after .readStoredNext) := by
  refine serves_of_exec rfl (withTake_serves fun u k ps => ?_)
  exact .ite (fun _ => u.refuseInvalid_answers k _ _) fun _ => .ite (fun _ => u.refuse_answers k _) fun hbusy =>
    .ite (fun _ => u.refuse_answers k _) fun _ => u.readFrom_answers k _ (areaHeld_of_readBusy hbusy)

/-- An ERASE STORE that passed its checks; its slot, just taken, does not hold the transfer area. -/
theorem startEraseAll_keeps (k : Fin 8) : s.Keeps (s.startEraseAll k) :=
  ((s.setStore_keeps (u := { s.store with state := .busy, hostOp := some (.eraseAll k (.drain s.store.queue.length)) })
    id).trans (putSlotState_keeps _ _ _)).trans (serveStore_beside _).toKeeps

theorem startEraseAll_requestLaw {s : State} {k : Fin 8} (hs : s.Handling k) (hfree : s.req.holder ≠ some k)
    (hready : s.store.state = .ready) : (s.startEraseAll k).requestLaw := by
  refine (serveStore_beside _).serves.requests ?_
  have hnone := hs.hostOp_none (by simp [hready])
  have hholder := hs.holder
  rw [RequestUnit.release_holder_of_ne hfree, hnone] at hholder
  refine hs.activate ?_ rfl rfl rfl ?_ (.inr rfl) (fun _ => rfl) fun hscan => ?_
  · simp only [State.running, State.setStore, hnone, Option.map_some, Option.map_none, Option.toList_some,
      Option.toList_none, List.append_nil, HostOp.slot]
    exact List.perm_append_singleton _ _
  · exact hholder
  · exact absurd ((hs.scans hscan).symm.trans hready) (by simp)

theorem eraseStore_serves : s.Serves (s.after .eraseStore) := by
  refine serves_of_exec rfl ?_
  unfold State.withTake
  split
  · exact .refl s
  · next k rest horder =>
    have hdrops := State.takeSlot_drops horder
    refine .ite (fun _ => ?_) fun _ => .refl s
    dsimp only
    split_ifs with hclass hbusy hready
    · exact hdrops.answers (refuse_answers _ k _)
    · exact hdrops.answers (refuse_answers _ k _)
    · exact hdrops.answers (refuse_answers _ k _)
    · refine ⟨hdrops.toKeeps.trans (startEraseAll_keeps _ k), fun hs => ?_⟩
      refine startEraseAll_requestLaw (hdrops.requests hs) (fun hholder => ?_) (not_not.mp hready)
      have hk : k ∈ s.running := mem_running_of_holder hs.2 hholder
      have hposted : k ∈ s.req.order := by simp [horder]
      rw [hs.1.2.1] at hposted
      rw [hs.1.2.2.2, hposted] at hk
      contradiction

end State
end Sys2Proof.Machine
end

section
/-! Every command, and the idle microsecond, keeps every law of the device (obligations of the machine's laws). -/

namespace Sys2Proof.Machine
/-- The request unit after the end of start-up. -/
def RequestUnit.started (q : RequestUnit) : RequestUnit :=
  { q with
    slots := q.slots.map fun x => { x with state := .free, cancel := false }
    order := [], updateCount := 0, starting := false }

namespace State
variable (s : State)

theorem Serves.unlessReset {s t : State} {f : State → State} (s0 : State) (h : s.Serves t) (hf : ∀ u : State, u.Serves (f u)) :
    s.Serves (s0.unlessReset f t) :=
  State.unlessReset_holds s.Serves s0 f t h (h.trans (hf t))

/-- Work that is over and answered unless a reset comes about between. -/
theorem Drops.answers_unlessReset {k : Fin 8} {s t u : State} {f : State → State} (h : State.Drops k s t)
    (hr : t.record.resets = s.record.resets) (h' : t.Beside u) (hf : ∀ v, State.Answers k v (f v)) :
    s.Serves (s.unlessReset f u) := by
  unfold State.unlessReset
  split_ifs with hreset
  · exact (h.beside h' (hreset.trans hr.symm)).answers (hf u)
  · refine ⟨h.toKeeps.trans h'.toKeeps, fun _ => (h'.requests.resolve_left fun hsame => ?_).2⟩
    exact hreset (hsame.resets.trans hr)

/-! ### The governor period (R41 to R64) -/

theorem idlePeriod_still (g : Governor) (d : DriveState) (flux : Int) : (g.idlePeriod d flux).still :=
  ⟨rfl, rfl, rfl⟩

theorem governorValues_still (t : Pair Taken) (demand : Pair Int) (h : s.seq.drive.governed = false) :
    (s.governorValues t demand).still := by
  simp only [State.governorValues, h, Bool.false_eq_true, if_false]
  exact idlePeriod_still _ _ _

theorem governorValues_awaiting (t : Pair Taken) (demand : Pair Int) :
    (s.governorValues t demand).awaiting = s.gov.awaiting := by
  unfold State.governorValues
  dsimp only
  split_ifs <;> rfl

theorem governorReports_beside (devA devB jam fast : Bool) : s.Beside (s.governorReports devA devB jam fast) := by
  have hpulse : ∀ (u : State) (b : Bool) (f : FaultKind), u.Beside (if b then u.tripPulse f else u) := fun u b f =>
    .ite (fun _ => u.tripPulse_beside f) fun _ => .refl u
  exact .unlessReset s (.unlessReset s (.unlessReset s (hpulse s devA _) fun u => hpulse u devB _) fun u => hpulse u jam _)
    fun u => u.tripLevel_beside _ _

theorem governorPublish_beside (t : Pair Taken) : s.Beside (s.governorPublish t) := by
  unfold State.governorPublish
  dsimp only
  refine .trans (t := s.setGov ((s.governorValues t (s.watch.groups.map GroupWatch.demand)).supervised s.cfg s.seq.drive
    s.meas.n)) (s.setGov_beside (fun h _ => ?_) (s.governorValues_awaiting _ _)) (.trans ?_ (governorReports_beside _ _ _ _ _))
  · exact s.governorValues_still t _ h
  · exact .ite (fun _ => takeCond_beside _ _ _) fun _ => .refl _

theorem running_govAwaiting {s : State} {e : List Breakpoint} {k : Fin 8} (h : s.gov.awaiting = some (e, k)) :
    s.running = k :: (s.setGov s.gov.takeEnvelope).running := by
  simp [State.running, h, Governor.takeEnvelope]

theorem takeEnvelope_drops {e : List Breakpoint} {k : Fin 8} (h : s.gov.awaiting = some (e, k)) :
    State.Drops k s (s.setGov s.gov.takeEnvelope) := by
  refine ⟨s.setGov_keeps fun _ hstill => ?_, fun hs => ?_⟩
  · simp only [Governor.takeEnvelope, h]
    exact hstill
  · exact requestLaw_handling_of_group hs (by rw [running_govAwaiting h]) (.refl _) rfl rfl rfl

theorem governorPeriod_serves : s.Serves s.governorPeriod := by
  have hregs : s.Beside ((s.takeRegulator .a).takeRegulator .b) :=
    (s.takeRegulator_beside .a).trans (takeRegulator_beside _ .b)
  have hgov : ((s.takeRegulator .a).takeRegulator .b).gov = s.gov := by simp
  unfold State.governorPeriod
  dsimp only
  generalize hu : (s.takeRegulator .a).takeRegulator .b = u at hregs hgov ⊢
  cases ha : s.gov.awaiting with
  | none =>
    have htake : u.setGov u.gov.takeEnvelope = u := by
      have : u.gov.takeEnvelope = u.gov := by simp [Governor.takeEnvelope, hgov, ha]
      rw [this]
      rfl
    rw [htake]
    exact (Beside.unlessReset s (hregs.trans (u.governorPublish_beside _)) rewriteStatus_beside).serves
  | some x =>
    obtain ⟨e, k⟩ := x
    refine (hregs.drops (u.takeEnvelope_drops (hgov ▸ ha))).answers_unlessReset ?_ (governorPublish_beside _ _) fun v => ?_
    · rw [← hu]
      simp
    · exact (v.finish_answers k _ _).serves ((departureTest_beside _).trans (rewriteStatus_beside _)).serves

/-! ### The sample period (R83 to R104) -/

theorem running_watchAwaiting {s t : State} {v : VibSettings} {k : Fin 8} (hs : s.watch.awaiting = some (v, k))
    (ht : t.watch.awaiting = none) (hgov : t.gov = s.gov) (hreq : t.req = s.req) (hstore : t.store = s.store) :
    s.running.Perm (k :: t.running) := by
  simp only [State.running, hs, ht, hgov, hreq, hstore, Option.map_some, Option.map_none, Option.toList_some,
    Option.toList_none, List.append_assoc, List.nil_append, List.singleton_append]
  exact List.perm_middle

theorem vibrationInForce_serves : s.Serves s.vibrationInForce := by
  unfold State.vibrationInForce
  split
  · exact .refl s
  · next v k ha =>
    have hdrops : State.Drops k s (s.setWatch { s.watch with settings := some v, awaiting := none }) :=
      ⟨s.setWatch_keeps fun _ => id, fun hs => requestLaw_handling_of_group hs (running_watchAwaiting ha rfl rfl rfl rfl)
        (.refl _) rfl rfl rfl⟩
    have hform : ∀ (u : State) (old : Channel → Bool) c,
        u.Beside ((allChannels.foldl (State.adoptChannel old) u).formAll c).rewriteMap := fun u old c =>
      ((Beside.foldl (fun w => w.adoptChannel_beside old) _ u).trans (formAll_beside _ c)).trans (rewriteMap_beside _)
    refine (hdrops.beside (hform _ s.watch.fitted _) ?_).answers ((finish_answers _ k _ _).serves (departureTest_beside _).serves)
    simp

theorem blockEnd_serves : s.Serves s.blockEnd :=
  (Beside.foldl blockEndChannel_beside s.watch.fittedChannels s).serves.trans (vibrationInForce_serves _)

theorem advanceBlock_serves : s.Serves s.advanceBlock := by
  have hset : s.Beside (s.setWatch { s.watch with blockPos := (s.watch.blockPos + 1) % 256 }) :=
    s.setWatch_same_beside rfl rfl
  exact .ite (fun _ => hset.serves.trans (blockEnd_serves _)) fun _ => hset.serves

theorem samplePeriod_serves : s.Serves s.samplePeriod :=
  .unlessReset s (.unlessReset s (s.takeSamples_beside.serves.trans (advanceBlock_serves _))
    fun u => u.advanceQuarter_beside.serves) fun u => u.requestSamples_beside.serves

/-! ### The host's writes (R165, R178) -/

/-- What a write to slot `k`'s state word does to the posting order and to the slot. -/
theorem setOrder_serves {k : Fin 8} {st : SlotState} {order : List (Fin 8)}
    (hlaw : s.requestLaw → order.Nodup ∧ (∀ j, j ∈ order ↔ if j = k then st = .posted else j ∈ s.req.order) ∧
      (st = .active ↔ (s.slot k).state = .active) ∧ (s.req.starting = true → order = [])) :
    s.Serves ((s.setReq { s.req with order := order }).putSlotState k st) := by
  refine ⟨(s.setReq_keeps _).trans (putSlotState_keeps _ _ _), fun hs => ?_⟩
  obtain ⟨hnodup, hmem, hactive, hstart⟩ := hlaw hs
  obtain ⟨⟨-, hposted, hruns, hrunning⟩, hholder, hsingle, hbusy, hscans, hempty⟩ := hs
  have hslot : ∀ j, ((s.setReq { s.req with order := order }).putSlotState k st).slot j =
      if j = k then { s.slot k with state := st } else s.slot j := fun j => putSlotState_slot _ _ _ _
  refine ⟨⟨hnodup, fun j => ?_, hruns, fun j => ?_⟩, hholder, hsingle, hbusy, hscans, fun h => ⟨hstart h, (hempty h).2⟩⟩
  · rw [hslot]
    refine (hmem j).trans ?_
    by_cases hj : j = k <;> simp [hj, hposted]
  · rw [hslot]
    refine (hrunning j).trans ?_
    by_cases hj : j = k <;> simp [hj, hactive]

theorem putSlotState_serves {k : Fin 8} {st : SlotState} (hposted : st = .posted ↔ (s.slot k).state = .posted)
    (hactive : st = .active ↔ (s.slot k).state = .active) : s.Serves (s.putSlotState k st) := by
  refine s.setOrder_serves (order := s.req.order) fun hs => ⟨hs.1.1, fun j => ?_, hactive, fun h => (hs.2.2.2.2.2 h).1⟩
  by_cases hj : j = k
  · simp [hj, hposted, hs.1.2.1]
  · simp [hj]

theorem setCancel_serves (k : Fin 8) : s.Serves (s.setReq (s.req.setSlot k { s.slot k with cancel := true })) := by
  refine ⟨s.setReq_keeps _, fun hs => ?_⟩
  have hstate : ∀ j, ((s.setReq (s.req.setSlot k { s.slot k with cancel := true })).slot j).state = (s.slot j).state := by
    intro j
    rw [State.slot_setReq, RequestUnit.setSlot_get]
    by_cases hj : j = k
    · simp [hj]
    · simp only [hj, if_false]
      rfl
  obtain ⟨⟨hnodup, hposted, hruns, hrunning⟩, hresource⟩ := hs
  refine ⟨⟨hnodup, fun j => ?_, hruns, fun j => ?_⟩, hresource⟩
  · rw [hstate]
    exact hposted j
  · rw [hstate]
    exact hrunning j

theorem cancel_serves (k : Fin 8) (h : (s.slot k).state = .active) : s.Serves (s.cancel k) := by
  refine .trans (.trans (s.setCancel_serves k) (putSlotState_serves _ ?_ ?_)) (cancelRead_serves _ k)
  · simp [State.slot_setReq, RequestUnit.setSlot, h]
  · simp [State.slot_setReq, RequestUnit.setSlot, h]

/-- A FREE slot is posted (R165). -/
theorem post_serves {k : Fin 8} (hstart : s.req.starting = false) (h : (s.slot k).state = .free) :
    s.Serves ((s.setReq { s.req with order := s.req.order ++ [k] }).putSlotState k .posted) := by
  refine s.setOrder_serves fun hs => ⟨?_, fun j => ?_, by simp [h], by simp [hstart]⟩
  · have hk : k ∉ s.req.order := fun hmem => by simp_all [hs.1.2.1 k]
    exact hs.1.1.append (List.nodup_singleton k) (by simpa using hk)
  · by_cases hj : j = k <;> simp [hj]

/-- A POSTED slot is taken back (R165). -/
theorem unpost_serves {k : Fin 8} (hstart : s.req.starting = false) (h : (s.slot k).state = .posted) :
    s.Serves ((s.setReq { s.req with order := s.req.order.filter fun j => j ≠ k }).putSlotState k .free) := by
  refine s.setOrder_serves fun hs => ⟨hs.1.1.filter _, fun j => ?_, by simp [h], by simp [hstart]⟩
  by_cases hj : j = k <;> simp [hj]

theorem slotWrite_serves (k : Fin 8) (v : Word) : s.Serves (s.slotWrite k v) := by
  unfold State.slotWrite
  dsimp only
  split_ifs with hstart hpost hfree hunpost hactive hcancel
  · exact (s.writeWord_beside _ _).serves
  · exact s.post_serves (by simpa using hstart) (by simp_all)
  · simp only [Bool.and_eq_true, Bool.or_eq_true, decide_eq_true_eq] at hfree
    rcases hfree.2 with h | h <;> exact s.putSlotState_serves (by simp [h]) (by simp [h])
  · exact s.unpost_serves (by simpa using hstart) (by simp_all)
  · exact s.cancel_serves k (by simp_all)
  · have h : (s.slot k).state = .active := by simp_all
    exact s.putSlotState_serves (by simp [h]) (by simp [h])
  · exact (s.putSlotState_serves .rfl .rfl).trans (misuse_beside _).serves

/-! ### Start-up (R178) -/

theorem exec_startUpEnd : exec .startUpEnd s = .next (if s.req.starting = true then
    (s.initMemory.setReq s.req.started).raiseNotice noticeStart else s) := by
  show execStartUpEnd s = _
  unfold execStartUpEnd
  split_ifs <;> rfl

theorem started_slot (k : Fin 8) : ((s.setReq s.req.started).slot k).state = .free := by
  rw [State.slot_setReq, RequestUnit.started, vget_map]

/-- At the end of start-up, which has nothing posted or running, every slot is FREE. -/
theorem started_serves (h : s.req.starting = true) : s.Serves (s.setReq s.req.started) := by
  refine ⟨s.setReq_keeps _, fun hs => ?_⟩
  obtain ⟨-, hholder, hsingle, hbusy, hscans, hstart⟩ := hs
  have hrunning : (s.setReq s.req.started).running = [] := (hstart h).2
  refine ⟨⟨List.nodup_nil, fun k => ?_, ?_, fun k => ?_⟩, hholder, hsingle, hbusy, hscans, nofun⟩
  · rw [started_slot]
    simp [RequestUnit.started]
  · rw [hrunning]
    exact List.nodup_nil
  · rw [hrunning, started_slot]
    simp

theorem startUpEnd_serves : s.Serves (s.after .startUpEnd) := by
  refine serves_of_exec s.exec_startUpEnd (.ite (fun h => ?_) fun _ => .refl s)
  have hreq : s.initMemory.req = s.req := by simp
  have hstarted : s.initMemory.Serves (s.initMemory.setReq s.req.started) := by
    have := s.initMemory.started_serves (by rwa [hreq])
    rwa [hreq] at this
  exact (s.initMemory_beside.serves.trans hstarted).trans (raiseNotice_beside _ _).serves

/-! ### Every command -/

/-- What is beside the requests is kept too where it comes only in one case. -/
theorem serves_if {s t : State} (b : Bool) (h : s.Beside t) : s.Serves (if b = true then t else s) :=
  .ite (fun _ => h.serves) fun _ => .refl s

/-- A command that answers one state or another. -/
theorem serves_of_exec_if {s : State} {c : Instr} {t u : State} {p : Prop} [Decidable p]
    (h : exec c s = if p then .next t else .next u) (ht : p → s.Serves t) (hu : ¬p → s.Serves u) :
    s.Serves (s.after c) := by
  split_ifs at h with hp
  · exact serves_of_exec h (ht hp)
  · exact serves_of_exec h (hu hp)

theorem slotStateWrite_serves (stores : List HostStore) (k : Fin 8) (v : Word) :
    s.Serves (s.after (.slotStateWrite stores k v)) := by
  have hexec : exec (.slotStateWrite stores k v) s = execSlotStateWrite stores k v s := rfl
  cases hfault : stores.findSome? storeFault with
  | some f =>
    have : s.after (.slotStateWrite stores k v) = s := by simp [State.after, hexec, execSlotStateWrite, hfault]
    rw [this]
    exact .refl s
  | none =>
    refine serves_of_exec (t := (stores.foldl State.hostStore s).slotWrite k v) (by rw [hexec, execSlotStateWrite, hfault]) ?_
    exact (Beside.foldl (fun u h => u.writeWord_beside _ _) stores s).serves.trans (slotWrite_serves _ k v)

/-! ### The inputs (R4 to R17, R32, R33, R69) -/

theorem encoderEdge_serves (x : Side) (e : QuadEdge) : s.Serves (s.after (.encoderEdge x e)) :=
  serves_of_exec_if rfl (fun _ => .refl s) fun _ => (s.setMeas_beside _).serves

theorem lineBreakActive_serves (x : Side) : s.Serves (s.after (.lineBreakActive x)) := by
  refine serves_of_exec_if rfl (fun _ => .refl s) fun _ => Beside.serves ?_
  exact ((((s.setInputs_beside _).trans (setEncoder_beside _ x _)).trans (setMeas_beside _ _)).trans
    (reportPosition_beside _)).trans (formEncoders_beside _)

theorem gateFaultActive_serves (x : Side) : s.Serves (s.after (.gateFaultActive x)) := by
  refine serves_of_exec_if rfl (fun _ => .refl s) fun _ => Beside.serves ?_
  have hset : s.Beside ((s.setInputs { s.inputs with gateFault := s.inputs.gateFault.set x true }).setGateBlock x) :=
    (s.setInputs_beside _).trans (setGateBlock_beside _ x)
  exact .ite (fun _ => hset.trans (gateFaultRise_beside _ x)) fun _ => hset

theorem runPermitDrop_serves : s.Serves (s.after .runPermitDrop) :=
  serves_of_exec_if rfl (fun _ => ((s.setInputs_beside _).trans (permitDrop_beside _)).serves) fun _ => .refl s

theorem eStopActive_serves : s.Serves (s.after .eStopActive) := by
  refine serves_of_exec_if rfl (fun _ => .refl s) fun _ => Beside.serves ?_
  refine ((s.setInputs_beside _).trans (setSeq_same_beside _ ?_ ?_ ?_ ?_ ?_)).trans (tripRise_beside _ _ _)
  all_goals rfl

theorem shellMarker_serves : s.Serves (s.after .shellMarker) := by
  have hexec : exec .shellMarker s = execShellMarker s := rfl
  cases hx : s.meas.shell.inUse with
  | none =>
    refine serves_of_exec (t := s) ?_ (.refl s)
    rw [hexec, execShellMarker, hx]
  | some x =>
    refine serves_of_exec (by rw [hexec, execShellMarker, hx]) (Beside.serves ?_)
    exact (((s.setMeas_beside _).trans (alarmLevel_beside _ _ _ _ _)).trans (reportPosition_beside _)).trans
      (rewriteMap_beside _)

/-! ### Every command -/

theorem after_serves (c : Instr) : s.Serves (s.after c) := by
  cases c
  case powerOnReset => exact s.performReset_beside.serves
  case startUpEnd => exact s.startUpEnd_serves
  case restart => exact s.restartWrite_beside.serves
  case registerWriteOther reg v =>
    cases reg with
    | ident => exact .refl s
    | portControl => exact .ite (fun _ => s.restartWrite_beside.serves) fun _ => .refl s
  case noticeWrite v =>
    refine serves_of_exec rfl (s.setReq_beside ?_).serves
    exact ⟨rfl, rfl, rfl, rfl, rfl⟩
  case noticeEnableWrite v =>
    refine serves_of_exec rfl (s.setReq_beside ?_).serves
    exact ⟨rfl, rfl, rfl, rfl, rfl⟩
  case slotStateWrite stores k v => exact s.slotStateWrite_serves stores k v
  case listEntryStateWrite k v => exact (s.entryWrite_beside k v).serves
  case stickyErrorClearWrite c v =>
    exact ((Beside.ite (fun _ => .refl s) fun _ => s.setReceiver_beside c _).trans (writeWord_beside _ _ _)).serves
  case alarmSeenClearWrite v =>
    refine serves_of_exec rfl ((Beside.ite (fun _ => .refl s) fun _ => s.setFaults_beside ?_).trans
      (writeWord_beside _ _ _)).serves
    simp
  case requestUnknownKind => exact s.requestUnknownKind_serves
  case loadSettings => exact s.loadSettings_serves
  case readSettings => exact s.readSettings_serves
  case start => exact s.start_serves
  case stop => exact s.stop_serves
  case setSpeed => exact s.setSpeed_serves
  case limitTorque => exact s.limitTorque_serves
  case tripNow => exact s.tripNow_serves
  case tripClear => exact s.tripClear_serves
  case armTrigger => exact s.armTrigger_serves
  case disarmTrigger => exact s.disarmTrigger_serves
  case manualTrigger => exact s.manualTrigger_serves
  case fetchCapture => exact s.fetchCapture_serves
  case fetchNext => exact s.fetchNext_serves
  case fetchFrameBoundary => exact s.fetchFrameBoundary_serves
  case releaseCapture => exact s.releaseCapture_serves
  case readStored => exact s.readStored_serves
  case readStoredNext => exact s.readStoredNext_serves
  case eraseStore => exact s.eraseStore_serves
  case resetSectorMap => exact s.resetSectorMap_serves
  case setTime => exact s.setTime_serves
  case partTimeTick =>
    refine serves_of_exec rfl ((s.elapse_beside _).trans (setReq_beside _ ?_)).serves
    constructor <;> simp [RequestUnit.tick]
  case sampleSetFrame x f => exact (s.frameEnd_beside x f).serves
  case dcUndervoltCountReached x f => exact serves_if _ (s.frameEnd_beside x f)
  case dcLowCountReached x f => exact serves_if _ (s.frameEnd_beside x f)
  case currentPeriodStart x => exact (s.currentPeriod_beside x).serves
  case measLoss x => exact serves_if _ (s.currentPeriod_beside x)
  case gateFaultActive x => exact s.gateFaultActive_serves x
  case gateFaultInactive x => exact (((s.setInputs_beside _).trans (setReg_beside _ x _)).trans (fall_beside _ _ _)).serves
  case voltageLimitedRunReached x => exact .ite (fun _ => s.governorPeriod_serves) fun _ => .refl s
  case encoderEdge x e => exact s.encoderEdge_serves x e
  case lineBreakActive x => exact s.lineBreakActive_serves x
  case lineBreakRelease x => exact (s.setInputs_beside _).serves
  case encoderHealthy x => exact serves_if _ s.speedUpdate_beside
  case speedWindowUpdate => exact s.speedUpdate_beside.serves
  case encoderDisagree => exact serves_if _ s.speedUpdate_beside
  case shellMarker => exact s.shellMarker_serves
  case sensorFrameEnd c f => exact serves_if _ (s.setReceiver_beside c _)
  case vibrationSamplePeriod => exact s.samplePeriod_serves
  case heldRunLost c => exact .ite (fun _ => s.samplePeriod_serves) fun _ => .refl s
  case blockEnd => exact .ite (fun _ => s.samplePeriod_serves) fun _ => .refl s
  case watchMillisecond => exact .ite (fun _ => s.samplePeriod_serves) fun _ => .refl s
  case dangerDwellExpiry g => exact .ite (fun _ => s.samplePeriod_serves) fun _ => .refl s
  case sequencerMillisecond => exact s.sequencerStep_beside.serves
  case magnetizingTimeExpiry => exact serves_if _ s.sequencerStep_beside
  case breakawayTimeExpiry => exact serves_if _ s.sequencerStep_beside
  case zeroSpeedDwellReached => exact serves_if _ s.sequencerStep_beside
  case brakeSetTimeExpiry => exact serves_if _ s.sequencerStep_beside
  case runPermitDrop => exact s.runPermitDrop_serves
  case runPermitReturn =>
    refine serves_of_exec rfl (((s.setInputs_beside _).trans (setSeq_same_beside _ ?_ ?_ ?_ ?_ ?_)).trans
      (fall_beside _ _ _)).serves
    all_goals rfl
  case eStopActive => exact s.eStopActive_serves
  case eStopInactive =>
    refine serves_of_exec rfl (((s.setInputs_beside _).trans (setSeq_same_beside _ ?_ ?_ ?_ ?_ ?_)).trans
      (fall_beside _ _ _)).serves
    all_goals rfl
  case governorPeriod => exact s.governorPeriod_serves
  case torqueDev x => exact .ite (fun _ => s.governorPeriod_serves) fun _ => .refl s
  case groupingWindowExpiry => exact serves_if _ s.closeWindow_beside
  case capturePeriod => exact s.capturePeriod_beside.serves
  case bankFreeze => exact serves_if _ s.capturePeriod_beside
  case triggerWindowExpiry => exact serves_if _ (s.setTrigger_beside rfl)
  case flashTransferEnd rx =>
    refine serves_of_exec rfl ?_
    split
    · exact s.flashTransfer_serves _
    · exact .refl s
  case flashStatusPoll status =>
    exact .ite (fun _ => s.readStatus_beside.serves) fun _ => s.readStatus_beside.serves.trans (pollClear_serves _)
  case flashTimeLimit =>
    exact .ite (fun _ => s.pollFailed_serves.trans (scanLeft_beside _ s).serves) fun _ => .refl s
  case sensorLineIdleRegained c => exact serves_if _ (s.setReceiver_beside c _)

end State

/-! ### The obligations -/

/-- A law that a change of the queue leaves and that every command and the idle microsecond keep is kept by every step. -/
theorem law_kept {P : State → Prop} {s t : State} (hqueue : ∀ rest, P s → P (s.setPending rest))
    (hkeeps : ∀ s t : State, s.Serves t → P s → P t) (hs : P s) (h : step s = .next t) : P t :=
  step_holds (P := P) (hkeeps _ _ s.idleMicrosecond_beside.serves hs)
    (fun c rest => hkeeps _ _ ((s.setPending rest).after_serves c) (hqueue rest hs)) h

/-- Settles O4. -/
theorem memoryCanonicalKept : Obligations.MemoryCanonicalKept := fun _ _ hs h =>
  law_kept (P := fun s => s.mem.wf = true) (fun _ => id) (fun _ _ hst => hst.memory) hs h

/-- Settles O5. -/
theorem driveLawKept : Obligations.DriveLawKept := fun _ _ hs h =>
  law_kept (fun _ => id) (fun _ _ hst => hst.drive) hs h

/-- Settles O6. -/
theorem restLawKept : Obligations.RestLawKept := fun _ _ hs h =>
  law_kept (P := State.restLaw) (fun _ => id) (fun _ _ hst => hst.rest) hs h

/-- Settles O7. -/
theorem bankLawKept : Obligations.BankLawKept := fun _ _ hs h =>
  law_kept (fun _ => id) (fun _ _ hst => hst.bank) hs h

/-- Settles O8. -/
theorem queueLawKept : Obligations.QueueLawKept := fun _ _ hs h =>
  law_kept (fun _ => id) (fun _ _ hst => hst.queue) hs h

/-- Settles O9. -/
theorem recordLawKept : Obligations.RecordLawKept := fun _ _ hs h =>
  law_kept (fun _ => id) (fun _ _ hst => hst.record) hs h

/-- Settles O10. -/
theorem lostLawKept : Obligations.LostLawKept := fun _ _ hs h =>
  law_kept (P := State.lostLaw) (fun _ => id) (fun _ _ hst => hst.lost) hs h

/-- Settles O11. -/
theorem requestLawKept : Obligations.RequestLawKept := fun _ _ hs h =>
  law_kept (fun _ => id) (fun _ _ hst => hst.requests) hs h

end Sys2Proof.Machine
end

section
/-! The machine: a step, what commands answer, and the laws at reset. -/

namespace Sys2Proof.Machine

/-! ### Plain stores (09, opening) -/

theorem inMemory_iff (h : HostStore) : h.inMemory = true ↔ h.addr % 2 = 0 ∧ h.addr < 0x8000 := by
  simp [HostStore.inMemory]

theorem isRegister_range {a : Nat} (h : isRegister a = true) : a % 2 = 0 ∧ 0x8000 ≤ a ∧ a < 0x8008 := by
  simp only [isRegister, Bool.or_eq_true, beq_iff_eq] at h
  omega

theorem storeFault_plain {h : HostStore} (hp : h.plain = true) : storeFault h = none := by
  have hmem : h.inMemory = true := by
    simp only [HostStore.plain, Bool.and_eq_true] at hp
    exact hp.1.1.1
  have hreg : isRegister h.addr = false := Bool.eq_false_iff.mpr fun hr => by
    have := isRegister_range hr
    have := (inMemory_iff h).mp hmem
    omega
  simp [storeFault, hreg, hmem, hp]

theorem storeFault_outside {h : HostStore} (ha : h.addr % 2 = 1 ∨ 0x8008 ≤ h.addr) :
    storeFault h = some (.noSuchAddress h.addr) := by
  have hmem : h.inMemory = false := Bool.eq_false_iff.mpr fun hm => by
    have := (inMemory_iff h).mp hm
    omega
  have hreg : isRegister h.addr = false := Bool.eq_false_iff.mpr fun hr => by
    have := isRegister_range hr
    omega
  simp [storeFault, hreg, hmem]

theorem exec_slotStateWrite (stores : List HostStore) (k : Fin 8) (v : Word) (s : State) :
    exec (.slotStateWrite stores k v) s = match stores.findSome? storeFault with
      | some f => .fault f
      | none => .next ((stores.foldl State.hostStore s).slotWrite k v) := rfl

/-! ### Commands that answer a next state -/

theorem ite_next {t u : State} {p : Prop} [Decidable p] :
    ∃ v, (if p then .next t else .next u : Host.Outcome State Fault Refusal) = .next v := by
  split_ifs
  · exact ⟨t, rfl⟩
  · exact ⟨u, rfl⟩

theorem exec_next {c : Instr} (s : State) (h : c.wf = true) : ∃ t, exec c s = .next t := by
  cases c
  case startUpEnd => exact ite_next
  case registerWriteOther r v => cases r <;> exact ⟨_, rfl⟩
  case slotStateWrite stores k v =>
    have hplain : ∀ x ∈ stores, storeFault x = none := fun x hx => storeFault_plain (List.all_eq_true.mp h x hx)
    exact ⟨_, by rw [exec_slotStateWrite, List.findSome?_eq_none_iff.mpr hplain]⟩
  case gateFaultActive x => exact ite_next
  case encoderEdge x e => exact ite_next
  case lineBreakActive x => exact ite_next
  case shellMarker =>
    have hexec : exec .shellMarker s = execShellMarker s := rfl
    cases hx : s.meas.shell.inUse <;> exact ⟨_, by rw [hexec, execShellMarker, hx]⟩
  case runPermitDrop => exact ite_next
  case eStopActive => exact ite_next
  all_goals exact ⟨_, rfl⟩

/-- Settles O2. -/
theorem wellFormedCommandsAnswer : Obligations.WellFormedCommandsAnswer := by
  refine ⟨fun c s h => ?_, fun a w k v s ha => ?_⟩
  · obtain ⟨t, ht⟩ := exec_next s h
    exact ⟨t, ht, State.after_of_next ht ▸ (s.after_serves c).pending⟩
  · rw [exec_slotStateWrite]
    simp [storeFault_outside (h := ⟨a, w⟩) ha]

/-! ### A step (log 1, log 4) -/

theorem advance_eq (limit us t : Nat) : advance limit us t = min limit (t + us) := rfl

theorem FaultUnit.elapse_one (f : FaultUnit) : f.elapse 1 = { f with
    timer := if f.windowOpen then min (1000 * f.windowLen) (f.timer + 1) else f.timer } := by
  unfold FaultUnit.elapse
  split_ifs <;> rfl

theorem RecordUnit.elapse_one (r : RecordUnit) : r.elapse 1 = { r with
    windowTimer := if r.trigState = .waitSecond then min (1000 * r.triggerWindow) (r.windowTimer + 1)
      else r.windowTimer } := by
  unfold RecordUnit.elapse
  split_ifs <;> rfl

theorem StoreUnit.elapse_one (u : StoreUnit) : u.elapse 1 = { u with
    pollElapsed := (u.pollLimit.map fun l => min l (u.pollElapsed + 1)).getD u.pollElapsed
    eraseElapsed := if u.erase = .running ∧ (u.state = .ready ∨ u.state = .busy) ∧ u.job.eraseCounts = true then
        min (1000 * u.cfg.eraseLimit) (u.eraseElapsed + 1) else u.eraseElapsed } := by
  have herase : (u.erasePolled && u.job.eraseCounts) = true ↔ u.erase = .running ∧
      (u.state = .ready ∨ u.state = .busy) ∧ u.job.eraseCounts = true := by
    simp [StoreUnit.erasePolled, and_assoc]
  unfold StoreUnit.elapse
  simp only [herase]
  cases u.pollLimit <;> rfl

/-- Settles O1. -/
theorem stepRunsFrontCommand : Obligations.StepRunsFrontCommand := by
  refine ⟨fun c rest s h => ?_, fun s h hfull => ?_, fun s h hroom => ?_⟩
  · simp [step, h]
  · simp [step, h, State.idleMicrosecond, Nat.not_lt.mpr hfull]
  · refine ⟨(s.elapse 1).setReq { s.req with subMs := s.req.subMs + 1 }, ?_, ?_⟩
    · simp [step, h, State.idleMicrosecond, hroom]
    · rw [State.elapse, FaultUnit.elapse_one, RecordUnit.elapse_one, StoreUnit.elapse_one]
      rfl

/-! ### The laws at reset -/

/-- Settles O3. -/
theorem resetMeetsLaws : Obligations.ResetMeetsLaws := by
  obtain ⟨hbank, hids, hopen⟩ := RecordUnit.reset_laws
  refine ⟨rfl, ?_, fun _ => ⟨rfl, rfl, rfl⟩, hbank, by decide, ⟨hids, hopen⟩, fun c => ?_, ?_⟩
  · decide
  · decide +revert
  · exact State.requestLaw_of_reset rfl rfl rfl rfl

end Sys2Proof.Machine
end

section
/-! The integer square root (3.2), resets, start-up and the registers (R37, R38, R175, R176, R178). -/

namespace Sys2Proof.Machine

/-! ### Integer square root (3.2) -/

/-- The bits found from bit `k - 1` down complete the root, which lies less than `2 ^ k` above the part found so far. -/
theorem isqrtBits_spec (n : Nat) (k : Nat) : ∀ r, r * r ≤ n → n < (r + 2 ^ k) * (r + 2 ^ k) →
    isqrtBits n k r * isqrtBits n k r ≤ n ∧ n < (isqrtBits n k r + 1) * (isqrtBits n k r + 1) := by
  induction k with
  | zero => exact fun r hlo hhi => ⟨hlo, hhi⟩
  | succ k ih =>
    intro r hlo hhi
    unfold isqrtBits
    split_ifs with hbit
    · exact ih _ hbit (by rwa [add_assoc, ← mul_two, ← pow_succ])
    · exact ih _ hlo (not_le.mp hbit)

/-- Settles O12. -/
theorem integerSquareRootIsFloor : Obligations.IntegerSquareRootIsFloor := by
  intro n
  refine isqrtBits_spec n _ 0 (Nat.zero_le n) ?_
  have hexp : n.log2 + 1 ≤ (n.log2 / 2 + 1) + (n.log2 / 2 + 1) := by omega
  calc n < 2 ^ (n.log2 + 1) := Nat.lt_log2_self
    _ ≤ 2 ^ ((n.log2 / 2 + 1) + (n.log2 / 2 + 1)) := Nat.pow_le_pow_right (by decide) hexp
    _ = (0 + 2 ^ (n.log2 / 2 + 1)) * (0 + 2 ^ (n.log2 / 2 + 1)) := by rw [pow_add, zero_add]

/-! ### Power-on reset (R38, R69, R178) -/

theorem State.latchRise_entry (s : State) (k j : FaultKind) (src : Source) (d : Option Nat) :
    (s.latchRise k src d).faults.entry j = if j = k ∧ s.sourcePresent k src = false then
      { (s.faults.entry k).rise src s.req.partTime d with latched := true } else s.faults.entry j := by
  by_cases hj : j = k
  · subst hj
    cases hp : s.sourcePresent j src <;> simp [State.latchRise, State.setEntry, hp]
  · rw [State.latchRise_other s src d hj, if_neg (fun h => hj h.1)]

/-- The entry of a kind that an input active at a reset has latched (R69, R105). -/
def FaultEntry.fresh (active : Bool) : FaultEntry :=
  if active then { FaultEntry.reset with s1 := true, latched := true } else .reset

theorem FaultEntry.fresh_flags (active : Bool) :
    (FaultEntry.fresh active).latched = active ∧ (FaultEntry.fresh active).present = active := by
  cases active <;> exact ⟨rfl, rfl⟩

theorem FaultUnit.reset_entry (k : FaultKind) : FaultUnit.reset.entry k = .reset := by
  simp [FaultUnit.entry, FaultUnit.reset]

/-- An input that is active at a reset latches its kind there. -/
theorem State.freshLatch_entry (s : State) (active : Bool) (k j : FaultKind) (hk : s.faults.entry k = .reset)
    (ht : s.req.partTime = 0) : (if active = true then s.latchRise k .first none else s).faults.entry j =
      if j = k then FaultEntry.fresh active else s.faults.entry j := by
  have habsent : s.sourcePresent k .first = false := by rw [State.sourcePresent, hk]; rfl
  cases active with
  | false =>
    by_cases hj : j = k <;> simp [hj, hk, FaultEntry.fresh]
  | true =>
    simp only [if_true, State.latchRise_entry, habsent, and_true, FaultEntry.fresh, hk, ht]
    rfl

theorem State.latchRise_setRegs (s : State) (r : Pair Regulator) (k : FaultKind) (src : Source) (d : Option Nat) :
    (s.setRegs r).latchRise k src d = (s.latchRise k src d).setRegs r := by
  have hpresent : (s.setRegs r).sourcePresent k src = s.sourcePresent k src := rfl
  unfold State.latchRise
  rw [hpresent]
  split_ifs <;> rfl

theorem State.latchRise_setSeq (s : State) (q : Sequencer) (k : FaultKind) (src : Source) (d : Option Nat) :
    (s.setSeq q).latchRise k src d = (s.latchRise k src d).setSeq q := by
  have hpresent : (s.setSeq q).sourcePresent k src = s.sourcePresent k src := rfl
  unfold State.latchRise
  rw [hpresent]
  split_ifs <;> rfl

theorem State.freshGateFault_eq (s : State) (x : Side) : s.freshGateFault x =
    State.setRegs (if s.inputs.gateFault.get x = true then s.latchRise (.gateFault x) .first none else s)
      (if s.inputs.gateFault.get x = true then s.regs.set x { s.regs.get x with gateBlock := true, gateFault := true }
        else s.regs) := by
  unfold State.freshGateFault
  split_ifs
  · exact State.latchRise_setRegs _ _ _ _ _
  · rfl

theorem State.freshEStop_eq (s : State) : s.freshEStop =
    State.setSeq (if s.inputs.eStop = true then s.latchRise .eStop .first none else s)
      (if s.inputs.eStop = true then { s.seq with eStop := true } else s.seq) := by
  unfold State.freshEStop
  split_ifs
  · exact State.latchRise_setSeq _ _ _ _ _
  · rfl

theorem State.freshGateFault_entry (s : State) (x : Side) (j : FaultKind) (hk : s.faults.entry (.gateFault x) = .reset)
    (ht : s.req.partTime = 0) : (s.freshGateFault x).faults.entry j =
      if j = .gateFault x then FaultEntry.fresh (s.inputs.gateFault.get x) else s.faults.entry j := by
  rw [s.freshGateFault_eq, ← s.freshLatch_entry _ _ _ hk ht]
  rfl

/-- The fault entries after a reset: those of the inputs that are active have latched, the others are at their values after
reset. -/
theorem State.performReset_entry (s : State) (k : FaultKind) : s.performReset.faults.entry k =
    match k with
    | .eStop => FaultEntry.fresh s.inputs.eStop
    | .gateFault x => FaultEntry.fresh (s.inputs.gateFault.get x)
    | _ => .reset := by
  have hreset : ∀ j, s.resetBlocks.faults.entry j = .reset := FaultUnit.reset_entry
  have ha : ∀ j, (s.resetBlocks.freshGateFault .a).faults.entry j =
      if j = .gateFault .a then FaultEntry.fresh (s.inputs.gateFault.get .a) else .reset := fun j => by
    rw [State.freshGateFault_entry _ _ _ (hreset _) rfl, hreset]
    rfl
  have hb : ∀ j, ((s.resetBlocks.freshGateFault .a).freshGateFault .b).faults.entry j =
      if j = .gateFault .b then FaultEntry.fresh (s.inputs.gateFault.get .b) else
      if j = .gateFault .a then FaultEntry.fresh (s.inputs.gateFault.get .a) else .reset := fun j => by
    rw [State.freshGateFault_entry _ _ _ (by rw [ha]; rfl) (by simp [State.resetBlocks, RequestUnit.reset]), ha]
    simp [State.resetBlocks]
  have hfresh : s.performReset.faults.entry k = if k = .eStop then FaultEntry.fresh s.inputs.eStop else
      ((s.resetBlocks.freshGateFault .a).freshGateFault .b).faults.entry k := by
    rw [State.performReset, State.freshEStop_eq]
    have := State.freshLatch_entry ((s.resetBlocks.freshGateFault .a).freshGateFault .b) s.inputs.eStop .eStop k
      (by rw [hb]; rfl) (by simp [State.resetBlocks, RequestUnit.reset])
    simpa [State.resetBlocks] using this
  rw [hfresh, hb]
  cases k with
  | gateFault x => cases x <;> rfl
  | _ => rfl

/-- A GATE FAULT input that is active at a reset stands there, the regulator being gate-blocked as every one then is (R69). -/
theorem State.freshGateFault_get (s : State) (x y : Side) (h : s.regs.get x = .reset) :
    (s.freshGateFault x).regs.get y =
      if y = x then { Regulator.reset with gateFault := s.inputs.gateFault.get x } else s.regs.get y := by
  rw [s.freshGateFault_eq, State.setRegs_regs]
  by_cases hy : y = x
  · subst hy
    cases s.inputs.gateFault.get y <;> simp [h] <;> rfl
  · cases s.inputs.gateFault.get x <;> simp [hy, Pair.get_set_other _ _ hy]

theorem State.performReset_regs (s : State) (x : Side) : s.performReset.regs.get x =
    { Regulator.reset with gateFault := s.inputs.gateFault.get x } := by
  have hreset : ∀ y, s.resetBlocks.regs.get y = .reset := fun y => by cases y <;> rfl
  have hinputs : (s.resetBlocks.freshGateFault .a).inputs = s.inputs := by simp [State.resetBlocks]
  rw [State.performReset, (State.freshEStop_frame _).2.2.2.2.2.1, State.freshGateFault_get _ .b x, hinputs,
    State.freshGateFault_get _ .a x (hreset .a)]
  · cases x <;> rfl
  · rw [State.freshGateFault_get _ .a .b (hreset .a)]
    rfl

theorem State.latchRise_firstCauseTime (s : State) (k : FaultKind) (src : Source) (d : Option Nat) :
    (s.latchRise k src d).faults.firstCauseTime = s.faults.firstCauseTime := by
  unfold State.latchRise
  split_ifs <;> rfl

theorem State.freshGateFault_firstCauseTime (s : State) (x : Side) :
    (s.freshGateFault x).faults.firstCauseTime = s.faults.firstCauseTime := by
  unfold State.freshGateFault
  split_ifs
  · exact State.latchRise_firstCauseTime _ _ _ _
  · rfl

theorem State.freshEStop_firstCauseTime (s : State) : s.freshEStop.faults.firstCauseTime = s.faults.firstCauseTime := by
  unfold State.freshEStop
  split_ifs
  · exact State.latchRise_firstCauseTime _ _ _ _
  · rfl

/-- The blocks that a reset leaves at their values after reset, and those that the inputs shape (R5, R38, R105). -/
theorem State.performReset_blocks (s : State) :
    s.performReset.meas = { MeasUnit.reset with encoders := s.inputs.lineBreak.map Encoder.afterReset } ∧
    s.performReset.level = .reset ∧ s.performReset.faults.windowOpen = false ∧
    s.performReset.faults.firstCauseTime = 0 := by
  refine ⟨?_, ?_, ?_, ?_⟩
  · simp [State.performReset, State.resetBlocks]
  · simp [State.performReset, State.resetBlocks]
  · simp [State.performReset, State.resetBlocks, FaultUnit.reset]
  · rw [State.performReset, State.freshEStop_firstCauseTime, State.freshGateFault_firstCauseTime,
      State.freshGateFault_firstCauseTime]
    rfl

/-- Settles O15. -/
theorem powerOnResetGivesResetValues : Obligations.PowerOnResetGivesResetValues := by
  intro s
  obtain ⟨hdrive, hgov, hwatch, hlock, hrecord, hstore, hreq⟩ := s.performReset_units
  obtain ⟨hmeas, hlevel, hwindow, htime⟩ := s.performReset_blocks
  obtain ⟨hpending, hinputs, hmem⟩ := s.performReset_frame
  refine ⟨s.performReset, rfl, hpending, hinputs, hmem, hdrive, ?_, ?_, s.performReset_seq, hgov, s.performReset_regs, hwatch,
    hlevel, hrecord, hstore, hreq, ?_, hlock, hwindow, htime, ?_, ?_, ?_, ?_⟩
  · rw [hmeas]
  · intro x
    rw [hmeas]
    cases x <;> rfl
  · simp [State.portControl, hreq, RequestUnit.reset]
  · rw [s.performReset_entry]
    exact (FaultEntry.fresh_flags _).1
  · rw [State.present, s.performReset_entry]
    exact (FaultEntry.fresh_flags _).2
  · intro x
    rw [State.present, s.performReset_entry]
    exact FaultEntry.fresh_flags _
  · intro k hstop ha hb
    rw [s.performReset_entry]
    cases k with
    | gateFault x => cases x <;> contradiction
    | eStop => contradiction
    | _ => rfl

/-! ### RESTART (R37) -/

/-- What a reset reads of the state: the queue, the inputs, the exchange memory and the count of resets. -/
theorem State.performReset_congr {s t : State} (hpending : t.pending = s.pending) (hinputs : t.inputs = s.inputs)
    (hmem : t.mem = s.mem) (hresets : t.record.resets = s.record.resets) : t.performReset = s.performReset := by
  have hblocks : t.resetBlocks = s.resetBlocks := by simp only [State.resetBlocks, hpending, hinputs, hmem, hresets]
  simp only [State.performReset, hblocks]

/-- The entry into STOPPED with a restart pending performs it (R37). -/
theorem State.enterStopped_restart {s : State} (h : s.seq.restartPending = true) :
    s.enterStopped = ((s.gatesOff.setDriveState .stopped).restEntry).performReset := by
  simp [State.enterStopped, State.pendingRestart, h]

/-- The entry into TRIPPED with a restart pending performs it (R37). -/
theorem State.enterTripped_restart {s : State} (h : s.seq.restartPending = true) :
    s.enterTripped = ((s.gatesOff.setSeq { s.gatesOff.seq.tripped with drive := .tripped }).backrollOff.restEntry).performReset := by
  simp [State.enterTripped, State.pendingRestart, h]

/-- A first cause with a restart pending ends in the reset (R34, R37). -/
theorem State.firstCause_restart {s : State} (k : FaultKind) (d : Option Nat) (h : s.seq.restartPending = true) :
    s.firstCause k d = s.performReset := by
  rw [State.firstCause, State.enterTripped_restart (by simpa using h)]
  exact State.performReset_congr (by simp) (by simp) (by simp) (by simp)

/-- What a reset leaves has no open window. -/
theorem State.closeIfZero_performReset (s : State) : s.performReset.closeIfZero = s.performReset := by
  simp [State.closeIfZero, s.performReset_blocks.2.2.1]

theorem State.fall_absent {s : State} {k : FaultKind} {src : Source} (h : s.sourcePresent k src = false) :
    s.fall k src = s := by
  simp [State.fall, h]

/-- A rise of a trip cause in a running state with a restart pending ends in the reset. -/
theorem State.tripRise_restart {s : State} {k : FaultKind} {src : Source} (ha : s.sourcePresent k src = false)
    (hrun : s.seq.drive.running = true) (hlock : s.faults.lock = false) (h : s.seq.restartPending = true) :
    s.tripRise k src = s.performReset := by
  have hseq : (s.latchRise k src none).seq = s.seq := by simp
  have hlock' : (s.latchRise k src none).faults.lock = false := by simpa using hlock
  have hcause : (s.latchRise k src none).tripCause k none = ((s.latchRise k src none).firstCause k none).closeIfZero := by
    unfold State.tripCause
    rw [hseq]
    cases hd : s.seq.drive <;> simp_all [DriveState.running]
  rw [State.tripRise, if_neg (by simp [ha]), hcause, State.firstCause_restart _ _ (by rwa [hseq]),
    State.closeIfZero_performReset]
  exact State.performReset_congr (by simp) (by simp) (by simp) (by simp)

/-- What a reset shows of a state, whichever it was (R37, R178). -/
theorem State.performReset_shows (s : State) : s.performReset.seq.drive = .unconfigured ∧
    s.performReset.seq.gate = ⟨false, false⟩ ∧ s.performReset.seq.brakeRelease = false ∧ s.performReset.req = .reset ∧
    s.performReset.faults.lock = false ∧ s.performReset.record = { RecordUnit.reset with resets := s.record.resets + 1 } ∧
    s.performReset.store = .reset := by
  obtain ⟨-, -, -, hlock, hrecord, hstore, hreq⟩ := s.performReset_units
  rw [s.performReset_seq]
  exact ⟨rfl, rfl, rfl, hreq, hlock, hrecord, hstore⟩

theorem State.unlessReset_of_reset {s0 u : State} (f : State → State) (h : u.record.resets = s0.record.resets) :
    s0.unlessReset f u.performReset = u.performReset := by
  have hresets : u.performReset.record.resets = s0.record.resets + 1 := by
    rw [u.performReset_units.2.2.2.2.1, h]
  simp [State.unlessReset, hresets]

theorem State.stopMagnetizing_restart {s : State} (h : s.seq.restartPending = true) : s.stopMagnetizing = s.performReset := by
  rw [State.stopMagnetizing, State.enterStopped_restart (by simpa using h)]
  exact State.performReset_congr (by simp) (by simp) (by simp) (by simp)

/-- A pulse of HOST TRIP in a running state with a restart pending ends in the reset, after which its source is absent. -/
theorem State.hostTrip_restart {s : State} (ha : s.sourcePresent .hostTrip .first = false)
    (hrun : s.seq.drive.running = true) (hlock : s.faults.lock = false) (h : s.seq.restartPending = true) :
    s.tripPulse .hostTrip = s.performReset := by
  rw [State.tripPulse, State.tripRise_restart ha hrun hlock h]
  refine State.fall_absent ?_
  rw [State.sourcePresent, s.performReset_entry]
  rfl

theorem exec_stop_magnetizing {s : State} {k : Fin 8} {rest : List (Fin 8)} (hhead : s.atHead (some .stop) k rest)
    (hd : s.seq.drive = .magnetizing) : exec .stop s =
      .next ((s.takeSlot k rest).unlessReset (fun s => s.finish k .ok []) (s.takeSlot k rest).stopMagnetizing) := by
  show Host.Outcome.next (s.withTake (some .stop) _) = _
  rw [State.withTake_head _ _ _ k rest hhead]
  simp only [(s.takeSlot_frame k rest).2.2.2.2.1, hd]

theorem exec_tripNow {s : State} {k : Fin 8} {rest : List (Fin 8)} (hhead : s.atHead (some .tripNow) k rest)
    (hu : s.seq.drive ≠ .unconfigured) (ht : s.seq.drive ≠ .tripped) : exec .tripNow s =
      .next ((s.takeSlot k rest).unlessReset (fun s => s.finish k .ok []) ((s.takeSlot k rest).tripPulse .hostTrip)) := by
  show Host.Outcome.next (s.withTake (some .tripNow) _) = _
  rw [State.withTake_head _ _ _ k rest hhead]
  simp only [(s.takeSlot_frame k rest).2.2.2.2.1]

/-- Settles O16. -/
theorem restartAtRestOrPending : Obligations.RestartAtRestOrPending := by
  refine ⟨fun s h => ?_, fun s h => ?_, fun s k rest hhead hd hr => ?_, fun s hin ha hrun hlock hr => ?_,
    fun s k rest hhead ha hrun hlock hr => ?_⟩
  · show Host.Outcome.next s.restartWrite = .next s.performReset
    rw [State.restartWrite, if_pos h]
  · refine ⟨s.setSeq { s.seq with restartPending := true }, ?_, rfl, fun hstart => ?_⟩
    · show Host.Outcome.next s.restartWrite = _
      rw [State.restartWrite, if_neg (by simp [h])]
    · simp [State.portControl, hstart]
  · have hexec := exec_stop_magnetizing hhead hd
    rw [State.stopMagnetizing_restart (by simpa using hr), State.unlessReset_of_reset _ (by simp)] at hexec
    obtain ⟨hdrive, hgate, hbrake, hreq, -, hrecord, -⟩ := (s.takeSlot k rest).performReset_shows
    exact ⟨_, hexec, hdrive, hgate, hbrake, hreq, by rw [hrecord]; simp⟩
  · have hexec : exec .eStopActive s = execEStopActive s := rfl
    rw [hexec, execEStopActive, if_neg (by simp [hin])]
    dsimp only
    rw [State.tripRise_restart (by exact ha) (by exact hrun) (by exact hlock) (by exact hr)]
    exact congrArg Host.Outcome.next (State.performReset_congr rfl rfl rfl rfl)
  · have hexec := exec_tripNow hhead (by rintro hd; simp [hd, DriveState.running] at hrun)
      (by rintro hd; simp [hd, DriveState.running] at hrun)
    rw [State.hostTrip_restart (by simpa [State.sourcePresent] using ha) (by simpa using hrun) (by simpa using hlock)
      (by simpa using hr), State.unlessReset_of_reset _ (by simp)] at hexec
    obtain ⟨hdrive, hgate, hbrake, hreq, hlock', hrecord, hstore⟩ := (s.takeSlot k rest).performReset_shows
    exact ⟨_, hexec, hdrive, hgate, hbrake, hreq, hlock', by rw [hrecord]; simp, hstore⟩

end Sys2Proof.Machine
end

section
/-! Start-up (R178), the registers (R175, R176) and the host's writes to state and clear words (R17, R112, R141, R165). -/

namespace Sys2Proof.Machine

/-! ### Writes of state words -/

/-- Words 0 of eight blocks zeroed. -/
def Memory.zeroAt (m : Memory) (f : Fin 8 → Nat) : Memory := allEntries.foldl (fun m k => m.writeWord (f k) 0) m

theorem mem_allEntries (k : Fin 8) : k ∈ allEntries := by revert k; decide

theorem Memory.read_writeWord_outside (m : Memory) (a : Nat) (w : Word) (x : Nat) (h : x < a ∨ a + 2 ≤ x) :
    (m.writeWord a w).read x = m.read x :=
  m.read_writeWords_outside a [w] x (by simpa using h)

theorem Memory.read_zeroAt_outside (m : Memory) (f : Fin 8 → Nat) (x : Nat) (h : ∀ k, x < f k ∨ f k + 2 ≤ x) :
    (m.zeroAt f).read x = m.read x :=
  foldl_keeps (fun m : Memory => m.read x) _ (fun m k => m.read_writeWord_outside _ _ _ (h k)) allEntries m

theorem Memory.readWord_of_read {m m' : Memory} {a : Nat} (h : ∀ x, a ≤ x → x < a + 2 → m.read x = m'.read x) :
    m.readWord a = m'.readWord a := by
  unfold Memory.readWord
  rw [h a (by omega) (by omega), h (a + 1) (by omega) (by omega)]

theorem Memory.readWords_of_read {m m' : Memory} {a n : Nat} (h : ∀ x, a ≤ x → x < a + 2 * n → m.read x = m'.read x) :
    m.readWords a n = m'.readWords a n := by
  apply List.ext_getElem?
  intro i
  by_cases hi : i < n
  · rw [Memory.readWords_getElem? _ _ _ _ hi, Memory.readWords_getElem? _ _ _ _ hi,
      Memory.readWord_of_read fun x hlo hhi => h x (by omega) (by omega)]
  · rw [List.getElem?_eq_none (by rw [Memory.readWords_length]; omega),
      List.getElem?_eq_none (by rw [Memory.readWords_length]; omega)]

theorem Memory.readWord_zeroAt (m : Memory) (f : Fin 8 → Nat) (hf : ∀ j k, j ≠ k → f j + 2 ≤ f k ∨ f k + 2 ≤ f j) (k : Fin 8) :
    (m.zeroAt f).readWord (f k) = 0 := by
  have hstay : ∀ (l : List (Fin 8)) (m : Memory), m.readWord (f k) = 0 →
      (l.foldl (fun m j => m.writeWord (f j) 0) m).readWord (f k) = 0 := fun l m hm =>
    foldl_holds (fun m : Memory => m.readWord (f k) = 0) _ (fun m j hm => by
      by_cases hj : j = k
      · rw [hj, Memory.readWord_writeWord_same]
      · rw [Memory.readWord_writeWord_other _ _ _ _ (hf k j (Ne.symm hj))]
        exact hm) l m hm
  obtain ⟨before, behind, hsplit⟩ := List.append_of_mem (mem_allEntries k)
  rw [Memory.zeroAt, hsplit, List.foldl_append, List.foldl_cons]
  exact hstay _ _ (Memory.readWord_writeWord_same _ _ _)

/-! ### Start-up (R178) -/

theorem State.writeWord_mem (s : State) (a : Nat) (w : Word) : (s.writeWord a w).mem = s.mem.writeWord a w := rfl

theorem State.writeWords_mem (s : State) (a : Nat) (ws : List Word) : (s.writeWords a ws).mem = s.mem.writeWords a ws := rfl

theorem State.zeroAt_mem (f : Fin 8 → Nat) (s : State) :
    (allEntries.foldl (fun s k => s.writeWord (f k) 0) s).mem = s.mem.zeroAt f := by
  rw [Memory.zeroAt]
  induction allEntries generalizing s with
  | nil => rfl
  | cons k l ih => rw [List.foldl_cons, List.foldl_cons, ih, s.writeWord_mem]

theorem natWord_zero : natWord 0 = 0 := rfl

theorem State.initMemory_mem (s : State) : s.initMemory.mem =
    (((((s.mem.writeWords identityAddr identityWords).zeroAt slotAddr).zeroAt entryAddr).writeWords statusAddr
      (zeros 384)).writeWords (stickyClearAddr 0) (zeros 7)).writeWords mapImageAddr (zeros 397) := by
  have hslot : natWord SlotState.free.code = 0 := natWord_zero
  have hentry : natWord EntryState.empty.code = 0 := natWord_zero
  simp only [State.initMemory, State.clearStateWords, State.writeWords_mem, hslot, hentry, State.zeroAt_mem]

theorem zeros_length (n : Nat) : (zeros n).length = n := List.length_replicate

theorem Memory.readWords_zeros (m : Memory) (a n : Nat) : (m.writeWords a (zeros n)).readWords a n = List.replicate n 0 := by
  have hsame := m.readWords_writeWords_same a (zeros n)
  rwa [zeros_length] at hsame

theorem slotAddr_range (k : Fin 8) : 0x0040 ≤ slotAddr k ∧ slotAddr k + 48 ≤ 0x01C0 := by
  unfold slotAddr
  omega

theorem entryAddr_range (k : Fin 8) : 0x1000 ≤ entryAddr k ∧ entryAddr k + 260 ≤ 0x1820 := by
  unfold entryAddr
  omega

theorem slotAddr_apart (j k : Fin 8) (h : j ≠ k) : slotAddr j + 2 ≤ slotAddr k ∨ slotAddr k + 2 ≤ slotAddr j := by
  unfold slotAddr
  omega

theorem entryAddr_apart (j k : Fin 8) (h : j ≠ k) : entryAddr j + 2 ≤ entryAddr k ∨ entryAddr k + 2 ≤ entryAddr j := by
  unfold entryAddr
  omega

/-- Where the last writes of start-up leave a byte. -/
theorem State.initMemory_read (s : State) (x : Nat) (hstatus : x < 0x0200 ∨ 0x050E ≤ x)
    (hmap : x < 0x2000 ∨ 0x2000 + 2 * 397 ≤ x) : s.initMemory.mem.read x =
      (((s.mem.writeWords identityAddr identityWords).zeroAt slotAddr).zeroAt entryAddr).read x := by
  have hsticky : stickyClearAddr 0 = 0x0500 := rfl
  rw [s.initMemory_mem, Memory.read_writeWords_outside _ _ _ _ (by rw [zeros_length]; unfold mapImageAddr; omega),
    Memory.read_writeWords_outside _ _ _ _ (by rw [zeros_length]; omega),
    Memory.read_writeWords_outside _ _ _ _ (by rw [zeros_length]; unfold statusAddr; omega)]

theorem State.initMemory_identity (s : State) : s.initMemory.mem.readWords identityAddr 32 = identityWords := by
  have hread : ∀ x, identityAddr ≤ x → x < identityAddr + 2 * 32 → s.initMemory.mem.read x =
      (s.mem.writeWords identityAddr identityWords).read x := fun x _ hx => by
    have hid : identityAddr = 0 := rfl
    rw [s.initMemory_read x (by omega) (by omega), Memory.read_zeroAt_outside _ _ _ fun k => ?_,
      Memory.read_zeroAt_outside _ _ _ fun k => ?_]
    · have := slotAddr_range k
      omega
    · have := entryAddr_range k
      omega
  rw [Memory.readWords_of_read hread]
  exact Memory.readWords_writeWords_same _ _ _

theorem State.initMemory_slot (s : State) (k : Fin 8) : s.initMemory.mem.readWord (slotAddr k) = 0 := by
  have hk := slotAddr_range k
  have hread : ∀ x, slotAddr k ≤ x → x < slotAddr k + 2 → s.initMemory.mem.read x =
      ((s.mem.writeWords identityAddr identityWords).zeroAt slotAddr).read x := fun x _ hx => by
    rw [s.initMemory_read x (by omega) (by omega), Memory.read_zeroAt_outside _ _ _ fun j => ?_]
    have := entryAddr_range j
    omega
  rw [Memory.readWord_of_read hread]
  exact Memory.readWord_zeroAt _ _ slotAddr_apart k

theorem State.initMemory_entry (s : State) (k : Fin 8) : s.initMemory.mem.readWord (entryAddr k) = 0 := by
  have hk := entryAddr_range k
  rw [Memory.readWord_of_read fun x _ _ => s.initMemory_read x (by omega) (by omega)]
  exact Memory.readWord_zeroAt _ _ entryAddr_apart k

theorem State.initMemory_status (s : State) : s.initMemory.mem.readWords statusAddr 384 = List.replicate 384 0 := by
  have hsticky : stickyClearAddr 0 = 0x0500 := rfl
  rw [s.initMemory_mem, Memory.readWords_writeWords_outside _ _ _ _ _ (by rw [zeros_length]; simp only [mapImageAddr, statusAddr]; omega),
    Memory.readWords_writeWords_outside _ _ _ _ _ (by rw [zeros_length, hsticky]; unfold statusAddr; omega)]
  exact Memory.readWords_zeros _ _ _

theorem State.initMemory_clear (s : State) (i : Nat) (hi : i < 7) :
    s.initMemory.mem.readWord (stickyClearAddr 0 + 2 * i) = 0 := by
  have hsticky : stickyClearAddr 0 = 0x0500 := rfl
  rw [s.initMemory_mem, Memory.readWord_writeWords_outside _ _ _ _ (by rw [zeros_length, hsticky]; unfold mapImageAddr; omega),
    Memory.readWord_writeWords_inside _ _ _ _ (by rwa [zeros_length])]
  exact List.getElem_replicate ..

theorem State.initMemory_map (s : State) : s.initMemory.mem.readWords mapImageAddr 397 = List.replicate 397 0 := by
  rw [s.initMemory_mem]
  exact Memory.readWords_zeros _ _ _

theorem State.initMemory_outside (s : State) (x : Nat) (h : ¬inStartUp x) : s.initMemory.mem.read x = s.mem.read x := by
  simp only [inStartUp, not_or, not_exists, not_and, not_lt] at h
  obtain ⟨hid, hstatus, hmap, hslot, hentry⟩ := h
  rw [s.initMemory_read x (by omega) (by omega), Memory.read_zeroAt_outside _ _ _ fun k => ?_,
    Memory.read_zeroAt_outside _ _ _ fun k => ?_, Memory.read_writeWords_outside]
  · exact .inr hid
  · have := hslot k
    omega
  · have := hentry k
    omega

theorem State.setReq_raiseNotice_mem (s : State) (r : RequestUnit) (n : Nat) : ((s.setReq r).raiseNotice n).mem = s.mem := rfl

theorem State.setReq_raiseNotice_req (s : State) (r : RequestUnit) (n : Nat) :
    ((s.setReq r).raiseNotice n).req = { r with notice := r.notice ||| noticeBit n } := rfl

theorem State.portControl_ready (s : State) (h : s.req.starting = false) (hr : s.seq.restartPending = false) :
    s.portControl = 1 := by
  simp [State.portControl, h, hr]

/-- Settles O17. -/
theorem startUpInitialises : Obligations.StartUpInitialises := by
  refine ⟨fun s hstart hr => ?_, fun s hstart => ?_⟩
  · refine ⟨_, by rw [s.exec_startUpEnd, if_pos hstart], ?_⟩
    rw [State.setReq_raiseNotice_mem, State.setReq_raiseNotice_req]
    refine ⟨?_, s.initMemory_identity, s.initMemory_slot, s.initMemory_entry, s.initMemory_status, fun c => ?_,
      s.initMemory_clear 6 (by decide), s.initMemory_map, s.initMemory_outside, fun k => ?_, rfl, ?_⟩
    · exact State.portControl_ready _ rfl hr
    · have hc : stickyClearAddr c = stickyClearAddr 0 + 2 * c.val := by simp [stickyClearAddr]
      rw [hc]
      exact s.initMemory_clear c.val (by omega)
    · exact vget_map _ _ _
    · simp [State.sameBlocks]
  · rw [s.exec_startUpEnd, if_neg (by simp [hstart])]

/-! ### The registers (R175, R176) -/

theorem noticeBit_getLsbD {n i : Nat} (hi : i < 16) : (noticeBit n).getLsbD i = decide (i = n) := by
  show (1#16 <<< n).getLsbD i = _
  rw [BitVec.getLsbD_shiftLeft, BitVec.getLsbD_one]
  grind

theorem noticeMask_getLsbD (i : Nat) : noticeMask.getLsbD i = decide (i ≤ 12) := by
  by_cases hi : i < 16
  · revert i
    decide
  · rw [BitVec.getLsbD_of_ge _ _ (by omega), eq_comm, decide_eq_false_iff_not]
    omega

theorem word_ne_zero_iff (v : Word) : v ≠ 0 ↔ ∃ i, v.getLsbD i = true := by
  show ¬v = 0#16 ↔ _
  rw [BitVec.zero_iff_eq_false, not_forall]
  simp only [Bool.not_eq_false]

/-- Settles O18. -/
theorem registersRule : Obligations.RegistersRule := by
  refine ⟨rfl, fun s v => rfl, fun s v hv => ?_, fun s => rfl, fun s h => ?_, fun s h hr => ?_, fun s h hr => ?_,
    fun s v => ⟨_, rfl, rfl, fun i => ?_⟩, fun s v => ⟨_, rfl, rfl, fun i => ?_⟩, fun s n i hi hn => ?_, fun s => ?_⟩
  · show Host.Outcome.next (if v = 1 then s.restartWrite else s) = .next s
    rw [if_neg hv]
  · simp [State.portControl, h]
  · simp [State.portControl, h, hr]
  · exact s.portControl_ready h hr
  · show (s.req.notice &&& ~~~v).getLsbD i = _
    rw [BitVec.getLsbD_and, BitVec.getLsbD_not]
    by_cases hi : i < 16
    · simp [hi]
    · simp [BitVec.getLsbD_of_ge s.req.notice i (by omega)]
  · show (v &&& noticeMask).getLsbD i = _
    rw [BitVec.getLsbD_and, noticeMask_getLsbD]
  · show (s.req.notice ||| noticeBit n).getLsbD i = _
    rw [BitVec.getLsbD_or, noticeBit_getLsbD hi]
  · rw [State.noticePin, bne_iff_ne, word_ne_zero_iff]
    simp only [BitVec.getLsbD_and, Bool.and_eq_true]

end Sys2Proof.Machine
end

section
/-! The host's writes to state words and clear words (R165, R178, R17, R112). -/

namespace Sys2Proof.Machine

/-! ### What an answer needs to stand -/

/-- The answers given stand in `t` as in `s`: the slots, the bytes of the slots, and every notice raised. -/
structure State.KeepsAnswers (s t : State) : Prop where
  slots : t.req.slots = s.req.slots
  memory : ∀ a, 0x0040 ≤ a → a < 0x01C0 → t.mem.read a = s.mem.read a
  notice : ∀ i, s.req.notice.getLsbD i = true → t.req.notice.getLsbD i = true

theorem State.KeepsAnswers.refl (s : State) : s.KeepsAnswers s := ⟨rfl, fun _ _ _ => rfl, fun _ h => h⟩

theorem State.KeepsAnswers.trans {s t u : State} (h : s.KeepsAnswers t) (h' : t.KeepsAnswers u) : s.KeepsAnswers u :=
  ⟨h'.slots.trans h.slots, fun a hlo hhi => (h'.memory a hlo hhi).trans (h.memory a hlo hhi),
    fun i hi => h'.notice i (h.notice i hi)⟩

theorem State.KeepsAnswers.of_frame {s t : State} (hreq : t.req = s.req) (hmem : t.mem = s.mem) : s.KeepsAnswers t :=
  ⟨congrArg RequestUnit.slots hreq, fun _ _ _ => congrArg (Memory.read · _) hmem, fun _ h => hreq ▸ h⟩

theorem State.Completed.kept {s t : State} {k : Fin 8} {st : SlotState} {rc : ResultCode} {ws : List Word}
    (h : s.Completed k st rc ws) (hkeep : s.KeepsAnswers t) : t.Completed k st rc ws := by
  have hk := slotAddr_range k
  refine ⟨?_, ?_, ?_, ?_, hkeep.notice _ h.notice⟩
  · rw [State.slot, hkeep.slots]
    exact h.slot
  · rw [Memory.readWord_of_read fun x _ _ => hkeep.memory x (by omega) (by omega)]
    exact h.stateWord
  · rw [Memory.readWord_of_read fun x _ _ => hkeep.memory x (by omega) (by omega)]
    exact h.codeWord
  · rw [Memory.readWords_of_read fun x _ _ => hkeep.memory x (by omega) (by omega)]
    exact h.resultWords

theorem State.serveStore_keepsAnswers (s : State) : s.KeepsAnswers s.serveStore := .of_frame (by simp) (by simp)

/-! ### A write to a slot's state word (R165) -/

namespace State
variable (s : State)

theorem exec_slotStateWrite_plain (stores : List HostStore) (k : Fin 8) (v : Word) (h : stores.all HostStore.plain = true) :
    exec (.slotStateWrite stores k v) s = .next ((stores.foldl State.hostStore s).slotWrite k v) := by
  have hplain : ∀ x ∈ stores, storeFault x = none := fun x hx => storeFault_plain (List.all_eq_true.mp h x hx)
  rw [exec_slotStateWrite, List.findSome?_eq_none_iff.mpr hplain]

theorem exec_slotStateWrite_nil (k : Fin 8) (v : Word) : exec (.slotStateWrite [] k v) s = .next (s.slotWrite k v) := rfl

theorem foldl_hostStore (stores : List HostStore) : stores.foldl State.hostStore s =
    { s with mem := stores.foldl (fun m h => m.writeWord h.addr h.value) s.mem } := by
  induction stores generalizing s with
  | nil => rfl
  | cons h stores ih => rw [List.foldl_cons, List.foldl_cons, ih]; rfl

theorem slotOnly.refl (k : Fin 8) : s.slotOnly s k := by simp [State.slotOnly, State.sameBlocks]

variable {s}

theorem slotOnly.trans {t u : State} {k : Fin 8} (h : s.slotOnly t k) (h' : t.slotOnly u k) : s.slotOnly u k := by
  obtain ⟨hblocks, hothers, hreq, hmem⟩ := h
  obtain ⟨hblocks', hothers', hreq', hmem'⟩ := h'
  refine ⟨?_, fun j hj => (hothers' j hj).trans (hothers j hj), ?_, fun a ha => (hmem' a ha).trans (hmem a ha)⟩
  · simp only [State.sameBlocks] at *
    simp [hblocks, hblocks']
  · rw [hreq', hreq]

variable (s)

/-- A slot's state is put in the unit and in its word, and nothing else changes. -/
theorem putSlotState_slotOnly (k : Fin 8) (st : SlotState) : s.slotOnly (s.putSlotState k st) k := by
  refine ⟨by simp [State.sameBlocks], fun j hj => ?_, rfl, fun a ha => ?_⟩
  · rw [putSlotState_slot, if_neg hj]
  · exact Memory.read_writeWord_outside _ _ _ _ (by omega)

theorem putSlotState_same (k : Fin 8) (st : SlotState) : (s.putSlotState k st).slot k = { s.slot k with state := st } := by
  rw [putSlotState_slot, if_pos rfl]

theorem putSlotState_shows (k : Fin 8) (st : SlotState) : (s.putSlotState k st).slotShows k := by
  rw [State.slotShows, putSlotState_same]
  exact Memory.readWord_writeWord_same _ _ _

theorem setOrder_slotOnly (k : Fin 8) (order : List (Fin 8)) : s.slotOnly (s.setReq { s.req with order := order }) k := by
  simp [State.slotOnly, State.sameBlocks, State.slot]

theorem setCancel_slotOnly (k : Fin 8) : s.slotOnly (s.setReq (s.req.setSlot k { s.slot k with cancel := true })) k :=
  ⟨by simp [State.sameBlocks], fun j hj => by rw [slot_setReq, RequestUnit.setSlot_get, if_neg hj]; rfl, rfl, fun _ _ => rfl⟩

theorem misuse_slotOnly (k : Fin 8) : s.slotOnly s.misuse k := ⟨by simp [State.sameBlocks], fun _ _ => rfl, rfl, fun _ _ => rfl⟩

/-- The state word is written back as it stands. -/
theorem putSlotState_state (k : Fin 8) : (s.putSlotState k (s.slot k).state).slot k = s.slot k := s.putSlotState_same k _

/-- The cancel mark is set and ACTIVE written back (R165). -/
def cancelMarked (k : Fin 8) : State := (s.setReq (s.req.setSlot k { s.slot k with cancel := true })).putSlotState k .active

theorem cancel_eq (k : Fin 8) : s.cancel k = (s.cancelMarked k).cancelRead k := rfl

theorem cancelMarked_slotOnly (k : Fin 8) : s.slotOnly (s.cancelMarked k) k :=
  (s.setCancel_slotOnly k).trans (putSlotState_slotOnly _ k _)

theorem cancelMarked_slot {k : Fin 8} (h : (s.slot k).state = .active) : (s.cancelMarked k).slot k = { s.slot k with cancel := true } := by
  rw [cancelMarked, putSlotState_same, slot_setReq, RequestUnit.setSlot_get, if_pos rfl, ← h]

theorem cancelRead_kept {k : Fin 8} (h : ∀ id sector page, s.store.hostOp ≠ some (.read k id sector page)) :
    s.cancelRead k = s := by
  unfold State.cancelRead
  split
  · next k' id sector page hop =>
    rw [if_neg]
    intro hk
    simp only [Bool.and_eq_true, decide_eq_true_eq] at hk
    exact h id sector page (hk.1 ▸ hop)
  · rfl

theorem cancelRead_paged {k : Fin 8} (h : s.store.job = .pageRead) : s.cancelRead k = s := by
  unfold State.cancelRead
  split
  · simp [h]
  · rfl

theorem cancelRead_waiting {k : Fin 8} {id sector page : Nat} (h : s.store.hostOp = some (.read k id sector page))
    (hjob : s.store.job ≠ .pageRead) : s.cancelRead k = (s.endWaitingRead k .cancelled).serveStore := by
  simp [State.cancelRead, h, hjob]

theorem serve_hostOp_none {u : StoreUnit} (h : u.hostOp = none) : u.serve.hostOp = none := by
  have hslot := u.serve_sameHost.slot
  rw [h] at hslot
  simpa using hslot

section Writes
variable {s} {k : Fin 8} (hs : s.req.starting = false)
include hs

theorem slotWrite_post (h : (s.slot k).state = .free) :
    s.slotWrite k 1 = (s.setReq { s.req with order := s.req.order ++ [k] }).putSlotState k .posted := by
  simp [State.slotWrite, hs, h]

theorem slotWrite_clear (h : (s.slot k).state = .done ∨ (s.slot k).state = .refused) :
    s.slotWrite k 0 = s.putSlotState k .free := by
  simp [State.slotWrite, hs, h]

theorem slotWrite_unpost (h : (s.slot k).state = .posted) :
    s.slotWrite k 0 = (s.setReq { s.req with order := s.req.order.filter fun j => j ≠ k }).putSlotState k .free := by
  simp [State.slotWrite, hs, h]

theorem slotWrite_cancel {r : RequestKind} (h : (s.slot k).state = .active) (hk : (s.slot k).kind = some r)
    (hr : r.cancellable = true) : s.slotWrite k 0 = s.cancel k := by
  simp [State.slotWrite, hs, h, hk, hr]

theorem slotWrite_stay (h : (s.slot k).state = .active) (hk : ∀ r, (s.slot k).kind = some r → r.cancellable = false) :
    s.slotWrite k 0 = s.putSlotState k (s.slot k).state := by
  cases hkind : (s.slot k).kind with
  | none => simp [State.slotWrite, hs, h, hkind]
  | some r => simp [State.slotWrite, hs, h, hkind, hk r hkind]

theorem slotWrite_misuse {v : Word} (hpost : ¬(v = 1 ∧ (s.slot k).state = .free))
    (hfree : ¬(v = 0 ∧ (s.slot k).state ≠ .free)) : s.slotWrite k v = (s.putSlotState k (s.slot k).state).misuse := by
  by_cases hv : v = 0
  · have hstate : (s.slot k).state = .free := by
      by_contra h
      exact hfree ⟨hv, h⟩
    simp [State.slotWrite, hs, hv, hstate]
  · simp only [State.slotWrite, hs, hv]
    simpa using fun h1 h2 => absurd ⟨h1, h2⟩ hpost

end Writes
end State

/-- Settles O19. -/
theorem slotStateWriteTable : Obligations.SlotStateWriteTable := by
  refine ⟨fun stores k v s h => ?_, fun s k hs => ⟨fun h => ?_, fun h => ?_, fun h => ?_, fun h hkind hread => ?_,
    fun h hkind => ⟨fun hread hjob => ?_, fun hread hjob => ?_⟩, fun h hkind => ?_, fun v hpost hfree => ?_⟩⟩
  · rw [s.exec_slotStateWrite_plain stores k v h, State.exec_slotStateWrite_nil, s.foldl_hostStore]
  all_goals rw [State.exec_slotStateWrite_nil]
  · rw [State.slotWrite_post hs h]
    exact ⟨_, rfl, (s.setOrder_slotOnly k _).trans (State.putSlotState_slotOnly _ k _), State.putSlotState_same _ k _,
      State.putSlotState_shows _ k _, rfl, rfl⟩
  · rw [State.slotWrite_clear hs h]
    exact ⟨_, rfl, s.putSlotState_slotOnly k _, s.putSlotState_same k _, s.putSlotState_shows k _, rfl, rfl⟩
  · rw [State.slotWrite_unpost hs h]
    exact ⟨_, rfl, (s.setOrder_slotOnly k _).trans (State.putSlotState_slotOnly _ k _), State.putSlotState_same _ k _,
      State.putSlotState_shows _ k _, rfl, rfl⟩
  · have hwrite : s.slotWrite k 0 = s.cancelMarked k := by
      rcases hkind with hkind | hkind <;>
        rw [State.slotWrite_cancel hs h hkind rfl, s.cancel_eq, (s.cancelMarked k).cancelRead_kept (by exact hread)]
    exact ⟨_, by rw [hwrite], s.cancelMarked_slotOnly k, s.cancelMarked_slot h, State.putSlotState_shows _ k _, rfl, rfl⟩
  · have hwrite : s.slotWrite k 0 = s.cancelMarked k := by
      rcases hkind with hkind | hkind <;>
        rw [State.slotWrite_cancel hs h hkind rfl, s.cancel_eq, (s.cancelMarked k).cancelRead_paged (by exact hjob)]
    exact ⟨_, by rw [hwrite], s.cancelMarked_slotOnly k, s.cancelMarked_slot h, State.putSlotState_shows _ k _⟩
  · obtain ⟨id, sector, page, hop⟩ := hread
    have hwrite : s.slotWrite k 0 = ((s.cancelMarked k).endWaitingRead k .cancelled).serveStore := by
      rcases hkind with hkind | hkind <;>
        rw [State.slotWrite_cancel hs h hkind rfl, s.cancel_eq, (s.cancelMarked k).cancelRead_waiting (by exact hop) (by exact hjob)]
    obtain ⟨hanswer, hreq, -, -⟩ := (s.cancelMarked k).endWaitingRead_answer k .cancelled
    refine ⟨_, by rw [hwrite], hanswer.kept (State.serveStore_keepsAnswers _), ?_, ?_, ?_⟩
    · exact State.serve_hostOp_none rfl
    · exact (StoreUnit.serve_sameHost _).state
    · exact congrArg RequestUnit.chain hreq
  · rw [State.slotWrite_stay hs h hkind]
    exact ⟨_, rfl, s.putSlotState_slotOnly k _, s.putSlotState_state k, s.putSlotState_shows k _, rfl, rfl⟩
  · rw [State.slotWrite_misuse hs hpost hfree]
    exact ⟨_, rfl, (s.putSlotState_slotOnly k _).trans (State.misuse_slotOnly _ k), s.putSlotState_state k,
      s.putSlotState_shows k _, rfl, State.misuse_count _⟩

/-! ### Writes while STARTING (R178) and to the clear words (R17, R112) -/

/-- Settles O20. -/
theorem writesWhileStarting : Obligations.WritesWhileStarting := by
  intro s hs
  refine ⟨fun k v => ⟨s.writeWord (slotAddr k) 0, ?_, rfl, Memory.readWord_writeWord_same _ _ _⟩,
    fun k v => ⟨s.writeWord (entryAddr k) 0, ?_, rfl, Memory.readWord_writeWord_same _ _ _⟩,
    fun c v => ⟨s.writeWord (stickyClearAddr c) 0, ?_, rfl, Memory.readWord_writeWord_same _ _ _⟩,
    fun v => ⟨s.writeWord alarmClearAddr 0, ?_, rfl, Memory.readWord_writeWord_same _ _ _⟩⟩
  · rw [State.exec_slotStateWrite_nil, State.slotWrite]
    simp only [hs, if_true]
    rfl
  · rw [exec_listEntryStateWrite, State.entryWrite]
    simp only [hs, if_true]
    rfl
  · have hexec : exec (.stickyErrorClearWrite c v) s = execStickyErrorClearWrite c v s := rfl
    rw [hexec, execStickyErrorClearWrite]
    simp only [hs, if_true]
  · have hexec : exec (.alarmSeenClearWrite v) s = execAlarmSeenClearWrite v s := rfl
    rw [hexec, execAlarmSeenClearWrite]
    simp only [hs, if_true]

theorem FaultUnit.clearSeen_entry (f : FaultUnit) (w : Word) (k : FaultKind) : (f.clearSeen w).entry k =
    { f.entry k with seen := (f.entry k).seen && !(decide (22 ≤ k.num.val) && w.getLsbD (k.num.val - 22)) } := by
  have hget : (f.clearSeen w).entry k = if 22 ≤ k.num.val && w.getLsbD (k.num.val - 22) then
      { f.entry k with seen := false } else f.entry k := by
    simp [FaultUnit.clearSeen, FaultUnit.entry, vget]
  rw [hget]
  split_ifs with h
  · simp [h]
  · rw [Bool.not_eq_true] at h
    simp [h]

theorem FaultUnit.clearSeen_eq (f : FaultUnit) (w : Word) : f.clearSeen w = { f with entries := (f.clearSeen w).entries } := rfl

/-- Settles O22. -/
theorem clearWordWrites : Obligations.ClearWordWrites := by
  refine ⟨fun s c v hs => ?_, fun s v hs => ?_⟩
  · have hexec : exec (.stickyErrorClearWrite c v) s = .next ((s.setReceiver c
        { s.receiver c with errors := (s.receiver c).errors.clear v }).writeWord (stickyClearAddr c) 0) := by
      show execStickyErrorClearWrite c v s = _
      simp [execStickyErrorClearWrite, hs]
    exact ⟨_, hexec, rfl, rfl, fun d hd => vget_vset_other _ _ hd, vget_vset_same _ _ _,
      Memory.readWord_writeWord_same _ _ _, fun a ha => Memory.read_writeWord_outside _ _ _ _ (by omega)⟩
  · have hexec : exec (.alarmSeenClearWrite v) s =
        .next ((s.setFaults (s.faults.clearSeen v)).writeWord alarmClearAddr 0) := by
      show execAlarmSeenClearWrite v s = _
      simp [execAlarmSeenClearWrite, hs]
    exact ⟨_, hexec, rfl, s.faults.clearSeen_eq v, s.faults.clearSeen_entry v, Memory.readWord_writeWord_same _ _ _,
      fun a ha => Memory.read_writeWord_outside _ _ _ _ (by omega)⟩

/-! ### A take of no kind (R166) -/

/-- Settles O23. -/
theorem unknownKindRefused : Obligations.UnknownKindRefused := by
  have hexec : ∀ s : State, exec .requestUnknownKind s = .next (s.withTake none fun s k _ => s.refuse k .unknownKind) :=
    fun _ => rfl
  refine ⟨fun s k rest hhead => ⟨_, ?_, s.take_complete_answered k rest .refused .unknownKind []⟩, fun s h => ?_⟩
  · rw [hexec, s.withTake_head _ _ k rest hhead]
    rfl
  · rw [hexec, s.withTake_none _ _ h]

end Sys2Proof.Machine
end

section
/-! What a trip rise and the entries into the states at rest leave of the fault set (R35, R106 to R110, R116, R117, R120). -/

namespace Sys2Proof.Machine

/-- The kinds that an entry into STOPPED or TRIPPED, or the closing of a record, may report: those formed anew where no drive runs, and
the store's. -/
def FaultKind.ofRest : FaultKind → Bool
  | .dcUndervolt _ | .dcLow | .encoderSingle | .encoderLoss | .backroll | .storeFault => true
  | _ => false

theorem FaultKind.ne_ofRest {j k : FaultKind} (h : j.ofRest = false) (hk : k.ofRest = true) : j ≠ k := by
  rintro rfl
  simp [h] at hk

namespace State
variable (s : State) {j : FaultKind}

theorem alarmPulse_other (k : FaultKind) (src : Source) (d : Option Nat) (h : j ≠ k) :
    (s.alarmPulse k src d).faults.entry j = s.faults.entry j := by
  rw [State.alarmPulse, State.fall_other _ _ h, State.alarmRise_other _ _ _ h]

theorem formSingle_other (h : j ≠ .encoderSingle) : s.formSingle.faults.entry j = s.faults.entry j := by
  have hfall : ∀ (u : State) src, (u.fall .encoderSingle src).faults.entry j = u.faults.entry j := fun u src => u.fall_other src h
  have hrise : ∀ (u : State) src d, (u.alarmRise .encoderSingle src d).faults.entry j = u.faults.entry j :=
    fun u src d => u.alarmRise_other src d h
  unfold State.formSingle
  dsimp only
  split_ifs <;> simp only [hfall, hrise]

theorem encodersAtRest_other (h1 : j ≠ .encoderSingle) (h2 : j ≠ .encoderLoss) :
    s.encodersAtRest.faults.entry j = s.faults.entry j := by
  rw [State.encodersAtRest, State.fall_other _ _ h2, State.formSingle_other _ h1]

theorem encodersAtRest_absent : s.encodersAtRest.sourcePresent .encoderLoss .first = false := s.formSingle.fall_source _ _

theorem levelAtRest_other (h : ∀ x, j ≠ .dcUndervolt x) (h' : j ≠ .dcLow) : s.levelAtRest.faults.entry j = s.faults.entry j := by
  unfold State.levelAtRest
  dsimp only
  rw [State.fall_other _ _ h', State.fall_other _ _ h', State.fall_other _ _ (h .b), State.fall_other _ _ (h .a), State.setLevel_faults]

theorem backrollOff_other (h : j ≠ .backroll) : s.backrollOff.faults.entry j = s.faults.entry j := by
  rw [State.backrollOff, State.fall_other _ _ h, State.setSeq_faults]

/-- The closing of a record may report the store's kind alone (R139, R154). -/
theorem closeRecord_other (hstore : j ≠ .storeFault) : s.closeRecord.faults.entry j = s.faults.entry j := by
  have hdrop : ∀ u : State, u.countDropped.faults.entry j = u.faults.entry j := fun u => by
    rw [State.countDropped, State.alarmPulse_other _ _ _ _ hstore, State.setStore_faults]
  have hhand : ∀ (u : State) o, (u.handOver o).faults.entry j = u.faults.entry j := fun u o => by
    unfold State.handOver
    split <;> simp [hdrop]
  unfold State.closeRecord
  split
  · simp [hhand]
  · rfl

theorem closeIfZero_other (hstore : j ≠ .storeFault) : s.closeIfZero.faults.entry j = s.faults.entry j := by
  unfold State.closeIfZero
  split
  · rw [State.closeWindow, State.closeRecord_other _ hstore]
    rfl
  · rfl

section
variable (h : j.ofRest = false)
include h

theorem restEntry_entry : s.restEntry.faults.entry j = s.faults.entry j := by
  have hne := fun k => FaultKind.ne_ofRest (k := k) h
  rw [State.restEntry, State.encodersAtRest_other _ (hne _ rfl) (hne _ rfl),
    State.levelAtRest_other _ (fun x => hne _ rfl) (hne _ rfl), State.setGov_faults]

theorem enterStopped_entry (hr : s.seq.restartPending = false) : s.enterStopped.faults.entry j = s.faults.entry j := by
  rw [State.enterStopped, State.pendingRestart_calm _ (by simp [hr]), State.restEntry_entry _ h]
  simp

theorem enterTripped_entry (hr : s.seq.restartPending = false) : s.enterTripped.faults.entry j = s.faults.entry j := by
  rw [State.enterTripped, State.pendingRestart_calm _ (by simp [Sequencer.tripped, hr]), State.restEntry_entry _ h,
    State.backrollOff_other _ (FaultKind.ne_ofRest h rfl)]
  simp

theorem firstCause_entry (k : FaultKind) (d : Option Nat) (hr : s.seq.restartPending = false) :
    (s.firstCause k d).faults.entry j = s.faults.entry j := by
  rw [State.firstCause, State.enterTripped_entry _ h (by simpa using hr), State.openTrip_setFaults]
  simp [State.openWindow, FaultUnit.entry]

theorem tripCause_entry (k : FaultKind) (d : Option Nat) (hr : s.seq.restartPending = false) :
    (s.tripCause k d).faults.entry j = s.faults.entry j := by
  unfold State.tripCause
  split
  · rfl
  · split
    · unfold State.followOnCause
      split
      · rfl
      · rfl
    · rw [State.closeIfZero_other _ (FaultKind.ne_ofRest h rfl), State.firstCause_entry _ h _ _ hr]

/-- Of the entries a trip rise changes that of its kind alone, as the latching does. -/
theorem tripRise_entry (k : FaultKind) (src : Source) (hr : s.seq.restartPending = false) :
    (s.tripRise k src).faults.entry j = (s.latchRise k src none).faults.entry j := by
  unfold State.tripRise
  split
  · next ha => simp [State.latchRise, ha]
  · exact State.tripCause_entry _ h _ _ (by simpa using hr)

end

/-- After a trip rise that brings no reset about its source is present (R106). -/
theorem tripRise_present (k : FaultKind) (src : Source) (h : k.ofRest = false) (hr : s.seq.restartPending = false) :
    (s.tripRise k src).sourcePresent k src = true := by
  rw [State.sourcePresent, s.tripRise_entry h k src hr]
  by_cases ha : s.sourcePresent k src = true
  · rw [State.latchRise, if_pos ha]
    exact ha
  · rw [State.latchRise, if_neg ha, State.setEntry, State.setFaults_faults, FaultUnit.entry_setEntry_same]
    cases src <;> rfl

theorem tripPulse_absent (k : FaultKind) : (s.tripPulse k).sourcePresent k .first = false := State.fall_source _ _ _

/-- A rise that is a first cause (R106, R108). -/
theorem tripRise_first {k : FaultKind} {src : Source} (h : s.tripReady) (ha : s.sourcePresent k src = false) :
    s.tripRise k src = ((s.latchRise k src none).firstCause k none).closeIfZero := by
  obtain ⟨hu, ht, hlock, -⟩ := h
  have hseq : (s.latchRise k src none).seq = s.seq := by simp
  have hlock' : (s.latchRise k src none).faults.lock = false := by simpa using hlock
  unfold State.tripRise State.tripCause
  rw [if_neg (by simp [ha]), hseq, hlock']
  cases hd : s.seq.drive <;> simp_all

/-- The entry into TRIPPED leaves ENCODER LOSS absent (R120). -/
theorem enterTripped_encoderLoss (hr : s.seq.restartPending = false) :
    s.enterTripped.sourcePresent .encoderLoss .first = false := by
  rw [State.enterTripped, State.pendingRestart_calm _ (by simp [Sequencer.tripped, hr])]
  exact State.encodersAtRest_absent _

/-- ENCODER LOSS as a first cause: the entry into TRIPPED that it brings makes it absent again (R120). -/
theorem tripRise_encoderLoss_absent (h : s.tripReady) (ha : s.sourcePresent .encoderLoss .first = false) :
    (s.tripRise .encoderLoss .first).sourcePresent .encoderLoss .first = false := by
  rw [s.tripRise_first h ha, State.sourcePresent, State.closeIfZero_other _ (by decide)]
  exact State.enterTripped_encoderLoss _ (by simpa using h.2.2.2)

end State

/-- The state that a trip is told of may be another one, where nothing differs that the trip keeps. -/
theorem State.Tripped.of_same {s u t : State} {k : FaultKind} (h : State.Tripped u t k) (hseq : u.seq.afterTrip = s.seq.afterTrip)
    (hdrive : u.drive = s.drive) (hpending : u.pending = s.pending) : State.Tripped s t k :=
  ⟨h.seq.trans hseq, h.rest, h.lock, h.latched, h.settings.trans hdrive, h.queue.trans hpending⟩

/-- A trip stands in every state with the same units. -/
theorem State.Tripped.of_frame {s t u : State} {k : FaultKind} (h : State.Tripped s t k) (hseq : u.seq = t.seq) (hgov : u.gov = t.gov)
    (hfaults : u.faults = t.faults) (hdrive : u.drive = t.drive) (hpending : u.pending = t.pending) : State.Tripped s u k :=
  ⟨hseq.trans h.seq, hgov ▸ h.rest, hfaults ▸ h.lock, hfaults ▸ h.latched, hdrive.trans h.settings, hpending.trans h.queue⟩

end Sys2Proof.Machine
end

section
/-! START, STOP, SET SPEED, LIMIT TORQUE, TRIP NOW and TRIP CLEAR (R21, R23, R27, R35, R50, R114, R115). -/

namespace Sys2Proof.Machine

/-! ### Takes -/

/-- A command that is a take, with its slot at the head of the order. -/
theorem exec_take {c : Instr} {kind : Option RequestKind} {f : State → Fin 8 → List Word → State} {s : State} {k : Fin 8}
    {rest : List (Fin 8)} (h : exec c s = .next (s.withTake kind f)) (hhead : s.atHead kind k rest) :
    exec c s = .next (f (s.takeSlot k rest) k (s.slotParams k)) := by
  rw [h, s.withTake_head _ _ k rest hhead]

theorem natAt_slotParams (s : State) (k : Fin 8) {i : Nat} (h : i < 12) : natAt (s.slotParams k) i = (s.param k i).toNat := by
  rw [natAt, s.wordAt_slotParams k i h]

theorem intAt_slotParams (s : State) (k : Fin 8) {i : Nat} (h : i < 12) : intAt (s.slotParams k) i = (s.param k i).toInt := by
  rw [intAt, s.wordAt_slotParams k i h]

/-- A take of `s` answered at once, where the unit's own work has made `u` of it. -/
theorem answered_of_exec {c : Instr} {s u : State} {k : Fin 8} {rest : List (Fin 8)} {st : SlotState} {rc : ResultCode}
    {ws : List Word} (h : exec c s = .next ((u.takeSlot k rest).complete k st rc ws)) :
    ∃ t, exec c s = .next t ∧ State.Answered u t k rest st rc ws := ⟨_, h, u.take_complete_answered k rest st rc ws⟩

theorem State.complete_read (s : State) (k : Fin 8) (st : SlotState) (rc : ResultCode) (ws : List Word) {a : Nat}
    (h : ¬inAnswer k a) : (s.complete k st rc ws).mem.read a = s.mem.read a :=
  (Memory.answer_words s.mem k (padWords 8 ws) (padWords_eight_length ws) (natWord rc.code) (natWord st.code)).2.2.2 a h

theorem State.finish_completed (s : State) (k : Fin 8) (rc : ResultCode) (ws : List Word) :
    (s.finish k rc ws).Completed k .done rc ws := s.complete_completed k .done rc ws

theorem State.finish_read (s : State) (k : Fin 8) (rc : ResultCode) (ws : List Word) {a : Nat} (h : ¬inAnswer k a) :
    (s.finish k rc ws).mem.read a = s.mem.read a := s.complete_read k .done rc ws h

theorem State.unlessReset_kept {s0 u : State} (f : State → State) (h : u.record.resets = s0.record.resets) :
    s0.unlessReset f u = f u := if_pos h

/-! ### SET SPEED and LIMIT TORQUE (R27, R50) -/

theorem Sequencer.runTarget_eq (q : Sequencer) (c : DriveSettings) : q.runTarget c =
    if q.runKind = .normal then (if q.hostTarget < 0 then 0 else if c.nmax < q.hostTarget then c.nmax else q.hostTarget)
    else if q.direction = .forward then c.creepSpeed else -c.creepSpeed := by
  unfold Sequencer.runTarget
  cases q.runKind <;> cases q.direction <;> rfl

theorem Sequencer.retarget_eq (q : Sequencer) (c : DriveSettings) : q.retarget c = { q with
    rampTarget :=
      if (q.drive = .breakaway ∨ q.drive = .run) ∧ q.runKind = .normal then
        (if q.hostTarget < 0 then 0 else if c.nmax < q.hostTarget then c.nmax else q.hostTarget)
      else if q.drive = .breakaway ∨ q.drive = .run then
        (if q.direction = .forward then c.creepSpeed else -c.creepSpeed)
      else q.rampTarget } := by
  by_cases hrun : q.drive = .breakaway ∨ q.drive = .run
  · have hset : q.retarget c = { q with rampTarget := q.runTarget c } := by
      rcases hrun with h | h <;> simp [Sequencer.retarget, h]
    rw [hset, Sequencer.runTarget_eq]
    simp only [hrun, true_and, if_true]
  · rw [if_neg (fun h => hrun h.1), if_neg hrun]
    unfold Sequencer.retarget
    split
    · next h => exact absurd (.inl h) hrun
    · next h => exact absurd (.inr h) hrun
    · rfl

/-- Settles O30. -/
theorem setSpeedAndLimitTorque : Obligations.SetSpeedAndLimitTorque := by
  refine ⟨fun s k rest w v hhead hw hv => answered_of_exec ?_, fun s k rest w v hhead hw hv => answered_of_exec ?_⟩
  · rw [exec_take rfl hhead, intAt_slotParams s k (by decide), ← hw]
    have hclamp : clampTo 0 (s.takeSlot k rest).cfg.nmax w = v := hv.symm
    dsimp only
    rw [hclamp, Sequencer.retarget_eq]
    rfl
  · rw [exec_take rfl hhead, intAt_slotParams s k (by decide), ← hw]
    have hclamp : clampTo 0 1000 w = v := hv.symm
    dsimp only
    rw [hclamp]
    rfl

/-! ### TRIP NOW and TRIP CLEAR (R114, R115, R35) -/

theorem State.takeSlot_tripReady {s : State} (k : Fin 8) (rest : List (Fin 8)) (h : s.tripReady) :
    (s.takeSlot k rest).tripReady := by simpa [State.tripReady] using h

/-- Settles O31. -/
theorem tripNowTable : Obligations.TripNowTable := by
  intro s k rest hhead
  refine ⟨fun hready ha => ?_, fun hd => answered_of_exec ?_, fun hd => answered_of_exec ?_⟩
  · have hcalm : (s.takeSlot k rest).seq.restartPending = false := by simpa using hready.2.2.2
    have htrip := (s.takeSlot k rest).tripPulse_tripped .hostTrip (State.takeSlot_tripReady k rest hready) ha
    obtain ⟨-, hresets, -, hmeas, hwatch⟩ := (s.takeSlot k rest).tripPulse_calm .hostTrip hcalm
    refine ⟨_, exec_tripNow hhead hready.1 hready.2.1, ?_⟩
    rw [State.unlessReset_kept _ hresets]
    refine ⟨?_, ?_, State.finish_completed _ _ _ _, ?_⟩
    · exact (htrip.of_frame (by simp) (by simp) (by simp) (by simp) (by simp)).of_same (by simp) (by simp) (by simp)
    · simpa [State.sourcePresent] using (s.takeSlot k rest).tripPulse_absent .hostTrip
    · simpa [State.sameField, hmeas, hwatch] using htrip.settings
  · rw [exec_take rfl hhead]
    simp [hd, State.finish]
  · rw [exec_take rfl hhead]
    simp [hd, State.refuse]

theorem FaultUnit.holdsBack_iff (f : FaultUnit) : f.holdsBack = true ↔
    ∃ k ∈ FaultKind.tripKinds, (f.entry k).latched = true ∧ (f.entry k).present = true := by
  simp [FaultUnit.holdsBack]

theorem FaultUnit.clearLatched_entry (f : FaultUnit) (k : FaultKind) :
    f.clearLatched.entry k = { f.entry k with latched := false } := vget_map _ _ _

theorem State.enterStopped_latched (s : State) (hr : s.seq.restartPending = false) (j : Fin 32) :
    (vget s.enterStopped.faults.entries j).latched = (vget s.faults.entries j).latched := by
  rw [State.enterStopped, State.pendingRestart_calm _ (by simp [hr])]
  simp

/-- An accepted TRIP CLEAR with no restart pending. -/
theorem State.clearTrip_eqs (s : State) (hr : s.seq.restartPending = false) :
    s.clearTrip.seq = { s.seq with gate := ⟨false, false⟩, drive := .stopped } ∧ s.clearTrip.gov.atRest ∧
    s.clearTrip.record = s.record ∧ s.clearTrip.store = s.store ∧ s.clearTrip.mem = s.mem ∧
    s.clearTrip.faults.lock = false ∧ (∀ f, (s.clearTrip.faults.entry f).latched = false) ∧ s.sameField s.clearTrip := by
  have hcalm : (s.setFaults { s.faults.clearLatched with lock := false }).seq.restartPending = false := hr
  obtain ⟨hseq, hgov, -, hrecord, hstore, hmem, hlock, -⟩ := State.enterStopped_calm_eqs _ hcalm
  obtain ⟨-, -, hdrive, hmeas, hwatch, -, -⟩ := State.enterStopped_calm _ hcalm
  unfold State.clearTrip
  refine ⟨by simpa using hseq, ?_, hrecord, hstore, hmem, hlock, fun f => ?_, ⟨by simp, by simp, hdrive, hmeas, hwatch⟩⟩
  · rw [hgov]
    exact Governor.zeroed_atRest _
  · rw [FaultUnit.entry_eq, State.enterStopped_latched _ hcalm]
    exact congrArg FaultEntry.latched (s.faults.clearLatched_entry f)

/-- Settles O32. -/
theorem tripClearChecks : Obligations.TripClearChecks := by
  intro s k rest hhead
  refine ⟨fun hd => answered_of_exec ?_, fun hd hopen => answered_of_exec ?_, fun hd hopen hheld => answered_of_exec ?_,
    fun hd hopen hr hfree => ?_⟩
  · rw [exec_take rfl hhead]
    simp [hd, State.refuse]
  · rw [exec_take rfl hhead]
    simp [hd, hopen, State.refuse]
  · have hheld : s.faults.holdsBack = true := s.faults.holdsBack_iff.mpr hheld
    rw [exec_take rfl hhead]
    simp [hd, hopen, hheld, State.refuse]
  · have hheld : s.faults.holdsBack = false := by
      rw [Bool.eq_false_iff, ne_eq, FaultUnit.holdsBack_iff]
      rintro ⟨f, hf, hlatched, hpresent⟩
      exact absurd hpresent (by simpa [State.present] using hfree f hf hlatched)
    obtain ⟨hseq, hrest, hrecord, hstore, hmem, hlock, hlatched, hfield⟩ :=
      (s.takeSlot k rest).clearTrip_eqs (by simpa using hr)
    refine ⟨(s.takeSlot k rest).clearTrip.finish k .ok [], ?_, State.finish_completed _ _ _ _, ?_, ?_, ?_, ?_, ?_, ?_, ?_, ?_⟩
    · rw [exec_take rfl hhead, State.unlessReset_kept _ (by rw [hrecord])]
      simp [hd, hopen, hheld]
    · simpa using hlock
    · simpa using hlatched
    · simpa using hseq
    · simpa using hrest
    · simpa using hrecord
    · simpa using hstore
    · simpa [State.sameField] using hfield
    · intro a ha
      rw [State.finish_read _ _ _ _ ha, hmem]
      simp

end Sys2Proof.Machine
end

section
/-! START and STOP (R21 to R23, R28, R120). -/

namespace Sys2Proof.Machine

/-! ### The encoder conditions formed (R120) -/

theorem State.encoderLossNow_formSingle (s : State) : s.formSingle.encoderLossNow = s.encoderLossNow := by
  simp [State.encoderLossNow, State.bothLost]

/-- Where ENCODER LOSS stands already, or not both encoders are LOST, forming the conditions takes no trip. -/
theorem State.formEncoders_known {s : State} (h : s.encodersKnown) :
    s.formEncoders = s.formSingle ∨ s.formEncoders = s.formSingle.fall .encoderLoss .first := by
  have hnow : s.formEncoders = s.formSingle.tripLevel .encoderLoss s.encoderLossNow := by
    rw [← State.encoderLossNow_formSingle]
    rfl
  rw [hnow, State.tripLevel]
  split
  · next hloss =>
    have hboth : s.bothLost = true := by
      simp only [State.encoderLossNow, Bool.and_eq_true] at hloss
      exact hloss.1
    have hpresent : s.formSingle.sourcePresent .encoderLoss .first = true := by
      rw [State.sourcePresent, State.formSingle_other _ (by decide)]
      exact h hboth
    rw [State.tripRise, if_pos hpresent]
    exact .inl rfl
  · exact .inr rfl

/-- What forming the conditions leaves then: every unit but the fault set. -/
theorem State.formEncoders_known_eqs {s : State} (h : s.encodersKnown) :
    s.formEncoders.seq = s.seq ∧ s.formEncoders.gov = s.gov ∧ s.formEncoders.regs = s.regs ∧
    s.formEncoders.record = s.record ∧ s.formEncoders.store = s.store ∧ s.formEncoders.mem = s.mem ∧
    s.formEncoders.faults.lock = s.faults.lock ∧ s.sameField s.formEncoders := by
  rcases State.formEncoders_known h with heq | heq <;> rw [heq] <;> simp [State.sameField]

/-- Both encoders LOST in a running state, ENCODER LOSS absent: a rise of ENCODER LOSS. -/
theorem State.formEncoders_lost {s : State} (hboth : s.bothLost = true) (hrun : s.seq.drive.running = true) :
    s.formEncoders = s.formSingle.tripRise .encoderLoss .first := by
  have hnow : s.formSingle.encoderLossNow = true := by
    rw [State.encoderLossNow_formSingle, State.encoderLossNow, hboth, hrun]
    rfl
  rw [State.formEncoders, State.tripLevel, if_pos hnow]

/-- The trip that forming the conditions then brings (R120). -/
theorem State.formEncoders_tripped {s : State} (hready : s.tripReady) (hrun : s.seq.drive.running = true) (hboth : s.bothLost = true)
    (ha : s.sourcePresent .encoderLoss .first = false) :
    s.Tripped s.formEncoders .encoderLoss ∧ s.formEncoders.sourcePresent .encoderLoss .first = false := by
  have hready' : s.formSingle.tripReady := by simpa [State.tripReady] using hready
  have ha' : s.formSingle.sourcePresent .encoderLoss .first = false := by
    rw [State.sourcePresent, State.formSingle_other _ (by decide)]
    exact ha
  rw [State.formEncoders_lost hboth hrun]
  exact ⟨(s.formSingle.tripRise_tripped _ _ hready' ha').of_same (by simp) (by simp) (by simp),
    s.formSingle.tripRise_encoderLoss_absent hready' ha'⟩

theorem State.sameField.trans {s t u : State} (h : s.sameField t) (h' : t.sameField u) : s.sameField u := by
  obtain ⟨h1, h2, h3, h4, h5⟩ := h
  obtain ⟨h1', h2', h3', h4', h5'⟩ := h'
  exact ⟨h1'.trans h1, h2'.trans h2, h3'.trans h3, h4'.trans h4, h5'.trans h5⟩

theorem State.finish_sameField (s : State) (k : Fin 8) (rc : ResultCode) (ws : List Word) : s.sameField (s.finish k rc ws) := by
  simp [State.sameField]

/-! ### START (R21, R22) -/

theorem runKindOf_le {w : Word} (h : w.toNat ≤ 1) : runKindOf w = some (if w = 0 then .normal else .creep) := by
  have hw : w = 0 ∨ w = 1 := by bv_omega
  rcases hw with rfl | rfl <;> rfl

theorem runKindOf_gt {w : Word} (h : 1 < w.toNat) : runKindOf w = none := by
  unfold runKindOf
  split
  · omega
  · omega
  · rfl

theorem directionCode_le {w : Word} (h : w.toNat ≤ 1) : directionCode w = some (if w = 0 then .forward else .reverse) := by
  have hw : w = 0 ∨ w = 1 := by bv_omega
  rcases hw with rfl | rfl <;> rfl

theorem directionCode_gt {w : Word} (h : 1 < w.toNat) : directionCode w = none := by
  unfold directionCode
  split
  · omega
  · omega
  · rfl

/-- The entry into MAGNETIZING but for the encoder conditions (R22, R36, R43, R70). -/
def State.magnetizingBegun (s : State) : State :=
  (((s.setSeq { s.seq with
    magCount := 0, flux := 0, gate := Pair.ofFn fun x => s.cfg.pinion.has x, drive := .magnetizing }).setGov s.gov.zeroed).setRegs
      (s.regs.map Regulator.startCleared)).backrollOff

theorem State.enterMagnetizing_eq (s : State) : s.enterMagnetizing = s.magnetizingBegun.formEncoders := rfl

theorem State.magnetizingBegun_eqs (s : State) :
    s.magnetizingBegun.seq = { s.seq with
      magCount := 0, flux := 0, gate := Pair.ofFn (fun x => s.cfg.pinion.has x), drive := .magnetizing, backroll := false } ∧
    s.magnetizingBegun.gov = s.gov.zeroed ∧ s.magnetizingBegun.regs = s.regs.map Regulator.startCleared ∧
    s.magnetizingBegun.record = s.record ∧ s.magnetizingBegun.store = s.store ∧ s.magnetizingBegun.mem = s.mem ∧
    s.magnetizingBegun.faults.lock = s.faults.lock ∧ s.sameField s.magnetizingBegun := by
  simp [State.magnetizingBegun, State.sameField]

theorem State.magnetizingBegun_bothLost (s : State) : s.magnetizingBegun.bothLost = s.bothLost := by
  obtain ⟨-, -, -, -, -, -, -, -, -, -, hmeas, -⟩ := s.magnetizingBegun_eqs
  simp [State.bothLost, hmeas]

theorem State.magnetizingBegun_source (s : State) :
    s.magnetizingBegun.sourcePresent .encoderLoss .first = s.sourcePresent .encoderLoss .first := by
  rw [State.sourcePresent, State.magnetizingBegun, State.backrollOff_other _ (by decide)]
  rfl

theorem Pair.get_map {α β : Type} (f : α → β) (p : Pair α) (x : Side) : (p.map f).get x = f (p.get x) := by
  cases x <;> rfl

/-- A START that has passed its checks. -/
theorem exec_start {s : State} {k : Fin 8} {rest : List (Fin 8)} (hhead : s.atHead (some .start) k rest)
    (hd : s.seq.drive = .stopped) (h0 : (s.param k 0).toNat ≤ 1) (h1 : (s.param k 1).toNat ≤ 1)
    (hpermit : s.inputs.runPermit = true) :
    exec .start s = .next ((s.takeSlot k rest).unlessReset (fun s => s.finish k .ok []) ((s.takeSlot k rest).setSeq { s.seq with
      runKind := if s.param k 0 = 0 then .normal else .creep
      direction := if s.param k 1 = 0 then .forward else .reverse }).enterMagnetizing) := by
  rw [exec_take rfl hhead, s.wordAt_slotParams k 0 (by decide), s.wordAt_slotParams k 1 (by decide), runKindOf_le h0,
    directionCode_le h1]
  simp [hd, hpermit]

/-- Settles O28. -/
theorem startRule : Obligations.StartRule := by
  intro s k rest hhead
  refine ⟨fun hd => answered_of_exec ?_, fun hd h0 => answered_of_exec ?_, fun hd h0 h1 => answered_of_exec ?_,
    fun hd h0 h1 hp => answered_of_exec ?_, fun hd h0 h1 hp hboth => ?_, fun hd h0 h1 hp hboth hready ha => ?_⟩
  · rw [exec_take rfl hhead]
    simp [hd, State.refuse]
  · rw [exec_take rfl hhead, s.wordAt_slotParams k 0 (by decide), runKindOf_gt h0]
    simp [hd, State.refuseInvalid, natWord, flagWord]
  · rw [exec_take rfl hhead, s.wordAt_slotParams k 0 (by decide), s.wordAt_slotParams k 1 (by decide), runKindOf_le h0,
      directionCode_gt h1]
    simp [hd, State.refuseInvalid, natWord, flagWord]
  · rw [exec_take rfl hhead, s.wordAt_slotParams k 0 (by decide), s.wordAt_slotParams k 1 (by decide), runKindOf_le h0,
      directionCode_le h1]
    simp [hd, hp, State.refuse]
  all_goals
    have hexec := exec_start hhead hd h0 h1 hp
    set u := (s.takeSlot k rest).setSeq { s.seq with
      runKind := if s.param k 0 = 0 then .normal else .creep
      direction := if s.param k 1 = 0 then .forward else .reverse } with hu
    obtain ⟨hseq, hgov, hregs, hrecord, hstore, hmem, hlock, hfield⟩ := u.magnetizingBegun_eqs
  · have hknown : u.magnetizingBegun.encodersKnown := fun h => by
      rw [State.magnetizingBegun_bothLost] at h
      exact absurd (hboth.symm.trans h) (by decide)
    obtain ⟨hseq', hgov', hregs', hrecord', hstore', hmem', hlock', hfield'⟩ := State.formEncoders_known_eqs hknown
    rw [State.enterMagnetizing_eq, State.unlessReset_kept _ (by rw [hrecord', hrecord]; rfl)] at hexec
    refine ⟨_, hexec, ?_, ?_, State.finish_completed _ _ _ _, fun x => ?_, ?_, ?_, ?_, ?_, fun a ha => ?_⟩
    · simp only [State.finish_frame, hseq', hseq]
      rfl
    · simp only [State.finish_frame, hgov', hgov]
      exact Governor.zeroed_atRest _
    · simp only [State.finish_frame, hregs', hregs]
      rw [Pair.get_map]
      rfl
    · simp only [State.finish_frame, hlock', hlock]
      rfl
    · simp only [State.finish_frame, hrecord', hrecord]
      rfl
    · simp only [State.finish_frame, hstore', hstore]
      rfl
    · exact (hfield.trans hfield').trans (State.finish_sameField _ _ _ _)
    · rw [State.finish_read _ _ _ _ ha, hmem', hmem]
      rfl
  · have hseq0 : u.magnetizingBegun.seq.drive = .magnetizing := by rw [hseq]
    have hready' : u.magnetizingBegun.tripReady := by
      refine ⟨by simp [hseq0], by simp [hseq0], hlock.trans hready.2.2.1, ?_⟩
      rw [hseq]
      exact hready.2.2.2
    have hboth' : u.magnetizingBegun.bothLost = true := (State.magnetizingBegun_bothLost u).trans hboth
    have ha' : u.magnetizingBegun.sourcePresent .encoderLoss .first = false := (State.magnetizingBegun_source u).trans ha
    have hcalm := State.formEncoders_calm u.magnetizingBegun hready'.2.2.2
    obtain ⟨htrip, habsent⟩ := State.formEncoders_tripped hready' (by simp [hseq0, DriveState.running]) hboth' ha'
    obtain ⟨-, hresets, hdrive, hmeas, hwatch⟩ := hcalm
    rw [State.enterMagnetizing_eq, State.unlessReset_kept _ (by rw [hresets, hrecord]; rfl)] at hexec
    refine ⟨_, hexec, ?_, ?_, State.finish_completed _ _ _ _, ?_⟩
    · refine (htrip.of_frame (by simp) (by simp) (by simp) (by simp) (by simp)).of_same ?_ ?_ ?_
      · rw [hseq]
        rfl
      · exact hfield.2.2.1
      · exact hfield.1
    · simpa [State.sourcePresent] using habsent
    · refine .trans hfield (.trans ⟨?_, ?_, hdrive, hmeas, hwatch⟩ (State.finish_sameField _ _ _ _))
      · simp
      · simp

/-! ### STOP (R23, R28) -/

theorem State.stopMagnetizing_eqs (s : State) (hr : s.seq.restartPending = false) :
    s.stopMagnetizing.seq = { s.seq with flux := 0, magCount := 0, gate := ⟨false, false⟩, drive := .stopped } ∧
    s.stopMagnetizing.gov.atRest ∧ s.stopMagnetizing.record = s.record ∧ s.stopMagnetizing.store = s.store ∧
    s.stopMagnetizing.mem = s.mem ∧ s.stopMagnetizing.faults.lock = s.faults.lock ∧ s.sameField s.stopMagnetizing := by
  have hcalm : (s.setSeq { s.seq with flux := 0, magCount := 0 }).seq.restartPending = false := hr
  obtain ⟨hseq, hgov, -, hrecord, hstore, hmem, hlock, -⟩ := State.enterStopped_calm_eqs _ hcalm
  obtain ⟨-, -, hdrive, hmeas, hwatch, -, -⟩ := State.enterStopped_calm _ hcalm
  unfold State.stopMagnetizing
  refine ⟨by simpa using hseq, ?_, hrecord, hstore, hmem, hlock, ⟨by simp, by simp, hdrive, hmeas, hwatch⟩⟩
  rw [hgov]
  exact Governor.zeroed_atRest _

/-- The entry into STOPPING, ENCODER LOSS being known (R28, R120). -/
theorem State.enterStopping_eqs {s : State} (h : s.encodersKnown) :
    s.enterStopping.seq = { s.seq with
      drive := .stopping, phase := .decelerating, rampTarget := 0, zeroCount := 0, brakeCount := 0 } ∧
    s.enterStopping.gov = s.gov ∧ s.enterStopping.regs = s.regs ∧ s.enterStopping.record = s.record ∧
    s.enterStopping.store = s.store ∧ s.enterStopping.mem = s.mem ∧ s.enterStopping.faults.lock = s.faults.lock ∧
    s.sameField s.enterStopping :=
  State.formEncoders_known_eqs (s := s.setSeq { s.seq with
    drive := .stopping, phase := .decelerating, rampTarget := 0, zeroCount := 0, brakeCount := 0 }) h

/-- Settles O29. -/
theorem stopTable : Obligations.StopTable := by
  intro s k rest hhead
  refine ⟨fun hd hr => ?_, fun hd hknown => ?_, fun hd => answered_of_exec ?_, fun hd => answered_of_exec ?_⟩
  · obtain ⟨hseq, hrest, hrecord, hstore, hmem, hlock, hfield⟩ :=
      (s.takeSlot k rest).stopMagnetizing_eqs (by simpa using hr)
    refine ⟨(s.takeSlot k rest).stopMagnetizing.finish k .ok [], ?_, State.finish_completed _ _ _ _, by simpa using hrest,
      by simpa using hseq, by simpa using hlock, by simpa using hrecord, by simpa using hstore, ?_, fun a ha => ?_⟩
    · rw [exec_stop_magnetizing hhead hd, State.unlessReset_kept _ (by rw [hrecord])]
    · exact State.sameField.trans hfield (State.finish_sameField _ _ _ _)
    · rw [State.finish_read _ _ _ _ ha, hmem]
      rfl
  · obtain ⟨hseq, hgov, hregs, hrecord, hstore, hmem, hlock, hfield⟩ :=
      State.enterStopping_eqs (s := s.takeSlot k rest) hknown
    refine ⟨(s.takeSlot k rest).enterStopping.finish k .ok [], ?_, State.finish_completed _ _ _ _, by simpa using hgov,
      by simpa using hseq, by simpa using hlock, by simpa using hrecord, by simpa using hstore, by simpa using hregs, ?_,
      fun a ha => ?_⟩
    · rw [exec_take rfl hhead]
      rcases hd with hd | hd <;> simp [hd, State.unlessReset, hrecord]
    · exact State.sameField.trans hfield (State.finish_sameField _ _ _ _)
    · rw [State.finish_read _ _ _ _ ha, hmem]
      rfl
  · rw [exec_take rfl hhead]
    rcases hd with hd | hd <;> simp [hd, State.finish]
  · rw [exec_take rfl hhead]
    rcases hd with hd | hd <;> simp [hd, State.refuse]

end Sys2Proof.Machine
end

section
/-! What the exchange memory holds where a list of words has been written, and the image of a record (R183). -/

namespace Sys2Proof.Machine

/-! ### A list of words in the memory -/

/-- The memory holds the words `ws` from byte address `a` on. -/
def Memory.Holds (m : Memory) (a : Nat) (ws : List Word) : Prop := m.readWords a ws.length = ws

namespace Memory
variable {m : Memory} {a : Nat}

theorem holds_writeWords (m : Memory) (a : Nat) (ws : List Word) : (m.writeWords a ws).Holds a ws :=
  m.readWords_writeWords_same a ws

theorem readWords_add (m : Memory) (a n k : Nat) : m.readWords a (n + k) = m.readWords a n ++ m.readWords (a + 2 * n) k := by
  induction n generalizing a with
  | zero => simp [Memory.readWords]
  | succ n ih =>
    have hn : n + 1 + k = n + k + 1 := by omega
    have ha : a + 2 + 2 * n = a + 2 * (n + 1) := by omega
    rw [hn, Memory.readWords, ih, ha]
    rfl

theorem holds_append (xs ys : List Word) : m.Holds a (xs ++ ys) ↔ m.Holds a xs ∧ m.Holds (a + 2 * xs.length) ys := by
  rw [Memory.Holds, List.length_append, Memory.readWords_add]
  refine ⟨fun h => List.append_inj h (m.readWords_length a xs.length), fun ⟨hx, hy⟩ => ?_⟩
  rw [hx, hy]

theorem holds_cons (x : Word) (xs : List Word) : m.Holds a (x :: xs) ↔ m.readWord a = x ∧ m.Holds (a + 2) xs := by
  simp [Memory.Holds, Memory.readWords]

theorem holds_nil : m.Holds a [] := rfl

/-- Blocks of `n` words each, block after block. -/
theorem Holds.block {α : Type} {f : α → List Word} {n : Nat} (hf : ∀ x, (f x).length = n) :
    ∀ {l : List α} {a : Nat}, m.Holds a (l.flatMap f) → ∀ (i : Nat) (x : α), l[i]? = some x → m.Holds (a + 2 * n * i) (f x)
  | [], _, _, i, x, hx => by simp at hx
  | y :: l, a, h, 0, x, hx => by
    rw [List.flatMap_cons, holds_append] at h
    simp only [List.getElem?_cons_zero, Option.some.injEq] at hx
    exact hx ▸ h.1
  | y :: l, a, h, i + 1, x, hx => by
    rw [List.flatMap_cons, holds_append, hf] at h
    have hi := Holds.block hf h.2 i x (by simpa using hx)
    have ha : a + 2 * n + 2 * n * i = a + 2 * n * (i + 1) := by ring
    rwa [ha] at hi

theorem Holds.of_writeWord {ws : List Word} (h : m.Holds a ws) {i : Nat} (w : Word) (hi : i < ws.length) :
    (m.writeWord (a + 2 * i) w).Holds a (ws.set i w) := by
  rw [Memory.Holds, List.length_set]
  apply List.ext_getElem?
  intro j
  by_cases hj : j < ws.length
  · rw [Memory.readWords_getElem? _ _ _ _ hj, List.getElem?_set]
    by_cases hij : i = j
    · subst hij
      simp [hi]
    · rw [Memory.readWord_writeWord_other _ _ _ _ (by omega), ← Memory.readWords_getElem? _ _ _ _ hj, if_neg hij]
      exact congrArg (·[j]?) h
  · rw [List.getElem?_eq_none (by rw [Memory.readWords_length]; omega), List.getElem?_eq_none (by rw [List.length_set]; omega)]

/-- What the memory holds, read at an address and of a length given otherwise. -/
theorem Holds.words {ws : List Word} (h : m.Holds a ws) {b n : Nat} (hb : b = a) (hn : n = ws.length) : m.readWords b n = ws := by
  rw [hb, hn]
  exact h

theorem Holds.take {ws : List Word} (h : m.Holds a ws) (n : Nat) (hn : n ≤ ws.length) : m.readWords a n = ws.take n := by
  have hsplit : m.Holds a (ws.take n ++ ws.drop n) := by rwa [List.take_append_drop]
  exact ((holds_append _ _).mp hsplit).1.words rfl (by rw [List.length_take, Nat.min_eq_left hn])

theorem Holds.word {w : Word} (h : m.Holds a [w]) {b : Nat} (hb : b = a) : m.readWord b = w := by
  rw [holds_cons] at h
  rw [hb]
  exact h.1

theorem Holds.of_read {m' : Memory} {ws : List Word} (h : m.Holds a ws)
    (hread : ∀ x, a ≤ x → x < a + 2 * ws.length → m'.read x = m.read x) : m'.Holds a ws := by
  rw [Memory.Holds, Memory.readWords_of_read hread]
  exact h

end Memory

/-! ### The image of a record (R183) -/

namespace Record
variable (o : Record)

/-- Words 0 to 9 of a record: its id, its class, clock, drive state and run kind. -/
def headWords : List Word :=
  nat32Words o.id ++ [flagWord o.first.isNone] ++ dwordWords o.clock ++ [flagWord o.clockSet] ++ dwordWords o.partTime ++
    [natWord o.drive.code, natWord o.runKind.code]

/-- Words 10 to 13: the first cause and the counts of the others. -/
def causesWords : List Word := o.causeWords ++ [natWord o.followOns.length, natWord o.lostCauses]

/-- Words 97 to 127, which no table names but the last two. -/
def restWords : List Word := zeros 29 ++ [noWord, noWord]

theorem words_parts : o.words = o.headWords ++ o.causesWords ++ (List.range 7).flatMap (followOnWords o.followOns) ++ o.snap.words ++
    padWords 30 (o.snap.channels.flatMap ChannelSnap.words) ++ o.ref.words ++ [natWord o.storeStatus.code] ++ firedWords o.fired ++
    [packBits [o.snap.voltageLimited.a, o.snap.voltageLimited.b]] ++ restWords := by
  simp [Record.words, headWords, causesWords, restWords]

theorem headWords_length : o.headWords.length = 10 := rfl

theorem causesWords_length : o.causesWords.length = 4 := by
  unfold causesWords Record.causeWords
  cases o.first <;> rfl

theorem followOnWords_length (fs : List FollowOn) (i : Nat) : (followOnWords fs i).length = 3 := by
  unfold followOnWords
  cases fs[i]? <;> rfl

theorem followOns_length (fs : List FollowOn) : ((List.range 7).flatMap (followOnWords fs)).length = 21 := by
  simp [List.length_flatMap, followOnWords_length]

theorem firedWords_length (f : Option FiredBy) : (firedWords f).length = 5 := by
  cases f with
  | none => rfl
  | some f => obtain ⟨first, second, detail⟩ := f; cases second <;> rfl

theorem snapWords_length (v : Snapshot) : v.words.length = 19 := rfl

theorem refWords_length (r : CaptureRef) : r.words.length = 6 := rfl

theorem restWords_length : restWords.length = 31 := rfl

theorem channelWords_length (c : ChannelSnap) : c.words.length = 5 := by
  unfold ChannelSnap.words
  split <;> rfl

theorem words_take : o.words.take 3 = nat32Words o.id ++ [flagWord o.first.isNone] := by
  simp [Record.words, nat32Words, dwordWords]

theorem words_length : o.words.length = 128 := by
  simp only [words_parts, List.length_append, headWords_length, causesWords_length, followOns_length, firedWords_length,
    restWords_length, padWords_length, List.length_singleton]
  rfl

end Record

theorem padWords_append {n : Nat} {xs : List Word} (ys : List Word) (h : xs.length ≤ n) :
    padWords n (xs ++ ys) = xs ++ (ys ++ List.replicate n 0).take (n - xs.length) := by
  rw [padWords, List.append_assoc, List.take_append, List.take_of_length_le h]

/-- The words of a channel in the part of an image that its channels share. -/
theorem Memory.holds_channel {m : Memory} {a : Nat} {l : List ChannelSnap} (h : m.Holds a (padWords 30 (l.flatMap ChannelSnap.words)))
    (c : Channel) {v : ChannelSnap} (hv : l[c.val]? = some v) : m.Holds (a + 10 * c.val) v.words := by
  have hlt : c.val < l.length := (List.getElem?_eq_some_iff.mp hv).1
  have hsplit : l = l.take c.val ++ v :: l.drop (c.val + 1) := by
    rw [← (List.getElem?_eq_some_iff.mp hv).2, List.getElem_cons_drop, List.take_append_drop]
  have hlen : ((l.take c.val).flatMap ChannelSnap.words).length = 5 * c.val := by
    simp [List.length_flatMap, Record.channelWords_length, Nat.min_eq_left hlt.le, Nat.mul_comm]
  have hv5 := Record.channelWords_length v
  rw [hsplit, List.flatMap_append, List.flatMap_cons, ← List.append_assoc,
    padWords_append _ (by rw [List.length_append, hlen, hv5]; omega), Memory.holds_append, Memory.holds_append, hlen] at h
  have ha : a + 2 * (5 * c.val) = a + 10 * c.val := by ring
  exact ha ▸ h.1.2

theorem optWord_eq_orNone (x : Option Nat) : optWord x = orNone x := by cases x <;> rfl

theorem condWords_eq (c : Option TrigCond) : condWords c = conditionWords c := by
  cases c with
  | none => rfl
  | some k => cases k <;> rfl

theorem nat32Words_eq (n : Nat) : nat32Words n = [natWord n, natWord (n / 65536)] := by
  have hlo : loWord (BitVec.ofNat 32 n) = natWord n := by
    apply BitVec.eq_of_toNat_eq
    simp [loWord, natWord]
  have hhi : hiWord (BitVec.ofNat 32 n) = natWord (n / 65536) := by
    apply BitVec.eq_of_toNat_eq
    simp [hiWord, natWord, Nat.shiftRight_eq_div_pow]
    omega
  rw [nat32Words, dwordWords, hlo, hhi]

theorem packBits_two (a b : Bool) : packBits [a, b] = natWord (a.toNat + 2 * b.toNat) := by
  cases a <;> cases b <;> rfl

/-- Entry `k` shows the record `o` where the words of `o` stand at its image. -/
theorem State.imageShown_of_holds {s : State} {k : Fin 8} {o : Record} (h : s.mem.Holds (imageAddr k) o.words) :
    s.ImageShown k o := by
  rw [o.words_parts] at h
  simp only [Memory.holds_append, List.length_append, o.headWords_length, o.causesWords_length, Record.followOns_length,
    Record.firedWords_length, padWords_length, Record.snapWords_length, Record.refWords_length, List.length_singleton, imageAddr] at h
  obtain ⟨⟨⟨⟨⟨⟨⟨⟨⟨hhead, hcause⟩, hfollow⟩, hsnap⟩, hchannels⟩, href⟩, hstatus⟩, hfired⟩, hlimited⟩, hrest⟩ := h
  refine ⟨?_, ?_, fun i hi => ?_, hsnap.words (by omega) rfl, fun c v hv => ?_, ?_, hstatus.word (by omega), ?_, ?_,
    hrest.words (by omega) rfl⟩
  · refine (hhead.words rfl o.headWords_length.symm).trans ?_
    rw [Record.headWords, nat32Words_eq]
    rfl
  · refine (hcause.words (by omega) o.causesWords_length.symm).trans ?_
    unfold Record.causesWords Record.causeWords
    cases o.first with
    | none => rfl
    | some f => simp only [optWord_eq_orNone]
  · have hblock := hfollow.block (Record.followOnWords_length _) i i (by simp [hi])
    refine (hblock.words (by omega) (Record.followOnWords_length _ _).symm).trans ?_
    unfold followOnWords
    cases o.followOns[i]? with
    | none => rfl
    | some f => simp only [optWord_eq_orNone]
  · refine ((Memory.holds_channel hchannels c hv).words (by omega) (Record.channelWords_length v).symm).trans ?_
    rfl
  · refine (href.words (by omega) rfl).trans ?_
    simp only [CaptureRef.words, optWord_eq_orNone]
  · refine (hfired.words (by omega) (Record.firedWords_length _).symm).trans ?_
    cases o.fired with
    | none => rfl
    | some f => simp only [firedWords, condWords_eq, optWord_eq_orNone]
  · rw [hlimited.word (by omega), packBits_two]

end Sys2Proof.Machine
end

section
/-! ARM TRIGGER, DISARM TRIGGER and MANUAL TRIGGER, and the firing of the program (R126, R130, R131, R133, R134). -/

namespace Sys2Proof.Machine

/-! ### ARM TRIGGER (R130) -/

theorem condOf_none_iff (c x : Nat) : (condOf c x).isNone = true ↔ c < 1 ∨ 8 < c := by
  match c with
  | 0 | 1 | 2 | 3 | 4 | 5 | 6 | 7 | 8 => simp [condOf]
  | n + 9 => simp [condOf]

theorem condOf_zero (x : Nat) : condOf 0 x = none := rfl

/-- The condition of a code of the table (R186). -/
theorem condOf_named {c : Nat} (x : Nat) (h1 : 1 ≤ c) (h8 : c ≤ 8) : condOf c x = [TrigCond.vibAlert, .vibDanger, .sectorAlert,
    .torqueAtLimit, .speedBelow x, .healthChange, .voltageLimited, .manual][c - 1]? := by
  interval_cases c <;> rfl

theorem belowFlag_condOf (c x : Nat) (n : Int) : belowFlag (condOf c x) n = decide (c = 5 ∧ |n| < (x : Int)) := by
  by_cases h : c = 5
  · subst h
    simp [condOf, belowFlag]
  · unfold condOf
    split <;> simp [belowFlag, h] at *

theorem armBad_eq (ps : List Word) : armBad ps =
    if natAt ps 0 < 1 ∨ 8 < natAt ps 0 then some 0
    else if natAt ps 0 = 5 ∧ 20000 < natAt ps 1 then some 1
    else if 8 < natAt ps 2 then some 2
    else if natAt ps 2 = 5 ∧ 20000 < natAt ps 3 then some 3
    else if natAt ps 4 < 1 ∨ 60000 < natAt ps 4 then some 4
    else if 1 < natAt ps 5 then some 5
    else none := by
  have h2 : (natAt ps 2 ≠ 0 && (condOf (natAt ps 2) 0).isNone) = true ↔ 8 < natAt ps 2 := by
    rw [Bool.and_eq_true, decide_eq_true_iff, condOf_none_iff]
    omega
  simp only [armBad, badX, condOf_none_iff, h2, Bool.and_eq_true, decide_eq_true_iff, Bool.or_eq_true]

theorem exec_armTrigger_refused {s : State} {k : Fin 8} {rest : List (Fin 8)} (hhead : s.atHead (some .armTrigger) k rest) {i : Nat}
    (h : armBad (s.slotParams k) = some i) :
    ∃ t, exec .armTrigger s = .next t ∧ State.Answered s t k rest .refused .invalid [natWord i, 0] :=
  answered_of_exec (by rw [exec_take rfl hhead, h]; rfl)

/-- Settles O33. -/
theorem armTriggerRule : Obligations.ArmTriggerRule := by
  intro s k rest hhead
  dsimp only
  have hp : ∀ i, i < 12 → natAt (s.slotParams k) i = (s.param k i).toNat := fun i hi => natAt_slotParams s k hi
  have hbad := armBad_eq (s.slotParams k)
  simp only [hp 0 (by decide), hp 1 (by decide), hp 2 (by decide), hp 3 (by decide), hp 4 (by decide), hp 5 (by decide)] at hbad
  refine ⟨fun h => exec_armTrigger_refused hhead ?_, fun h0 h1 => exec_armTrigger_refused hhead ?_,
    fun h0 h1 h => exec_armTrigger_refused hhead ?_, fun h0 h1 h2 h => exec_armTrigger_refused hhead ?_,
    fun h0 h1 h2 h3 h => exec_armTrigger_refused hhead ?_, fun h0 h1 h2 h3 h4 h => exec_armTrigger_refused hhead ?_,
    fun h0 h1 h2 h3 h4 h => answered_of_exec ?_⟩
  · rw [hbad, if_pos h]
  · rw [hbad, if_neg (by omega), if_pos ⟨h0, h1⟩]
  · rw [hbad, if_neg (by omega), if_neg (by omega), if_pos h]
  · rw [hbad, if_neg (by omega), if_neg (by omega), if_neg (by omega), if_pos ⟨h2, h⟩]
  · rw [hbad, if_neg (by omega), if_neg (by omega), if_neg (by omega), if_neg (by omega), if_pos h]
  · rw [hbad, if_neg (by omega), if_neg (by omega), if_neg (by omega), if_neg (by omega), if_neg (by omega), if_pos h]
  · have hnone : armBad (s.slotParams k) = none := by
      rw [hbad, if_neg (by omega), if_neg (by omega), if_neg (by omega), if_neg (by omega), if_neg (by omega),
        if_neg (by omega)]
    obtain ⟨first, hfirst⟩ : ∃ c, condOf (s.param k 0).toNat (s.param k 1).toNat = some c := by
      rw [← Option.isSome_iff_exists, Option.isSome_iff_ne_none, ne_eq, ← Option.isNone_iff_eq_none, condOf_none_iff]
      omega
    have hsecond : condOf (s.param k 2).toNat (s.param k 3).toNat = if (s.param k 2).toNat = 0 then none
        else [TrigCond.vibAlert, .vibDanger, .sectorAlert, .torqueAtLimit, .speedBelow (s.param k 3).toNat,
          .healthChange, .voltageLimited, .manual][(s.param k 2).toNat - 1]? := by
      split_ifs with hz
      · rw [hz, condOf_zero]
      · exact condOf_named _ (by omega) h2
    have hprogram : programOf (s.slotParams k) = ⟨first, condOf (s.param k 2).toNat (s.param k 3).toNat, (s.param k 4).toNat,
        decide ((s.param k 5).toNat = 1)⟩ := by
      have hrepeat : ((s.param k 5).toNat != 0) = decide ((s.param k 5).toNat = 1) := by
        rw [Bool.eq_iff_iff, bne_iff_ne, decide_eq_true_iff]
        omega
      simp only [programOf, hp 0 (by decide), hp 1 (by decide), hp 2 (by decide), hp 3 (by decide), hp 4 (by decide),
        hp 5 (by decide), hfirst, hrepeat, Option.getD_some]
    rw [exec_take rfl hhead, hnone, hprogram, ← condOf_named _ h0.1 h0.2, ← hsecond, hfirst, ← belowFlag_condOf,
      ← belowFlag_condOf, hfirst]
    rfl

/-! ### A trigger (R126) -/

theorem RecordUnit.activeBanks_pos {r : RecordUnit} {i : Fin 4} (h : (r.bank i).active = true) : r.activeBanks ≠ 0 := by
  have hmem : i ∈ allBanks.filter fun j => (r.bank j).active := List.mem_filter.mpr ⟨mem_allBanks i, h⟩
  exact (List.length_pos_of_mem hmem).ne'

theorem RecordUnit.activeBank_of_zero {r : RecordUnit} (h : r.activeBanks = 0) : r.activeBank = none := by
  cases hi : r.activeBank with
  | none => rfl
  | some i => exact absurd h (r.activeBanks_pos (RecordUnit.activeBank_some hi))

theorem RecordUnit.activeBank_of_one {r : RecordUnit} {i : Fin 4} (h : r.activeBanks = 1) (hi : (r.bank i).active = true) :
    r.activeBank = some i := by
  cases hj : r.activeBank with
  | none => exact absurd hi (by simp [RecordUnit.activeBank_none hj i])
  | some j => rw [(r.activeBanks_le_one_iff.mp h.le) j i (RecordUnit.activeBank_some hj) hi]

/-- A trigger, told of the banks it leaves and the reference it returns. -/
theorem State.triggered_of_banks {s t : State} {id : Option Nat} (h : t.record.banks = (s.record.trigger id).banks) :
    State.Triggered s t id s.record.reference := by
  refine ⟨fun hz => ?_, fun i hone hlive => ?_, fun i hone hpost => ?_⟩
  · have hnone := RecordUnit.activeBank_of_zero hz
    rw [h, RecordUnit.trigger, RecordUnit.reference, hnone]
    exact ⟨rfl, rfl⟩
  · have hsome := RecordUnit.activeBank_of_one hone (i := i) (by simp [Bank.active, hlive])
    rw [h, RecordUnit.trigger, RecordUnit.reference, hsome]
    simp [RecordUnit.setBank, Bank.trigger, Bank.reference, hlive]
  · have hsome := RecordUnit.activeBank_of_one hone (i := i) (by simp [Bank.active, hpost])
    rw [h, RecordUnit.trigger, RecordUnit.reference, hsome]
    simp only [RecordUnit.setBank, Bank.trigger, Bank.reference, hpost]
    exact ⟨vset_vget_self _ _, rfl⟩

/-- Of the record unit a trigger changes the banks alone. -/
theorem RecordUnit.trigger_eq (r : RecordUnit) (id : Option Nat) : r.trigger id = { r with banks := (r.trigger id).banks } := by
  unfold RecordUnit.trigger
  split <;> rfl

theorem RecordUnit.trigger_setState (r : RecordUnit) (st : TrigState) (id : Option Nat) :
    { r with trigState := st }.trigger id = { r with trigState := st, banks := (r.trigger id).banks } := by
  have hactive : { r with trigState := st }.activeBank = r.activeBank := rfl
  unfold RecordUnit.trigger
  rw [hactive]
  cases r.activeBank <;> rfl

/-! ### A firing (R133, R135) -/

/-- The record of a firing. -/
def State.firedRecord (s : State) (p : Program) (detail : Option Nat) : Record :=
  s.newRecord none .none (some ⟨p.first, p.second, detail⟩)

/-- A record that an entry takes, told once: the record unit, the image, the state word and the notice (R140). -/
theorem State.postRecord_filled {s : State} (o : Record) (h : (s.record.listEntry s.record.nextIndex).state = .empty) :
    let k := s.record.nextIndex
    (s.postRecord o).record = { s.record.setListEntry k ⟨.filled, some o.id, o.ref⟩ with nextIndex := k + 1 } ∧
    (s.postRecord o).mem = (s.mem.writeWords (imageAddr k) o.words).writeWord (entryAddr k) 1 ∧
    (s.postRecord o).req = { s.req with notice := s.req.notice ||| noticeBit noticeRecord } := by
  have hheld : (s.record.listEntry s.record.nextIndex).held = false := by simp [ListEntry.held, h]
  simp only [State.postRecord, hheld]
  exact ⟨rfl, rfl, rfl⟩

/-- With no room in the list the record is counted as unposted (R140). -/
theorem State.postRecord_unposted {s : State} (o : Record) (h : (s.record.listEntry s.record.nextIndex).state ≠ .empty) :
    s.postRecord o = s.setRecord { s.record with unposted := countTo 65535 s.record.unposted } := by
  have hheld : (s.record.listEntry s.record.nextIndex).held = true := by simp [ListEntry.held, h]
  simp only [State.postRecord, hheld, if_true]

theorem countTo_eq (n : Nat) : countTo 65535 n = if n < 65535 then n + 1 else 65535 := by
  unfold countTo
  split_ifs <;> omega

/-- The state in which a firing has taken its id and made its trigger. -/
def State.firing (s : State) : State :=
  s.setRecord { s.record with
    trigState := .fired, banks := (s.record.trigger (some s.record.idCounter)).banks, idCounter := s.record.idCounter + 1 }

theorem State.fire_ids {s : State} (p : Program) (detail : Option Nat) (h : s.record.idCounter < 0xFFFFFFFF) :
    s.fire p detail = (s.firing.postRecord (s.firedRecord p detail)).setRecord
      { (s.firing.postRecord (s.firedRecord p detail)).record with trigState := p.after } := by
  have hids : (s.setRecord { s.record with trigState := .fired }).record.noIds = false := by
    rw [RecordUnit.noIds, decide_eq_false_iff_not]
    exact Nat.not_le.mpr h
  unfold State.fire
  dsimp only
  rw [hids, if_neg (by decide), State.setRecord_record, RecordUnit.trigger_setState]
  rfl

/-- With no id left a firing makes its trigger and no record (R135). -/
theorem State.fire_noIds {s : State} (p : Program) (detail : Option Nat) (h : 0xFFFFFFFF ≤ s.record.idCounter) :
    s.fire p detail = s.setRecord { s.record with
      trigState := p.after, banks := (s.record.trigger none).banks, unposted := countTo 65535 s.record.unposted } := by
  have hids : (s.setRecord { s.record with trigState := .fired }).record.noIds = true := by
    rw [RecordUnit.noIds, decide_eq_true_iff]
    exact h
  unfold State.fire
  dsimp only
  rw [hids, if_pos rfl, State.setRecord_record, RecordUnit.trigger_setState]
  rfl

/-- What a firing leaves, whichever record it makes. -/
theorem State.fire_eqs (s : State) (p : Program) (detail : Option Nat) :
    (s.fire p detail).record.trigState = p.after ∧ (s.fire p detail).record.program = s.record.program ∧
    (s.fire p detail).record.openRecord = s.record.openRecord ∧ (s.fire p detail).seq = s.seq ∧
    (s.fire p detail).faults = s.faults ∧ (s.fire p detail).store = s.store ∧ (s.fire p detail).gov = s.gov ∧
    (s.fire p detail).regs = s.regs ∧ s.sameField (s.fire p detail) := by
  have hunits : (s.fire p detail).record.program = s.record.program ∧
      (s.fire p detail).record.openRecord = s.record.openRecord := by
    rcases Nat.lt_or_ge s.record.idCounter 0xFFFFFFFF with h | h
    · rw [State.fire_ids p detail h]
      simp only [State.setRecord_record, State.postRecord_record]
      split_ifs <;> exact ⟨rfl, rfl⟩
    · rw [State.fire_noIds p detail h]
      exact ⟨rfl, rfl⟩
  exact ⟨rfl, hunits.1, hunits.2, by simp, by simp, by simp, by simp, by simp, by simp [State.sameField]⟩

/-- A firing of which the list takes the record (R133, R140). -/
theorem State.fire_filled {s : State} (p : Program) (detail : Option Nat) (hid : s.record.idCounter < 0xFFFFFFFF)
    (h : (s.record.listEntry s.record.nextIndex).state = .empty) :
    let k := s.record.nextIndex
    let t := s.fire p detail
    t.record = { s.record.setListEntry k ⟨.filled, some s.record.idCounter, s.record.reference⟩ with
      nextIndex := k + 1, trigState := p.after, banks := (s.record.trigger (some s.record.idCounter)).banks
      idCounter := s.record.idCounter + 1 } ∧
    t.mem = (s.mem.writeWords (imageAddr k) (s.firedRecord p detail).words).writeWord (entryAddr k) 1 ∧
    t.req = { s.req with notice := s.req.notice ||| noticeBit noticeRecord } := by
  obtain ⟨hrecord, hmem, hreq⟩ := State.postRecord_filled (s := s.firing) (s.firedRecord p detail) h
  dsimp only
  rw [State.fire_ids p detail hid]
  refine ⟨?_, hmem, hreq⟩
  rw [State.setRecord_record, hrecord]
  rfl

/-- A firing whose record finds no room (R140). -/
theorem State.fire_unposted {s : State} (p : Program) (detail : Option Nat) (hid : s.record.idCounter < 0xFFFFFFFF)
    (h : (s.record.listEntry s.record.nextIndex).state ≠ .empty) :
    (s.fire p detail).record = { s.record with
      trigState := p.after, banks := (s.record.trigger (some s.record.idCounter)).banks
      idCounter := s.record.idCounter + 1, unposted := countTo 65535 s.record.unposted } := by
  rw [State.fire_ids p detail hid, State.postRecord_unposted (s := s.firing) _ h]
  rfl

/-! ### DISARM TRIGGER and MANUAL TRIGGER (R134) -/

theorem RecordUnit.waitsManual_iff {r : RecordUnit} {p : Program} (h : r.program = some p) : r.waitsManual = true ↔
    (r.trigState = .waitFirst ∧ p.first = .manual) ∨ (r.trigState = .waitSecond ∧ p.second = some .manual) := by
  unfold RecordUnit.waitsManual
  rw [h]
  cases r.trigState <;> simp

/-- The condition that a program waits for brings it to fire, or opens the window of its second (R131). -/
theorem State.takeCond_fires {s : State} {p : Program} {c : TrigCond} (detail : Option Nat) (h : s.record.program = some p)
    (hfires : (s.record.trigState = .waitFirst ∧ p.first = c ∧ p.second = none) ∨
      (s.record.trigState = .waitSecond ∧ p.second = some c)) : s.takeCond c detail = s.fire p detail := by
  rcases hfires with ⟨hstate, hfirst, hsecond⟩ | ⟨hstate, hsecond⟩ <;> simp [State.takeCond, *]

theorem State.takeCond_window {s : State} {p : Program} {c : TrigCond} (detail : Option Nat) (h : s.record.program = some p)
    (hstate : s.record.trigState = .waitFirst) (hfirst : p.first = c) (hsecond : p.second ≠ none) :
    s.takeCond c detail = s.openTriggerWindow p := by
  obtain ⟨c', hc'⟩ := Option.ne_none_iff_exists'.mp hsecond
  simp [State.takeCond, *]

/-- A MANUAL TRIGGER that the program waits for. -/
theorem exec_manualTrigger {s : State} {k : Fin 8} {rest : List (Fin 8)} (hhead : s.atHead (some .manualTrigger) k rest)
    (h : s.record.waitsManual = true) :
    exec .manualTrigger s = .next (((s.takeSlot k rest).takeCond .manual none).finish k .ok []) := by
  rw [exec_take rfl hhead]
  simp [h]

theorem exec_manualTrigger_noEffect {s : State} {k : Fin 8} {rest : List (Fin 8)} (hhead : s.atHead (some .manualTrigger) k rest)
    (h : s.record.waitsManual = false) :
    ∃ t, exec .manualTrigger s = .next t ∧ State.Answered s t k rest .done .noEffect [] :=
  answered_of_exec (by rw [exec_take rfl hhead]; simp [h, State.finish])

/-- What a MANUAL TRIGGER that fires leaves, whichever record it makes. -/
theorem exec_manualTrigger_fires {s : State} {k : Fin 8} {rest : List (Fin 8)} {p : Program}
    (hhead : s.atHead (some .manualTrigger) k rest) (hp : s.record.program = some p)
    (hfires : (s.record.trigState = .waitFirst ∧ p.first = .manual ∧ p.second = none) ∨
      (s.record.trigState = .waitSecond ∧ p.second = some .manual)) :
    ∃ t, t = ((s.takeSlot k rest).fire p none).finish k .ok [] ∧ exec .manualTrigger s = .next t ∧
      State.Completed t k .done .ok [] ∧
      t.record.trigState = (if p.repeats then .waitFirst else .disarmed) ∧ t.record.program = some p ∧ t.seq = s.seq ∧
      t.faults = s.faults ∧ t.store = s.store ∧ t.gov = s.gov ∧ t.regs = s.regs ∧ s.sameField t ∧
      t.record.openRecord = s.record.openRecord := by
  have hwaits : s.record.waitsManual = true := (RecordUnit.waitsManual_iff hp).mpr (by tauto)
  have hexec := exec_manualTrigger hhead hwaits
  rw [State.takeCond_fires (s := s.takeSlot k rest) none (by simpa using hp) (by simpa using hfires)] at hexec
  obtain ⟨htrig, hprogram, hopen, -, -, -, -, -, hfield⟩ := (s.takeSlot k rest).fire_eqs p none
  exact ⟨_, rfl, hexec, State.finish_completed _ _ _ _, htrig, hprogram.trans hp, by simp, by simp, by simp, by simp, by simp,
    State.sameField.trans hfield (State.finish_sameField _ _ _ _), hopen⟩

/-- What an entry shows outlasts a completion. -/
theorem State.finish_holds {s : State} {j : Fin 8} {a : Nat} {ws : List Word} (rc : ResultCode) (rs : List Word)
    (h : s.mem.Holds a ws) (ha : 0x01C0 ≤ a) : (s.finish j rc rs).mem.Holds a ws := by
  have hj := slotAddr_range j
  refine h.of_read fun x hx _ => State.finish_read _ _ _ _ ?_
  simp only [inAnswer]
  omega

theorem finish_notice {s : State} (k : Fin 8) (rc : ResultCode) (rs : List Word) {i : Nat} (h : s.req.notice.getLsbD i = true) :
    (s.finish k rc rs).req.notice.getLsbD i = true := by
  rw [State.finish, State.complete_req, BitVec.getLsbD_or, h, Bool.true_or]

theorem raised_notice (w : Word) {n : Nat} (hn : n < 16) : (w ||| noticeBit n).getLsbD n = true := by
  simp [noticeBit_getLsbD hn]

/-- Settles O34. -/
theorem disarmAndManualTrigger : Obligations.DisarmAndManualTrigger := by
  refine ⟨fun s k rest hhead => ⟨fun hd => answered_of_exec ?_, fun hd => answered_of_exec ?_⟩, fun s k rest hhead hp => ?_,
    fun s k rest p hhead hp => ⟨fun hfirst hsecond => ?_, fun hstate hfirst hsecond => answered_of_exec ?_, ?_⟩⟩
  · rw [exec_take rfl hhead]
    simp [hd, State.finish]
  · rw [exec_take rfl hhead]
    dsimp only
    rw [if_neg (by simpa using hd)]
    rfl
  · exact exec_manualTrigger_noEffect hhead (by simp [RecordUnit.waitsManual, hp])
  · refine exec_manualTrigger_noEffect hhead ?_
    rw [Bool.eq_false_iff, ne_eq, RecordUnit.waitsManual_iff hp]
    tauto
  · rw [exec_manualTrigger hhead ((RecordUnit.waitsManual_iff hp).mpr (.inl ⟨hstate, hfirst⟩)),
      State.takeCond_window (s := s.takeSlot k rest) none (by simpa using hp) (by simpa using hstate) hfirst hsecond]
    rfl
  · refine ⟨fun hfires hid hroom => ?_, fun hfires hid hfull => ?_, fun hfires hid => ?_⟩
    all_goals obtain ⟨t, ht, hfired⟩ := exec_manualTrigger_fires hhead hp hfires
    · obtain ⟨hrecord, hmem, hreq⟩ := State.fire_filled (s := s.takeSlot k rest) p none hid hroom
      have hrec : t.record = _ := (congrArg State.record ht).trans hrecord
      have himage : t.mem.Holds (imageAddr s.record.nextIndex) ((s.takeSlot k rest).firedRecord p none).words := by
        rw [ht]
        refine State.finish_holds _ _ ?_ (by unfold imageAddr entryAddr; omega)
        rw [hmem]
        refine (Memory.holds_writeWords _ _ _).of_read fun x hx _ => Memory.read_writeWord_outside _ _ _ _ ?_
        simp only [imageAddr] at hx
        exact .inr (by simp only [State.takeSlot_frame]; omega)
      have hword : t.mem.Holds (entryAddr s.record.nextIndex) [1] := by
        rw [ht]
        refine State.finish_holds _ _ ?_ (by unfold entryAddr; omega)
        rw [hmem]
        exact Memory.holds_writeWords _ _ [1]
      have hentry : t.record.listEntry s.record.nextIndex = ⟨.filled, some s.record.idCounter, s.record.reference⟩ := by
        rw [hrec]
        exact vget_vset_same _ _ _
      have hwords := (State.imageShown_of_holds himage).fired
      refine ⟨t, hfired, by rw [hrec]; rfl, by rw [hrec]; rfl, by rw [hrec]; rfl, ?_, ?_, ?_, fun j hj => ?_, ?_, hword.word rfl, ?_,
        ?_⟩
      · rw [hentry]
      · rw [hentry]
      · rw [hentry]
        refine State.triggered_of_banks ?_
        rw [hrec]
        rfl
      · rw [hrec]
        exact vget_vset_other _ _ hj
      · rw [ht]
        refine finish_notice _ _ _ ?_
        rw [hreq]
        exact raised_notice _ (by decide)
      · exact (himage.take 3 (by rw [Record.words_length]; decide)).trans (Record.words_take _)
      · refine hwords.trans ?_
        show conditionWords (some p.first) ++ conditionWords p.second ++ [orNone none] = _
        rw [← condWords_eq, ← condWords_eq]
        cases p.second <;> rfl
    · have hrecord := State.fire_unposted (s := s.takeSlot k rest) p none hid hfull
      have hrec : t.record = _ := (congrArg State.record ht).trans hrecord
      refine ⟨t, hfired, by rw [hrec]; rfl, by rw [hrec]; rfl, by rw [hrec]; rfl, ?_, State.triggered_of_banks ?_⟩
      · rw [hrec]
        exact countTo_eq _
      · rw [hrec]
        rfl
    · have hrecord := congrArg State.record (State.fire_noIds (s := s.takeSlot k rest) p none hid)
      have hrec : t.record = _ := (congrArg State.record ht).trans hrecord
      refine ⟨t, hfired, by rw [hrec]; rfl, by rw [hrec]; rfl, ?_, State.triggered_of_banks ?_⟩
      · rw [hrec]
        exact countTo_eq _
      · rw [hrec]
        rfl

end Sys2Proof.Machine
end

section
/-! FETCH CAPTURE, FETCH NEXT, the frame boundary of a fetch and RELEASE CAPTURE (R125, R128, R168 to R171). -/

namespace Sys2Proof.Machine

/-! ### The takes of the fetches (R168 to R170) -/

theorem fetchCount_iff (n : Nat) : fetchCount n = true ↔ 1 ≤ n ∧ n ≤ 170 := by simp [fetchCount]

theorem RecordUnit.frozenAs_iff (r : RecordUnit) (i : Fin 4) (gen : Word) :
    r.frozenAs i gen = true ↔ (r.bank i).state = .frozen ∧ (r.bank i).generation = gen := by simp [RecordUnit.frozenAs]

/-- A take of `s` after which its slot is ACTIVE, where the unit's own work has made `u` of it. -/
theorem activated_of_exec {c : Instr} {s u : State} {k : Fin 8} {rest : List (Fin 8)}
    (h : exec c s = .next ((u.takeSlot k rest).activate k)) :
    ∃ t, exec c s = .next t ∧ State.Activated u t k rest := ⟨_, h, u.take_activate_activated k rest⟩

section
variable {s : State} {k : Fin 8} {rest : List (Fin 8)} {i : Fin 4} {gen : Word} {first count a b : Nat}

theorem fetchFrom_gone (h : ¬((s.record.bank i).state = .frozen ∧ (s.record.bank i).generation = gen)) :
    (s.takeSlot k rest).fetchFrom k i gen first count a b = (s.takeSlot k rest).refuse k .gone := by
  rw [← RecordUnit.frozenAs_iff, Bool.not_eq_true] at h
  simp [State.fetchFrom, h]

variable (hstate : (s.record.bank i).state = .frozen) (hgen : (s.record.bank i).generation = gen)
include hstate hgen

theorem fetchFrom_first (hvalid : (s.record.bank i).valid < 2048) (hfirst : (s.record.bank i).valid ≤ first) :
    (s.takeSlot k rest).fetchFrom k i gen first count a b = (s.takeSlot k rest).refuseInvalid k a false := by
  have hfrozen := (s.record.frozenAs_iff i gen).mpr ⟨hstate, hgen⟩
  have hbad : (s.record.bank i).firstValid first = false := by
    simp only [Bank.firstValid, Bool.or_eq_false_iff, decide_eq_false_iff_not]
    omega
  simp [State.fetchFrom, hfrozen, hbad]

theorem fetchFrom_extent (hvalid : (s.record.bank i).valid < 2048) (hcount : (s.record.bank i).valid < first + count) (hab : a = b ∨
    first < (s.record.bank i).valid) :
    (s.takeSlot k rest).fetchFrom k i gen first count a b = (s.takeSlot k rest).refuseInvalid k b false := by
  have hfrozen := (s.record.frozenAs_iff i gen).mpr ⟨hstate, hgen⟩
  have hbad : (s.record.bank i).extentValid first count = false := by
    simp only [Bank.extentValid, Bool.or_eq_false_iff, decide_eq_false_iff_not]
    omega
  by_cases hfirst : (s.record.bank i).firstValid first = true
  · simp [State.fetchFrom, hfrozen, hbad, hfirst]
  · have hab : a = b := hab.resolve_right fun h => hfirst (by simp [Bank.firstValid, h])
    simp [State.fetchFrom, hfrozen, hfirst, hab]

theorem fetchFrom_start (hcount : 1 ≤ count) (hvalid : (s.record.bank i).valid = 2048 ∨ first + count ≤ (s.record.bank i).valid) :
    (s.takeSlot k rest).fetchFrom k i gen first count a b = (s.takeSlot k rest).startFetch k i gen first count := by
  have hfrozen := (s.record.frozenAs_iff i gen).mpr ⟨hstate, hgen⟩
  have hfirst : (s.record.bank i).firstValid first = true := by
    simp only [Bank.firstValid, Bool.or_eq_true, decide_eq_true_iff]
    omega
  have hextent : (s.record.bank i).extentValid first count = true := by
    simp only [Bank.extentValid, Bool.or_eq_true, decide_eq_true_iff]
    omega
  simp [State.fetchFrom, hfrozen, hfirst, hextent]

end

/-- The take of a FETCH CAPTURE whose word 0 names bank `i` (R170). -/
theorem exec_fetchCapture {s : State} {k : Fin 8} {rest : List (Fin 8)} (i : Fin 4) (hhead : s.atHead (some .fetchCapture) k rest)
    (hi : (s.param k 0).toNat = i.val) :
    exec .fetchCapture s = .next (
      if 2047 < (s.param k 2).toNat then (s.takeSlot k rest).refuseInvalid k 2 false
      else if !fetchCount (s.param k 3).toNat then (s.takeSlot k rest).refuseInvalid k 3 false
      else if s.areaHeld then (s.takeSlot k rest).refuse k .busy
      else (s.takeSlot k rest).fetchFrom k i (s.param k 1) (s.param k 2).toNat (s.param k 3).toNat 2 3) := by
  have h0 : natAt (s.slotParams k) 0 = i.val := (natAt_slotParams s k (by decide)).trans hi
  have hlt : natAt (s.slotParams k) 0 < 4 := by omega
  have hbank : (⟨natAt (s.slotParams k) 0, hlt⟩ : Fin 4) = i := Fin.ext h0
  rw [exec_take rfl hhead, dif_pos hlt, hbank, natAt_slotParams s k (by decide), natAt_slotParams s k (by decide),
    s.wordAt_slotParams k 1 (by decide)]
  rfl

theorem exec_fetchNext {s : State} {k : Fin 8} {rest : List (Fin 8)} (hhead : s.atHead (some .fetchNext) k rest) :
    exec .fetchNext s = .next (
      if !fetchCount (s.param k 0).toNat then (s.takeSlot k rest).refuseInvalid k 0 false
      else if s.areaHeld then (s.takeSlot k rest).refuse k .busy
      else
        match s.req.chain with
        | .fetch i gen next => (s.takeSlot k rest).fetchFrom k i gen next (s.param k 0).toNat 0 0
        | _ => (s.takeSlot k rest).refuse k .order) := by
  rw [exec_take rfl hhead, natAt_slotParams s k (by decide)]
  rfl

/-- A FETCH NEXT that finds a fetch to go on with and the area free (R169). -/
theorem exec_fetchNext_free {s : State} {k : Fin 8} {rest : List (Fin 8)} {i : Fin 4} {gen : Word} {next : Nat}
    (hhead : s.atHead (some .fetchNext) k rest) (hcount : fetchCount (s.param k 0).toNat = true) (hfree : s.req.holder = none)
    (hchain : s.req.chain = .fetch i gen next) :
    exec .fetchNext s = .next ((s.takeSlot k rest).fetchFrom k i gen next (s.param k 0).toNat 0 0) := by
  rw [exec_fetchNext hhead, hcount, hchain]
  simp [State.areaHeld, hfree]

theorem fetchCount_false {n : Nat} (h : n < 1 ∨ 170 < n) : fetchCount n = false := by
  rw [Bool.eq_false_iff, ne_eq, fetchCount_iff]
  omega

/-- Settles O35. -/
theorem fetchTakes : Obligations.FetchTakes := by
  refine ⟨fun s k rest i hhead => ?_, fun s k rest hhead => ?_⟩
  · dsimp only
    refine ⟨fun h => answered_of_exec ?_, fun hi h => answered_of_exec ?_, fun hi h2 h => answered_of_exec ?_,
      fun hi h2 h1 h170 hheld => answered_of_exec ?_, fun hi h2 h1 h170 hfree hgone => answered_of_exec ?_,
      fun hi h2 h1 h170 hfree hstate hgen => ⟨fun hv hf => answered_of_exec ?_, fun hv hf hc => answered_of_exec ?_,
        fun hv => activated_of_exec ?_⟩⟩
    · rw [exec_take rfl hhead, dif_neg (by rw [natAt_slotParams s k (by decide)]; omega)]
      rfl
    · rw [exec_fetchCapture i hhead hi, if_pos h]
      rfl
    all_goals rw [exec_fetchCapture i hhead hi, if_neg (by omega)]
    · rw [fetchCount_false h]
      rfl
    all_goals rw [(fetchCount_iff _).mpr ⟨h1, h170⟩]
    · simp [State.areaHeld, hheld, State.refuse]
    all_goals simp only [State.areaHeld, hfree]
    · rw [fetchFrom_gone hgone]
      rfl
    · rw [fetchFrom_first hstate hgen hv hf]
      rfl
    · rw [fetchFrom_extent hstate hgen hv hc (.inr hf)]
      rfl
    · rw [fetchFrom_start hstate hgen h1 hv]
      rfl
  · dsimp only
    refine ⟨fun h => answered_of_exec ?_, fun h1 h170 hheld => answered_of_exec ?_,
      fun h1 h170 hfree hchain => answered_of_exec ?_, fun i gen first h1 h170 hfree hchain => ⟨fun hgone => answered_of_exec ?_,
        fun hstate hgen hv hc => answered_of_exec ?_, fun hstate hgen hv => activated_of_exec ?_⟩⟩
    · rw [exec_fetchNext hhead, fetchCount_false h]
      rfl
    all_goals have hcount := (fetchCount_iff _).mpr ⟨h1, h170⟩
    · rw [exec_fetchNext hhead, hcount]
      simp [State.areaHeld, hheld, State.refuse]
    · rw [exec_fetchNext hhead, hcount]
      simp only [State.areaHeld, hfree]
      cases hc : s.req.chain with
      | fetch i g n => exact absurd hc (hchain i g n)
      | _ => rfl
    · rw [exec_fetchNext_free hhead hcount hfree hchain, fetchFrom_gone hgone]
      rfl
    · rw [exec_fetchNext_free hhead hcount hfree hchain, fetchFrom_extent hstate hgen hv hc (.inl rfl)]
      rfl
    · rw [exec_fetchNext_free hhead hcount hfree hchain, fetchFrom_start hstate hgen h1 hv]
      rfl

/-! ### The frame boundary (R169 to R171) -/

theorem exec_fetchFrameBoundary {s : State} {f : Fetch} (h : s.req.fetch = some f) :
    exec .fetchFrameBoundary s = .next (s.frameBoundary f) := by
  have hexec : exec .fetchFrameBoundary s = execFetchFrameBoundary s := rfl
  rw [hexec, execFetchFrameBoundary, h]

/-- The frame `f` stands at has been copied (R170). -/
def State.frameCopied (s : State) (f : Fetch) : State :=
  (s.writeArea (24 * f.copied) (padWords 24 (s.record.frameOf f.bank ((f.first + f.copied) % 2048)))).setReq
    { s.req with fetch := some { f with copied := f.copied + 1 } }

theorem State.frameBoundary_eq (s : State) (f : Fetch) : s.frameBoundary f =
    if (s.slot f.slot).cancel then (s.frameCopied f).breakFetch { f with copied := f.copied + 1 } .cancelled
    else if !s.record.frozenAs f.bank f.generation then (s.frameCopied f).breakFetch { f with copied := f.copied + 1 } .gone
    else if f.count ≤ f.copied + 1 then (s.frameCopied f).endFetch { f with copied := f.copied + 1 }
    else s.frameCopied f := rfl

theorem transferAddr_area (n : Nat) : transferAddr + 2 * (24 * n) = transferAddr + 48 * n := by ring

theorem State.frameCopied_frame (s : State) (f : Fetch) : (s.frameCopied f).mem.Holds (transferAddr + 48 * f.copied)
    (padWords 24 (s.record.frameOf f.bank ((f.first + f.copied) % 2048))) := by
  rw [← transferAddr_area]
  exact Memory.holds_writeWords _ _ _

theorem State.frameCopied_read (s : State) (f : Fetch) {a : Nat}
    (h : ¬(transferAddr + 48 * f.copied ≤ a ∧ a < transferAddr + 48 * f.copied + 48)) :
    (s.frameCopied f).mem.read a = s.mem.read a := by
  refine Memory.read_writeWords_outside _ _ _ _ ?_
  rw [transferAddr_area, padWords_length]
  omega

theorem State.sameBlocks.trans {s t u : State} (h : s.sameBlocks t) (h' : t.sameBlocks u) : s.sameBlocks u := by
  simp only [State.sameBlocks] at *
  simp [h, h']

theorem State.frameCopied_blocks (s : State) (f : Fetch) : s.sameBlocks (s.frameCopied f) := by
  simp [State.sameBlocks, State.frameCopied]

theorem State.setChain_keepsAnswers (s : State) (c : Chain) : s.KeepsAnswers (s.setChain c) :=
  ⟨rfl, fun _ _ _ => rfl, fun _ h => h⟩

/-- An answer of the fetch that is over: its words, its area, the frame copied before, and every other byte (R167 to R171). -/
theorem State.fetchAnswer {s : State} {f g : Fetch} {st : SlotState} {rc : ResultCode} {ws : List Word} {c : Chain}
    (hholder : s.req.holder = some f.slot) (hg : g.slot = f.slot) :
    let t := ((s.frameCopied f).clearFetch.complete g.slot st rc ws).setChain c
    s.sameBlocks t ∧ t.mem.readWords (transferAddr + 48 * f.copied) 24 =
      padWords 24 (s.record.frameOf f.bank ((f.first + f.copied) % 2048)) ∧
    State.Completed t f.slot st rc ws ∧ t.req.chain = c ∧ t.req.fetch = none ∧ t.req.holder = none ∧
    ∀ a, ¬(transferAddr + 48 * f.copied ≤ a ∧ a < transferAddr + 48 * f.copied + 48) → ¬inAnswer f.slot a →
      t.mem.read a = s.mem.read a := by
  have hslot := slotAddr_range f.slot
  have hcompleted := State.complete_completed (s.frameCopied f).clearFetch f.slot st rc ws
  dsimp only
  rw [hg]
  refine ⟨(s.frameCopied_blocks f).trans (by simp [State.sameBlocks, State.clearFetch]), ?_, hcompleted.kept (State.setChain_keepsAnswers _ c), rfl, rfl,
    ?_, fun a hframe hanswer => ?_⟩
  · refine ((s.frameCopied_frame f).of_read fun x hx _ => ?_).words rfl (padWords_length _ _).symm
    refine State.complete_read (s.frameCopied f).clearFetch f.slot st rc ws ?_
    simp only [inAnswer, transferAddr] at hx ⊢
    omega
  · show (if s.req.holder = some f.slot then none else s.req.holder) = none
    rw [if_pos hholder]
  · have hmem : (s.frameCopied f).clearFetch.mem = (s.frameCopied f).mem := rfl
    rw [(State.setChain_frame _ c).2.2.2.2.2.2.2.2.2.2.2.2, State.complete_read _ _ _ _ _ hanswer, hmem, s.frameCopied_read f hframe]

/-- Settles O36. -/
theorem fetchBoundary : Obligations.FetchBoundary := by
  intro s f hf hlt hcount hholder
  dsimp only
  have hexec := exec_fetchFrameBoundary hf
  rw [State.frameBoundary_eq] at hexec
  refine ⟨fun hc => ?_, fun hc hgone => ?_, fun hc hfrozen hmore => ?_, fun hc hfrozen hlast => ?_⟩
  · rw [hc, if_pos rfl] at hexec
    obtain ⟨hblocks, hframe, hcompleted, hchain, hfetch, hfree, hread⟩ := State.fetchAnswer (s := s) (f := f)
      (g := { f with copied := f.copied + 1 }) (st := .refused) (rc := .cancelled) (ws := [0, 0, 0, natWord (f.copied + 1)])
      (c := .broken) hholder rfl
    exact ⟨_, hexec, ⟨hblocks, hframe⟩, hcompleted, hchain, hfetch, hfree, hread⟩
  all_goals rw [hc, if_neg (by decide)] at hexec
  · rw [← RecordUnit.frozenAs_iff, Bool.not_eq_true] at hgone
    rw [hgone, if_pos (by decide)] at hexec
    obtain ⟨hblocks, hframe, hcompleted, hchain, hfetch, hfree, hread⟩ := State.fetchAnswer (s := s) (f := f)
      (g := { f with copied := f.copied + 1 }) (st := .refused) (rc := .gone) (ws := [0, 0, 0, natWord (f.copied + 1)])
      (c := .broken) hholder rfl
    exact ⟨_, hexec, ⟨hblocks, hframe⟩, hcompleted, hchain, hfetch, hfree, hread⟩
  all_goals rw [(RecordUnit.frozenAs_iff _ _ _).mpr hfrozen, if_neg (by decide)] at hexec
  · rw [if_neg (by omega)] at hexec
    exact ⟨_, hexec, ⟨s.frameCopied_blocks f, (s.frameCopied_frame f).words rfl (padWords_length _ _).symm⟩, rfl,
      fun a ha => s.frameCopied_read f ha⟩
  · rw [if_pos (by omega)] at hexec
    obtain ⟨hblocks, hframe, hcompleted, hchain, hfetch, hfree, hread⟩ := State.fetchAnswer (s := s) (f := f)
      (g := { f with copied := f.copied + 1 }) (st := .done) (rc := .ok)
      (ws := [natWord f.bank.val, f.generation, natWord f.first, natWord f.count, natWord ((f.first + f.count) % 2048)])
      (c := .fetch f.bank f.generation ((f.first + f.count) % 2048)) hholder rfl
    exact ⟨_, hexec, ⟨hblocks, hframe⟩, hcompleted, hchain, hfetch, hfree, hread⟩

/-! ### RELEASE CAPTURE (R128) -/

theorem exec_releaseCapture {s : State} {k : Fin 8} {rest : List (Fin 8)} (i : Fin 4) (hhead : s.atHead (some .releaseCapture) k rest)
    (hi : (s.param k 0).toNat = i.val) :
    exec .releaseCapture s = .next (if s.record.frozenAs i (s.param k 1) then
      ((s.takeSlot k rest).setRecord (s.record.release i)).finish k .ok [] else (s.takeSlot k rest).refuse k .gone) := by
  have h0 : natAt (s.slotParams k) 0 = i.val := (natAt_slotParams s k (by decide)).trans hi
  have hlt : natAt (s.slotParams k) 0 < 4 := by omega
  have hbank : (⟨natAt (s.slotParams k) 0, hlt⟩ : Fin 4) = i := Fin.ext h0
  rw [exec_take rfl hhead, dif_pos hlt, hbank, s.wordAt_slotParams k 1 (by decide)]
  rfl

/-- Settles O37. -/
theorem releaseCaptureRule : Obligations.ReleaseCaptureRule := by
  intro s k rest i hhead
  dsimp only
  refine ⟨fun h => answered_of_exec ?_, fun hi hgone => answered_of_exec ?_, fun hi hstate hgen hactive => answered_of_exec ?_,
    fun hi hstate hgen hnone => ?_⟩
  · rw [exec_take rfl hhead, dif_neg (by rw [natAt_slotParams s k (by decide)]; omega)]
    rfl
  · rw [← RecordUnit.frozenAs_iff] at hgone
    rw [exec_releaseCapture i hhead hi, if_neg hgone]
    rfl
  all_goals have hfrozen := (RecordUnit.frozenAs_iff _ _ _).mpr ⟨hstate, hgen⟩
  · have hsome : s.record.activeBank.isSome = true := by
      rw [← Option.ne_none_iff_isSome]
      intro hnone
      refine hactive (List.length_eq_zero_iff.mpr (List.filter_eq_nil_iff.mpr fun j _ => ?_))
      simp [RecordUnit.activeBank_none hnone j]
    have hrelease : s.record.release i = s.record.setBank i { s.record.bank i with state := .free } := by
      simp [RecordUnit.release, hsome]
    rw [exec_releaseCapture i hhead hi, if_pos hfrozen, hrelease]
    rfl
  · have hrelease : s.record.release i = (s.record.setBank i { s.record.bank i with state := .free }).goLive i := by
      simp [RecordUnit.release, RecordUnit.activeBank_of_zero hnone]
    have hexec := exec_releaseCapture i hhead hi
    rw [if_pos hfrozen, hrelease] at hexec
    refine ⟨_, hexec, State.finish_completed _ _ _ _, fun j hj => ?_, ?_, by simp, by simp, by simp, by simp, by simp, ?_,
      fun a ha => (State.finish_read _ _ _ _ ha).trans (by simp)⟩
    · refine ((RecordUnit.bank_setBank _ _ _ _).trans (if_neg hj)).trans ?_
      exact (RecordUnit.bank_setBank _ _ _ _).trans (if_neg hj)
    · refine ((RecordUnit.bank_setBank _ _ _ _).trans (if_pos rfl)).trans ?_
      rw [RecordUnit.bank_setBank, if_pos rfl]
      rfl
    · simp [State.sameField]

end Sys2Proof.Machine
end

section
/-! The checks of LOAD SETTINGS (R39, R62, R63, R82, R103, R122, R143, R151, R172). -/

namespace Sys2Proof.Machine

/-! ### The checks of an image, all groups alike -/

/-- The value of a field of an image: of two words where the field is wide (R185). -/
def imageValue (g : Nat) (ws : List Word) (i : Nat) : Nat := if wideField g i then nat32At ws i else natAt ws i

/-- The field of a row of `imageRanges`. -/
def fieldOf (g : Nat) (r : Nat × Nat × Nat) : Field :=
  if wideField g r.1 then .double r.1 r.2.1 r.2.2 else .unsigned r.1 r.2.1 r.2.2

/-- A row of `imageRanges` is met by the values `v`; a STORE base address is a multiple of 4096 too. -/
abbrev meets (g : Nat) (v : Nat → Nat) (r : Nat × Nat × Nat) : Prop :=
  r.2.1 ≤ v r.1 ∧ v r.1 ≤ r.2.2 ∧ (g = 4 → r.1 = 1 → v 1 % 4096 = 0)

/-- What an image is refused for: its first word out of range, else the first check between fields that fails. -/
def firstBreach (g : Nat) (ranges : List (Nat × Nat × Nat)) (checks : List (Nat × Bool)) (v : Nat → Nat) : Option Nat :=
  ((ranges.find? fun r => !decide (meets g v r)).map Prod.fst).or ((checks.find? fun c => !c.2).map Prod.fst)

theorem firstBreach_range {g : Nat} {ranges : List (Nat × Nat × Nat)} {checks : List (Nat × Bool)} {v : Nat → Nat} {j : Nat}
    {r : Nat × Nat × Nat} (hr : ranges[j]? = some r) (hbefore : ∀ q ∈ ranges.take j, meets g v q) (hbad : ¬meets g v r) :
    firstBreach g ranges checks v = some r.1 := by
  have hfind : ranges.find? (fun r => !decide (meets g v r)) = some r := by
    obtain ⟨hj, rfl⟩ := List.getElem?_eq_some_iff.mp hr
    rw [List.find?_eq_some_iff_append]
    refine ⟨by rw [decide_eq_false hbad]; rfl, ranges.take j, ranges.drop (j + 1), ?_,
      fun q hq => by rw [decide_eq_true (hbefore q hq)]; rfl⟩
    rw [List.getElem_cons_drop, List.take_append_drop]
  rw [firstBreach, hfind]
  rfl

theorem firstBreach_within {g : Nat} {ranges : List (Nat × Nat × Nat)} {checks : List (Nat × Bool)} {v : Nat → Nat}
    (h : ∀ r ∈ ranges, meets g v r) : firstBreach g ranges checks v = (checks.find? fun c => !c.2).map Prod.fst := by
  have hfind : ranges.find? (fun r => !decide (meets g v r)) = none :=
    List.find?_eq_none.mpr fun r hr => by rw [decide_eq_true (h r hr)]; decide
  rw [firstBreach, hfind]
  rfl

theorem firstBreach_check {g : Nat} {ranges : List (Nat × Nat × Nat)} {checks : List (Nat × Bool)} {v : Nat → Nat} {j : Nat}
    {c : Nat × Bool} (hc : checks[j]? = some c) (h : ∀ r ∈ ranges, meets g v r) (hbefore : ∀ q ∈ checks.take j, q.2 = true)
    (hbad : c.2 = false) : firstBreach g ranges checks v = some c.1 := by
  have hfind : checks.find? (fun c => !c.2) = some c := by
    obtain ⟨hj, rfl⟩ := List.getElem?_eq_some_iff.mp hc
    rw [List.find?_eq_some_iff_append]
    refine ⟨by simp [hbad], checks.take j, checks.drop (j + 1), ?_, fun q hq => by simp [hbefore q hq]⟩
    rw [List.getElem_cons_drop, List.take_append_drop]
  rw [firstBreach_within h, hfind]
  rfl

theorem firstBreach_none {g : Nat} {ranges : List (Nat × Nat × Nat)} {checks : List (Nat × Bool)} {v : Nat → Nat}
    (h : ∀ r ∈ ranges, meets g v r) (hc : ∀ c ∈ checks, c.2 = true) : firstBreach g ranges checks v = none := by
  have hfind : checks.find? (fun c => !c.2) = none := List.find?_eq_none.mpr fun c hc' => by simp [hc c hc']
  rw [firstBreach_within h, hfind]
  rfl

theorem fieldOf_inRange {g : Nat} {r : Nat × Nat × Nat} (hr : g ≠ 4 ∨ r.1 ≠ 1) (ws : List Word) :
    (fieldOf g r).inRange ws = decide (meets g (imageValue g ws) r) := by
  have hmeets : meets g (imageValue g ws) r ↔ r.2.1 ≤ imageValue g ws r.1 ∧ imageValue g ws r.1 ≤ r.2.2 :=
    and_congr_right fun _ => and_iff_left fun hg h1 => absurd hr (by simp [hg, h1])
  rw [Bool.eq_iff_iff, decide_eq_true_iff, hmeets]
  unfold fieldOf imageValue
  split_ifs <;> simp [Field.inRange]

theorem firstBad_fields {g : Nat} (ranges : List (Nat × Nat × Nat)) (h : ∀ r ∈ ranges, g ≠ 4 ∨ r.1 ≠ 1) (ws : List Word) :
    firstBad (ranges.map (fieldOf g)) ws =
      (ranges.find? fun r => !decide (meets g (imageValue g ws) r)).map Prod.fst := by
  have hindex : ∀ r, (fieldOf g r).index = r.1 := fun r => by
    unfold fieldOf
    split_ifs <;> rfl
  induction ranges with
  | nil => rfl
  | cons r ranges ih =>
    have ih := ih fun q hq => h q (by simp [hq])
    have hrow := fieldOf_inRange (h r (by simp)) ws
    simp only [firstBad, List.map_cons, List.find?_cons, hrow] at ih ⊢
    split
    · simp [hindex]
    · exact ih

theorem driveFields_eq (n : Nat) : driveFields = (imageRanges 0 n).map (fieldOf 0) := rfl

theorem imageBad_drive (ws : List Word) : imageBad 0 ws =
    firstBreach 0 (imageRanges 0 (natAt ws 0)) (imageChecks 0 (imageValue 0 ws)) (imageValue 0 ws) := by
  rw [firstBreach, ← firstBad_fields _ (fun _ _ => .inl (by decide)), ← driveFields_eq]
  show (match firstBad driveFields ws with
    | some i => some i
    | none => firstFailing (driveChecks ws)) = _
  cases firstBad driveFields ws <;> rfl

theorem vibrationFields_eq (n : Nat) : vibrationFields = (imageRanges 2 n).map (fieldOf 2) := rfl

theorem imageBad_vibration (ws : List Word) : imageBad 2 ws =
    firstBreach 2 (imageRanges 2 (natAt ws 0)) (imageChecks 2 (imageValue 2 ws)) (imageValue 2 ws) := by
  rw [firstBreach, ← firstBad_fields _ (fun _ _ => .inl (by decide)), ← vibrationFields_eq]
  show (match firstBad vibrationFields ws with
    | some i => some i
    | none => firstFailing (vibrationChecks ws)) = _
  cases firstBad vibrationFields ws <;> rfl

theorem imageBad_record (ws : List Word) : imageBad 3 ws =
    firstBreach 3 (imageRanges 3 (natAt ws 0)) (imageChecks 3 (imageValue 3 ws)) (imageValue 3 ws) := by
  have hfields : recordFields = (imageRanges 3 (natAt ws 0)).map (fieldOf 3) := rfl
  show firstBad recordFields ws = _
  rw [hfields, firstBad_fields _ (fun _ _ => .inl (by decide)), firstBreach]
  exact (Option.or_none).symm

theorem envelopeFields_eq (n : Nat) : (imageRanges 1 n).map (fieldOf 1) = .unsigned 0 2 16 :: envelopeFields n := by
  have hrow : ∀ r, fieldOf 1 r = .unsigned r.1 r.2.1 r.2.2 := fun r => by simp [fieldOf]
  show fieldOf 1 (0, 2, 16) :: ((List.range n).flatMap _).map _ = _
  rw [hrow, List.map_flatMap]
  simp only [List.map_cons, List.map_nil, hrow]
  rfl

theorem imageBad_envelope (ws : List Word) : imageBad 1 ws =
    firstBreach 1 (imageRanges 1 (natAt ws 0)) (imageChecks 1 (imageValue 1 ws)) (imageValue 1 ws) := by
  rw [firstBreach, ← firstBad_fields _ (fun _ _ => .inl (by decide)), envelopeFields_eq]
  show (if natAt ws 0 < 2 || 16 < natAt ws 0 then some 0 else match firstBad (envelopeFields (natAt ws 0)) ws with
    | some i => some i
    | none => firstFailing ((1, decide (natAt ws 1 = 0)) :: risingChecks ws (natAt ws 0))) = _
  have hcount : (Field.unsigned 0 2 16).inRange ws = !(decide (natAt ws 0 < 2) || decide (16 < natAt ws 0)) := by
    simp only [Field.inRange, Bool.not_or, ← decide_not, Nat.not_lt]
  by_cases h : (decide (natAt ws 0 < 2) || decide (16 < natAt ws 0)) = true
  · have hbad : firstBad (Field.unsigned 0 2 16 :: envelopeFields (natAt ws 0)) ws = some 0 := by
      rw [firstBad, List.find?_cons, hcount, h]
      rfl
    rw [if_pos h, hbad]
    rfl
  · have hbad : firstBad (Field.unsigned 0 2 16 :: envelopeFields (natAt ws 0)) ws = firstBad (envelopeFields (natAt ws 0)) ws := by
      rw [firstBad, List.find?_cons, hcount, Bool.eq_false_iff.mpr h]
      rfl
    rw [if_neg h, hbad]
    cases firstBad (envelopeFields (natAt ws 0)) ws <;> rfl

theorem storeFields_eq (n : Nat) : (imageRanges 4 n).map (fieldOf 4) = storeFieldsFirst ++ storeFieldsRest := rfl

theorem imageBad_store (ws : List Word) : imageBad 4 ws =
    firstBreach 4 (imageRanges 4 (natAt ws 0)) (imageChecks 4 (imageValue 4 ws)) (imageValue 4 ws) := by
  have hsplit : imageRanges 4 (natAt ws 0) = (0, 0, 1) :: (1, 0, 0xFFF000) :: (imageRanges 4 (natAt ws 0)).drop 2 := rfl
  have hrest : ∀ r ∈ (imageRanges 4 (natAt ws 0)).drop 2, (4 : Nat) ≠ 4 ∨ r.1 ≠ 1 := by
    have hsame : imageRanges 4 (natAt ws 0) = imageRanges 4 0 := rfl
    rw [hsame]
    decide
  have hfields : storeFieldsRest = ((imageRanges 4 (natAt ws 0)).drop 2).map (fieldOf 4) := rfl
  have hcheck : ((imageChecks 4 (imageValue 4 ws)).find? fun c => !c.2).map Prod.fst =
      if 16777216 < nat32At ws 1 + natAt ws 3 * 4096 then some 3 else none := by
    have hvalue : imageValue 4 ws 1 + imageValue 4 ws 3 * 4096 = nat32At ws 1 + natAt ws 3 * 4096 := rfl
    simp only [imageChecks, hvalue, List.find?_cons, List.find?_nil, ← Nat.not_lt, decide_not, Bool.not_not]
    split_ifs with h <;> simp [h]
  have hbad : imageBad 4 ws = storeBad ws := rfl
  rw [firstBreach, hcheck, hsplit, hbad, storeBad, hfields, firstBad_fields _ hrest]
  have hflag : decide (meets 4 (imageValue 4 ws) (0, 0, 1)) = (Field.unsigned 0 0 1).inRange ws :=
    (fieldOf_inRange (g := 4) (r := (0, 0, 1)) (.inr (by decide)) ws).symm
  have hbase : decide (meets 4 (imageValue 4 ws) (1, 0, 0xFFF000)) =
      ((Field.double 1 0 0xFFF000).inRange ws && decide (nat32At ws 1 % 4096 = 0)) := by
    have hvalue : imageValue 4 ws 1 = nat32At ws 1 := rfl
    simp [hvalue, Field.inRange, meets]
  simp only [storeFieldsFirst, firstBad, List.find?_cons, List.find?_nil, hflag, hbase]
  cases (Field.unsigned 0 0 1).inRange ws
  · rfl
  cases (Field.double 1 0 0xFFF000).inRange ws
  · rfl
  by_cases hmod : nat32At ws 1 % 4096 = 0
  · simp only [hmod]
    cases List.find? (fun r => !decide (meets 4 (imageValue 4 ws) r)) (List.drop 2 (imageRanges 4 (natAt ws 0))) <;> rfl
  · simp [hmod]

/-- The checks of an image, for every group: its ranges in their order, then the checks between fields. -/
theorem imageBad_eq {g : Nat} (hg : g ≤ 4) (ws : List Word) : imageBad g ws =
    firstBreach g (imageRanges g (natAt ws 0)) (imageChecks g (imageValue g ws)) (imageValue g ws) := by
  interval_cases g
  · exact imageBad_drive ws
  · exact imageBad_envelope ws
  · exact imageBad_vibration ws
  · exact imageBad_record ws
  · exact imageBad_store ws

/-! ### Which words of an image its checks read -/

theorem imageRanges_lt {g n : Nat} (hg : g ≤ 4) (hn : g = 1 → n ≤ 16) : ∀ r ∈ imageRanges g n, r.1 < imageLength g := by
  interval_cases g
  · have hsame : imageRanges 0 n = imageRanges 0 0 := rfl
    rw [hsame]
    decide
  · intro r hr
    have hn := hn rfl
    simp only [imageRanges, List.mem_cons, List.mem_flatMap, List.mem_range, List.not_mem_nil, or_false] at hr
    show r.1 < 49
    rcases hr with rfl | ⟨j, hj, rfl | rfl | rfl⟩ <;> dsimp only <;> omega
  · have hsame : imageRanges 2 n = imageRanges 2 0 := rfl
    rw [hsame]
    decide
  · have hsame : imageRanges 3 n = imageRanges 3 0 := rfl
    rw [hsame]
    decide
  · have hsame : imageRanges 4 n = imageRanges 4 0 := rfl
    rw [hsame]
    decide

/-- The checks between fields read words of the image alone. -/
theorem imageChecks_congr {g : Nat} (hg : g ≤ 4) {v v' : Nat → Nat} (h : ∀ i, i < imageLength g → v i = v' i)
    (hn : g = 1 → v 0 ≤ 16) : imageChecks g v = imageChecks g v' := by
  interval_cases g
  · have h : ∀ i, i < 46 → v i = v' i := h
    simp [imageChecks, h]
  · have h : ∀ i, i < 49 → v i = v' i := h
    have hn := hn rfl
    simp only [imageChecks, h 1 (by decide), h 0 (by decide)]
    rw [h 0 (by decide)] at hn
    congr 1
    refine List.map_congr_left fun j hj => ?_
    rw [List.mem_range] at hj
    rw [h (1 + 3 * j) (by omega), h (4 + 3 * j) (by omega)]
  · have h : ∀ i, i < 32 → v i = v' i := h
    have hmap : ∀ i ∈ List.range 6, (13 + i, decide (v (7 + i) ≤ v (13 + i))) = (13 + i, decide (v' (7 + i) ≤ v' (13 + i))) :=
      fun i hi => by
        rw [List.mem_range] at hi
        rw [h (7 + i) (by omega), h (13 + i) (by omega)]
    simp only [imageChecks, h 28 (by decide), h 29 (by decide)]
    rw [List.map_congr_left hmap]
  · rfl
  · have h : ∀ i, i < 19 → v i = v' i := h
    simp [imageChecks, h]

/-! ### The take of LOAD SETTINGS (R172) -/

theorem idleClass_eq (d : DriveState) : d.idleClass = !d.running := by cases d <;> rfl

theorem loadClass_iff (g : Nat) (d : DriveState) : loadClass g d = true ↔ (g = 0 ∨ g = 4 → d.running = false) := by
  unfold loadClass
  rw [idleClass_eq]
  by_cases h : g = 0 ∨ g = 4
  · simp [h]
  · have h' : (decide (g = 0) || decide (g = 4)) = false := by simpa using h
    simp [h, h']

theorem imageLength_eq {g : Nat} (hg : g ≤ 4) : [46, 49, 32, 2, 19].getD g 0 = imageLength g := by
  interval_cases g <;> rfl

/-- The store unit cannot take a STORE group (R151). -/
theorem StoreUnit.engaged_iff (u : StoreUnit) : u.engaged = true ↔ u.state = .scanning ∨ u.state = .busy ∨
    (u.state = .ready ∧ (u.queue ≠ [] ∨ u.job ≠ .idle ∨ u.erase ≠ .none)) := by
  unfold StoreUnit.engaged
  cases u.state <;> simp [or_assoc]

theorem State.loadBusy_iff (s : State) {g : Nat} (hg : g ≤ 4) : s.loadBusy g = true ↔ s.req.holder.isSome = true ∨
    (g = 1 ∧ s.gov.awaiting.isSome = true) ∨ (g = 2 ∧ s.watch.awaiting.isSome = true) ∨
    (g = 4 ∧ (s.store.awaiting.isSome = true ∨ s.store.engaged = true)) := by
  unfold State.loadBusy State.areaHeld
  interval_cases g <;> simp

section
variable {s : State} {k : Fin 8} {rest : List (Fin 8)} (hhead : s.atHead (some .loadSettings) k rest)
include hhead

/-- A LOAD SETTINGS whose class is met. -/
theorem exec_loadSettings (hclass : loadClass (s.param k 0).toNat s.seq.drive = true) : exec .loadSettings s = .next (
    match loadBadParam (s.slotParams k) with
    | some i => (s.takeSlot k rest).refuseInvalid k i false
    | none =>
      if s.loadBusy (s.param k 0).toNat then (s.takeSlot k rest).refuse k .busy
      else
        match imageBad (s.param k 0).toNat (s.areaWords (s.param k 1).toNat (s.param k 2).toNat) with
        | some i => ((s.takeSlot k rest).setChain .broken).refuseInvalid k i true
        | none => ((s.takeSlot k rest).setChain .broken).loadGroup k (s.param k 0).toNat
            (s.areaWords (s.param k 1).toNat (s.param k 2).toNat)) := by
  rw [exec_take rfl hhead, natAt_slotParams s k (by decide), natAt_slotParams s k (by decide),
    natAt_slotParams s k (by decide)]
  have hclass' : loadClass (s.param k 0).toNat (s.takeSlot k rest).seq.drive = true := by simpa using hclass
  dsimp only
  rw [hclass']
  rfl

theorem exec_loadSettings_class (hclass : loadClass (s.param k 0).toNat s.seq.drive = false) :
    exec .loadSettings s = .next ((s.takeSlot k rest).refuse k .state) := by
  rw [exec_take rfl hhead, natAt_slotParams s k (by decide)]
  have hclass' : loadClass (s.param k 0).toNat (s.takeSlot k rest).seq.drive = false := by simpa using hclass
  dsimp only
  rw [hclass']
  rfl

omit hhead in
theorem loadBadParam_eq : loadBadParam (s.slotParams k) =
    if 4 < (s.param k 0).toNat then some 0
    else if (s.param k 2).toNat ≠ imageLength (s.param k 0).toNat then some 2
    else if 4096 < (s.param k 1).toNat + (s.param k 2).toNat then some 1 else none := by
  simp only [loadBadParam, natAt_slotParams s k (show 0 < 12 by decide), natAt_slotParams s k (show 1 < 12 by decide),
    natAt_slotParams s k (show 2 < 12 by decide)]

/-- The parameters and the resources of a LOAD SETTINGS are as they must be. -/
theorem exec_loadSettings_image (hclass : loadClass (s.param k 0).toNat s.seq.drive = true) (hg : (s.param k 0).toNat ≤ 4)
    (hlen : (s.param k 2).toNat = imageLength (s.param k 0).toNat) (hoff : (s.param k 1).toNat + (s.param k 2).toNat ≤ 4096)
    (hbusy : s.loadBusy (s.param k 0).toNat = false) : exec .loadSettings s = .next (
      match imageBad (s.param k 0).toNat (s.areaWords (s.param k 1).toNat (s.param k 2).toNat) with
      | some i => ((s.takeSlot k rest).setChain .broken).refuseInvalid k i true
      | none => ((s.takeSlot k rest).setChain .broken).loadGroup k (s.param k 0).toNat
          (s.areaWords (s.param k 1).toNat (s.param k 2).toNat)) := by
  have hnone : loadBadParam (s.slotParams k) = none := by
    rw [loadBadParam_eq, if_neg (by omega), if_neg (by simp [hlen]), if_neg (by omega)]
  rw [exec_loadSettings hhead hclass, hnone, hbusy]
  rfl

end

/-- The value of a field by the words `w` of an image. -/
def fieldValue (g : Nat) (w : Nat → Nat) (i : Nat) : Nat := if wideField g i then w i + 65536 * w (i + 1) else w i

theorem nat32At_natAt (ws : List Word) (i : Nat) : nat32At ws i = natAt ws i + 65536 * natAt ws (i + 1) := by
  have hjoin : ∀ lo hi : Word, (joinWords lo hi).toNat = lo.toNat + 65536 * hi.toNat := fun lo hi => by
    rw [joinWords, BitVec.toNat_append, ← Nat.shiftLeft_add_eq_or_of_lt lo.isLt, Nat.shiftLeft_eq]
    omega
  exact hjoin _ _

theorem wideField_lt {g i : Nat} (h : wideField g i) : i + 1 < imageLength g := by
  rcases h with ⟨rfl, rfl | rfl⟩ | ⟨rfl, rfl⟩ <;> decide

/-- The values of an image's fields by its words. -/
theorem imageValue_eq {g : Nat} {ws : List Word} {w : Nat → Nat} (hw : ∀ i, i < imageLength g → natAt ws i = w i) {i : Nat}
    (hi : i < imageLength g) : imageValue g ws i = fieldValue g w i := by
  unfold imageValue fieldValue
  split_ifs with hwide
  · rw [nat32At_natAt, hw i hi, hw (i + 1) (wideField_lt hwide)]
  · exact hw i hi

theorem imageLength_pos (g : Nat) : 1 < imageLength g := by
  unfold imageLength
  split <;> decide

section
variable {g : Nat} {ws : List Word} {w : Nat → Nat} (hg : g ≤ 4) (hw : ∀ i, i < imageLength g → natAt ws i = w i)
include hg hw

omit hg in
theorem meets_congr {r : Nat × Nat × Nat} (hr : r.1 < imageLength g) (h : meets g (fieldValue g w) r) :
    meets g (imageValue g ws) r := by
  simp only [meets, imageValue_eq hw hr, imageValue_eq hw (imageLength_pos g)]
  exact h

omit hg in
theorem meets_congr_not {r : Nat × Nat × Nat} (hr : r.1 < imageLength g) (h : ¬meets g (fieldValue g w) r) :
    ¬meets g (imageValue g ws) r := by
  simp only [meets, imageValue_eq hw hr, imageValue_eq hw (imageLength_pos g)]
  exact h

/-- An image that breaks a range, and none before it, is refused for that range's word. -/
theorem imageBad_of_range {j : Nat} {r : Nat × Nat × Nat} (hr : (imageRanges g (w 0))[j]? = some r)
    (hbefore : ∀ q ∈ (imageRanges g (w 0)).take j, meets g (fieldValue g w) q) (hbad : ¬meets g (fieldValue g w) r) :
    imageBad g ws = some r.1 := by
  have hlt : ∀ q, (q ∈ (imageRanges g (w 0)).take j ∨ q = r) → q.1 < imageLength g := fun q hq => by
    by_cases hn : g = 1 → w 0 ≤ 16
    · refine imageRanges_lt hg hn q ?_
      rcases hq with hq | rfl
      · exact List.mem_of_mem_take hq
      · exact List.mem_of_getElem? hr
    · push Not at hn
      obtain ⟨rfl, hn⟩ := hn
      cases j with
      | zero =>
        have hfirst : r = (0, 2, 16) := (Option.some.inj hr).symm
        rcases hq with hq | rfl
        · simp at hq
        · rw [hfirst]
          decide
      | succ j =>
        have hfirst := hbefore (0, 2, 16) (by simp [imageRanges])
        have hvalue : fieldValue 1 w 0 = w 0 := rfl
        simp only [meets, hvalue] at hfirst
        omega
  rw [imageBad_eq hg, hw 0 (by have := imageLength_pos g; omega)]
  exact firstBreach_range hr (fun q hq => meets_congr hw (hlt q (.inl hq)) (hbefore q hq))
    (meets_congr_not hw (hlt r (.inr rfl)) hbad)

/-- The count of an ENVELOPE image within its range. -/
theorem envelopeCount_le (h : ∀ r ∈ imageRanges g (w 0), meets g (fieldValue g w) r) (h1 : g = 1) : w 0 ≤ 16 := by
  subst h1
  exact (h (0, 2, 16) (by simp [imageRanges])).2.1

theorem imageBad_of_within (h : ∀ r ∈ imageRanges g (w 0), meets g (fieldValue g w) r) :
    imageBad g ws = firstBreach g (imageRanges g (w 0)) (imageChecks g (fieldValue g w)) (imageValue g ws) ∧
    ∀ r ∈ imageRanges g (w 0), meets g (imageValue g ws) r := by
  have hn := envelopeCount_le hg hw h
  have hchecks : imageChecks g (imageValue g ws) = imageChecks g (fieldValue g w) :=
    imageChecks_congr hg (fun i hi => imageValue_eq hw hi) fun h1 => by
      have := hn h1
      subst h1
      rwa [imageValue_eq hw (by decide)]
  refine ⟨?_, fun r hr => meets_congr hw (imageRanges_lt hg hn r hr) (h r hr)⟩
  rw [imageBad_eq hg, hw 0 (by have := imageLength_pos g; omega), hchecks]

end

/-- What the ranges say of the first words of each image. -/
theorem range_refusals {g : Nat} {w : Nat → Nat} {P : Nat → Prop}
    (h : ∀ (j : Nat) (r : Nat × Nat × Nat), (imageRanges g (w 0))[j]? = some r →
      (∀ q ∈ (imageRanges g (w 0)).take j, meets g (fieldValue g w) q) → ¬meets g (fieldValue g w) r → P r.1) :
    (g = 0 → 2 < w 0 → P 0) ∧ (g = 0 → w 0 ≤ 2 → (w 1 < 1000 ∨ 4000 < w 1) → P 1) ∧
    (g = 1 → (w 0 < 2 ∨ 16 < w 0) → P 0) ∧ (g = 1 → 2 ≤ w 0 → w 0 ≤ 16 → 20000 < w 1 → P 1) ∧
    (g = 2 → 1 < w 0 → P 0) ∧ (g = 2 → (∀ i, i < 6 → w i ≤ 1) → 18000 < w 6 → P 6) ∧
    (g = 3 → 250 < w 0 → P 0) ∧ (g = 3 → w 0 ≤ 250 → 2047 < w 1 → P 1) ∧ (g = 4 → 1 < w 0 → P 0) ∧
    (g = 4 → w 0 ≤ 1 → w 2 ≤ 255 → (w 1 + 65536 * w 2) % 4096 = 0 → w 1 + 65536 * w 2 ≤ 0xFFF000 → (w 3 < 8 ∨ 256 < w 3) →
      P 3) := by
  have hnarrow : ∀ i, ¬wideField g i → fieldValue g w i = w i := fun i hi => if_neg hi
  refine ⟨?_, ?_, ?_, ?_, ?_, ?_, ?_, ?_, ?_, ?_⟩ <;> rintro rfl
  · intro h0
    refine h 0 (0, 0, 2) rfl (by simp) ?_
    rw [meets, hnarrow 0 (by decide)]
    dsimp only
    omega
  · intro h0 h1
    refine h 1 (1, 1000, 4000) rfl (fun q hq => ?_) ?_
    · have hq : q = (0, 0, 2) := by simpa [imageRanges] using hq
      rw [hq, meets, hnarrow 0 (by decide)]
      dsimp only
      omega
    · rw [meets, hnarrow 1 (by decide)]
      dsimp only
      omega
  · intro h0
    refine h 0 (0, 2, 16) rfl (by simp) ?_
    rw [meets, hnarrow 0 (by decide)]
    dsimp only
    omega
  · intro h0 h1 h2
    have hrow : (imageRanges 1 (w 0))[1]? = some (1, 0, 20000) := by
      obtain ⟨n, hn⟩ : ∃ n, w 0 = n + 1 := ⟨w 0 - 1, by omega⟩
      simp [imageRanges, hn, List.range_succ_eq_map]
    refine h 1 (1, 0, 20000) hrow (fun q hq => ?_) ?_
    · have hq : q = (0, 2, 16) := by simpa [imageRanges] using hq
      rw [hq, meets, hnarrow 0 (by decide)]
      dsimp only
      omega
    · rw [meets, hnarrow 1 (by decide)]
      dsimp only
      omega
  · intro h0
    refine h 0 (0, 0, 1) rfl (by simp) ?_
    rw [meets, hnarrow 0 (by decide)]
    dsimp only
    omega
  · intro h0 h1
    refine h 6 (6, 0, 18000) rfl (fun q hq => ?_) ?_
    · have hrows : (imageRanges 2 (w 0)).take 6 = (List.range 6).map fun i => (i, 0, 1) := rfl
      rw [hrows, List.mem_map] at hq
      obtain ⟨i, hi, rfl⟩ := hq
      rw [List.mem_range] at hi
      have := h0 i hi
      rw [meets]
      dsimp only
      rw [hnarrow i (by simp [wideField])]
      omega
    · rw [meets, hnarrow 6 (by decide)]
      dsimp only
      omega
  · intro h0
    refine h 0 (0, 0, 250) rfl (by simp) ?_
    rw [meets, hnarrow 0 (by decide)]
    dsimp only
    omega
  · intro h0 h1
    refine h 1 (1, 0, 2047) rfl (fun q hq => ?_) ?_
    · have hq : q = (0, 0, 250) := by simpa [imageRanges] using hq
      rw [hq, meets, hnarrow 0 (by decide)]
      dsimp only
      omega
    · rw [meets, hnarrow 1 (by decide)]
      dsimp only
      omega
  · intro h0
    refine h 0 (0, 0, 1) rfl (by simp) ?_
    rw [meets, hnarrow 0 (by decide)]
    dsimp only
    omega
  · intro h0 h2 hmod hle h3
    have hbase : fieldValue 4 w 1 = w 1 + 65536 * w 2 := rfl
    refine h 2 (3, 8, 256) rfl (fun q hq => ?_) ?_
    · have hq : q = (0, 0, 1) ∨ q = (1, 0, 0xFFF000) := by simpa [imageRanges] using hq
      rcases hq with rfl | rfl
      · rw [meets, hnarrow 0 (by decide)]
        dsimp only
        omega
      · rw [meets, hbase]
        dsimp only
        omega
    · rw [meets, hnarrow 3 (by decide)]
      dsimp only
      omega

/-- Settles O24. -/
theorem loadSettingsRefusals : Obligations.LoadSettingsRefusals := by
  intro s k rest hhead
  dsimp only
  set g := (s.param k 0).toNat with hgdef
  refine ⟨fun hg hrun => answered_of_exec ?_, fun hg => answered_of_exec ?_, fun hg hclass hlen => answered_of_exec ?_,
    fun hg hclass hlen hoff => answered_of_exec ?_, fun hg hclass hlen hoff hbusy => answered_of_exec ?_,
    fun hg hclass hlen hoff hfree => ?_⟩
  · refine (exec_loadSettings_class hhead ?_).trans rfl
    rw [Bool.eq_false_iff, ne_eq, loadClass_iff]
    exact fun h => absurd (h hg) (by simp [hrun])
  · rw [exec_loadSettings hhead ((loadClass_iff _ _).mpr fun h => by omega), loadBadParam_eq, if_pos hg]
    rfl
  · rw [imageLength_eq hg] at hlen
    rw [exec_loadSettings hhead ((loadClass_iff _ _).mpr hclass), loadBadParam_eq, if_neg (by omega), if_pos hlen]
    rfl
  · rw [imageLength_eq hg] at hlen
    rw [exec_loadSettings hhead ((loadClass_iff _ _).mpr hclass), loadBadParam_eq, if_neg (by omega), if_neg (by simp [hlen, hgdef]),
      if_pos hoff]
    rfl
  · rw [imageLength_eq hg] at hlen
    rw [← StoreUnit.engaged_iff, ← State.loadBusy_iff s hg] at hbusy
    rw [exec_loadSettings hhead ((loadClass_iff _ _).mpr hclass), loadBadParam_eq, if_neg (by omega), if_neg (by simp [hlen, hgdef]),
      if_neg (by omega), hbusy]
    rfl
  · rw [imageLength_eq hg] at hlen
    rw [← StoreUnit.engaged_iff, ← State.loadBusy_iff s hg, Bool.not_eq_true] at hfree
    have hexec := exec_loadSettings_image hhead ((loadClass_iff _ _).mpr hclass) hg hlen hoff hfree
    have hw : ∀ i, i < imageLength g → natAt (s.areaWords (s.param k 1).toNat (s.param k 2).toNat) i =
        (s.mem.readWord (transferAddr + 2 * ((s.param k 1).toNat + i))).toNat := fun i hi => by
      have haddr : transferAddr + 2 * (s.param k 1).toNat + 2 * i = transferAddr + 2 * ((s.param k 1).toNat + i) := by ring
      rw [natAt, wordAt, State.areaWords, List.getD_eq_getElem?_getD, Memory.readWords_getElem? _ _ _ _ (by omega), haddr]
      rfl
    have hrefused : ∀ i, imageBad g (s.areaWords (s.param k 1).toNat (s.param k 2).toNat) = some i →
        ∃ t, exec .loadSettings s = .next t ∧
          State.Answered { s with req := { s.req with chain := .broken } } t k rest .refused .invalid [natWord i, 1] :=
      fun i hi => answered_of_exec (by rw [hexec, hi]; rfl)
    have hrange := fun j r hr hbefore hbad => hrefused _ (imageBad_of_range (j := j) (r := r) hg hw hr hbefore hbad)
    refine ⟨hrefused, hrange, fun j c hc hwithin hbefore hbad => hrefused _ ?_, fun hwithin hchecks => ?_,
      range_refusals (g := g)
        (P := fun i => ∃ t, exec .loadSettings s = .next t ∧
          State.Answered { s with req := { s.req with chain := .broken } } t k rest .refused .invalid [natWord i, 1])
        (w := fun i => (s.mem.readWord (transferAddr + 2 * ((s.param k 1).toNat + i))).toNat) hrange⟩
    · obtain ⟨heq, hmeets⟩ := imageBad_of_within hg hw hwithin
      rw [heq]
      exact firstBreach_check hc hmeets hbefore hbad
    · obtain ⟨heq, hmeets⟩ := imageBad_of_within hg hw hwithin
      exact heq.trans (firstBreach_none hmeets hchecks)

end Sys2Proof.Machine
end

section
/-! Time, GATE FAULT, edges, RUN PERMIT and E-STOP (R4, R32, R33, R69, R71, R174). -/

namespace Sys2Proof.Machine

/-! ### Time (R110, R132, R147, R174) -/

theorem FaultUnit.elapse_eq (us : Nat) (f : FaultUnit) : f.elapse us = { f with timer := (f.elapse us).timer } := by
  unfold FaultUnit.elapse
  split <;> rfl

theorem RecordUnit.elapse_eq (us : Nat) (r : RecordUnit) : r.elapse us = { r with windowTimer := (r.elapse us).windowTimer } := by
  unfold RecordUnit.elapse
  split <;> rfl

/-- Settles O40. -/
theorem clockRule : Obligations.ClockRule := by
  refine ⟨fun s k rest hhead => answered_of_exec ?_, fun s => ⟨_, rfl, rfl, fun h => ?_, fun h => ?_, rfl, ?_⟩⟩
  · rw [exec_take rfl hhead, s.wordAt_slotParams k 0 (by decide), s.wordAt_slotParams k 1 (by decide)]
    rfl
  · exact ⟨if_pos h.ge, if_pos h.ge⟩
  · exact ⟨if_neg (Nat.not_le.mpr h), if_neg (Nat.not_le.mpr h)⟩
  · have hfaults := s.faults.elapse_eq (1000 - s.req.subMs)
    have hrecord := s.record.elapse_eq (1000 - s.req.subMs)
    show ({ s with
      faults := s.faults.elapse (1000 - s.req.subMs), record := s.record.elapse (1000 - s.req.subMs)
      store := s.store.elapse (1000 - s.req.subMs), req := s.req.tick } : State) = _
    congr 1

/-! ### Edges (R4) -/

/-- Settles O45. -/
theorem encoderEdgeCounts : Obligations.EncoderEdgeCounts := by
  refine fun s x => ⟨fun hbroken e => if_pos hbroken, fun hclear e d hd => ⟨_, if_neg (by simp [hclear]), ?_⟩⟩
  have hstep : edgeStep e = d := by rcases hd with ⟨rfl, rfl⟩ | ⟨rfl, rfl⟩ | ⟨rfl, rfl⟩ <;> rfl
  rw [hstep]
  rfl

/-! ### What a report leaves -/

theorem Pair.get_ofFn {α : Type} (f : Side → α) (x : Side) : (Pair.ofFn f).get x = f x := by cases x <;> rfl

namespace State
variable (s : State)

theorem fall_eq (k : FaultKind) (src : Source) : s.fall k src = { s with faults := (s.fall k src).faults } := by
  unfold State.fall
  split <;> rfl

theorem latchRise_eq (k : FaultKind) (src : Source) (d : Option Nat) :
    s.latchRise k src d = { s with faults := (s.latchRise k src d).faults } := by
  unfold State.latchRise
  split <;> rfl

theorem fall_latched_entry (k j : FaultKind) (src : Source) : ((s.fall k src).faults.entry j).latched = (s.faults.entry j).latched :=
  s.fall_latched k src j.num

theorem present_of_source {k : FaultKind} {src : Source} (h : s.sourcePresent k src = true) : s.present k = true := by
  cases src <;> simp_all [State.present, State.sourcePresent, FaultEntry.present, FaultEntry.source]

theorem latchRise_present (k : FaultKind) (src : Source) (d : Option Nat) : (s.latchRise k src d).sourcePresent k src = true := by
  unfold State.latchRise
  split
  · assumption
  · rw [State.sourcePresent, State.setEntry, State.setFaults_faults, FaultUnit.entry_setEntry_same]
    cases src <;> rfl

/-- A rise in a state in which it takes no trip cause: UNCONFIGURED, or TRIPPED with the window CLOSED (R107, R109). -/
theorem tripRise_latches {k : FaultKind} {src : Source} (ha : s.sourcePresent k src = false)
    (h : s.seq.drive = .unconfigured ∨ (s.seq.drive = .tripped ∧ s.faults.lock = true ∧ s.faults.windowOpen = false)) :
    s.tripRise k src = s.latchRise k src none := by
  rcases h with hd | ⟨hd, hlock, hclosed⟩
  · exact s.tripRise_unconfigured k src hd
  · rw [s.tripRise_locked k src (by simp [hd]) hlock ha, State.followOnCause, if_neg (by simp [hclosed])]

theorem ungated_congr {s t : State} (hregs : t.regs = s.regs) (hseq : t.seq = s.seq) : t.ungated = s.ungated := by
  funext x
  unfold State.ungated State.blocked
  rw [hregs, hseq]

/-- What a first cause leaves of the regulators (R34, R67). -/
theorem firstCause_regs (k : FaultKind) (d : Option Nat) (hr : s.seq.restartPending = false) :
    (s.firstCause k d).regs = Pair.ofFn s.ungated := by
  have hcalm : ((s.setFaults { s.faults with lock := true }).openTrip k d).openWindow.seq.restartPending = false := by
    simpa using hr
  obtain ⟨-, -, hregs, -⟩ := State.enterTripped_calm_eqs _ hcalm
  rw [State.firstCause, hregs]
  exact congrArg Pair.ofFn (State.ungated_congr (by simp) (by simp))

theorem tripRise_regs {k : FaultKind} {src : Source} (h : s.tripReady) (ha : s.sourcePresent k src = false) :
    (s.tripRise k src).regs = Pair.ofFn s.ungated := by
  rw [s.tripRise_first h ha, (State.closeIfZero_frame _).2.2.2.2.2.2.1, State.firstCause_regs _ _ _ (by simpa using h.2.2.2)]
  exact congrArg Pair.ofFn (State.ungated_congr (by simp) (by simp))

theorem ungated_gateBlock (x : Side) : (s.ungated x).gateBlock = (s.regs.get x).gateBlock := by
  unfold State.ungated
  split <;> rfl

theorem ungated_gateFault (x : Side) : (s.ungated x).gateFault = (s.regs.get x).gateFault := by
  unfold State.ungated
  split <;> rfl

theorem setGateBlock_flag (x : Side) : ((s.setGateBlock x).regs.get x).gateBlock = true := by
  simp [State.setGateBlock, State.setReg]

end State

/-- Settles O44. -/
theorem gateFaultInput : Obligations.GateFaultInput := by
  intro s x
  dsimp only
  set u := (s.setInputs { s.inputs with gateFault := s.inputs.gateFault.set x true }).setGateBlock x with hu
  have hblock : (u.regs.get x).gateBlock = true := State.setGateBlock_flag _ x
  set v := u.setReg x { u.regs.get x with gateFault := true } with hv
  have hgate : (v.regs.get x).gateBlock = true ∧ (v.regs.get x).gateFault = true := by
    simp [hv, State.setReg, hblock]
  have hexec : s.inputs.gateFault.get x = false → exec (.gateFaultActive x) s =
      .next (if s.inSet x then v.tripRise (.gateFault x) .first else u) := fun h => if_neg (by simp [h])
  refine ⟨fun h => if_pos h, fun h hset hready ha => ?_, fun h hset hd ha => ?_, fun h hset => ?_, ?_⟩
  · have hcalm : v.seq.restartPending = false := hready.2.2.2
    have hregs := v.tripRise_regs (k := .gateFault x) hready ha
    refine ⟨v.tripRise (.gateFault x) .first, (hexec h).trans (congrArg _ (if_pos hset)), by simp [hv, hu, State.setReg],
      (v.tripRise_tripped _ _ hready ha).of_same rfl rfl rfl, ?_, ?_, ?_⟩
    · rw [hregs, Pair.get_ofFn, State.ungated_gateBlock, hgate.1]
    · rw [hregs, Pair.get_ofFn, State.ungated_gateFault, hgate.2]
    · exact State.present_of_source _ (v.tripRise_present _ _ rfl hcalm)
  · refine ⟨v.latchRise (.gateFault x) .first none,
      (hexec h).trans (congrArg _ ((if_pos hset).trans (v.tripRise_unconfigured _ _ hd))), ?_, ?_, ?_, ?_, ?_, ?_⟩
    · rw [v.latchRise_eq]
      rfl
    · rw [v.latchRise_eq]
      exact hgate.1
    · simp [hv, hu, State.setReg]
    · exact v.latchRise_latched _ _ _ ha
    · exact State.present_of_source _ (v.latchRise_present _ _ _)
    · exact fun k hk => v.latchRise_other _ _ hk
  · exact ⟨u, (hexec h).trans (congrArg _ (if_neg (by simpa [State.inSet] using hset))), rfl, hblock⟩
  · refine ⟨_, rfl, ?_, State.fall_source _ _ _, fun k => ?_, fun k hk => State.fall_other _ _ hk⟩
    · exact State.fall_eq _ _ _
    · exact State.fall_latched_entry _ _ _ _

end Sys2Proof.Machine
end

section
/-! RUN PERMIT and E-STOP (R32, R33). -/

namespace Sys2Proof.Machine

namespace State
variable (s : State)

/-- A drop of RUN PERMIT in a running state with the action TRIP (R32). -/
theorem permitDrop_trip (hrun : s.seq.drive.running = true) (hact : s.cfg.permitAction = .trip) :
    s.permitDrop = (s.setSeq { s.seq with permit := true }).tripRise .permit .first := by
  rw [State.permitDrop, if_pos hrun, hact]

theorem permitDrop_none (h : s.seq.drive.running = false ∨ (s.cfg.permitAction = .ramp ∧ s.seq.drive = .stopping)) :
    s.permitDrop = s := by
  rcases h with hrun | ⟨hact, hd⟩
  · exact if_neg (by simp [hrun])
  · simp only [State.permitDrop, hact, hd, ite_self]

theorem permitDrop_magnetizing (hact : s.cfg.permitAction = .ramp) (hd : s.seq.drive = .magnetizing) :
    s.permitDrop = s.stopMagnetizing := by
  simp [State.permitDrop, hact, hd, DriveState.running]

theorem permitDrop_ramp (hact : s.cfg.permitAction = .ramp) (hd : s.seq.drive = .breakaway ∨ s.seq.drive = .run) :
    s.permitDrop = s.enterStopping := by
  rcases hd with hd | hd <;> simp [State.permitDrop, hact, hd, DriveState.running]

/-- A trip rise with no restart pending leaves queue, inputs, DRIVE settings, measurement and watch. -/
theorem tripRise_sameField (k : FaultKind) (src : Source) (hr : s.seq.restartPending = false) : s.sameField (s.tripRise k src) := by
  obtain ⟨-, -, hdrive, hmeas, hwatch⟩ := s.tripRise_calm k src hr
  exact ⟨by simp, by simp, hdrive, hmeas, hwatch⟩

end State

/-- Settles O55. -/
theorem permitAndEStop : Obligations.PermitAndEStop := by
  intro s
  dsimp only
  set off := s.setInputs { s.inputs with runPermit := false } with hoff
  have hexec : s.inputs.runPermit = true → exec .runPermitDrop s = .next off.permitDrop := fun h => if_pos h
  refine ⟨fun h => if_neg (by simp [h]), fun h hkeep => ⟨off, ?_, rfl⟩, fun h hact hd hr => ?_, fun h hact hd hknown => ?_,
    fun h hact hrun hready ha => ?_, ?_, fun h => if_pos h, fun h ha => ?_, ?_⟩
  · rw [hexec h, State.permitDrop_none off hkeep]
  · obtain ⟨hseq, hrest, hrecord, -, hmem, -, hfield⟩ := off.stopMagnetizing_eqs hr
    exact ⟨off.stopMagnetizing, by rw [hexec h, off.permitDrop_magnetizing hact hd], hfield.2.1, hrest, hrecord, hfield, hmem, hseq⟩
  · obtain ⟨hseq, hgov, hregs, hrecord, -, hmem, -, hfield⟩ := State.enterStopping_eqs (s := off) hknown
    exact ⟨off.enterStopping, by rw [hexec h, off.permitDrop_ramp hact hd], hfield.2.1, hgov, hrecord, hfield, hregs, hmem, hseq⟩
  · have hready' : (off.setSeq { off.seq with permit := true }).tripReady := hready
    have hfield := State.tripRise_sameField _ .permit .first hready'.2.2.2
    exact ⟨_, by rw [hexec h, off.permitDrop_trip hrun hact], hfield.2.1, State.tripRise_tripped _ _ _ hready' ha,
      State.present_of_source _ (State.tripRise_present _ _ _ rfl hready'.2.2.2), hfield⟩
  · exact ⟨_, rfl, State.fall_eq _ _ _, State.fall_source _ _ _, fun k => State.fall_latched_entry _ _ _ _,
      fun k hk => State.fall_other _ _ hk⟩
  · set u := (s.setInputs { s.inputs with eStop := true }).setSeq { s.seq with eStop := true } with hu
    have hinputs : (u.tripRise .eStop .first).inputs = { s.inputs with eStop := true } := by simp [hu]
    refine ⟨u.tripRise .eStop .first, if_neg (by simp [h]), hinputs, fun hready => ?_, fun hlatch => ?_⟩
    · have hready' : u.tripReady := hready
      exact ⟨(u.tripRise_tripped _ _ hready' ha).of_same rfl rfl rfl,
        State.present_of_source _ (u.tripRise_present _ _ rfl hready'.2.2.2)⟩
    · rw [hinputs, u.tripRise_latches ha hlatch]
      refine ⟨u.latchRise_eq _ _ _, by simp [hu], u.latchRise_latched _ _ _ ha, State.present_of_source _ (u.latchRise_present _ _ _),
        fun k hk => u.latchRise_other _ _ hk⟩
  · exact ⟨_, rfl, State.fall_eq _ _ _, State.fall_source _ _ _, fun k => State.fall_latched_entry _ _ _ _,
      fun k hk => State.fall_other _ _ hk⟩

end Sys2Proof.Machine
end

section
/-! The sequencer millisecond and its expiries (R19, R22, R24, R26, R28 to R30, R36). -/

namespace Sys2Proof.Machine

/-- `t` is `s` but for reports: what the fault set holds, and the notice word. -/
def State.Reported (s t : State) : Prop := t = { s with faults := t.faults, req := { s.req with notice := t.req.notice } }

theorem State.Reported.refl (s : State) : s.Reported s := rfl

theorem State.Reported.trans {s t u : State} (h : s.Reported t) (h' : t.Reported u) : s.Reported u := by
  rw [State.Reported] at h'
  rw [h] at h'
  exact h'

theorem State.fall_reported (s : State) (k : FaultKind) (src : Source) : s.Reported (s.fall k src) := by
  unfold State.fall
  split <;> rfl

theorem State.alarmRise_reported (s : State) (k : FaultKind) (src : Source) (d : Option Nat) : s.Reported (s.alarmRise k src d) := by
  unfold State.alarmRise
  split <;> rfl

theorem State.alarmLevel_reported (s : State) (k : FaultKind) (src : Source) (d : Option Nat) (now : Bool) :
    s.Reported (s.alarmLevel k src d now) := by
  unfold State.alarmLevel
  split
  · exact s.alarmRise_reported k src d
  · exact s.fall_reported k src

theorem State.alarmLevel_other (s : State) {j k : FaultKind} (src : Source) (d : Option Nat) (now : Bool) (h : j ≠ k) :
    (s.alarmLevel k src d now).faults.entry j = s.faults.entry j := by
  unfold State.alarmLevel
  split
  · exact s.alarmRise_other src d h
  · exact s.fall_other src h

namespace State
variable {s : State}

/-- A step in BREAKAWAY at |n| ≥ nb (R24). -/
theorem sequencerStep_run (hd : s.seq.drive = .breakaway) (hn : s.cfg.nb ≤ |s.meas.n|) : s.sequencerStep =
    (s.setSeq { s.seq.stepRamp s.cfg with breakawayCount := s.seq.breakawayCount + 1, drive := .run }).formEncoders := by
  have hat : s.atBreakaway = true := decide_eq_true hn
  simp only [State.sequencerStep, hd, State.breakawayStep, hat, if_true]
  rfl

theorem sequencerStep_breakaway (hd : s.seq.drive = .breakaway) (hn : |s.meas.n| < s.cfg.nb) : s.sequencerStep =
    let u := s.setSeq { s.seq.stepRamp s.cfg with breakawayCount := s.seq.breakawayCount + 1 }
    if s.cfg.breakawayTime ≤ s.seq.breakawayCount + 1 then u.tripPulse .stall else u := by
  have hat : s.atBreakaway = false := decide_eq_false (by omega)
  simp only [State.sequencerStep, hd, State.breakawayStep, hat]
  rfl

theorem sequencerStep_magnetizing (hd : s.seq.drive = .magnetizing) : s.sequencerStep =
    let u := s.setSeq { s.seq with magCount := s.seq.magCount + 1, flux := fluxAt s.cfg.idf (s.seq.magCount + 1) s.cfg.magTime }
    if s.cfg.magTime ≤ s.seq.magCount + 1 then u.magnetized else u := by
  have hstep : s.sequencerStep = s.magnetizingStep := by simp only [State.sequencerStep, hd]
  exact hstep

theorem sequencerStep_run_on (hd : s.seq.drive = .run) : s.sequencerStep = s.setSeq (s.seq.stepRamp s.cfg) := by
  simp only [State.sequencerStep, hd]

theorem sequencerStep_decelerating (hd : s.seq.drive = .stopping) (hp : s.seq.phase = .decelerating) :
    s.sequencerStep = s.deceleratingStep := by
  simp only [State.sequencerStep, hd, State.stoppingStep, hp]

theorem sequencerStep_atZero (hd : s.seq.drive = .stopping) (hp : s.seq.phase = .atZero) : s.sequencerStep = s.atZeroStep := by
  simp only [State.sequencerStep, hd, State.stoppingStep, hp]

theorem sequencerStep_brakeSetting (hd : s.seq.drive = .stopping) (hp : s.seq.phase = .brakeSetting) :
    s.sequencerStep = s.brakeSettingStep := by
  simp only [State.sequencerStep, hd, State.stoppingStep, hp]

end State

/-- Settles O53. -/
theorem sequencerMillisecondTable : Obligations.SequencerMillisecondTable := by
  intro s
  dsimp only
  have hexec : ∀ {t : State}, s.sequencerStep = t → exec .sequencerMillisecond s = .next t := fun h => congrArg _ h
  refine ⟨fun hd => ⟨s, hexec ?_, rfl⟩, fun hd => ?_, fun hd hcount => ⟨_, hexec ?_, rfl⟩, fun hd hn hcount => ⟨_, hexec ?_, rfl⟩,
    fun hd hn hknown => ?_, fun hd => ⟨_, hexec ?_, rfl⟩, fun hd hp => ⟨_, hexec ?_, rfl⟩, fun hd hp hcount => ⟨_, hexec ?_, rfl⟩,
    fun hd hp hcount => ⟨_, hexec ?_, rfl⟩⟩
  · rcases hd with hd | hd <;> simp only [State.sequencerStep, hd]
  · refine ⟨s.stoppedStep, hexec (by simp only [State.sequencerStep, hd]), ?_, State.alarmLevel_source _ _ _ _ _,
      fun k hk => State.alarmLevel_other _ _ _ _ hk⟩
    exact State.alarmLevel_reported _ _ _ _ _
  · rw [State.sequencerStep_magnetizing hd]
    exact if_neg (by omega)
  · rw [State.sequencerStep_breakaway hd hn]
    exact if_neg (by omega)
  · set u := s.setSeq { s.seq.stepRamp s.cfg with breakawayCount := s.seq.breakawayCount + 1, drive := .run } with hu
    obtain ⟨hseq, hgov, hregs, hrecord, hstore, hmem, hlock, hfield⟩ := State.formEncoders_known_eqs (s := u) hknown
    exact ⟨u.formEncoders, hexec (State.sequencerStep_run hd hn), hseq, hgov, hregs, hrecord, hstore, hlock, hmem, hfield⟩
  · exact State.sequencerStep_run_on hd
  · rw [State.sequencerStep_decelerating hd hp, ← hp]
    rfl
  · rw [State.sequencerStep_atZero hd hp, State.atZeroStep]
    exact if_neg (Nat.not_le.mpr hcount)
  · rw [State.sequencerStep_brakeSetting hd hp, State.brakeSettingStep]
    exact if_neg (by omega)

/-! ### The expiries -/

/-- The end of the brake set time with no restart pending (R30). -/
theorem State.brakeSetEnd_eqs (s : State) (hr : s.seq.restartPending = false) :
    s.brakeSetEnd.seq = { s.seq with
      phase := .none, zeroCount := 0, brakeCount := 0, flux := 0, gate := ⟨false, false⟩, drive := .stopped } ∧
    s.brakeSetEnd.gov.atRest ∧ s.brakeSetEnd.record = s.record ∧ s.brakeSetEnd.store = s.store ∧ s.brakeSetEnd.mem = s.mem ∧
    s.brakeSetEnd.faults.lock = s.faults.lock ∧ s.sameField s.brakeSetEnd := by
  have hcalm : (s.setSeq { s.seq with phase := .none, zeroCount := 0, brakeCount := 0, flux := 0 }).seq.restartPending = false := hr
  obtain ⟨hseq, hgov, -, hrecord, hstore, hmem, hlock, -⟩ := State.enterStopped_calm_eqs _ hcalm
  obtain ⟨-, -, hdrive, hmeas, hwatch, -, -⟩ := State.enterStopped_calm _ hcalm
  unfold State.brakeSetEnd
  refine ⟨by simpa using hseq, ?_, hrecord, hstore, hmem, hlock, ⟨by simp, by simp, hdrive, hmeas, hwatch⟩⟩
  rw [hgov]
  exact Governor.zeroed_atRest _

theorem State.brakeSetEnd_restart {s : State} (h : s.seq.restartPending = true) : s.brakeSetEnd = s.performReset := by
  rw [State.brakeSetEnd, State.enterStopped_restart (by simpa using h)]
  exact State.performReset_congr (by simp) (by simp) (by simp) (by simp)

/-- Settles O54. -/
theorem sequencerExpiries : Obligations.SequencerExpiries := by
  intro s
  dsimp only
  have hstep : ∀ {t : State}, s.sequencerStep = t → exec .sequencerMillisecond s = .next t := fun h => congrArg _ h
  have hmag : s.magnetizingReached = true → exec .magnetizingTimeExpiry s = .next s.sequencerStep := fun h => congrArg _ (if_pos h)
  have hbreak : s.breakawayReached = true → exec .breakawayTimeExpiry s = .next s.sequencerStep := fun h => congrArg _ (if_pos h)
  have hzero : s.zeroDwellReached = true → exec .zeroSpeedDwellReached s = .next s.sequencerStep := fun h => congrArg _ (if_pos h)
  have hset : s.brakeSetReached = true → exec .brakeSetTimeExpiry s = .next s.sequencerStep := fun h => congrArg _ (if_pos h)
  have hdwell : s.seq.drive = .stopping → s.seq.phase = .atZero → s.cfg.zeroDwell ≤ s.zeroCountNext → s.zeroDwellReached = true :=
    fun hd hp h => by simp [State.zeroDwellReached, hd, hp, h]
  have hsetting : s.seq.drive = .stopping → s.seq.phase = .brakeSetting → s.cfg.brakeSetTime ≤ s.seq.brakeCount + 1 →
      s.brakeSetReached = true ∧
      s.sequencerStep = (s.setSeq { s.seq with brakeCount := s.seq.brakeCount + 1 }).brakeSetEnd := fun hd hp h => by
    refine ⟨by simp [State.brakeSetReached, hd, hp, h], ?_⟩
    rw [State.sequencerStep_brakeSetting hd hp, State.brakeSettingStep]
    exact if_pos h
  have hatOnce : s.seq.drive = .stopping → s.seq.phase = .atZero → s.cfg.zeroDwell ≤ s.zeroCountNext → s.cfg.brakeSetTime = 0 →
      s.brakeSetReached = true ∧ s.sequencerStep = (s.setSeq { s.seq with
        zeroCount := s.zeroCountNext, brakeRelease := false, brakeCount := 0, phase := .brakeSetting }).brakeSetEnd :=
    fun hd hp h h0 => by
      refine ⟨by simp [State.brakeSetReached, hdwell hd hp h, hd, h0], ?_⟩
      rw [State.sequencerStep_atZero hd hp, State.atZeroStep]
      exact (if_pos h).trans (if_pos h0)
  refine ⟨fun hd hcount hknown => ?_, fun hd hn hcount hready ha => ?_, fun hd hp hcount h0 => ?_, fun hd hp hcount hr => ?_,
    fun hd hp hcount hr => ?_, fun hd hn hcount hknown => ?_, fun hd hp hcount h0 hr => ?_, fun hd hp hcount h0 hr => ?_,
    fun hd => ?_, fun hd => ?_, fun hd => ⟨?_, ?_⟩⟩
  · set u := s.setSeq { s.seq with magCount := s.seq.magCount + 1, flux := fluxAt s.cfg.idf (s.seq.magCount + 1) s.cfg.magTime }
    have heq : s.sequencerStep = u.magnetized := (State.sequencerStep_magnetizing hd).trans (if_pos hcount)
    obtain ⟨hseq, hgov, hregs, hrecord, hstore, hmem, hlock, hfield⟩ := State.formEncoders_known_eqs (s := u.setSeq { u.seq with
      breakawayCount := 0, rampTarget := u.seq.runTarget u.cfg, brakeRelease := true, drive := .breakaway }) hknown
    refine ⟨u.magnetized, heq ▸ hmag (by simp [State.magnetizingReached, hd, hcount]), hstep heq, hgov, hlock, hrecord, hstore, hregs,
      hmem, hfield, hseq.trans ?_⟩
    rw [Sequencer.runTarget_eq]
    rfl
  · set u := s.setSeq { s.seq.stepRamp s.cfg with breakawayCount := s.seq.breakawayCount + 1 }
    have heq : s.sequencerStep = u.tripPulse .stall := (State.sequencerStep_breakaway hd hn).trans (if_pos hcount)
    obtain ⟨-, -, hdrive, hmeas, hwatch⟩ := u.tripPulse_calm .stall hready.2.2.2
    refine ⟨u.tripPulse .stall, heq ▸ hbreak (by simp [State.breakawayReached, hd, hcount]), hstep heq,
      (u.tripPulse_tripped .stall hready ha).of_same rfl rfl rfl, u.tripPulse_absent .stall, ?_⟩
    exact ⟨State.tripPulse_frame u .stall |>.1, State.tripPulse_frame u .stall |>.2, hdrive, hmeas, hwatch⟩
  · have heq : s.sequencerStep = s.setSeq { s.seq with
        zeroCount := s.zeroCountNext, brakeRelease := false, brakeCount := 0, phase := .brakeSetting } := by
      rw [State.sequencerStep_atZero hd hp, State.atZeroStep]
      exact (if_pos hcount).trans (if_neg h0)
    exact ⟨_, hzero (hdwell hd hp hcount), rfl, heq⟩
  · obtain ⟨hreached, heq⟩ := hsetting hd hp hcount
    obtain ⟨hseq, hrest, hrecord, hstore, hmem, hlock, hfield⟩ :=
      (s.setSeq { s.seq with brakeCount := s.seq.brakeCount + 1 }).brakeSetEnd_eqs hr
    exact ⟨_, heq ▸ hset hreached, hstep heq, hrest, hrecord, hstore, hmem, hlock, hfield, hseq⟩
  · obtain ⟨hreached, heq⟩ := hsetting hd hp hcount
    obtain ⟨hdrive, -, -, hreq, -⟩ := (s.setSeq { s.seq with brakeCount := s.seq.brakeCount + 1 }).performReset_shows
    exact ⟨_, (heq.trans (State.brakeSetEnd_restart hr)) ▸ hset hreached, hdrive, hreq⟩
  · set u := s.setSeq { s.seq.stepRamp s.cfg with breakawayCount := s.seq.breakawayCount + 1, drive := .run }
    have heq : s.sequencerStep = u.formEncoders := State.sequencerStep_run hd hn
    obtain ⟨hseq, hgov, hregs, hrecord, -, -, hlock, hfield⟩ := State.formEncoders_known_eqs (s := u) hknown
    exact ⟨u.formEncoders, heq ▸ hbreak (by simp [State.breakawayReached, hd, hcount]), hstep heq, congrArg Sequencer.drive hseq, hgov,
      hregs, hrecord, hlock, hfield⟩
  · obtain ⟨hreached, heq⟩ := hatOnce hd hp hcount h0
    obtain ⟨hseq, hrest, hrecord, hstore, hmem, hlock, hfield⟩ := (s.setSeq { s.seq with
      zeroCount := s.zeroCountNext, brakeRelease := false, brakeCount := 0, phase := .brakeSetting }).brakeSetEnd_eqs hr
    exact ⟨_, heq ▸ hzero (hdwell hd hp hcount), heq ▸ hset hreached, hstep heq, hrest, hrecord, hstore, hmem, hlock, hfield, hseq⟩
  · obtain ⟨hreached, heq⟩ := hatOnce hd hp hcount h0
    obtain ⟨hdrive, -, -, hreq, -⟩ := (s.setSeq { s.seq with
      zeroCount := s.zeroCountNext, brakeRelease := false, brakeCount := 0, phase := .brakeSetting }).performReset_shows
    exact ⟨_, (heq.trans (State.brakeSetEnd_restart hr)) ▸ hset hreached, hdrive, hreq⟩
  · exact congrArg _ (if_neg (by simp [State.magnetizingReached, hd]))
  · exact congrArg _ (if_neg (by simp [State.breakawayReached, hd]))
  · exact congrArg _ (if_neg (by simp [State.zeroDwellReached, hd]))
  · exact congrArg _ (if_neg (by simp [State.brakeSetReached, hd]))

end Sys2Proof.Machine
end

section
/-! The line-break input and the encoder conditions (R5 to R7, R9, R120). -/

namespace Sys2Proof.Machine

/-! ### Drive speed and encoder in use where encoders are LOST (R7, R9) -/

theorem Side.forall {P : Side → Prop} (x : Side) (hx : P x) (ho : P (otherSide x)) (y : Side) : P y := by
  cases x <;> cases y <;> assumption

namespace MeasUnit
variable {m : MeasUnit} (p : PinionSet)

theorem formN_other {x : Side} (hx : (m.encoders.get x).lost = true) (ho : (m.encoders.get (otherSide x)).lost = false) :
    m.formN p = (m.encoders.get (otherSide x)).speed := by
  cases x <;> simp_all [MeasUnit.formN, otherSide]

theorem inUse_other {x : Side} (hx : (m.encoders.get x).lost = true) (ho : (m.encoders.get (otherSide x)).lost = false) :
    m.inUse p = some (otherSide x) := by
  cases x <;> simp_all [MeasUnit.inUse, otherSide]

theorem formN_lost (h : ∀ x, (m.encoders.get x).lost = true) : m.formN p = m.n := by
  have ha := h .a
  have hb := h .b
  simp_all [MeasUnit.formN]

theorem inUse_lost (h : ∀ x, (m.encoders.get x).lost = true) : m.inUse p = none := by
  have ha := h .a
  have hb := h .b
  simp_all [MeasUnit.inUse]

theorem withN_get (x : Side) : (m.withN p).encoders.get x = (m.encoders.get x).follow (m.formN p) := Pair.get_map _ _ _

theorem follow_lost (n : Int) (e : Encoder) : (e.follow n).lost = e.lost := by
  unfold Encoder.follow
  split <;> rfl

/-- Whether encoders are LOST decides which is in use; the drive speed formed changes nothing there. -/
theorem withN_inUse : (m.withN p).inUse p = m.inUse p := by
  have hlost : ∀ x, ((m.withN p).encoders.get x).lost = (m.encoders.get x).lost := fun x => by rw [withN_get, follow_lost]
  have ha := hlost .a
  have hb := hlost .b
  rw [Pair.get_a, Pair.get_a] at ha
  rw [Pair.get_b, Pair.get_b] at hb
  rw [MeasUnit.inUse, ha, hb]
  rfl

/-- What the evaluation of the encoder in use changes (R9). -/
theorem withInUse_eq : m.withInUse p = { m with shell := if m.shell.inUse = m.inUse p then m.shell
    else { m.shell with inUse := m.inUse p, p := 0, reference := false, valid := false } } := by
  unfold MeasUnit.withInUse
  by_cases h : m.inUse p = m.shell.inUse
  · rw [if_pos h, if_pos h.symm]
  · rw [if_neg h, if_neg (Ne.symm h)]

end MeasUnit

theorem sourceOf_eq (x : Side) : sourceOf x = sideSource x := by cases x <;> rfl

namespace State
variable (s : State)

theorem alarmRise_source (k : FaultKind) (src : Source) (d : Option Nat) : (s.alarmRise k src d).sourcePresent k src = true := by
  unfold State.alarmRise
  split
  · assumption
  · simp only [State.sourcePresent, State.setEntry, State.raiseNotice, State.setReq_faults, State.setFaults_faults,
      FaultUnit.entry_setEntry_same]
    cases src <;> rfl

/-- A report of a source leaves the kind's other sources. -/
theorem fall_otherSource (k : FaultKind) {src other : Source} (h : other ≠ src) :
    (s.fall k src).sourcePresent k other = s.sourcePresent k other := by
  unfold State.fall
  split
  · simp only [State.sourcePresent, State.setEntry, State.setFaults_faults, FaultUnit.entry_setEntry_same]
    cases src <;> cases other <;> simp_all [FaultEntry.source, FaultEntry.setSource]
  · rfl

theorem alarmRise_otherSource (k : FaultKind) {src other : Source} (d : Option Nat) (h : other ≠ src) :
    (s.alarmRise k src d).sourcePresent k other = s.sourcePresent k other := by
  unfold State.alarmRise
  split
  · rfl
  · simp only [State.sourcePresent, State.setEntry, State.raiseNotice, State.setReq_faults, State.setFaults_faults,
      FaultUnit.entry_setEntry_same]
    cases src <;> cases other <;> simp_all [FaultEntry.source, FaultEntry.setSource, FaultEntry.rise]

/-- ENCODER SINGLE of an encoder is present exactly while it alone is LOST (R120). -/
theorem formSingle_source (x : Side) : s.formSingle.sourcePresent .encoderSingle (sourceOf x) = s.onlyLost x := by
  have hab : (Source.second) ≠ .first := by decide
  have hnot : s.onlyLost .a = true → s.onlyLost .b = false := fun h => by
    simp_all [State.onlyLost, otherSide]
  unfold State.formSingle
  dsimp only
  by_cases ha : s.onlyLost .a = true
  · rw [hnot ha, ha]
    simp only [if_true, Bool.false_eq_true, if_false]
    cases x
    · rw [ha]
      exact State.alarmRise_source _ _ _ _
    · rw [hnot ha]
      exact (State.alarmRise_otherSource _ _ _ hab).trans (State.fall_source _ _ _)
  · have ha' : s.onlyLost .a = false := by simpa using ha
    rw [ha']
    by_cases hb : s.onlyLost .b = true
    · rw [hb]
      simp only [if_true, Bool.false_eq_true, if_false]
      cases x
      · rw [ha']
        exact (State.alarmRise_otherSource _ _ _ hab.symm).trans (State.fall_source _ _ _)
      · rw [hb]
        exact State.alarmRise_source _ _ _ _
    · have hb' : s.onlyLost .b = false := by simpa using hb
      rw [hb']
      simp only [Bool.false_eq_true, if_false]
      cases x
      · rw [ha']
        exact (State.fall_otherSource _ _ hab.symm).trans (State.fall_source _ _ _)
      · rw [hb']
        exact State.fall_source _ _ _

theorem formSingle_reported : s.Reported s.formSingle := by
  have hfall : ∀ src, ∀ {u : State}, s.Reported u → s.Reported (u.fall .encoderSingle src) := fun src u h =>
    h.trans (u.fall_reported _ _)
  have hrise : ∀ src d, ∀ {u : State}, s.Reported u → s.Reported (u.alarmRise .encoderSingle src d) := fun src d u h =>
    h.trans (u.alarmRise_reported _ _ _)
  have hite : ∀ (b : Bool) {u v : State}, s.Reported u → s.Reported v → s.Reported (if b then u else v) := fun b u v hu hv => by
    cases b <;> assumption
  have h1 := hite (s.onlyLost .a) (.refl s) (hfall .first (.refl s))
  have h2 := hite (s.onlyLost .b) h1 (hfall .second h1)
  have h3 := hite (s.onlyLost .a) (hrise .first (some 0) h2) h2
  exact hite (s.onlyLost .b) (hrise .second (some 1) h3) h3

/-- ENCODER LOSS is absent, and is not formed, where no drive runs or one encoder is HEALTHY (R120). -/
theorem formEncoders_none {s : State} (h : s.bothLost = false ∨ s.seq.drive.running = false) :
    s.formEncoders = s.formSingle.fall .encoderLoss .first := by
  have hnow : s.formSingle.encoderLossNow = false := by
    rw [State.encoderLossNow_formSingle, State.encoderLossNow]
    rcases h with h | h <;> simp [h]
  rw [State.formEncoders, State.tripLevel, hnow]
  rfl

/-- What forming the conditions then leaves: reports of the conditions themselves. -/
theorem formEncoders_none_eqs {s : State} (h : s.bothLost = false ∨ s.seq.drive.running = false) :
    s.Reported s.formEncoders ∧ (∀ x, s.formEncoders.sourcePresent .encoderSingle (sourceOf x) = s.onlyLost x) ∧
    s.formEncoders.sourcePresent .encoderLoss .first = false ∧
    ∀ k, (s.formEncoders.faults.entry k).latched = (s.faults.entry k).latched := by
  rw [State.formEncoders_none h]
  refine ⟨s.formSingle_reported.trans (State.fall_reported _ _ _), fun x => ?_, State.fall_source _ _ _, fun k => ?_⟩
  · rw [← s.formSingle_source x, State.sourcePresent, State.fall_other _ _ (by decide)]
    rfl
  · exact (State.fall_latched_entry _ _ _ _).trans (s.formSingle_latched k.num)

end State

/-- The measurement unit once the line break of encoder x is taken (R5, R7, R9). -/
def MeasUnit.broken (m : MeasUnit) (p : PinionSet) (x : Side) : MeasUnit :=
  (({ m with encoders := m.encoders.set x { m.encoders.get x with lost := true, clearTime := 0, touched := true } } :
    MeasUnit).withN p).withInUse p

/-- LINE_BREAK_ACTIVE of an input that was clear. -/
theorem exec_lineBreakActive {s : State} {x : Side} (h : s.inputs.lineBreak.get x = false) :
    exec (.lineBreakActive x) s = .next (({ s with
      inputs := { s.inputs with lineBreak := s.inputs.lineBreak.set x true }
      meas := s.meas.broken s.cfg.pinion x } : State).reportPosition.formEncoders) := if_neg (by simp [h])

section
variable {m : MeasUnit} (p : PinionSet) (x : Side)

theorem MeasUnit.broken_eqs : (m.broken p x).links = m.links ∧ (m.broken p x).receivers = m.receivers ∧
    ∀ y, ((m.broken p x).encoders.get y).lost = if y = x then true else (m.encoders.get y).lost := by
  rw [MeasUnit.broken, MeasUnit.withInUse_eq]
  refine ⟨rfl, rfl, fun y => ?_⟩
  show ((MeasUnit.withN _ p).encoders.get y).lost = _
  rw [MeasUnit.withN_get, MeasUnit.follow_lost]
  split
  · next h => rw [h, Pair.get_set_same]
  · next h => rw [Pair.get_set_other _ _ h]

/-- The other encoder HEALTHY: it gives the speed and the position (R7, R9). -/
theorem MeasUnit.broken_other (ho : (m.encoders.get (otherSide x)).lost = false) :
    (m.broken p x).n = (m.encoders.get (otherSide x)).speed ∧
    (m.broken p x).encoders.get x = { m.encoders.get x with
      lost := true, clearTime := 0, touched := true, speed := (m.encoders.get (otherSide x)).speed } ∧
    (m.broken p x).encoders.get (otherSide x) = m.encoders.get (otherSide x) ∧
    (m.broken p x).shell = if m.shell.inUse = some (otherSide x) then m.shell
      else { m.shell with inUse := some (otherSide x), p := 0, reference := false, valid := false } := by
  have hne : otherSide x ≠ x := by cases x <;> decide
  set b : MeasUnit :=
    { m with encoders := m.encoders.set x { m.encoders.get x with lost := true, clearTime := 0, touched := true } } with hb
  have hx : b.encoders.get x = { m.encoders.get x with lost := true, clearTime := 0, touched := true } := Pair.get_set_same _ _ _
  have hother : b.encoders.get (otherSide x) = m.encoders.get (otherSide x) := Pair.get_set_other _ _ hne
  have hlost : (b.encoders.get x).lost = true := by rw [hx]
  have hhealthy : (b.encoders.get (otherSide x)).lost = false := by rw [hother, ho]
  have hn : b.formN p = (m.encoders.get (otherSide x)).speed := by rw [MeasUnit.formN_other p hlost hhealthy, hother]
  have hbroken : m.broken p x = (b.withN p).withInUse p := rfl
  rw [hbroken, MeasUnit.withInUse_eq, MeasUnit.withN_inUse, MeasUnit.inUse_other p hlost hhealthy]
  refine ⟨hn, ?_, ?_, rfl⟩
  · show (b.withN p).encoders.get x = _
    rw [MeasUnit.withN_get, Encoder.follow, if_pos hlost, hx, hn]
  · show (b.withN p).encoders.get (otherSide x) = _
    rw [MeasUnit.withN_get, Encoder.follow, if_neg (by simp [hhealthy]), hother]

/-- Both encoders LOST: the drive speed stays, and no encoder is in use (R7, R9). -/
theorem MeasUnit.broken_both (ho : (m.encoders.get (otherSide x)).lost = true) :
    (m.broken p x).n = m.n ∧
    (m.broken p x).encoders.get x = { m.encoders.get x with lost := true, clearTime := 0, touched := true, speed := m.n } ∧
    (m.broken p x).encoders.get (otherSide x) = { m.encoders.get (otherSide x) with speed := m.n } ∧
    (m.broken p x).shell = if m.shell.inUse = none then m.shell
      else { m.shell with inUse := none, p := 0, reference := false, valid := false } := by
  have hne : otherSide x ≠ x := by cases x <;> decide
  set b : MeasUnit :=
    { m with encoders := m.encoders.set x { m.encoders.get x with lost := true, clearTime := 0, touched := true } } with hb
  have hx : b.encoders.get x = { m.encoders.get x with lost := true, clearTime := 0, touched := true } := Pair.get_set_same _ _ _
  have hother : b.encoders.get (otherSide x) = m.encoders.get (otherSide x) := Pair.get_set_other _ _ hne
  have hlost : ∀ y, (b.encoders.get y).lost = true := Side.forall x (by rw [hx]) (by rw [hother, ho])
  have hn : b.formN p = m.n := MeasUnit.formN_lost p hlost
  have hbroken : m.broken p x = (b.withN p).withInUse p := rfl
  rw [hbroken, MeasUnit.withInUse_eq, MeasUnit.withN_inUse, MeasUnit.inUse_lost p hlost]
  refine ⟨hn, ?_, ?_, rfl⟩
  · show (b.withN p).encoders.get x = _
    rw [MeasUnit.withN_get, Encoder.follow, if_pos (hlost x), hx, hn]
  · show (b.withN p).encoders.get (otherSide x) = _
    rw [MeasUnit.withN_get, Encoder.follow, if_pos (hlost _), hother, hn]

end

theorem State.onlyLost_of_lost {s : State} (x : Side) (hx : (s.meas.encoders.get x).lost = true) :
    s.onlyLost x = !(s.meas.encoders.get (otherSide x)).lost ∧ s.onlyLost (otherSide x) = false := by
  cases x <;> simp_all [State.onlyLost, otherSide]

theorem State.bothLost_of_lost {s : State} (x : Side) (hx : (s.meas.encoders.get x).lost = true) :
    s.bothLost = (s.meas.encoders.get (otherSide x)).lost := by
  cases x <;> simp_all [State.bothLost, otherSide]

/-- Settles O46. -/
theorem lineBreakInput : Obligations.LineBreakInput := by
  intro s x
  dsimp only
  set u : State := { s with
    inputs := { s.inputs with lineBreak := s.inputs.lineBreak.set x true }, meas := s.meas.broken s.cfg.pinion x } with hu
  have hreported : u.Reported u.reportPosition := u.alarmLevel_reported _ _ _ _
  have hmeas : u.reportPosition.meas = s.meas.broken s.cfg.pinion x := by rw [hreported]
  obtain ⟨hlinks, hreceivers, hlosts⟩ := MeasUnit.broken_eqs (m := s.meas) s.cfg.pinion x
  have hlost : (u.reportPosition.meas.encoders.get x).lost = true := by rw [hmeas, hlosts, if_pos rfl]
  have hother : (u.reportPosition.meas.encoders.get (otherSide x)).lost = (s.meas.encoders.get (otherSide x)).lost := by
    rw [hmeas, hlosts, if_neg (by cases x <;> decide)]
  have hboth : u.reportPosition.bothLost = (s.meas.encoders.get (otherSide x)).lost := by rw [State.bothLost_of_lost x hlost, hother]
  obtain ⟨honly, honly'⟩ := State.onlyLost_of_lost x hlost
  rw [hother] at honly
  have hlatched : ∀ k : FaultKind, (u.reportPosition.faults.entry k).latched = (s.faults.entry k).latched :=
    fun k => u.alarmLevel_latched _ _ _ _ k.num
  refine ⟨fun h => if_pos h, fun h ho => ?_, fun h ho hrun hready ha => ?_, fun h ho hrun => ?_, ⟨_, rfl, rfl⟩⟩
  · obtain ⟨hn, hx, hox, hshell⟩ := MeasUnit.broken_other (m := s.meas) s.cfg.pinion x ho
    obtain ⟨hreported', hsingle, -, hlatched'⟩ := State.formEncoders_none_eqs (s := u.reportPosition) (.inl (by rw [hboth, ho]))
    have hall := hreported.trans hreported'
    have hmeas' : u.reportPosition.formEncoders.meas = s.meas.broken s.cfg.pinion x := by rw [hall]
    refine ⟨u.reportPosition.formEncoders, exec_lineBreakActive h, ?_, ?_, ?_, ?_, ?_, ?_, ?_, ?_, ?_,
      fun k => (hlatched' k).trans (hlatched k)⟩
    · rw [hmeas']
      exact hall
    · rw [hmeas', hx]
    · rw [hmeas', hox]
    · rw [hmeas', hn]
    · rw [hmeas', hshell]
    · rw [hmeas', hlinks]
    · rw [hmeas', hreceivers]
    · rw [hsingle, honly, ho]
      rfl
    · rw [hsingle, honly']
  · obtain ⟨hn, hx, -, hshell⟩ := MeasUnit.broken_both (m := s.meas) s.cfg.pinion x ho
    have hseq : u.reportPosition.seq = s.seq := by rw [hreported]
    have hready' : u.reportPosition.tripReady := by rw [hreported]; exact ⟨hready.1, hready.2.1,
      (u.alarmLevel_keeps .positionInvalid .first none _).1.trans hready.2.2.1, hready.2.2.2⟩
    have ha' : u.reportPosition.sourcePresent .encoderLoss .first = false :=
      (congrArg (·.source .first) (u.alarmLevel_other _ _ _ (by decide))).trans ha
    obtain ⟨htrip, habsent⟩ := State.formEncoders_tripped hready' (by rw [hseq, hrun]) (by rw [hboth, ho]) ha'
    obtain ⟨-, -, -, hmeas', -⟩ := State.formEncoders_calm u.reportPosition hready'.2.2.2
    rw [hmeas] at hmeas'
    refine ⟨u.reportPosition.formEncoders, exec_lineBreakActive h, ?_, ?_, habsent, ?_, ?_, ?_⟩
    · rw [(State.formEncoders_frame _).2, hreported]
    · exact htrip.of_same (by rw [hseq]) (by rw [hreported]) (by rw [hreported])
    · rw [hmeas', hn]
    · rw [hmeas', hshell]
      split
      · assumption
      · rfl
    · rw [hmeas', hx]
  · obtain ⟨hn, hx, hox, hshell⟩ := MeasUnit.broken_both (m := s.meas) s.cfg.pinion x ho
    have hrun' : u.reportPosition.seq.drive.running = false := by rw [hreported]; exact hrun
    obtain ⟨hreported', hsingle, habsent, hlatched'⟩ := State.formEncoders_none_eqs (s := u.reportPosition) (.inr hrun')
    have hall := hreported.trans hreported'
    have hmeas' : u.reportPosition.formEncoders.meas = s.meas.broken s.cfg.pinion x := by rw [hall]
    refine ⟨u.reportPosition.formEncoders, exec_lineBreakActive h, ?_, ?_, ?_, ?_, ?_, ?_, ?_, ?_, habsent,
      fun k => (hlatched' k).trans (hlatched k)⟩
    · rw [hmeas']
      exact hall
    · rw [hmeas', hx]
    · rw [hmeas', hox]
    · rw [hmeas', hn]
    · rw [hmeas', hshell]
    · rw [hmeas', hlinks]
    · rw [hmeas', hreceivers]
    · refine Side.forall x ?_ ?_
      · rw [hsingle, honly, ho]
        rfl
      · rw [hsingle, honly']

end Sys2Proof.Machine
end

section
/-! The speed window update, ENCODER DISAGREE and the shell position (R5 to R12, R121). -/

namespace Sys2Proof.Machine

/-- What makes a state ready for a first cause: its sequencer and its lock. -/
theorem State.tripReady.of_same {s t : State} (h : s.tripReady) (hseq : t.seq = s.seq) (hlock : t.faults.lock = s.faults.lock) :
    t.tripReady := by rwa [State.tripReady, hseq, hlock]

/-! ### What trips leave of angles and of the disagree count -/

namespace State
variable (s : State)

theorem ungated_angle (x : Side) : (s.ungated x).angle = (s.regs.get x).angle := by
  unfold State.ungated
  split <;> rfl

theorem firstCause_angles (k : FaultKind) (d : Option Nat) (hr : s.seq.restartPending = false) :
    (s.firstCause k d).regs.map Regulator.angle = s.regs.map Regulator.angle := by
  rw [State.firstCause_regs _ _ _ hr]
  exact Pair.ext_get fun x => by rw [Pair.get_map, Pair.get_map, Pair.get_ofFn, State.ungated_angle]

theorem tripCause_angles (k : FaultKind) (d : Option Nat) (hr : s.seq.restartPending = false) :
    (s.tripCause k d).regs.map Regulator.angle = s.regs.map Regulator.angle := by
  unfold State.tripCause State.followOnCause
  split
  · rfl
  · split
    · split <;> rfl
    · rw [(State.closeIfZero_frame _).2.2.2.2.2.2.1, State.firstCause_angles _ _ _ hr]

theorem tripPulse_angles (k : FaultKind) (hr : s.seq.restartPending = false) :
    (s.tripPulse k).regs.map Regulator.angle = s.regs.map Regulator.angle := by
  rw [State.tripPulse, (s.tripRise k .first).fall_eq]
  unfold State.tripRise
  split
  · rfl
  · exact (State.tripCause_angles _ _ _ (by simpa using hr)).trans (by simp)

theorem disagreeTest_angles (hr : s.seq.restartPending = false) :
    s.disagreeTest.regs.map Regulator.angle = s.regs.map Regulator.angle := by
  unfold State.disagreeTest
  split
  · exact State.tripPulse_angles _ _ hr
  · rfl

theorem disagreeFound_off {s : State} (h : s.cfg.disagreeLimit = 0) : s.disagreeFound = false := by
  simp [State.disagreeFound, State.disagreeApplies, h]

theorem tripRise_disagree {k : FaultKind} {src : Source} (h : s.tripReady) (ha : s.sourcePresent k src = false) :
    (s.tripRise k src).level.disagree = s.level.disagree := by
  have hcalm : ((s.latchRise k src none).setFaults { (s.latchRise k src none).faults with lock := true }).seq.restartPending = false := by
    simpa using h.2.2.2
  rw [s.tripRise_first h ha, (State.closeIfZero_frame _).2.2.2.2.2.2.2.2, State.firstCause, State.enterTripped,
    State.pendingRestart_calm _ (by simpa [Sequencer.tripped] using hcalm)]
  simp [State.restEntry, State.encodersAtRest, State.levelAtRest]

/-- Forming the encoder conditions changes entries of theirs and of what an entry into TRIPPED reports. -/
theorem formEncoders_entry {j : FaultKind} (h : j.ofRest = false) (hr : s.seq.restartPending = false) :
    s.formEncoders.faults.entry j = s.faults.entry j := by
  have hne := fun k => FaultKind.ne_ofRest (k := k) h
  unfold State.formEncoders State.tripLevel
  dsimp only
  split
  · rw [State.tripRise_entry _ h _ _ (by simpa using hr), State.latchRise_other _ _ _ (hne _ rfl), State.formSingle_other _ (hne _ rfl)]
  · rw [State.fall_other _ _ (hne _ rfl), State.formSingle_other _ (hne _ rfl)]

theorem disagreeTest_entry {j : FaultKind} (h : j.ofRest = false) (hne : j ≠ .encoderDisagree) (hr : s.seq.restartPending = false) :
    s.disagreeTest.faults.entry j = s.faults.entry j := by
  unfold State.disagreeTest State.tripPulse
  split
  · rw [State.fall_other _ _ hne, State.tripRise_entry _ h _ _ (by exact hr), State.latchRise_other _ _ _ hne]
    rfl
  · rfl

end State

/-! ### The measurement unit at an update (R5, R6, R9, R10, R12) -/

/-- The encoders stepped by an update, before the drive speed is formed (R5, R6). -/
def MeasUnit.stepped (m : MeasUnit) (c : DriveSettings) (lineBreak : Pair Bool) : MeasUnit :=
  { m with encoders := Pair.ofFn fun x => (m.encoders.get x).update (lineBreak.get x) c.countsPerRev }

theorem MeasUnit.inUse_eq (m : MeasUnit) (p : PinionSet) : m.inUse p =
    if (m.encoders.get .a).lost = true then (if (m.encoders.get .b).lost = true then none else some .b)
    else if (m.encoders.get .b).lost = true then some .a else if p = .bOnly then some .b else some .a := by
  rw [Pair.get_a, Pair.get_b, MeasUnit.inUse]
  cases m.encoders.a.lost <;> cases m.encoders.b.lost <;> cases p <;> rfl

section
variable (m : MeasUnit) (c : DriveSettings) (lineBreak : Pair Bool)

theorem MeasUnit.stepped_get (x : Side) : (m.stepped c lineBreak).encoders.get x =
    (m.encoders.get x).update (lineBreak.get x) c.countsPerRev := Pair.get_ofFn _ x

theorem MeasUnit.update_eqs :
    (m.update c lineBreak).links = m.links ∧ (m.update c lineBreak).receivers = m.receivers ∧
    (m.update c lineBreak).n = (m.stepped c lineBreak).formN c.pinion ∧
    (∀ x, (m.update c lineBreak).encoders.get x =
      ((m.encoders.get x).update (lineBreak.get x) c.countsPerRev).follow (m.update c lineBreak).n) ∧
    (m.update c lineBreak).shell = ((if m.shell.inUse = (m.stepped c lineBreak).inUse c.pinion then m.shell
      else { m.shell with inUse := (m.stepped c lineBreak).inUse c.pinion, p := 0, reference := false, valid := false }).testFar
        c.countsPerShell).form c.countsPerShell := by
  have hupdate : m.update c lineBreak = { ((m.stepped c lineBreak).withN c.pinion).withInUse c.pinion with
      shell := ((((m.stepped c lineBreak).withN c.pinion).withInUse c.pinion).shell.testFar c.countsPerShell).form c.countsPerShell } :=
    rfl
  rw [hupdate, MeasUnit.withInUse_eq, MeasUnit.withN_inUse]
  refine ⟨rfl, rfl, rfl, fun x => ?_, rfl⟩
  show ((m.stepped c lineBreak).withN c.pinion).encoders.get x = _
  rw [MeasUnit.withN_get, MeasUnit.stepped_get]
  rfl

/-- Whether an encoder is LOST after an update is decided by the encoder's own step (R5). -/
theorem MeasUnit.update_lost (x : Side) : ((m.update c lineBreak).encoders.get x).lost =
    ((m.stepped c lineBreak).encoders.get x).lost := by
  rw [(m.update_eqs c lineBreak).2.2.2.1, MeasUnit.follow_lost, MeasUnit.stepped_get]

theorem MeasUnit.update_inUse : (m.update c lineBreak).inUse c.pinion = (m.stepped c lineBreak).inUse c.pinion := by
  rw [MeasUnit.inUse_eq, MeasUnit.inUse_eq, MeasUnit.update_lost, MeasUnit.update_lost]

end

/-- An encoder after steps 1 to 4 of R6: its window, the saved count and the speed that the window gives. -/
def Encoder.windowed (counts : Int) (e : Encoder) : Encoder :=
  let w := (e.count - e.saved).toInt :: e.window.dropLast
  { e with window := w, saved := e.count, speed := clampAbs 20000 (truncDiv (w.foldl (· + ·) 0 * 600000) (counts * 8)) }

/-- A HEALTHY encoder with a clear line-break input at an update (R6). -/
theorem Encoder.update_healthy {e : Encoder} (counts : Int) (hlost : e.lost = false) (htouched : e.touched = false)
    (hzero : e.speedZeroNext = false) : e.update false counts = e.windowed counts := by
  simp [Encoder.windowed, Encoder.update, Encoder.shift, Encoder.stepHealth, Encoder.stepSpeed, Encoder.sum, hlost, htouched, hzero]

/-- A LOST encoder with a clear line-break input at its hundredth clear update (R5). -/
theorem Encoder.update_healed {e : Encoder} (counts : Int) (hlost : e.lost = true) (htouched : e.touched = false)
    (hclear : 99 ≤ e.clearTime) : (e.update false counts).lost = false ∧ (e.update false counts).clearTime = 100 ∧
    (e.update false counts).saved = e.count := by
  simp [Encoder.update, Encoder.shift, Encoder.stepHealth, Encoder.stepSpeed, hlost, htouched, hclear]

theorem Encoder.update_clearing {e : Encoder} (counts : Int) (hlost : e.lost = true) (htouched : e.touched = false)
    (hclear : e.clearTime < 99) : (e.update false counts).lost = true ∧ (e.update false counts).clearTime = e.clearTime + 1 := by
  have hnot : ¬99 ≤ e.clearTime := by omega
  simp [Encoder.update, Encoder.shift, Encoder.stepHealth, Encoder.stepSpeed, hlost, htouched, hnot]

/-- The position formed and the 105 % test of an update (R10, R12). -/
theorem Shell.formed (h : Shell) (c : Int) :
    (c * 105 / 100 < |dwordInt h.p| → (h.testFar c).form c = { h with valid := false }) ∧
    (|dwordInt h.p| ≤ c * 105 / 100 → h.valid = false → (h.testFar c).form c = h) ∧
    (|dwordInt h.p| ≤ c * 105 / 100 → h.valid = true → (h.testFar c).form c =
      { h with position := positionOf (dwordInt h.p) c, sector := positionOf (dwordInt h.p) c / 1024 }) := by
  refine ⟨fun hfar => ?_, fun hnear hvalid => ?_, fun hnear hvalid => ?_⟩
  · simp [Shell.testFar, Shell.form, hfar]
  · simp [Shell.testFar, Shell.form, hvalid, Int.not_lt.mpr hnear]
  · simp [Shell.testFar, Shell.form, hvalid, Int.not_lt.mpr hnear]

/-! ### The update (R6, R120, R121) -/

namespace State
variable {s : State}

theorem measured_reported : s.measured.Reported s.measured.reportPosition := State.alarmLevel_reported _ _ _ _ _

/-- An update with no restart pending. -/
theorem speedUpdate_calm_eq (hr : s.seq.restartPending = false) :
    s.speedUpdate = s.measured.reportPosition.formEncoders.disagreeTest := by
  have hcalm : s.measured.reportPosition.seq.restartPending = false := by rw [State.measured_reported]; exact hr
  obtain ⟨-, hresets, -⟩ := State.formEncoders_calm _ hcalm
  exact State.unlessReset_kept _ (by rw [hresets, State.measured_reported]; rfl)

/-- An update that leaves an encoder HEALTHY, or no drive running: no trip comes of the encoder conditions. -/
theorem formed_reported (h : s.measured.bothLost = false ∨ s.seq.drive.running = false) :
    s.measured.Reported s.measured.reportPosition.formEncoders := by
  refine State.measured_reported.trans (State.formEncoders_none_eqs ?_).1
  rwa [State.measured_reported]

theorem speedUpdate_known_eq (h : s.measured.bothLost = false ∨ s.seq.drive.running = false) :
    s.speedUpdate = s.measured.reportPosition.formEncoders.disagreeTest :=
  State.unlessReset_kept _ (by rw [State.formed_reported h]; rfl)

/-- What an update leaves of the units that it does not form, no restart pending. -/
theorem speedUpdate_eqs (hr : s.seq.restartPending = false) :
    s.speedUpdate.meas = s.meas.update s.cfg s.inputs.lineBreak ∧ s.speedUpdate.watch = s.watch ∧
    s.speedUpdate.drive = s.drive ∧ s.speedUpdate.inputs = s.inputs := by
  have hcalm : s.measured.reportPosition.seq.restartPending = false := by rw [State.measured_reported]; exact hr
  obtain ⟨hr', -, -, hmeas, -⟩ := State.formEncoders_calm _ hcalm
  obtain ⟨-, -, -, hmeas', -⟩ := State.disagreeTest_calm _ hr'
  obtain ⟨-, -, hdrive, hwatch⟩ := s.speedUpdate_calm hr
  refine ⟨?_, hwatch, hdrive, s.speedUpdate_frame.2⟩
  rw [State.speedUpdate_calm_eq hr, hmeas', hmeas, State.measured_reported]
  rfl

/-- POSITION INVALID after an update (R12). -/
theorem speedUpdate_position (hr : s.seq.restartPending = false) :
    s.speedUpdate.sourcePresent .positionInvalid .first = (s.meas.update s.cfg s.inputs.lineBreak).shell.invalidCond := by
  have hcalm : s.measured.reportPosition.seq.restartPending = false := by rw [State.measured_reported]; exact hr
  obtain ⟨hr', -⟩ := State.formEncoders_calm _ hcalm
  rw [State.speedUpdate_calm_eq hr, State.sourcePresent, State.disagreeTest_entry _ rfl (by decide) hr',
    State.formEncoders_entry _ rfl hcalm]
  exact State.alarmLevel_source _ _ _ _ _

theorem healthyReached_iff (x : Side) : s.healthyReached x = true ↔ (s.meas.encoders.get x).lost = true ∧
    (s.meas.encoders.get x).touched = false ∧ s.inputs.lineBreak.get x = false ∧ 99 ≤ (s.meas.encoders.get x).clearTime := by
  simp [State.healthyReached, and_assoc]

end State

theorem clampAbs_eq (k x : Int) : clampAbs k x = if x < -k then -k else if k < x then k else x := rfl

/-- Settles O47. -/
theorem speedWindowUpdateRule : Obligations.SpeedWindowUpdateRule := by
  refine ⟨fun s hbreak hhealthy hr => ?_, fun s hr => ⟨s.speedUpdate, rfl, ?_⟩, fun s x hlost htouched hbreak hr => ⟨fun h99 => ?_, fun h99 => ?_⟩⟩
  · obtain ⟨hmeas, hwatch, hdrive, hinputs⟩ := State.speedUpdate_eqs hr
    obtain ⟨hlinks, hreceivers, hn, hget, -⟩ := s.meas.update_eqs s.cfg s.inputs.lineBreak
    have hclear : ∀ x, s.inputs.lineBreak.get x = false := fun x => by rw [hbreak]; cases x <;> rfl
    have hupdate : ∀ x, (s.meas.encoders.get x).update (s.inputs.lineBreak.get x) s.cfg.countsPerRev =
        (s.meas.encoders.get x).windowed s.cfg.countsPerRev := fun x => by
      obtain ⟨h1, h2, h3⟩ := hhealthy x
      rw [hclear x]
      exact Encoder.update_healthy s.cfg.countsPerRev h1 h2 h3
    have hget' : ∀ x, (s.meas.update s.cfg s.inputs.lineBreak).encoders.get x =
        (s.meas.encoders.get x).windowed s.cfg.countsPerRev := fun x => by
      rw [hget, hupdate x, Encoder.follow, if_neg (by simp [Encoder.windowed, (hhealthy x).1])]
    have hhealthy' : ∀ x, ((s.meas.update s.cfg s.inputs.lineBreak).encoders.get x).lost = false := fun x => by
      rw [hget' x]
      exact (hhealthy x).1
    have hboth : s.measured.bothLost = false := by
      have ha := hhealthy' .a
      exact Bool.and_eq_false_iff.mpr (.inl ha)
    have hformed := State.formed_reported (s := s) (.inl hboth)
    have hr' : s.measured.reportPosition.formEncoders.seq.restartPending = false := by rw [hformed]; exact hr
    refine ⟨s.speedUpdate, rfl, fun x => ?_, ?_, ?_, ?_, ?_, hwatch, hdrive, hinputs, fun h0 => ?_⟩
    · rw [hmeas, hget' x]
      rfl
    · have hlost := fun x => (s.meas.update_lost s.cfg s.inputs.lineBreak x).symm.trans (hhealthy' x)
      have hspeed : ∀ x, ((s.meas.stepped s.cfg s.inputs.lineBreak).encoders.get x).speed =
          ((s.meas.update s.cfg s.inputs.lineBreak).encoders.get x).speed := fun x => by
        rw [MeasUnit.stepped_get, hget' x, hupdate x]
      have hla := hlost .a
      have hlb := hlost .b
      have hsa := hspeed .a
      have hsb := hspeed .b
      rw [Pair.get_a] at hla hsa
      rw [Pair.get_b] at hlb hsb
      rw [hmeas, hn]
      cases s.cfg.pinion <;> simp only [MeasUnit.formN, hla, hlb, hsa, hsb]
    · rw [hmeas, hlinks]
    · rw [hmeas, hreceivers]
    · rw [State.speedUpdate_known_eq (.inl hboth), State.disagreeTest_angles _ hr', hformed]
      rfl
    · have hnone : s.measured.reportPosition.formEncoders.disagreeFound = false := State.disagreeFound_off (by rw [hformed]; exact h0)
      rw [State.speedUpdate_known_eq (.inl hboth), State.disagreeTest, hnone]
      rw [hformed]
      rfl
  · obtain ⟨hmeas, -⟩ := State.speedUpdate_eqs hr
    obtain ⟨-, -, -, -, hshell⟩ := s.meas.update_eqs s.cfg s.inputs.lineBreak
    dsimp only
    rw [hmeas, ← MeasUnit.inUse_eq, MeasUnit.update_inUse, hshell]
    obtain ⟨hfar, hinvalid, hvalid⟩ := Shell.formed (if s.meas.shell.inUse = (s.meas.stepped s.cfg s.inputs.lineBreak).inUse s.cfg.pinion
      then s.meas.shell else { s.meas.shell with
        inUse := (s.meas.stepped s.cfg s.inputs.lineBreak).inUse s.cfg.pinion, p := 0, reference := false, valid := false })
      s.cfg.countsPerShell
    refine ⟨hfar, hinvalid, hvalid, ?_⟩
    rw [State.speedUpdate_position hr, hshell, Shell.invalidCond, Bool.and_comm]
  · obtain ⟨hmeas, -⟩ := State.speedUpdate_eqs hr
    obtain ⟨hlost', hclear', hsaved⟩ := Encoder.update_healed s.cfg.countsPerRev hlost htouched h99.ge
    have hget := (s.meas.update_eqs s.cfg s.inputs.lineBreak).2.2.2.1 x
    rw [hbreak, Encoder.follow, if_neg (by simp [hlost'])] at hget
    refine ⟨s.speedUpdate, congrArg _ (if_pos ((State.healthyReached_iff x).mpr ⟨hlost, htouched, hbreak, h99.ge⟩)), rfl, ?_⟩
    rw [hmeas, hget]
    exact ⟨hlost', hclear', hsaved⟩
  · obtain ⟨hmeas, -⟩ := State.speedUpdate_eqs hr
    obtain ⟨hlost', hclear'⟩ := Encoder.update_clearing s.cfg.countsPerRev hlost htouched h99
    have hget := (s.meas.update_eqs s.cfg s.inputs.lineBreak).2.2.2.1 x
    rw [hbreak, Encoder.follow, if_pos hlost'] at hget
    refine ⟨s.speedUpdate, rfl, ?_, ?_, ?_, congrArg _ (if_neg fun h => ?_)⟩
    · rw [hmeas, hget]
      exact hlost'
    · rw [hmeas, hget]
      exact hclear'
    · rw [hmeas, hget]
    · have := ((State.healthyReached_iff x).mp h).2.2.2
      omega

/-! ### ENCODER DISAGREE (R121) -/

/-- Both encoders HEALTHY after this update, both pinions used, in a governed state, with a limit: the test applies. -/
theorem State.disagreeApplies_iff (s : State) : s.disagreeApplies = true ↔ s.cfg.disagreeLimit ≠ 0 ∧
    s.meas.encoders.a.lost = false ∧ s.meas.encoders.b.lost = false ∧ s.cfg.pinion = .both ∧ s.seq.drive.governed = true := by
  simp [State.disagreeApplies, and_assoc]

/-- Settles O48. -/
theorem encoderDisagreeTrips : Obligations.EncoderDisagreeTrips := by
  intro s
  dsimp only
  set m := s.meas.update s.cfg s.inputs.lineBreak with hm
  intro hlimit ha hb hpinion hdrive
  have hgoverned : s.seq.drive.governed = true := by rcases hdrive with h | h | h <;> rw [h] <;> rfl
  have hformed := State.formed_reported (s := s) (.inl (Bool.and_eq_false_iff.mpr (.inl ha)))
  set u := s.measured.reportPosition.formEncoders with hu
  have heq : s.speedUpdate = u.disagreeTest := State.speedUpdate_known_eq (.inl (Bool.and_eq_false_iff.mpr (.inl ha)))
  have happlies : s.measured.disagreeApplies = true :=
    (State.disagreeApplies_iff _).mpr ⟨hlimit, ha, hb, hpinion, hgoverned⟩
  have hcount : s.measured.disagreeCount =
      if s.cfg.disagreeLimit < |(m.encoders.a.speed - m.encoders.b.speed)| then s.level.disagree + 1 else 0 := by
    rw [State.disagreeCount, happlies, Bool.true_and]
    exact if_congr decide_eq_true_iff rfl rfl
  have hfound : s.measured.disagreeFound = decide (s.cfg.disagreeTime ≤ s.measured.disagreeCount) := by
    rw [State.disagreeFound, happlies, Bool.true_and]
    rfl
  have hfound' : u.disagreeFound = s.measured.disagreeFound := by rw [hformed]; rfl
  have hcount' : u.disagreeCount = s.measured.disagreeCount := by rw [hformed]; rfl
  have hstays : s.measured.disagreeFound = false → s.speedUpdate = u.setLevel { u.level with disagree := s.measured.disagreeCount } :=
    fun h => by rw [heq, State.disagreeTest, hfound', h, hcount']; rfl
  have hseq : u.seq = s.seq := by rw [hformed]; rfl
  have hlock : u.faults.lock = s.faults.lock := by
    obtain ⟨-, -, -, -, -, -, hlock, -⟩ := State.formEncoders_known_eqs (s := s.measured.reportPosition) fun h => by
      rw [State.measured_reported] at h
      exact absurd ha (by simp_all [State.bothLost, State.measured])
    exact hlock.trans (State.reportPosition_keeps _).1
  have hexec : ∀ {t : State}, s.speedUpdate = t → exec .speedWindowUpdate s = .next t := fun h => congrArg Host.Outcome.next h
  refine ⟨fun hfar htime hready habs => ?_, fun hfar htime => ?_, fun hnear htime => ?_⟩
  · have hfound1 : s.measured.disagreeFound = true := by
      rw [hfound, hcount, if_pos hfar]
      exact decide_eq_true htime
    set v := u.setLevel { u.level with disagree := 0 } with hv
    have htest : u.disagreeTest = v.tripPulse .encoderDisagree := by rw [State.disagreeTest, hfound', hfound1]; rfl
    have hv' : v.tripReady := hready.of_same hseq hlock
    have habs' : v.sourcePresent .encoderDisagree .first = false := by
      have hr : s.measured.reportPosition.seq.restartPending = false := by rw [State.measured_reported]; exact hready.2.2.2
      have hentry : v.faults.entry .encoderDisagree = s.faults.entry .encoderDisagree :=
        (State.formEncoders_entry _ rfl hr).trans (State.alarmLevel_other _ _ _ _ (by decide))
      rw [State.sourcePresent, hentry]
      exact habs
    obtain ⟨-, -, -, hmeas, -⟩ := v.tripPulse_calm .encoderDisagree hv'.2.2.2
    refine ⟨v.tripPulse .encoderDisagree, (congrArg Host.Outcome.next ((if_pos hfound1).trans (heq.trans htest))),
      hexec (heq.trans htest), ?_, v.tripPulse_absent _, ?_, ?_⟩
    · refine (v.tripPulse_tripped _ hv' habs').of_same (congrArg Sequencer.afterTrip hseq) ?_ ?_
      · rw [hv, State.setLevel_drive, hformed]
        rfl
      · rw [hv, State.setLevel_pending, hformed]
        rfl
    · rw [State.tripPulse, (State.fall_frame _ _ _).2.2.2.2.2.2.2.2.1, v.tripRise_disagree hv' habs']
      rfl
    · rw [hmeas, hv, State.setLevel_meas, hformed]
      rfl
  · have hnone : s.measured.disagreeFound = false := by
      rw [hfound, hcount, if_pos hfar]
      exact decide_eq_false (by omega)
    refine ⟨_, hexec (hstays hnone), ?_, hseq⟩
    rw [hcount, if_pos hfar]
    rfl
  · have hnone : s.measured.disagreeFound = false := by
      rw [hfound, hcount, if_neg (by omega)]
      exact decide_eq_false (by omega)
    refine ⟨_, hexec (hstays hnone), ?_, hseq⟩
    rw [hcount, if_neg (by omega)]
    rfl

end Sys2Proof.Machine
end

section
/-! SHELL MARKER, the sector map image and the ends of sensor frames (R10 to R12, R14 to R18, R101). -/

namespace Sys2Proof.Machine

/-! ### The sector map image (R101, R185) -/

theorem Watch.mapWords_length (w : Watch) (c : Channel) : (w.mapWords c).length = 66 := by
  unfold Watch.mapWords
  split
  · simp
  · exact List.length_replicate

theorem Watch.mapWords_fitted {w : Watch} {c : Channel} (h : w.fitted c = true) (hmap : (vget w.channels c).map.length = 64) :
    w.mapWords c = (vget w.channels c).map.map natWord ++
      [natWord (vget w.channels c).worstSector, natWord (vget w.channels c).worstValue] := by
  have hpad : padWords 64 ((vget w.channels c).map.map natWord) = (vget w.channels c).map.map natWord := by
    rw [padWords, List.take_left' (by rw [List.length_map, hmap])]
  rw [Watch.mapWords, if_pos h, hpad]

theorem Watch.mapWords_unfitted {w : Watch} {c : Channel} (h : w.fitted c = false) : w.mapWords c = List.replicate 66 0 :=
  if_neg (by simp [h])

namespace State
variable (s : State)

theorem rewriteMap_eq : s.rewriteMap = { s with
    watch := { s.watch with imageCount := s.watch.imageCount + 2 }, mem := s.rewriteMap.mem } := rfl

theorem rewriteMap_holds : s.rewriteMap.mem.Holds mapImageAddr ((s.watch.imageCount + 2) :: allChannels.flatMap s.watch.mapWords) :=
  Memory.holds_writeWords _ _ _

theorem rewriteMap_count : s.rewriteMap.mem.readWord mapImageAddr = s.watch.imageCount + 2 :=
  ((Memory.holds_cons _ _).mp s.rewriteMap_holds).1

theorem rewriteMap_channel (c : Channel) :
    s.rewriteMap.mem.readWords (mapImageAddr + 2 + 132 * c.val) 66 = s.watch.mapWords c := by
  have hchannel : allChannels[c.val]? = some c := by
    revert c
    decide
  have hblock := Memory.Holds.block s.watch.mapWords_length ((Memory.holds_cons _ _).mp s.rewriteMap_holds).2 c.val c hchannel
  exact hblock.words rfl (s.watch.mapWords_length c).symm

theorem mapImage_length : ((s.watch.imageCount + 2) :: allChannels.flatMap s.watch.mapWords).length = 397 := by
  have hblocks : (allChannels.flatMap s.watch.mapWords).length = (allChannels.map fun _ => 66).sum := by
    rw [List.length_flatMap]
    exact congrArg List.sum (List.map_congr_left fun c _ => s.watch.mapWords_length c)
  rw [List.length_cons, hblocks]
  rfl

theorem rewriteMap_read {a : Nat} (h : ¬(mapImageAddr ≤ a ∧ a < mapImageAddr + 794)) : s.rewriteMap.mem.read a = s.mem.read a :=
  Memory.read_writeWords_outside _ _ _ _ (by rw [s.mapImage_length]; omega)

end State

/-! ### SHELL MARKER (R11) -/

theorem positionOf_zero (c : Int) : positionOf 0 c = 0 := by simp [positionOf]

theorem Shell.form_zero {h : Shell} (c : Int) (hp : h.p = 0) :
    h.form c = if h.valid then { h with position := 0, sector := 0 } else h := by
  have hzero : dwordInt h.p = 0 := by rw [hp]; rfl
  rw [Shell.form, hzero, positionOf_zero]

/-- The four cases of R11, with the position formed again (R10). -/
theorem Shell.marker_form (h : Shell) (c : Int) :
    (h.reference = false → (h.marker c).form c =
      { h with reference := true, p := 0, valid := true, onceValid := true, position := 0, sector := 0 }) ∧
    (h.reference = true → |dwordInt h.p| < c / 2 → (h.marker c).form c =
      if h.valid then { h with p := 0, position := 0, sector := 0 } else { h with p := 0 }) ∧
    (h.reference = true → c / 2 ≤ |dwordInt h.p| → (h.marker c).form c = { h with
      p := 0, valid := true, onceValid := true, slip := slipAt (dwordInt h.p) c, position := 0, sector := 0 }) := by
  refine ⟨fun href => ?_, fun href hnear => ?_, fun href hfar => ?_⟩
  · have hmarker : h.marker c = { h with reference := true, p := 0, valid := true, onceValid := true } := if_pos (by simp [href])
    rw [hmarker, Shell.form_zero c rfl]
    rfl
  · have hmarker : h.marker c = { h with p := 0 } := (if_neg (by simp [href])).trans (if_pos hnear)
    rw [hmarker, Shell.form_zero c rfl]
  · have hmarker : h.marker c = { h with p := 0, valid := true, onceValid := true, slip := slipAt (dwordInt h.p) c } :=
      (if_neg (by simp [href])).trans (if_neg (Int.not_lt.mpr hfar))
    rw [hmarker, Shell.form_zero c rfl]
    rfl

/-- The state at the reports of a marker. -/
def State.marked (s : State) : State :=
  s.setMeas { s.meas with shell := (s.meas.shell.marker s.cfg.countsPerShell).form s.cfg.countsPerShell }

theorem exec_shellMarker {s : State} (h : s.meas.shell.inUse ≠ none) : exec .shellMarker s =
    .next (s.marked.alarmLevel .markerSlip .first none s.marked.meas.shell.slip).reportPosition.rewriteMap := by
  have hmarked : execShellMarker s =
      .next (s.marked.alarmLevel .markerSlip .first none s.marked.meas.shell.slip).reportPosition.rewriteMap := by
    unfold execShellMarker
    split
    · next hnone => exact absurd hnone h
    · rfl
  exact hmarked

/-- Settles O49. -/
theorem shellMarkerCases : Obligations.ShellMarkerCases := by
  intro s
  dsimp only
  refine ⟨fun h => ?_, fun h => ?_⟩
  · have hexec : execShellMarker s = .next s := by
      unfold execShellMarker
      rw [h]
    exact hexec
  obtain ⟨hfirst, hnear, hfar⟩ := s.meas.shell.marker_form s.cfg.countsPerShell
  set h' := (s.meas.shell.marker s.cfg.countsPerShell).form s.cfg.countsPerShell with hh'
  set u := s.marked.alarmLevel .markerSlip .first none h'.slip with hu
  have hreported : s.marked.Reported u.reportPosition :=
    (s.marked.alarmLevel_reported _ _ _ _).trans (u.alarmLevel_reported _ _ _ _)
  have hwatch : u.reportPosition.watch = s.watch := by rw [hreported]; rfl
  have hmem : u.reportPosition.mem = s.mem := by rw [hreported]; rfl
  have hshell : u.reportPosition.rewriteMap.meas.shell = h' := by rw [u.reportPosition.rewriteMap_eq, hreported]; rfl
  have hslip : u.reportPosition.rewriteMap.sourcePresent .markerSlip .first = h'.slip := by
    have hentry : u.reportPosition.faults.entry .markerSlip = u.faults.entry .markerSlip := u.alarmLevel_other _ _ _ (by decide)
    rw [State.sourcePresent, u.reportPosition.rewriteMap_eq]
    exact (congrArg (·.source .first) hentry).trans (s.marked.alarmLevel_source _ _ _ _)
  have hposition : u.reportPosition.rewriteMap.sourcePresent .positionInvalid .first = h'.invalidCond := by
    have hmeas : u.meas.shell = h' := by rw [hu, s.marked.alarmLevel_reported .markerSlip .first none h'.slip]; rfl
    rw [← hmeas]
    exact u.alarmLevel_source _ _ _ _
  have hzero : h'.inUse = s.meas.shell.inUse ∧ h'.p = 0 ∧ h'.invalidCond = (s.meas.shell.onceValid && !h'.valid) := by
    cases href : s.meas.shell.reference
    · rw [hfirst href]
      simp [Shell.invalidCond]
    by_cases hp : |dwordInt s.meas.shell.p| < s.cfg.countsPerShell / 2
    · rw [hnear href hp]
      cases s.meas.shell.valid <;> simp [Shell.invalidCond]
    · rw [hfar href (Int.not_lt.mp hp)]
      simp [Shell.invalidCond]
  obtain ⟨hinUse, hp0, hinvalid⟩ := hzero
  refine ⟨u.reportPosition.rewriteMap, exec_shellMarker h, ?_, ?_⟩
  · rw [hshell]
    rw [u.reportPosition.rewriteMap_eq]
    rw [hreported]
    rfl
  rw [hshell, hslip, hposition]
  refine ⟨hinUse, hp0, fun href => ?_, fun href hp => ?_, fun href hp => ?_, rfl, hinvalid, fun hc => ?_, ?_, fun ch hfit hmap => ?_, fun ch hfit => ?_,
    fun a ha => ?_⟩
  · rw [hfirst href]
    exact ⟨rfl, rfl, rfl, rfl, rfl, rfl⟩
  · rw [hnear href hp]
    cases s.meas.shell.valid <;> simp [href]
  · rw [hfar href hp]
    exact ⟨href, rfl, rfl, rfl, rfl, rfl⟩
  · cases href : s.meas.shell.reference
    · rw [hfirst href]
      rfl
    · rw [hfar href (hc.resolve_left (by simp [href]))]
      rfl
  · rw [State.rewriteMap_count, hwatch]
  · rw [State.rewriteMap_channel, hwatch, Watch.mapWords_fitted hfit hmap]
    rfl
  · rw [State.rewriteMap_channel, hwatch, Watch.mapWords_unfitted hfit]
  · rw [State.rewriteMap_read _ ha, hmem]

/-! ### Sensor frames (R14, R15, R18) -/

theorem onesBelow_eq (w : Word) (k : Nat) : onesBelow w k = (List.range k).countP fun i => w.getLsbD i := by
  induction k with
  | zero => rfl
  | succ k ih =>
    rw [onesBelow, ih, List.range_succ, List.countP_append]
    cases h : w.getLsbD k <;> simp [h]

/-- The number of ones among data, status and parity (R15). -/
def sensorOnes (f : SensorFrame) : Nat :=
  (List.range 16).countP (fun i => f.data.getLsbD i) + (if f.okBit then 1 else 0) + (if f.overloadBit then 1 else 0) +
    (if f.parity then 1 else 0)

theorem parityErrorOf_eq (f : SensorFrame) : parityErrorOf f = decide (sensorOnes f % 2 = 1) := by
  rw [parityErrorOf, onesBelow_eq]
  rfl

section
variable {s : State} (c : Channel) (r : Receiver)

theorem State.setReceiver_eq : s.setReceiver c r =
    { s with meas := { s.meas with receivers := (s.setReceiver c r).meas.receivers } } := rfl

theorem State.setReceiver_same : (s.setReceiver c r).receiver c = r := vget_vset_same _ _ _

theorem State.setReceiver_other {d : Channel} (h : d ≠ c) : (s.setReceiver c r).receiver d = s.receiver d := vget_vset_other _ _ h

end

/-- Settles O50. -/
theorem sensorFrameCases : Obligations.SensorFrameCases := by
  refine ⟨fun s c f hfit hidle => ⟨s.setReceiver c ((s.receiver c).frameEnd f), congrArg Host.Outcome.next (if_pos (by simp [hfit, hidle])), rfl,
      fun d hd => State.setReceiver_other _ _ hd, ?_⟩,
    fun s c f h => congrArg Host.Outcome.next (if_neg (by rcases h with h | h <;> simp [h])),
    fun s c hfit => ⟨_, congrArg Host.Outcome.next (if_pos hfit), rfl, State.setReceiver_same _ _, fun d hd => State.setReceiver_other _ _ hd⟩,
    fun s c hfit => congrArg Host.Outcome.next (if_neg (by simp [hfit]))⟩
  rw [State.setReceiver_same]
  have hodd : sensorOnes f % 2 = 1 → parityErrorOf f = true := fun h => by rw [parityErrorOf_eq, h]; rfl
  have heven : sensorOnes f % 2 = 0 → parityErrorOf f = false := fun h => by rw [parityErrorOf_eq, h]; rfl
  refine ⟨fun hstop => ?_, fun hstop hones => ?_, fun hstop hones hok hover => ?_, fun hstop hones hgood => ?_⟩
  · simp [Receiver.frameEnd, hstop]
  · simp [Receiver.frameEnd, hstop, hodd hones]
  · simp [Receiver.frameEnd, hstop, heven hones, hok, hover]
  · have hgood' : (!f.okBit && !f.overloadBit) = false := by rcases hgood with h | h <;> simp [h]
    simp only [Receiver.frameEnd, hstop, heven hones, hgood']
    rfl

end Sys2Proof.Machine
end

section
/-! Sample set frames (R1, R2, R68, R72 to R81). -/

namespace Sys2Proof.Machine

/-! ### Falls alone -/

/-- `t` is `s` but for falls of conditions and for the level watch. -/
structure State.Fallen (s t : State) : Prop where
  frame : t = { s with faults := { s.faults with entries := t.faults.entries }, level := t.level }
  latched : ∀ k, (t.faults.entry k).latched = (s.faults.entry k).latched
  absent : ∀ k src, s.sourcePresent k src = false → t.sourcePresent k src = false

namespace State.Fallen
variable {s t u : State}

theorem refl (s : State) : s.Fallen s := ⟨rfl, fun _ => rfl, fun _ _ h => h⟩

theorem trans (h : s.Fallen t) (h' : t.Fallen u) : s.Fallen u where
  frame := by
    have hu := h'.frame
    rw [h.frame] at hu
    exact hu
  latched := fun k => (h'.latched k).trans (h.latched k)
  absent := fun k src ha => h'.absent k src (h.absent k src ha)

theorem setLevel (s : State) (l : LevelWatch) : s.Fallen (s.setLevel l) := ⟨rfl, fun _ => rfl, fun _ _ h => h⟩

theorem fall (s : State) (k : FaultKind) (src : Source) : s.Fallen (s.fall k src) where
  frame := by
    unfold State.fall
    split <;> rfl
  latched := fun j => s.fall_latched_entry k j src
  absent := fun j src' ha => by
    by_cases hj : j = k
    · subst hj
      by_cases hsrc : src' = src
      · subst hsrc
        exact s.fall_source j src'
      · rw [s.fall_otherSource j hsrc, ha]
    · rw [State.sourcePresent, s.fall_other src hj]
      exact ha

end State.Fallen

/-! ### What trips leave of a regulator -/

/-- The regulator is as it was, or has become blocked (R67). -/
def Regulator.Kept (g r : Regulator) : Prop := r = g ∨ r = g.block

theorem Regulator.Kept.trans {g r q : Regulator} (h : g.Kept r) (h' : r.Kept q) : g.Kept q := by
  rcases h with rfl | rfl
  · exact h'
  · rcases h' with rfl | rfl <;> exact .inr rfl

/-- Both regulators are as they were, or have become blocked. -/
def State.RegsKept (s t : State) : Prop := ∀ x, (s.regs.get x).Kept (t.regs.get x)

namespace State
variable {s t u : State}

theorem RegsKept.of_eq (h : t.regs = s.regs) : s.RegsKept t := fun x => .inl (by rw [h])

theorem RegsKept.trans (h : s.RegsKept t) (h' : t.RegsKept u) : s.RegsKept u := fun x => (h x).trans (h' x)

theorem RegsKept.of_ungated (h : t.regs = Pair.ofFn s.ungated) : s.RegsKept t := fun x => by
  rw [h, Pair.get_ofFn, State.ungated]
  split
  · exact .inl rfl
  · exact .inr rfl

theorem tripCause_regsKept (s : State) (k : FaultKind) (d : Option Nat) (hr : s.seq.restartPending = false) :
    s.RegsKept (s.tripCause k d) := by
  unfold State.tripCause State.followOnCause
  split
  · exact .of_eq rfl
  · split
    · exact .of_eq (by split <;> rfl)
    · exact .of_ungated (by rw [(State.closeIfZero_frame _).2.2.2.2.2.2.1, State.firstCause_regs _ _ _ hr])

theorem tripRise_regsKept (s : State) (k : FaultKind) (src : Source) (hr : s.seq.restartPending = false) :
    s.RegsKept (s.tripRise k src) := by
  unfold State.tripRise
  split
  · exact .of_eq rfl
  · exact .trans (t := s.latchRise k src none) (.of_eq (by simp)) (State.tripCause_regsKept _ _ _ (by simpa using hr))

theorem tripLevel_regsKept (s : State) (k : FaultKind) (now : Bool) (hr : s.seq.restartPending = false) :
    s.RegsKept (s.tripLevel k now) := by
  unfold State.tripLevel
  split
  · exact s.tripRise_regsKept k .first hr
  · exact .of_eq (by simp)

/-- A level reported in the state that a first cause has left changes nothing of that (R109). -/
theorem Tripped.tripLevel {k : FaultKind} (h : State.Tripped s t k) (j : FaultKind) (now : Bool) :
    State.Tripped s (t.tripLevel j now) k := by
  unfold State.tripLevel
  split
  · by_cases ha : t.sourcePresent j .first = true
    · rwa [State.tripRise, if_pos ha]
    · have ha' : t.sourcePresent j .first = false := by simpa using ha
      have hd : t.seq.drive ≠ .unconfigured := by rw [h.seq]; exact DriveState.noConfusion
      rw [t.tripRise_locked j .first hd h.lock ha']
      refine ⟨?_, ?_, ?_, ?_, ?_, ?_⟩
      · simpa using h.seq
      · simpa using h.rest
      · simpa using h.lock
      · have hentry : ((t.latchRise j .first none).faults.entry k).latched = true := by
          by_cases hk : k = j
          · subst hk
            exact t.latchRise_latched _ _ _ ha'
          · rw [t.latchRise_other .first none hk]
            exact h.latched
        unfold State.followOnCause
        split <;> exact hentry
      · simpa using h.settings
      · simpa using h.queue
  · exact ⟨by simpa using h.seq, by simpa using h.rest, by simpa using h.lock,
      (t.fall_latched_entry j k .first).trans h.latched, by simpa using h.settings, by simpa using h.queue⟩

end State

/-! ### The arrival (R72 to R79) -/

/-- What an arrival has left of a regulator that was `g`: the currents, summed for the governor, and the angle. -/
structure Regulator.Arrived (g : Regulator) (m : Int × Int) (a : DWord) (r : Regulator) : Prop where
  seen : r.arrivalSeen = true
  id : r.id = m.1
  iq : r.iq = m.2
  iqSum : r.iqSum = g.iqSum + m.2
  iqCount : r.iqCount = g.iqCount + 1
  angle : r.angle = a

theorem Regulator.Arrived.kept {g r q : Regulator} {m : Int × Int} {a : DWord} (h : g.Arrived m a r) (hq : r.Kept q) :
    g.Arrived m a q := by
  rcases hq with rfl | rfl
  · exact h
  · exact ⟨h.seen, h.id, h.iq, h.iqSum, h.iqCount, h.angle⟩

theorem Regulator.Kept.gateBlock {g r : Regulator} (h : g.Kept r) : r.gateBlock = g.gateBlock := by
  rcases h with rfl | rfl <;> rfl

section
variable (s : State) (x : Side) (v : SampleSet)

/-- The currents of an arrival (R75). -/
def State.currents : Int × Int :=
  forward v.ia v.ic (sineAt (angleIndex (s.regs.get x).angle)) (cosineAt (angleIndex (s.regs.get x).angle))

/-- Regulator X after an arrival without overcurrent (R72, R81). -/
def State.arrivedReg : Regulator :=
  let g := s.regs.get x
  let m := { g with arrivalSeen := true }.measured (s.currents x v).1 (s.currents x v).2
  let m' := if s.blocked x then m.computeBlocked
    else m.compute s.cfg v.vdc s.gov.idRef (s.gov.iqRef.get x) (sineAt (angleIndex g.angle)) (cosineAt (angleIndex g.angle))
  { { m' with angle := s.steppedAngle x }.publish with overcurrent := false }

theorem State.setReg_get (g : Regulator) : (s.setReg x g).regs.get x = g := Pair.get_set_same _ _ _

theorem State.arrivalWork_arrived (h : (s.regs.get x).arrivalSeen = true) :
    (s.regs.get x).Arrived (s.currents x v) (s.steppedAngle x) ((s.arrivalWork x v).regs.get x) := by
  unfold State.arrivalWork
  dsimp only
  rw [State.setReg_get, Regulator.publish]
  split
  · exact ⟨h, rfl, rfl, rfl, rfl, rfl⟩
  · exact ⟨h, rfl, rfl, rfl, rfl, rfl⟩

theorem State.arrivalWork_gateBlock : ((s.arrivalWork x v).regs.get x).gateBlock = (s.regs.get x).gateBlock := by
  unfold State.arrivalWork
  dsimp only
  rw [State.setReg_get, Regulator.publish]
  dsimp only
  split <;> rfl

/-- Where an arrival begins: arrival seen, and on overcurrent the gate-block flag. -/
theorem State.arrivalSeen_eqs (oc : Bool) :
    ((s.arrivalSeen x oc).regs.get x).arrivalSeen = true ∧ ((s.arrivalSeen x oc).regs.get x).angle = (s.regs.get x).angle ∧
    ((s.arrivalSeen x oc).regs.get x).iqSum = (s.regs.get x).iqSum ∧
    ((s.arrivalSeen x oc).regs.get x).iqCount = (s.regs.get x).iqCount ∧
    (oc = true → ((s.arrivalSeen x oc).regs.get x).gateBlock = true) := by
  unfold State.arrivalSeen
  dsimp only
  split
  · refine ⟨?_, ?_, ?_, ?_, fun _ => State.setGateBlock_flag _ _⟩ <;>
      (rw [State.setGateBlock, State.setReg_get]; dsimp only; split <;> simp [State.setReg_get])
  · exact ⟨by rw [State.setReg_get], by rw [State.setReg_get], by rw [State.setReg_get], by rw [State.setReg_get],
      fun h => absurd h ‹_›⟩

end

theorem SampleSet.overcurrent_iff (v : SampleSet) (level : Int) : v.overcurrent level = false ↔ v.calm level := by
  simp [SampleSet.overcurrent, SampleSet.calm, and_assoc]

section
variable (s : State) (x : Side) (v : SampleSet)

theorem State.arrival_eq : s.arrival x v = ((s.arrivalSeen x (v.overcurrent s.cfg.overcurrent)).arrivalWork x v).reportOvercurrent x
    (v.overcurrent s.cfg.overcurrent) := rfl

theorem State.arrivedReg_written :
    ((s.arrivalSeen x false).arrivalWork x v).setReg x
      { ((s.arrivalSeen x false).arrivalWork x v).regs.get x with overcurrent := false } = s.setReg x (s.arrivedReg x v) := by
  cases x <;> rfl

/-- An arrival without overcurrent: the regulator's work, and the fall of the condition (R72, R68). -/
theorem State.arrival_calm_eq (h : v.calm s.cfg.overcurrent) :
    s.arrival x v = (s.setReg x (s.arrivedReg x v)).fall (.overcurrent x) .first := by
  rw [State.arrival_eq, (v.overcurrent_iff _).mpr h, ← State.arrivedReg_written]
  rfl

/-- What an arrival has left of regulator X, overcurrent or not (R72, R68). -/
theorem State.arrival_reg (hr : s.seq.restartPending = false) :
    (s.regs.get x).Arrived (s.currents x v) (s.steppedAngle x) ((s.arrival x v).regs.get x) ∧
    (v.overcurrent s.cfg.overcurrent = true → ((s.arrival x v).regs.get x).gateBlock = true) := by
  rw [State.arrival_eq]
  set oc := v.overcurrent s.cfg.overcurrent with hoc
  obtain ⟨hseen, hangle, hsum, hcount, hflag⟩ := s.arrivalSeen_eqs x oc
  set u := s.arrivalSeen x oc with hu
  have hcurrents : u.currents x v = s.currents x v := by rw [State.currents, State.currents, hangle]
  have hframe : u.drive = s.drive ∧ u.meas = s.meas ∧ u.gov = s.gov ∧ u.seq = s.seq := by simp [hu]
  have hstepped : u.steppedAngle x = s.steppedAngle x := by
    obtain ⟨hdrive, hmeas, hgov, -⟩ := hframe
    rw [State.steppedAngle, State.steppedAngle, State.cfg, State.cfg, hangle, hdrive, hmeas, hgov]
  have hwork := u.arrivalWork_arrived x v hseen
  have hblock := u.arrivalWork_gateBlock x v
  rw [hcurrents, hstepped] at hwork
  set w := u.arrivalWork x v with hw
  have hcalm : (w.setReg x { w.regs.get x with overcurrent := oc && w.inSet x }).seq.restartPending = false := by
    simpa [hw, hframe.2.2.2, State.setReg] using hr
  have hkept := State.tripLevel_regsKept _ (.overcurrent x) (oc && w.inSet x) hcalm x
  rw [State.setReg_get] at hkept
  refine ⟨Regulator.Arrived.kept ?_ hkept, fun h => ?_⟩
  · obtain ⟨h1, h2, h3, h4, h5, h6⟩ := hwork
    exact ⟨h1, h2, h3, h4.trans (by rw [hsum]), h5.trans (by rw [hcount]), h6⟩
  · exact hkept.gateBlock.trans (hblock.trans (hflag h))

/-- An overcurrent of a motor in the pinion set, ready for a first cause (R68, R71). -/
theorem State.arrival_tripped (h : ¬v.calm s.cfg.overcurrent) (hset : s.cfg.pinion.has x = true) (hready : s.tripReady)
    (ha : s.sourcePresent (.overcurrent x) .first = false) : State.Tripped s (s.arrival x v) (.overcurrent x) := by
  have hoc : v.overcurrent s.cfg.overcurrent = true := by
    rw [← Bool.not_eq_false, SampleSet.overcurrent_iff]
    exact h
  rw [State.arrival_eq, hoc]
  set w := (s.arrivalSeen x true).arrivalWork x v with hw
  have hframe : w.drive = s.drive ∧ w.pending = s.pending ∧ w.seq = s.seq ∧ w.faults = s.faults := by simp [hw]
  obtain ⟨hdrive, hpending, hseq, hfaults⟩ := hframe
  have hin : w.inSet x = true := by rw [State.inSet, State.cfg, hdrive]; exact hset
  have hreport : w.reportOvercurrent x true =
      (w.setReg x { w.regs.get x with overcurrent := true }).tripRise (.overcurrent x) .first := by
    rw [State.reportOvercurrent, hin]
    rfl
  rw [hreport]
  set u := w.setReg x { w.regs.get x with overcurrent := true } with hu
  have hready' : u.tripReady := hready.of_same hseq (congrArg FaultUnit.lock hfaults)
  have ha' : u.sourcePresent (.overcurrent x) .first = false := by
    rw [State.sourcePresent, ← hfaults] at ha
    exact ha
  exact (u.tripRise_tripped _ _ hready' ha').of_same (congrArg Sequencer.afterTrip hseq) hdrive hpending

end

/-! ### The levels (R116 to R118) -/

section
variable {s : State} {x : Side} {vdc : Int}

theorem State.undervoltTest_off (h : s.cfg.pinion.has x = false ∨ s.seq.drive.running = false) : s.undervoltTest x vdc = s :=
  if_neg (by rcases h with h | h <;> simp [State.inSet, h])

theorem State.lowTest_off (h : s.cfg.pinion.has x = false ∨ s.seq.drive.running = false) : s.lowTest x vdc = s :=
  if_neg (by rcases h with h | h <;> simp [State.inSet, h])

/-- The undervolt test at or above its level (R116). -/
theorem State.undervoltTest_above (hset : s.cfg.pinion.has x = true) (hrun : s.seq.drive.running = true)
    (h : s.cfg.undervolt ≤ vdc) :
    s.undervoltTest x vdc = (s.setCounts x { s.counts x with under := 0 }).fall (.dcUndervolt x) .first :=
  (if_pos (by simp [State.inSet, hset, hrun])).trans (if_neg (by omega))

/-- The undervolt test below its level (R116). -/
theorem State.undervoltTest_below (hset : s.cfg.pinion.has x = true) (hrun : s.seq.drive.running = true)
    (h : vdc < s.cfg.undervolt) : s.undervoltTest x vdc =
      let u := s.setCounts x { s.counts x with under := countTo 8 (s.counts x).under }
      if countTo 8 (s.counts x).under = 8 then u.tripRise (.dcUndervolt x) .first else u :=
  (if_pos (by simp [State.inSet, hset, hrun])).trans (if_pos h)

theorem State.undervoltTest_fallen (h : s.cfg.pinion.has x = false ∨ s.seq.drive.running = false ∨ s.cfg.undervolt ≤ vdc) :
    s.Fallen (s.undervoltTest x vdc) := by
  by_cases hoff : s.cfg.pinion.has x = false ∨ s.seq.drive.running = false
  · rw [State.undervoltTest_off hoff]
    exact .refl s
  · simp only [not_or, Bool.not_eq_false] at hoff
    have hvdc : s.cfg.undervolt ≤ vdc := by simpa [hoff.1, hoff.2] using h
    rw [State.undervoltTest_above hoff.1 hoff.2 hvdc]
    exact .trans (.setLevel s _) (.fall _ _ _)

theorem State.lowTest_fallen (h : s.cfg.pinion.has x = false ∨ s.seq.drive.running = false ∨ s.cfg.low ≤ vdc) :
    s.Fallen (s.lowTest x vdc) := by
  by_cases hoff : s.cfg.pinion.has x = false ∨ s.seq.drive.running = false
  · rw [State.lowTest_off hoff]
    exact .refl s
  · simp only [not_or, Bool.not_eq_false] at hoff
    have hvdc : s.cfg.low ≤ vdc := by simpa [hoff.1, hoff.2] using h
    have hnot : ¬vdc < s.cfg.low := by omega
    rw [State.lowTest, if_pos (by simp [State.inSet, hoff.1, hoff.2])]
    split
    · unfold State.lowTestPresent
      dsimp only
      generalize (if s.cfg.low + 10 ≤ vdc then (s.counts x).lowClear + 1 else 0) = n
      split
      · exact .trans (t := s.setCounts x _) (.setLevel s _) (.fall _ _ _)
      · exact .setLevel s _
    · have hzero : s.lowTestAbsent x vdc = s.setCounts x { s.counts x with low := 0 } := by
        simp [State.lowTestAbsent, hnot]
      rw [hzero]
      exact .setLevel s _

theorem State.overvoltTest_fallen (h : s.cfg.pinion.has x = false ∨ vdc ≤ s.cfg.overvolt) : s.Fallen (s.overvoltTest x vdc) := by
  unfold State.overvoltTest
  split
  · next hset =>
    have hvdc : vdc ≤ s.cfg.overvolt := h.resolve_left (by simpa [State.inSet] using hset)
    rw [State.tripLevel, decide_eq_false (by omega)]
    exact .fall _ _ _
  · exact .refl s

theorem State.overvoltTest_regsKept (hr : s.seq.restartPending = false) : s.RegsKept (s.overvoltTest x vdc) := by
  unfold State.overvoltTest
  split
  · exact s.tripLevel_regsKept _ _ hr
  · exact .of_eq rfl

theorem State.undervoltTest_regsKept (hr : s.seq.restartPending = false) : s.RegsKept (s.undervoltTest x vdc) := by
  by_cases h : s.cfg.pinion.has x = false ∨ s.seq.drive.running = false ∨ s.cfg.undervolt ≤ vdc
  · exact .of_eq (by rw [(State.undervoltTest_fallen h).frame])
  · simp only [not_or, Bool.not_eq_false, Int.not_le] at h
    rw [State.undervoltTest_below h.1 h.2.1 h.2.2]
    dsimp only
    split
    · exact State.tripRise_regsKept (s.setCounts x _) _ _ hr
    · exact .of_eq rfl

end

/-! ### A frame (R1, R2) -/

section
variable {s : State} {x : Side} {f : SampleFrame}

/-- The state once the frame has arrived, before the tests of its levels. -/
def State.afterArrival (s : State) (x : Side) (f : SampleFrame) : State :=
  (s.acceptFrame x (SampleSet.ofFrame s.cfg x f)).arrival x (SampleSet.ofFrame s.cfg x f)

theorem State.frameEnd_ignored (h : (s.meas.links.get x).awaiting = false ∨ f.begunBeforeSync = true) : s.frameEnd x f = s :=
  if_neg (by rcases h with h | h <;> simp [Link.accepts, State.link, h])

/-- A frame accepted, where neither the arrival nor the undervolt test brings a reset about. -/
theorem State.frameEnd_kept (h : s.awaits x f) (h1 : (s.afterArrival x f).record.resets = s.record.resets)
    (h2 : ((s.afterArrival x f).undervoltTest x (SampleSet.ofFrame s.cfg x f).vdc).record.resets = s.record.resets) :
    s.frameEnd x f = (((s.afterArrival x f).undervoltTest x (SampleSet.ofFrame s.cfg x f).vdc).lowTest x
      (SampleSet.ofFrame s.cfg x f).vdc).overvoltTest x (SampleSet.ofFrame s.cfg x f).vdc := by
  have haccepts : (s.link x).accepts f = true := by simp [Link.accepts, State.link, h.1, h.2]
  refine (if_pos haccepts).trans ((State.unlessReset_kept _ h1).trans ((State.unlessReset_kept _ (h2.trans h1.symm)).trans
    (State.unlessReset_kept _ ?_)))
  rw [(State.lowTest_frame _ _ _).2.2.2.2.2.2.2.2.1]

theorem State.frameEnd_calm_eq (h : s.awaits x f) (hr : s.seq.restartPending = false) :
    s.frameEnd x f = (((s.afterArrival x f).undervoltTest x (SampleSet.ofFrame s.cfg x f).vdc).lowTest x
      (SampleSet.ofFrame s.cfg x f).vdc).overvoltTest x (SampleSet.ofFrame s.cfg x f).vdc := by
  obtain ⟨hr1, hresets1, -⟩ := State.arrival_calm (s.acceptFrame x (SampleSet.ofFrame s.cfg x f)) x (SampleSet.ofFrame s.cfg x f) hr
  obtain ⟨-, hresets2, -⟩ := State.undervoltTest_calm _ x (SampleSet.ofFrame s.cfg x f).vdc hr1
  exact State.frameEnd_kept h hresets1 (hresets2.trans hresets1)

/-- The state of which a calm frame leaves falls and level counts alone. -/
def State.framed (s : State) (x : Side) (f : SampleFrame) : State :=
  let v := SampleSet.ofFrame s.cfg x f
  { s with
    meas := { s.meas with links := s.meas.links.set x ⟨false, v.vdc, v⟩ }, regs := s.regs.set x (s.arrivedReg x v) }

theorem State.afterArrival_eq (h : (SampleSet.ofFrame s.cfg x f).calm s.cfg.overcurrent) :
    s.afterArrival x f = (s.framed x f).fall (.overcurrent x) .first :=
  (s.acceptFrame x (SampleSet.ofFrame s.cfg x f)).arrival_calm_eq x (SampleSet.ofFrame s.cfg x f) h

theorem State.afterArrival_fallen (h : (SampleSet.ofFrame s.cfg x f).calm s.cfg.overcurrent) :
    (s.framed x f).Fallen (s.afterArrival x f) := State.afterArrival_eq h ▸ .fall _ _ _

theorem State.Fallen.cfg {t : State} (h : s.Fallen t) : t.cfg = s.cfg := by rw [h.frame]; rfl

theorem State.Fallen.seq {t : State} (h : s.Fallen t) : t.seq = s.seq := by rw [h.frame]

theorem State.Fallen.resets {t : State} (h : s.Fallen t) : t.record.resets = s.record.resets := by rw [h.frame]

/-- The state once the undervolt test and the low test of a frame are made (R116, R117). -/
def State.levelsTested (s : State) (x : Side) (f : SampleFrame) : State :=
  ((s.afterArrival x f).undervoltTest x (SampleSet.ofFrame s.cfg x f).vdc).lowTest x (SampleSet.ofFrame s.cfg x f).vdc

/-- A calm frame at or above the undervolt and the low level (R116, R117). -/
theorem State.levelsTested_fallen (h : s.awaits x f) (hcalm : (SampleSet.ofFrame s.cfg x f).calm s.cfg.overcurrent)
    (hlevel : s.cfg.pinion.has x = false ∨ s.seq.drive.running = false ∨
      (s.cfg.undervolt ≤ (SampleSet.ofFrame s.cfg x f).vdc ∧ s.cfg.low ≤ (SampleSet.ofFrame s.cfg x f).vdc)) :
    (s.framed x f).Fallen (s.levelsTested x f) ∧
    s.frameEnd x f = (s.levelsTested x f).overvoltTest x (SampleSet.ofFrame s.cfg x f).vdc := by
  have h1 := State.afterArrival_fallen (s := s) (x := x) (f := f) hcalm
  have h2 : (s.framed x f).Fallen ((s.afterArrival x f).undervoltTest x (SampleSet.ofFrame s.cfg x f).vdc) := by
    refine h1.trans (State.undervoltTest_fallen ?_)
    rw [h1.cfg, h1.seq]
    exact hlevel.imp_right fun hl => hl.imp_right And.left
  refine ⟨h2.trans (State.lowTest_fallen ?_), State.frameEnd_kept h h1.resets h2.resets⟩
  rw [h2.cfg, h2.seq]
  exact hlevel.imp_right fun hl => hl.imp_right And.right

/-- A calm frame within the levels (R116 to R118). -/
theorem State.frameEnd_fallen (h : s.awaits x f) (hcalm : (SampleSet.ofFrame s.cfg x f).calm s.cfg.overcurrent)
    (hlevel : s.cfg.pinion.has x = false ∨ ((SampleSet.ofFrame s.cfg x f).vdc ≤ s.cfg.overvolt ∧ (s.seq.drive.running = false ∨
      (s.cfg.undervolt ≤ (SampleSet.ofFrame s.cfg x f).vdc ∧ s.cfg.low ≤ (SampleSet.ofFrame s.cfg x f).vdc)))) :
    (s.framed x f).Fallen (s.frameEnd x f) := by
  obtain ⟨htested, heq⟩ := State.levelsTested_fallen h hcalm (hlevel.imp_right And.right)
  rw [heq]
  refine htested.trans (State.overvoltTest_fallen ?_)
  rw [htested.cfg]
  exact hlevel.imp_right And.left

/-- What a frame leaves of the measurement unit and of the regulators, no restart pending. -/
theorem State.frameEnd_calm_regs (h : s.awaits x f) (hr : s.seq.restartPending = false) :
    (s.frameEnd x f).meas = (s.framed x f).meas ∧ (s.afterArrival x f).RegsKept (s.frameEnd x f) := by
  obtain ⟨hr1, -, -, hmeas1, -⟩ :=
    State.arrival_calm (s.acceptFrame x (SampleSet.ofFrame s.cfg x f)) x (SampleSet.ofFrame s.cfg x f) hr
  obtain ⟨hr2, -, -, hmeas2, -⟩ := State.undervoltTest_calm (s.afterArrival x f) x (SampleSet.ofFrame s.cfg x f).vdc hr1
  have hlow := State.lowTest_frame ((s.afterArrival x f).undervoltTest x (SampleSet.ofFrame s.cfg x f).vdc) x
    (SampleSet.ofFrame s.cfg x f).vdc
  obtain ⟨-, -, -, hmeas3, hseq3, -, hregs3, -⟩ := hlow
  rw [← hseq3] at hr2
  obtain ⟨-, -, -, hmeas4, -⟩ := State.overvoltTest_calm _ x (SampleSet.ofFrame s.cfg x f).vdc hr2
  rw [State.frameEnd_calm_eq h hr]
  exact ⟨hmeas4.trans (hmeas3.trans (hmeas2.trans hmeas1)),
    (State.undervoltTest_regsKept hr1).trans (.trans (.of_eq hregs3) (State.overvoltTest_regsKept hr2))⟩

theorem State.overvoltTest_tripped {t : State} {k : FaultKind} {vdc : Int} (h : State.Tripped s t k) :
    State.Tripped s (t.overvoltTest x vdc) k := by
  unfold State.overvoltTest
  split
  · exact h.tripLevel _ _
  · exact h

theorem State.Tripped.not_running {t : State} {k : FaultKind} (h : State.Tripped s t k) : t.seq.drive.running = false := by
  rw [h.seq]
  rfl

/-- An overcurrent that is a first cause (R68, R108). -/
theorem State.frameEnd_overcurrent (h : s.awaits x f) (hoc : ¬(SampleSet.ofFrame s.cfg x f).calm s.cfg.overcurrent)
    (hset : s.cfg.pinion.has x = true) (hready : s.tripReady) (ha : s.sourcePresent (.overcurrent x) .first = false) :
    State.Tripped s (s.frameEnd x f) (.overcurrent x) := by
  have htrip : State.Tripped s (s.afterArrival x f) (.overcurrent x) :=
    ((s.acceptFrame x (SampleSet.ofFrame s.cfg x f)).arrival_tripped x _ hoc hset hready ha).of_same rfl rfl rfl
  rw [State.frameEnd_calm_eq h hready.2.2.2, State.undervoltTest_off (.inr htrip.not_running),
    State.lowTest_off (.inr htrip.not_running)]
  exact State.overvoltTest_tripped htrip

end

theorem codeAtLimit_iff (w : Word) : codeAtLimit w = true ↔ w.toInt = 32767 ∨ w.toInt = -32768 := by
  have hhigh : w = 0x7FFF ↔ w.toInt = 32767 := by rw [← BitVec.toInt_inj]; rfl
  have hlow : w = 0x8000 ↔ w.toInt = -32768 := by rw [← BitVec.toInt_inj]; rfl
  rw [codeAtLimit, Bool.or_eq_true, beq_iff_eq, beq_iff_eq, hhigh, hlow]

theorem State.blocked_iff (s : State) (x : Side) :
    s.blocked x = true ↔ (s.regs.get x).gateBlock = true ∨ s.seq.gate.get x = false := by
  simp [State.blocked]

/-- Settles O41. -/
theorem sampleFrameArrival : Obligations.SampleFrameArrival := by
  refine ⟨fun s x f h => congrArg Host.Outcome.next (State.frameEnd_ignored h), fun s x f haw hr => ?_⟩
  intro ia ic raw vdc limit v g sin cos beta id iq
  have hlimit : decide (limit f.codeA ∨ limit f.codeC) = (codeAtLimit f.codeA || codeAtLimit f.codeC) := by
    rw [Bool.eq_iff_iff, decide_eq_true_iff, Bool.or_eq_true, codeAtLimit_iff, codeAtLimit_iff]
  have hv : v = SampleSet.ofFrame s.cfg x f := by
    show SampleSet.mk ia ic vdc _ f.fault = _
    rw [hlimit]
    rfl
  obtain ⟨hmeas, hkept⟩ := State.frameEnd_calm_regs haw hr
  obtain ⟨hreg, hblock⟩ := (s.acceptFrame x (SampleSet.ofFrame s.cfg x f)).arrival_reg x (SampleSet.ofFrame s.cfg x f) hr
  obtain ⟨hseen, hid, hiq, hsum, hcount, hangle⟩ := hreg.kept (hkept x)
  obtain ⟨-, -, hdrive, hwatch⟩ := s.frameEnd_calm x f hr
  refine ⟨s.frameEnd x f, rfl, ?_, hseen, hid, hiq, hsum, hcount, hangle, hwatch, hdrive, (s.frameEnd_frame x f).2, fun hcalm hlevel => ?_,
    fun hoc => ?_, fun hoc hset hready ha => ?_⟩
  · rw [hmeas, hv]
    rfl
  · intro m m'
    have hfallen := State.frameEnd_fallen haw (hv ▸ hcalm) (hv ▸ hlevel)
    have hm : m' = if s.blocked x then m.computeBlocked
        else m.compute s.cfg vdc s.gov.idRef (s.gov.iqRef.get x) sin cos :=
      if_congr (s.blocked_iff x).symm rfl rfl
    refine ⟨?_, hfallen.latched⟩
    rw [hm, hfallen.frame]
    rfl
  · refine (hkept x).gateBlock.trans (hblock ?_)
    rw [← Bool.not_eq_false, SampleSet.overcurrent_iff]
    exact hv ▸ hoc
  · exact State.frameEnd_overcurrent haw (hv ▸ hoc) hset hready ha

end Sys2Proof.Machine
end

section
/-! The DC-link levels, the current period and its missing test (R65, R66, R116 to R118). -/

namespace Sys2Proof.Machine

section
variable {s : State} {x : Side} {vdc : Int}

/-- The low test of X while its source is absent: the eighth frame below the level raises DC LOW (R117). -/
theorem State.lowTest_rise (hset : s.cfg.pinion.has x = true) (hrun : s.seq.drive.running = true)
    (ha : s.sourcePresent .dcLow (sideSource x) = false) (hlow : vdc < s.cfg.low) (hn : (s.counts x).low = 7) :
    s.lowTest x vdc =
      (s.setCounts x { s.counts x with low := 8, lowClear := 0 }).alarmRise .dcLow (sideSource x) (some (sideCode x)) := by
  rw [State.lowTest, if_pos (by simp [State.inSet, hset, hrun]), ha, if_neg (by decide), State.lowTestAbsent, if_pos hlow, hn]
  rfl

/-- The low test of X while its source is present: the eighth frame clear of the level ends DC LOW (R117). -/
theorem State.lowTest_clear (hset : s.cfg.pinion.has x = true) (hrun : s.seq.drive.running = true)
    (ha : s.sourcePresent .dcLow (sideSource x) = true) (hclear : s.cfg.low + 10 ≤ vdc) (hn : (s.counts x).lowClear = 7) :
    s.lowTest x vdc = (s.setCounts x { s.counts x with low := 0, lowClear := 8 }).fall .dcLow (sideSource x) := by
  rw [State.lowTest, if_pos (by simp [State.inSet, hset, hrun]), if_pos ha, State.lowTestPresent, if_pos hclear, hn]
  rfl

/-- The low test leaves the undervolt counts. -/
theorem State.lowTest_under : ((s.lowTest x vdc).level.counts.get x).under = (s.level.counts.get x).under := by
  have hcounts : ∀ c : LevelCounts, ((s.setCounts x c).level.counts.get x).under = c.under := fun c => by
    simp [State.setCounts]
  unfold State.lowTest State.lowTestPresent State.lowTestAbsent
  dsimp only
  generalize (if s.cfg.low + 10 ≤ vdc then (s.counts x).lowClear + 1 else 0) = n
  generalize (if vdc < s.cfg.low then (s.counts x).low + 1 else 0) = m
  split_ifs <;> simp [hcounts, State.counts]

theorem State.overvoltTest_below (hset : s.cfg.pinion.has x = true) (h : vdc ≤ s.cfg.overvolt) :
    s.overvoltTest x vdc = s.fall (.dcOvervolt x) .first := by
  rw [State.overvoltTest, State.inSet, if_pos hset, State.tripLevel, decide_eq_false (by omega)]
  rfl

theorem State.overvoltTest_above (hset : s.cfg.pinion.has x = true) (h : s.cfg.overvolt < vdc) :
    s.overvoltTest x vdc = s.tripRise (.dcOvervolt x) .first := by
  rw [State.overvoltTest, State.inSet, if_pos hset, State.tripLevel, decide_eq_true h]
  rfl

end

/-- The sequencer, the governor, the lock, the records, the store and the exchange memory are those of `s`. -/
def State.SameUnits (s t : State) : Prop :=
  t.seq = s.seq ∧ t.gov = s.gov ∧ t.faults.lock = s.faults.lock ∧ t.record = s.record ∧ t.store = s.store ∧ t.mem = s.mem

section
variable {s t u : State}

theorem State.SameUnits.trans (h : s.SameUnits t) (h' : t.SameUnits u) : s.SameUnits u := by
  obtain ⟨h1, h2, h3, h4, h5, h6⟩ := h
  obtain ⟨h1', h2', h3', h4', h5', h6'⟩ := h'
  exact ⟨h1'.trans h1, h2'.trans h2, h3'.trans h3, h4'.trans h4, h5'.trans h5, h6'.trans h6⟩

theorem State.Fallen.sameUnits (h : s.Fallen t) : s.SameUnits t := by
  rw [h.frame]
  exact ⟨rfl, rfl, rfl, rfl, rfl, rfl⟩

theorem State.fall_sameUnits (s : State) (k : FaultKind) (src : Source) : s.SameUnits (s.fall k src) :=
  (State.Fallen.fall s k src).sameUnits

theorem State.setCounts_sameUnits (s : State) (x : Side) (c : LevelCounts) : s.SameUnits (s.setCounts x c) :=
  ⟨rfl, rfl, rfl, rfl, rfl, rfl⟩

theorem State.alarmRise_sameUnits (s : State) (k : FaultKind) (src : Source) (d : Option Nat) : s.SameUnits (s.alarmRise k src d) := by
  simp [State.SameUnits]

theorem State.latchRise_sameUnits (s : State) (k : FaultKind) (src : Source) (d : Option Nat) : s.SameUnits (s.latchRise k src d) := by
  simp [State.SameUnits]

theorem State.lowTest_sameUnits (s : State) (x : Side) (vdc : Int) : s.SameUnits (s.lowTest x vdc) := by
  simp [State.SameUnits]

end

/-- Settles O42. -/
theorem dcLevelCounts : Obligations.DcLevelCounts := by
  refine ⟨fun s x f haw hset hrun => ?_, fun s x f haw hset hr => ?_⟩
  · intro v n hcalm
    have hA := State.afterArrival_eq (s := s) (x := x) (f := f) hcalm
    have hfallen := State.afterArrival_fallen (s := s) (x := x) (f := f) hcalm
    set a := s.afterArrival x f with ha
    have hcfg : a.cfg = s.cfg := hfallen.cfg
    have hseq : a.seq = s.seq := hfallen.seq
    have hcounts : a.counts x = n := by rw [hA, State.counts, (State.fall_frame _ _ _).2.2.2.2.2.2.2.2.1]; rfl
    have hset' : a.cfg.pinion.has x = true := by rw [hcfg]; exact hset
    have hrun' : a.seq.drive.running = true := by rw [hseq]; exact hrun
    have haccepts : (s.link x).accepts f = true := by simp [Link.accepts, State.link, haw.1, haw.2]
    have habove : s.cfg.undervolt ≤ v.vdc → ∃ u, a.undervoltTest x v.vdc = u ∧ (s.framed x f).Fallen u ∧
        u.counts x = { n with under := 0 } ∧ u.faults.entry .dcLow = s.faults.entry .dcLow ∧
        s.frameEnd x f = (u.lowTest x v.vdc).overvoltTest x v.vdc := fun hunder => by
      have htest := State.undervoltTest_above (vdc := v.vdc) hset' hrun' (by rw [hcfg]; exact hunder)
      rw [hcounts] at htest
      have hu := hfallen.trans (State.undervoltTest_fallen (x := x) (vdc := v.vdc) (.inr (.inr (by rw [hcfg]; exact hunder))))
      refine ⟨_, rfl, hu, ?_, ?_, State.frameEnd_kept haw hfallen.resets hu.resets⟩
      · rw [htest, State.counts, (State.fall_frame _ _ _).2.2.2.2.2.2.2.2.1]
        exact Pair.get_set_same _ _ _
      · rw [htest, State.fall_other _ _ (by nofun), hA]
        exact State.fall_other _ _ (by nofun)
    refine ⟨fun hunder hn hready habs => ?_, fun hunder hn hover => ?_, fun hunder hlow hover hn habs => ?_,
      fun hunder hclear hover hn hpres => ?_⟩
    · have hready' : a.tripReady := hready.of_same hseq (by rw [hfallen.frame]; rfl)
      have htest := State.undervoltTest_below (vdc := v.vdc) hset' hrun' (by rw [hcfg]; exact hunder)
      rw [hcounts, hn] at htest
      have htest' : a.undervoltTest x v.vdc =
          (a.setCounts x { n with under := 8 }).tripRise (.dcUndervolt x) .first := htest
      have habs' : (a.setCounts x { n with under := 8 }).sourcePresent (.dcUndervolt x) .first = false := hfallen.absent _ _ habs
      have htrip : State.Tripped s (a.undervoltTest x v.vdc) (.dcUndervolt x) := by
        rw [htest']
        refine (State.tripRise_tripped (a.setCounts x { n with under := 8 }) _ _ hready' habs').of_same ?_ ?_ ?_
        · exact congrArg Sequencer.afterTrip hseq
        · rw [State.setCounts, State.setLevel_drive, hfallen.frame]
          rfl
        · rw [State.setCounts, State.setLevel_pending, hfallen.frame]
          rfl
      have heq := State.frameEnd_calm_eq haw hready.2.2.2
      refine ⟨s.frameEnd x f, congrArg Host.Outcome.next (if_pos ?_), ?_, rfl⟩
      · have hn' : (s.counts x).under = 7 := hn
        have hunder' : (SampleSet.ofFrame s.cfg x f).vdc < s.cfg.undervolt := hunder
        simp [State.undervoltReached, haccepts, State.inSet, hset, hrun, hn', hunder']
      · rw [heq, State.lowTest_off (.inr htrip.not_running)]
        exact State.overvoltTest_tripped htrip
    · have hcount : countTo 8 n.under = n.under + 1 := if_pos (by omega)
      have htest := State.undervoltTest_below (vdc := v.vdc) hset' hrun' (by rw [hcfg]; exact hunder)
      rw [hcounts, hcount] at htest
      have htest' : a.undervoltTest x v.vdc = a.setCounts x { n with under := n.under + 1 } := htest.trans (if_neg (by omega))
      set u := a.setCounts x { n with under := n.under + 1 } with hu
      have hlow : (u.lowTest x v.vdc).cfg = s.cfg := by
        rw [State.cfg, (State.lowTest_frame _ _ _).2.2.1]
        exact hcfg
      have heq : s.frameEnd x f = (u.lowTest x v.vdc).fall (.dcOvervolt x) .first := by
        rw [State.frameEnd_kept haw hfallen.resets (by rw [← ha, htest']; exact hfallen.resets), ← ha, htest']
        exact State.overvoltTest_below (by rw [hlow]; exact hset) (by rw [hlow]; exact hover)
      have hsame : (s.framed x f).SameUnits ((u.lowTest x v.vdc).fall (.dcOvervolt x) .first) :=
        hfallen.sameUnits.trans ((a.setCounts_sameUnits x _).trans ((u.lowTest_sameUnits x _).trans (State.fall_sameUnits _ _ _)))
      refine ⟨_, congrArg Host.Outcome.next heq, ?_, hsame⟩
      rw [(State.fall_frame _ _ _).2.2.2.2.2.2.2.2.1, State.lowTest_under]
      simp [hu, State.setCounts]
    · obtain ⟨u, -, hu, hucounts, hentry, heq⟩ := habove hunder
      have habs' : u.sourcePresent .dcLow (sideSource x) = false := by
        rw [State.sourcePresent, hentry, ← sourceOf_eq]
        exact habs
      have hrise := State.lowTest_rise (s := u) (x := x) (vdc := v.vdc) (by rw [hu.cfg]; exact hset) (by rw [hu.seq]; exact hrun) habs'
        (by rw [hu.cfg]; exact hlow) (by rw [hucounts]; exact hn)
      set w := u.setCounts x { u.counts x with low := 8, lowClear := 0 } with hw
      have hcfg' : (u.lowTest x v.vdc).cfg = s.cfg := by
        rw [State.cfg, (State.lowTest_frame _ _ _).2.2.1]
        exact hu.cfg
      rw [State.overvoltTest_below (by rw [hcfg']; exact hset) (by rw [hcfg']; exact hover), hrise] at heq
      have hsame : (s.framed x f).SameUnits ((w.alarmRise .dcLow (sideSource x) (some (sideCode x))).fall (.dcOvervolt x) .first) :=
        hu.sameUnits.trans ((u.setCounts_sameUnits x _).trans ((w.alarmRise_sameUnits _ _ _).trans (State.fall_sameUnits _ _ _)))
      have hother : ((w.alarmRise .dcLow (sideSource x) (some (sideCode x))).fall (.dcOvervolt x) .first).faults.entry .dcLow =
          (w.alarmRise .dcLow (sideSource x) (some (sideCode x))).faults.entry .dcLow := State.fall_other _ _ (by nofun)
      obtain ⟨hrisen, hnotice⟩ := w.alarmRise_absent .dcLow (sideSource x) (some (sideCode x)) habs'
      refine ⟨s.frameEnd x f, congrArg Host.Outcome.next (if_pos ?_), rfl, ?_⟩
      · have hn' : (s.counts x).low = 7 := hn
        have hlow' : (SampleSet.ofFrame s.cfg x f).vdc < s.cfg.low := hlow
        simp [State.lowReached, haccepts, State.inSet, hset, hrun, ← sourceOf_eq, habs, hn', hlow']
      · rw [heq, hother, hrisen]
        refine ⟨?_, rfl, rfl, ?_, ?_, hsame⟩
        · rw [State.sourcePresent, hother, sourceOf_eq]
          exact State.alarmRise_source _ _ _ _
        · show w.req.partTime = s.req.partTime
          rw [hw, State.setCounts, State.setLevel_req, hu.frame]
          rfl
        · rw [(State.fall_frame _ _ _).2.2.2.2.2.2.2.2.2.2.2.1, hnotice]
          exact raised_notice _ (by decide)
    · obtain ⟨u, -, hu, hucounts, hentry, heq⟩ := habove hunder
      have hpres' : u.sourcePresent .dcLow (sideSource x) = true := by
        rw [State.sourcePresent, hentry, ← sourceOf_eq]
        exact hpres
      have hend := State.lowTest_clear (s := u) (x := x) (vdc := v.vdc) (by rw [hu.cfg]; exact hset) (by rw [hu.seq]; exact hrun) hpres'
        (by rw [hu.cfg]; exact hclear) (by rw [hucounts]; exact hn)
      set w := u.setCounts x { u.counts x with low := 0, lowClear := 8 } with hw
      have hcfg' : (u.lowTest x v.vdc).cfg = s.cfg := by
        rw [State.cfg, (State.lowTest_frame _ _ _).2.2.1]
        exact hu.cfg
      rw [State.overvoltTest_below (by rw [hcfg']; exact hset) (by rw [hcfg']; exact hover), hend] at heq
      have hall : (s.framed x f).Fallen ((w.fall .dcLow (sideSource x)).fall (.dcOvervolt x) .first) :=
        hu.trans (.trans (t := w) (.setLevel u _) (.trans (.fall _ _ _) (.fall _ _ _)))
      obtain ⟨hseq', hgov', -, hrecord', hstore', hmem'⟩ := hall.sameUnits
      refine ⟨s.frameEnd x f, congrArg Host.Outcome.next (if_pos ?_), rfl, ?_⟩
      · have hn' : (s.counts x).lowClear = 7 := hn
        have hclear' : s.cfg.low + 10 ≤ (SampleSet.ofFrame s.cfg x f).vdc := hclear
        simp [State.lowReached, haccepts, State.inSet, hset, hrun, ← sourceOf_eq, hpres, hn', hclear']
      · rw [heq]
        refine ⟨?_, ?_, ?_, hseq', hgov', hrecord', hstore', hmem'⟩
        · rw [State.sourcePresent, State.fall_other _ _ (by nofun), sourceOf_eq]
          exact State.fall_source _ _ _
        · rw [(State.fall_frame _ _ _).2.2.2.2.2.2.2.2.1, (State.fall_frame _ _ _).2.2.2.2.2.2.2.2.1]
          simp [hw, State.setCounts]
        · rw [hall.frame]
          rfl
  · intro v hcalm hlevel
    obtain ⟨hu, heq⟩ := State.levelsTested_fallen (s := s) (x := x) haw hcalm (.inr hlevel)
    set u := s.levelsTested x f with hudef
    have hset' : u.cfg.pinion.has x = true := by rw [hu.cfg]; exact hset
    have hr' : u.seq.restartPending = false := by rw [hu.seq]; exact hr
    obtain ⟨hseq, hgov, hlock, hrecord, hstore, hmem⟩ := hu.sameUnits
    refine ⟨fun hover hready habs => ?_, fun hover hlatch habs => ?_, fun hover => ?_⟩
    · have hready' : u.tripReady := hready.of_same hseq hlock
      rw [State.overvoltTest_above hset' (by rw [hu.cfg]; exact hover)] at heq
      refine ⟨_, congrArg Host.Outcome.next heq, ?_, State.present_of_source _ (u.tripRise_present _ _ rfl hr')⟩
      refine (u.tripRise_tripped _ _ hready' (hu.absent _ _ habs)).of_same (congrArg Sequencer.afterTrip hseq) ?_ ?_
      · rw [hu.frame]
        rfl
      · rw [hu.frame]
        rfl
    · have hlatch' : u.seq.drive = .unconfigured ∨
          (u.seq.drive = .tripped ∧ u.faults.lock = true ∧ u.faults.windowOpen = false) := by
        rw [hu.frame]
        exact hlatch
      have habs' := hu.absent _ _ habs
      rw [State.overvoltTest_above hset' (by rw [hu.cfg]; exact hover), u.tripRise_latches habs' hlatch'] at heq
      refine ⟨_, congrArg Host.Outcome.next heq, u.latchRise_latched _ _ _ habs', State.present_of_source _ (u.latchRise_present _ _ _), ?_, ?_⟩
      · rw [State.latchRise, habs', if_neg (by decide), State.setEntry, State.setFaults_faults, FaultUnit.entry_setEntry_same]
        show u.req.partTime = s.req.partTime
        rw [hu.frame]
        rfl
      · exact hu.sameUnits.trans (u.latchRise_sameUnits _ _ _)
    · rw [State.overvoltTest_below hset' (by rw [hu.cfg]; exact hover)] at heq
      exact ⟨_, congrArg Host.Outcome.next heq, State.fall_source _ _ _,
        (u.fall_latched_entry _ _ _).trans (hu.latched _), hu.sameUnits.trans (State.fall_sameUnits _ _ _)⟩

/-! ### The current period (R65, R66) -/

/-- The state in which the missing test of a period start is made: the pending duties are in force (R65, step 1). -/
def State.dutiesTaken (s : State) (x : Side) : State := s.setReg x (s.regs.get x).takeDuties

/-- The state after a missing period, before its third one trips (R66). -/
def State.periodCounted (s : State) (x : Side) (n : Nat) : State :=
  s.setReg x { s.regs.get x with angle := s.steppedAngle x, missing := n }

section
variable {s : State} {x : Side}

theorem State.currentPeriod_kept (h : ((s.dutiesTaken x).missingTest x).record.resets = s.record.resets) :
    s.currentPeriod x = ((s.dutiesTaken x).missingTest x).openPeriod x := State.unlessReset_kept _ h

theorem State.dutiesTaken_get : (s.dutiesTaken x).regs.get x = (s.regs.get x).takeDuties := State.setReg_get _ _ _

theorem State.missingTest_first (h : (s.regs.get x).firstPeriod = true) : s.missingTest x = s := if_pos h

theorem State.missingTest_seen (h : (s.regs.get x).firstPeriod = false) (hseen : (s.regs.get x).arrivalSeen = true) :
    s.missingTest x = s.periodSeen x := (if_neg (by simp [h])).trans (if_pos hseen)

theorem State.missingTest_missing (h : (s.regs.get x).firstPeriod = false) (hseen : (s.regs.get x).arrivalSeen = false) :
    s.missingTest x = s.periodMissing x := (if_neg (by simp [h])).trans (if_neg (by simp [hseen]))

/-- A missing period that is not the third one (R66). -/
theorem State.periodMissing_counted (hset : s.cfg.pinion.has x = true) (h : (s.regs.get x).missing < 2) :
    s.periodMissing x = s.periodCounted x ((s.regs.get x).missing + 1) := by
  have hcount : (if s.inSet x then countTo 3 (s.regs.get x).missing else 0) = (s.regs.get x).missing + 1 := by
    rw [State.inSet, if_pos hset, countTo, if_pos (by omega)]
  unfold State.periodMissing
  dsimp only
  rw [hcount, if_neg (by simp; omega)]
  rfl

/-- The third missing period in a row (R66). -/
theorem State.periodMissing_third (hset : s.cfg.pinion.has x = true) (h : (s.regs.get x).missing = 2)
    (hloss : (s.regs.get x).measLoss = false) : s.periodMissing x = (s.periodCounted x 3).measLossRise x := by
  have hcount : (if s.inSet x then countTo 3 (s.regs.get x).missing else 0) = 3 := by
    rw [State.inSet, if_pos hset, h]
    rfl
  unfold State.periodMissing
  dsimp only
  rw [hcount]
  exact if_pos (by simp [hloss])

/-- The state at the rise of MEAS LOSS: the gates blocked and the duties at rest (R66). -/
def State.measLost (s : State) (x : Side) : State :=
  (s.setGateBlock x).setReg x { (s.setGateBlock x).regs.get x with duties := .mid, measLoss := true }

theorem State.measLost_get : ((s.measLost x).regs.get x).gateBlock = true ∧ ((s.measLost x).regs.get x).duties = .mid ∧
    ((s.measLost x).regs.get x).missing = (s.regs.get x).missing ∧ ((s.measLost x).regs.get x).angle = (s.regs.get x).angle ∧
    ((s.measLost x).regs.get x).published = (s.regs.get x).published := by
  unfold State.measLost State.setGateBlock
  dsimp only
  rw [State.setReg_get, State.setReg_get]
  split <;> exact ⟨rfl, rfl, rfl, rfl, rfl⟩

/-- A first cause leaves a blocked regulator as it is (R67). -/
theorem State.ungated_blocked (h : (s.regs.get x).gateBlock = true) : s.ungated x = s.regs.get x :=
  if_pos (by simp [State.blocked, h])

end

/-- Settles O43. -/
theorem currentPeriodAndMissingTest : Obligations.CurrentPeriodAndMissingTest := by
  intro s x g opened duties
  set u := s.dutiesTaken x with hu
  have hget : u.regs.get x = g.takeDuties := State.dutiesTaken_get
  refine ⟨fun hfirst => ?_, fun hfirst hseen => ?_, fun hfirst hseen hset hn hn' => ?_, fun hfirst hseen hset hn hloss hready ha => ?_⟩
  · have htest : u.missingTest x = u := State.missingTest_first (by rw [hget]; exact hfirst)
    refine ⟨_, congrArg Host.Outcome.next (State.currentPeriod_kept (by rw [← hu, htest]; rfl)), ?_⟩
    rw [← hu, htest]
    cases x <;> rfl
  · have htest : u.missingTest x = u.periodSeen x :=
      State.missingTest_seen (by rw [hget]; exact hfirst) (by rw [hget]; exact hseen)
    set w := u.setReg x { u.regs.get x with missing := 0, measLoss := false } with hw
    have hfall : u.periodSeen x = w.fall (.measLoss x) .first := rfl
    refine ⟨(w.fall (.measLoss x) .first).openPeriod x, ?_, ?_, ?_, fun k hk => ?_⟩
    · refine congrArg Host.Outcome.next ((State.currentPeriod_kept ?_).trans ?_)
      · rw [← hu, htest, hfall, (State.fall_frame _ _ _).2.2.2.2.2.2.2.2.2.1]
        rfl
      · rw [← hu, htest, hfall]
    · rw [w.fall_eq]
      have hfirst' : g = { g with firstPeriod := false } := by rw [← hfirst]
      cases x <;> (rw [hfirst']; rfl)
    · exact w.fall_source _ _
    · exact w.fall_other _ hk
  · have hcount : u.missingTest x = u.periodCounted x (g.missing + 1) := by
      rw [State.missingTest_missing (by rw [hget]; exact hfirst) (by rw [hget]; exact hseen),
        State.periodMissing_counted (s := u) hset (by rw [hget]; show g.missing < 2; omega), hget]
      rfl
    refine ⟨(u.periodCounted x (g.missing + 1)).openPeriod x, ?_, ?_⟩
    · refine congrArg Host.Outcome.next ((State.currentPeriod_kept ?_).trans ?_)
      · rw [← hu, hcount]
        rfl
      · rw [← hu, hcount]
    · have hg : g = { g with arrivalSeen := false, firstPeriod := false } :=
        congrArg₂ (fun a b => ({ g with arrivalSeen := a, firstPeriod := b } : Regulator)) hseen hfirst
      rw [hg]
      cases x <;> rfl
  · set w := (u.periodCounted x 3).measLost x with hw
    have hready' : w.tripReady := hready
    have ha' : w.sourcePresent (.measLoss x) .first = false := ha
    have htest : u.missingTest x = w.tripRise (.measLoss x) .first := by
      rw [State.missingTest_missing (by rw [hget]; exact hfirst) (by rw [hget]; exact hseen),
        State.periodMissing_third (s := u) hset (by rw [hget]; exact hn) (by rw [hget]; exact hloss)]
      rfl
    obtain ⟨-, hresets, -, hmeas, -⟩ := w.tripRise_calm (.measLoss x) .first hready'.2.2.2
    obtain ⟨hblock, hduties, hmissing, hangle, hpublished⟩ := State.measLost_get (s := u.periodCounted x 3) (x := x)
    have hreg : (w.tripRise (.measLoss x) .first).regs.get x = w.regs.get x := by
      rw [w.tripRise_regs hready' ha', Pair.get_ofFn, State.ungated_blocked hblock]
    have hcounted : (u.periodCounted x 3).regs.get x = { u.regs.get x with angle := u.steppedAngle x, missing := 3 } :=
      State.setReg_get _ _ _
    have heq : s.currentPeriod x = (w.tripRise (.measLoss x) .first).openPeriod x := by
      rw [State.currentPeriod_kept, ← hu, htest]
      rw [← hu, htest, hresets]
      rfl
    have hopen : ((w.tripRise (.measLoss x) .first).openPeriod x).regs.get x =
        { w.regs.get x with arrivalSeen := false, firstPeriod := false }.publishDuties := by
      rw [← hreg]
      exact State.setReg_get _ _ _
    refine ⟨(w.tripRise (.measLoss x) .first).openPeriod x, congrArg Host.Outcome.next ((if_pos ?_).trans heq),
      congrArg Host.Outcome.next heq, ?_, ?_, ?_, ?_, ?_, ?_, ?_⟩
    · show State.missingReached s x = true
      have hn' : (s.regs.get x).missing = 2 := hn
      have hfirst' : (s.regs.get x).firstPeriod = false := hfirst
      have hseen' : (s.regs.get x).arrivalSeen = false := hseen
      simp [State.missingReached, State.inSet, hset, hn', hfirst', hseen']
    · have htrip : State.Tripped s (w.tripRise (.measLoss x) .first) (.measLoss x) :=
        (w.tripRise_tripped _ _ hready' ha').of_same rfl rfl rfl
      exact htrip.of_frame rfl rfl rfl rfl rfl
    · rw [hopen]
      exact hmissing.trans (by rw [hcounted])
    · rw [hopen]
      exact hblock
    · rw [hopen]
      exact hduties
    · rw [hopen]
      have hpub : (w.regs.get x).published = g.published := hpublished.trans (by rw [hcounted, hget]; rfl)
      show ({ (w.regs.get x).published with duties := (w.regs.get x).duties } : Published) = _
      rw [hpub, hduties]
      rfl
    · rw [hopen]
      refine hangle.trans ?_
      rw [hcounted]
      show u.steppedAngle x = s.steppedAngle x
      rw [State.steppedAngle, State.steppedAngle, hget]
      rfl
    · show ({ (w.tripRise (.measLoss x) .first).meas with
        links := (w.tripRise (.measLoss x) .first).meas.links.set x
          { (w.tripRise (.measLoss x) .first).meas.links.get x with awaiting := true } } : MeasUnit) = opened
      rw [hmeas]
      rfl

end Sys2Proof.Machine
end

section
/-! READ SETTINGS, and the images of settings (R173, R185). -/

namespace Sys2Proof.Machine

/-! ### Words and the quantities they hold (R179) -/

theorem ofNat_toNat_same {n : Nat} (w : BitVec n) : BitVec.ofNat n w.toNat = w := BitVec.eq_of_toNat_eq (by simp)

theorem natWord_natAt (ws : List Word) (i : Nat) : natWord (natAt ws i) = wordAt ws i := ofNat_toNat_same _

theorem intWord_natAt (ws : List Word) (i : Nat) : intWord (natAt ws i : Int) = wordAt ws i := by
  rw [intWord, BitVec.ofInt_natCast]
  exact natWord_natAt ws i

theorem dwordWords_joinWords (lo hi : Word) : dwordWords (joinWords lo hi) = [lo, hi] := by
  have hjoin : (joinWords lo hi).toNat = lo.toNat + 65536 * hi.toNat := by
    rw [joinWords, BitVec.toNat_append, ← Nat.shiftLeft_add_eq_or_of_lt lo.isLt, Nat.shiftLeft_eq]
    omega
  have hl : lo.toNat < 65536 := lo.isLt
  have hh : hi.toNat < 65536 := hi.isLt
  have hlo : loWord (joinWords lo hi) = lo := BitVec.eq_of_toNat_eq (by
    rw [loWord, BitVec.extractLsb'_toNat, hjoin]
    simp only [Nat.shiftRight_zero]
    omega)
  have hhi : hiWord (joinWords lo hi) = hi := BitVec.eq_of_toNat_eq (by
    rw [hiWord, BitVec.extractLsb'_toNat, hjoin, Nat.shiftRight_eq_div_pow]
    omega)
  rw [dwordWords, hlo, hhi]

theorem nat32Words_nat32At (ws : List Word) (i : Nat) : nat32Words (nat32At ws i) = [wordAt ws i, wordAt ws (i + 1)] := by
  rw [nat32Words, nat32At, ofNat_toNat_same]
  exact dwordWords_joinWords _ _

theorem int32Words_nat32At (ws : List Word) (i : Nat) : int32Words (nat32At ws i : Int) = [wordAt ws i, wordAt ws (i + 1)] := by
  rw [int32Words, BitVec.ofInt_natCast]
  exact nat32Words_nat32At ws i

theorem natWord_eq_wordAt {ws : List Word} {i n : Nat} (h : n = natAt ws i) : natWord n = wordAt ws i := h ▸ natWord_natAt ws i

theorem pinionOf_code {n : Nat} (h : n ≤ 2) : (pinionOf n).code = n := by
  interval_cases n <;> rfl

theorem flagWord_natAt {ws : List Word} {i : Nat} (h : natAt ws i ≤ 1) : flagWord (natAt ws i != 0) = wordAt ws i := by
  have hcases : natAt ws i = 0 ∨ natAt ws i = 1 := by omega
  rw [← natWord_natAt]
  rcases hcases with h | h <;> rw [h] <;> rfl

theorem byteWord_byteOfWord {ws : List Word} {i : Nat} (h : natAt ws i ≤ 255) : byteWord (byteOfWord ws i) = wordAt ws i := by
  refine natWord_eq_wordAt ?_
  rw [byteOfWord, BitVec.toNat_ofNat]
  omega

/-- A list of words is the list of its words. -/
theorem wordAt_range {ws : List Word} {n : Nat} (h : ws.length = n) : (List.range n).map (wordAt ws) = ws := by
  refine List.ext_getElem (by simp [h]) fun i h1 h2 => ?_
  simp [wordAt, List.getD_eq_getElem?_getD, List.getElem?_eq_getElem h2]

theorem padWords_self {n : Nat} {ws : List Word} (h : ws.length = n) : padWords n ws = ws := by
  rw [padWords, List.take_left' h]

theorem padWords_eq {n : Nat} {ws : List Word} (h : ws.length ≤ n) : padWords n ws = ws ++ List.replicate (n - ws.length) 0 := by
  rw [padWords, List.take_append, List.take_of_length_le h, List.take_replicate, Nat.min_eq_left (by omega)]

/-! ### Images that pass their checks -/

/-- What the checks of an image that passes say of its fields. -/
theorem imageBad_none {g : Nat} (hg : g ≤ 4) {ws : List Word} (h : imageBad g ws = none) :
    ∀ r ∈ imageRanges g (natAt ws 0), meets g (imageValue g ws) r := by
  rw [imageBad_eq hg, firstBreach, Option.or_eq_none_iff, Option.map_eq_none_iff, List.find?_eq_none] at h
  exact fun r hr => by simpa using h.1 r hr

/-- A field of one word in its range. -/
theorem natAt_range {g : Nat} (hg : g ≤ 4) {ws : List Word} (h : imageBad g ws = none) {i lo hi : Nat}
    (hr : (i, lo, hi) ∈ imageRanges g (natAt ws 0)) (hnarrow : ¬wideField g i) : lo ≤ natAt ws i ∧ natAt ws i ≤ hi := by
  obtain ⟨h1, h2, -⟩ := imageBad_none hg h _ hr
  have hvalue : imageValue g ws i = natAt ws i := if_neg hnarrow
  rw [← hvalue]
  exact ⟨h1, h2⟩

theorem driveImage_ofImage {ws : List Word} (hlen : ws.length = 46) (h : imageBad 0 ws = none) :
    (DriveSettings.ofImage ws).image = ws := by
  have h0 : natAt ws 0 ≤ 2 := (natAt_range (g := 0) (lo := 0) (by decide) h (by simp [imageRanges]) (by decide)).2
  have h19 : natAt ws 19 ≤ 1 := (natAt_range (g := 0) (lo := 0) (by decide) h (by simp [imageRanges]) (by decide)).2
  have hpermit : natWord (PermitAction.code (if natAt ws 19 = 0 then .ramp else .trip)) = wordAt ws 19 := by
    refine natWord_eq_wordAt ?_
    have hcases : natAt ws 19 = 0 ∨ natAt ws 19 = 1 := by omega
    rcases hcases with h | h <;> rw [h] <;> rfl
  rw [← wordAt_range hlen]
  conv_lhs => rw [wordAt_range hlen]
  simp only [DriveSettings.image, DriveSettings.ofImage, intWord_natAt, natWord_natAt, int32Words_nat32At,
    natWord_eq_wordAt (pinionOf_code h0), hpermit]
  rfl

theorem driveSettings_ofImage (ws : List Word) : DriveSettings.ofImage ws = { DriveSettings.ofImage ws with
    pinion := if natAt ws 0 = 0 then .both else if natAt ws 0 = 1 then .aOnly else .bOnly
    countsPerRev := ((natAt ws 4 + 65536 * natAt ws 5 : Nat) : Int)
    countsPerShell := ((natAt ws 6 + 65536 * natAt ws 7 : Nat) : Int) } := by
  rw [← pinionOf_eq, ← nat32At_natAt, ← nat32At_natAt]
  rfl

/-! ### ENVELOPE -/

theorem getElem?_wordAt {ws : List Word} {i : Nat} (h : i < ws.length) : ws[i]? = some (wordAt ws i) := by
  rw [wordAt, List.getD_eq_getElem?_getD, List.getElem?_eq_getElem h]
  rfl

/-- The words of the first `n` breakpoints of an image. -/
theorem take_breakpoints {ws : List Word} (n : Nat) (h : 1 + 3 * n ≤ ws.length) : ws.take (1 + 3 * n) =
    wordAt ws 0 :: (List.range n).flatMap fun k => [wordAt ws (1 + 3 * k), wordAt ws (2 + 3 * k), wordAt ws (3 + 3 * k)] := by
  induction n with
  | zero =>
    cases ws with
    | nil => simp at h
    | cons w ws => rfl
  | succ n ih =>
    have hn : 1 + 3 * (n + 1) = 1 + 3 * n + 1 + 1 + 1 := by ring
    have h2 : 2 + 3 * n = 1 + 3 * n + 1 := by ring
    have h3 : 3 + 3 * n = 1 + 3 * n + 1 + 1 := by ring
    rw [hn, List.take_add_one, List.take_add_one, List.take_add_one, ih (by omega), getElem?_wordAt (by omega),
      getElem?_wordAt (by omega), getElem?_wordAt (by omega), List.range_succ, List.flatMap_append]
    simp [h2, h3]

theorem envelopeOf_length (ws : List Word) : (envelopeOf ws).length = natAt ws 0 := by simp [envelopeOf]

theorem envelopeImage_envelopeOf {ws : List Word} (hlen : ws.length = 49) (h : natAt ws 0 ≤ 16) :
    envelopeImage (envelopeOf ws) = ws.take (1 + 3 * natAt ws 0) ++ List.replicate (48 - 3 * natAt ws 0) 0 := by
  have hwords : natWord (envelopeOf ws).length :: (envelopeOf ws).flatMap (fun b => [intWord b.speed, intWord b.lm, intWord b.lg]) =
      ws.take (1 + 3 * natAt ws 0) := by
    rw [take_breakpoints _ (by omega), envelopeOf_length, natWord_natAt, envelopeOf, List.flatMap_map]
    simp only [intWord_natAt]
  have htake : (ws.take (1 + 3 * natAt ws 0)).length = 1 + 3 * natAt ws 0 := by
    rw [List.length_take, Nat.min_eq_left (by omega)]
  have hrest : 49 - (1 + 3 * natAt ws 0) = 48 - 3 * natAt ws 0 := by omega
  rw [envelopeImage, hwords, padWords_eq (by omega), htake, hrest]

/-! ### VIBRATION, RECORD and STORE -/

theorem vget_ofFn {α : Type} {n : Nat} (f : Fin n → α) (i : Fin n) : vget (Vector.ofFn f) i = f i := by simp [vget]

theorem ofFn_six_toList {α : Type} (f : Fin 6 → α) : (Vector.ofFn f).toList = [f 0, f 1, f 2, f 3, f 4, f 5] := rfl

theorem vibrationImage_ofImage {ws : List Word} (hlen : ws.length = 32) (h : imageBad 2 ws = none) :
    (VibSettings.ofImage ws).image = ws := by
  have hflag : ∀ i, i < 6 → flagWord (natAt ws i != 0) = wordAt ws i := fun i hi =>
    flagWord_natAt (natAt_range (g := 2) (lo := 0) (by decide) h (by simp [imageRanges]; omega) (by simp [wideField])).2
  rw [← wordAt_range hlen]
  conv_lhs => rw [wordAt_range hlen]
  simp only [VibSettings.image, VibSettings.ofImage, sixAt, ofFn_six_toList, List.map_cons, List.map_nil, intWord_natAt, natWord_natAt]
  rw [hflag _ (by decide), hflag _ (by decide), hflag _ (by decide), hflag _ (by decide), hflag _ (by decide), hflag _ (by decide)]
  rfl

theorem recordImage_ofImage {ws : List Word} (hlen : ws.length = 2) : (RecordSettings.ofImage ws).image = ws := by
  rw [← wordAt_range hlen]
  conv_lhs => rw [wordAt_range hlen]
  simp only [RecordSettings.image, RecordSettings.ofImage, natWord_natAt]
  rfl

theorem storeImage_ofImage {ws : List Word} (hlen : ws.length = 19) (h : imageBad 4 ws = none) :
    (StoreSettings.ofImage ws).image = ws := by
  have hflag : ∀ i, i = 0 ∨ i = 18 → flagWord (natAt ws i != 0) = wordAt ws i := fun i hi =>
    flagWord_natAt (natAt_range (g := 4) (lo := 0) (by decide) h (by rcases hi with rfl | rfl <;> simp [imageRanges])
      (by rcases hi with rfl | rfl <;> decide)).2
  have hbyte : ∀ i, 4 ≤ i → i < 15 → byteWord (byteOfWord ws i) = wordAt ws i := fun i h4 h15 => by
    refine byteWord_byteOfWord (natAt_range (g := 4) (lo := 0) (by decide) h ?_ (by simp [wideField]; omega)).2
    have hmem : (i, 0, 255) ∈ (List.range 11).map fun j => (4 + j, 0, 255) :=
      List.mem_map.mpr ⟨i - 4, List.mem_range.mpr (by omega), by rw [Nat.add_sub_cancel' h4]⟩
    simp only [imageRanges, List.mem_append]
    exact .inl (.inr hmem)
  rw [← wordAt_range hlen]
  conv_lhs => rw [wordAt_range hlen]
  simp only [StoreSettings.image, StoreSettings.ofImage, nat32Words_nat32At, natWord_natAt, List.map_cons, List.map_nil]
  rw [hflag 0 (.inl rfl), hflag 18 (.inr rfl), hbyte 4 (by decide) (by decide), hbyte 5 (by decide) (by decide),
    hbyte 6 (by decide) (by decide), hbyte 7 (by decide) (by decide), hbyte 8 (by decide) (by decide), hbyte 9 (by decide) (by decide),
    hbyte 10 (by decide) (by decide), hbyte 11 (by decide) (by decide), hbyte 12 (by decide) (by decide),
    hbyte 13 (by decide) (by decide), hbyte 14 (by decide) (by decide)]
  rfl

theorem ne_zero_eq_one {n : Nat} (h : n ≤ 1) : (n != 0) = decide (n = 1) := by
  interval_cases n <;> rfl

/-! ### The request -/

/-- The words of the group in force, written to the transfer area at the offset `off`. -/
theorem State.writeArea_given (s : State) (k : Fin 8) (off : Nat) (ws rs : List Word) :
    let t := ((s.writeArea off ws).setChain .broken).finish k .ok rs
    t.Completed k .done .ok rs ∧ t.req.chain = .broken ∧ t.mem.readWords (transferAddr + 2 * off) ws.length = ws ∧
      s.sameBlocks t ∧
      ∀ a, ¬inAnswer k a → ¬(transferAddr + 2 * off ≤ a ∧ a < transferAddr + 2 * off + 2 * ws.length) →
        t.mem.read a = s.mem.read a := by
  refine ⟨State.finish_completed _ _ _ _, rfl, ?_, by simp [State.sameBlocks], fun a ha hout => ?_⟩
  · exact State.finish_holds (s := (s.writeArea off ws).setChain .broken) _ _ (Memory.holds_writeWords _ _ _)
      (by unfold transferAddr; omega)
  · rw [State.finish_read _ _ _ _ ha]
    exact Memory.read_writeWords_outside _ _ _ _ (by omega)

section
variable {s : State} {k : Fin 8} {rest : List (Fin 8)} (hhead : s.atHead (some .readSettings) k rest)
include hhead

theorem exec_readSettings : exec .readSettings s = .next (
    if 4 < (s.param k 0).toNat then (s.takeSlot k rest).refuseInvalid k 0 false
    else if 4096 < (s.param k 1).toNat + imageLength (s.param k 0).toNat then (s.takeSlot k rest).refuseInvalid k 1 false
    else if s.req.holder.isSome then (s.takeSlot k rest).refuse k .busy
    else
      match s.groupImage (s.param k 0).toNat with
      | none => (s.takeSlot k rest).finish k .noEffect []
      | some ws => (((s.takeSlot k rest).writeArea (s.param k 1).toNat
          (padWords (imageLength (s.param k 0).toNat) ws)).setChain .broken).finish k .ok
            [natWord (s.param k 0).toNat, natWord (imageLength (s.param k 0).toNat)]) := by
  rw [exec_take rfl hhead, natAt_slotParams s k (by decide), natAt_slotParams s k (by decide)]
  rfl

/-- A READ SETTINGS with its group not in force. -/
theorem readSettings_noEffect (hg : (s.param k 0).toNat ≤ 4)
    (hoff : (s.param k 1).toNat + imageLength (s.param k 0).toNat ≤ 4096) (hfree : s.req.holder = none)
    (himage : s.groupImage (s.param k 0).toNat = none) :
    ∃ t, exec .readSettings s = .next t ∧ State.Answered s t k rest .done .noEffect [] := by
  refine answered_of_exec ?_
  rw [exec_readSettings hhead, if_neg (by omega), if_neg (by omega), hfree, himage]
  rfl

/-- A READ SETTINGS that gives the image of its group. -/
theorem readSettings_given {ws : List Word} (hg : (s.param k 0).toNat ≤ 4)
    (hoff : (s.param k 1).toNat + imageLength (s.param k 0).toNat ≤ 4096) (hfree : s.req.holder = none)
    (himage : s.groupImage (s.param k 0).toNat = some ws) (hlen : ws.length = imageLength (s.param k 0).toNat) :
    ∃ t, exec .readSettings s = .next t ∧
      State.Completed t k .done .ok [natWord (s.param k 0).toNat, natWord (imageLength (s.param k 0).toNat)] ∧
      t.req.chain = .broken ∧
      t.mem.readWords (transferAddr + 2 * (s.param k 1).toNat) (imageLength (s.param k 0).toNat) = ws ∧ s.sameBlocks t ∧
      ∀ a, ¬inAnswer k a → ¬(transferAddr + 2 * (s.param k 1).toNat ≤ a ∧
        a < transferAddr + 2 * (s.param k 1).toNat + 2 * imageLength (s.param k 0).toNat) → t.mem.read a = s.mem.read a := by
  have hgiven := (s.takeSlot k rest).writeArea_given k (s.param k 1).toNat ws
    [natWord (s.param k 0).toNat, natWord (imageLength (s.param k 0).toNat)]
  rw [hlen] at hgiven
  refine ⟨_, ?_, hgiven⟩
  rw [exec_readSettings hhead, if_neg (by omega), if_neg (by omega), hfree, himage]
  dsimp only
  rw [padWords_self hlen]
  rfl

end

/-- Settles O27. -/
theorem readSettingsGivesGroupInForce : Obligations.ReadSettingsGivesGroupInForce := by
  refine ⟨fun s k rest hhead => ?_, fun ws hlen h => ⟨driveImage_ofImage hlen h, driveSettings_ofImage ws⟩,
    fun ws hlen h => ?_, fun ws hlen h => ?_, fun ws hlen => ⟨recordImage_ofImage hlen, rfl⟩, fun ws hlen h => ?_⟩
  · dsimp only
    refine ⟨fun hg => answered_of_exec ?_, fun hg hoff => answered_of_exec ?_, fun hg hoff hheld => answered_of_exec ?_,
      fun hoff hfree hnone => ?_, fun c hg hoff hfree hc => ?_, fun e hg hoff hfree hc => ?_, fun v hg hoff hfree hc => ?_,
      fun r hg hoff hfree hc => ?_, fun c hg hoff hfree hc hident => ?_⟩
    · rw [exec_readSettings hhead, if_pos hg]
      rfl
    · rw [imageLength_eq hg] at hoff
      rw [exec_readSettings hhead, if_neg (by omega), if_pos hoff]
      rfl
    · rw [imageLength_eq hg] at hoff
      rw [exec_readSettings hhead, if_neg (by omega), if_neg (by omega), if_pos hheld]
      rfl
    · have hg : (s.param k 0).toNat ≤ 4 := by omega
      rw [imageLength_eq hg] at hoff
      refine readSettings_noEffect hhead hg hoff hfree ?_
      rcases hnone with ⟨h0, h⟩ | ⟨h0, h⟩ | ⟨h0, h⟩ | ⟨h0, h⟩ | ⟨h0, h⟩ <;> simp [h0, State.groupImage, h]
    · have hg4 : (s.param k 0).toNat ≤ 4 := by omega
      rw [imageLength_eq hg4] at hoff ⊢
      exact readSettings_given hhead hg4 hoff hfree (by simp [hg, State.groupImage, hc]) (by rw [hg]; rfl)
    · have hg4 : (s.param k 0).toNat ≤ 4 := by omega
      rw [imageLength_eq hg4] at hoff ⊢
      exact readSettings_given hhead hg4 hoff hfree (by simp [hg, State.groupImage, hc])
        (by rw [hg]; exact padWords_length _ _)
    · have hg4 : (s.param k 0).toNat ≤ 4 := by omega
      rw [imageLength_eq hg4] at hoff ⊢
      exact readSettings_given hhead hg4 hoff hfree (by simp [hg, State.groupImage, hc])
        (by rw [hg]; simp [VibSettings.image, imageLength])
    · have hg4 : (s.param k 0).toNat ≤ 4 := by omega
      rw [imageLength_eq hg4] at hoff ⊢
      exact readSettings_given hhead hg4 hoff hfree (by simp [hg, State.groupImage, hc, RecordSettings.image]) (by rw [hg]; rfl)
    · have hg4 : (s.param k 0).toNat ≤ 4 := by omega
      rw [imageLength_eq hg4] at hoff ⊢
      exact readSettings_given hhead hg4 hoff hfree (by simp [hg, State.groupImage, hc])
        (by rw [hg]; simp [StoreSettings.image, imageLength, nat32Words, dwordWords])
  · have h16 := (natAt_range (g := 1) (i := 0) (lo := 2) (hi := 16) (by decide) h (by simp [imageRanges]) (by decide)).2
    refine ⟨envelopeImage_envelopeOf hlen h16, envelopeOf_length ws, fun k hk => ?_⟩
    have hk' : k < natAt ws 0 := hk
    have hget : (List.range (natAt ws 0))[k]? = some k := by simp [hk']
    rw [envelopeOf, List.getElem?_map, hget]
    rfl
  · have hflag : ∀ c : Channel, (natAt ws c.val != 0) = decide (natAt ws c.val = 1) := fun c =>
      ne_zero_eq_one (natAt_range (g := 2) (lo := 0) (by decide) h
        (by simp [imageRanges]) (by simp [wideField])).2
    refine ⟨vibrationImage_ofImage hlen h, rfl, fun c => ⟨?_, vget_ofFn _ _, vget_ofFn _ _, vget_ofFn _ _⟩⟩
    exact (vget_ofFn _ _).trans (hflag c)
  · have hflag : ∀ i, i = 0 ∨ i = 18 → (natAt ws i != 0) = decide (natAt ws i = 1) := fun i hi =>
      ne_zero_eq_one (natAt_range (g := 4) (lo := 0) (by decide) h (by rcases hi with rfl | rfl <;> simp [imageRanges])
        (by rcases hi with rfl | rfl <;> decide)).2
    refine ⟨storeImage_ofImage hlen h, ?_⟩
    rw [StoreSettings.ofImage, hflag 0 (.inl rfl), hflag 18 (.inr rfl), nat32At_natAt]
    rfl

end Sys2Proof.Machine
end

section
/-! The voltages and the duties of an arrival, the angle step and the sine table (R73, R74, R76 to R79). -/

namespace Sys2Proof.Machine

/-! ### Clamps -/

theorem clampTo_eq {lo hi : Int} (h : lo ≤ hi) (x : Int) : clampTo lo hi x = max lo (min hi x) := by
  unfold clampTo
  split_ifs <;> omega

theorem clampAbs_eq_max {k : Int} (h : 0 ≤ k) (x : Int) : clampAbs k x = max (-k) (min k x) := clampTo_eq (by omega) x

theorem abs_clampAbs_le {k : Int} (h : 0 ≤ k) (x : Int) : |clampAbs k x| ≤ k := by
  rw [clampAbs_eq_max h, abs_le]
  omega

theorem clampTo_range {lo hi : Int} (h : lo ≤ hi) (x : Int) : lo ≤ clampTo lo hi x ∧ clampTo lo hi x ≤ hi := by
  rw [clampTo_eq h]
  omega

theorem clampState_limits {v m : Int} : clampState v m ≠ .none ↔ m < |v| := by
  unfold clampState
  rw [lt_abs]
  split_ifs <;> simp <;> omega

/-! ### The voltage limit (R77) -/

theorem vMax_nonneg {vdc mlim : Int} (hv : 0 ≤ vdc) (hm : 0 ≤ mlim) : 0 ≤ vMax vdc mlim :=
  Int.ediv_nonneg (mul_nonneg hv hm) (by decide)

/-- The bound that the d-axis voltage leaves to the q-axis voltage. -/
theorem isqrt_rest_sq_le {m v : Int} (h : |v| ≤ m) : (isqrt (m * m - v * v).toNat : Int) ^ 2 ≤ m ^ 2 - v ^ 2 := by
  have hsq : v ^ 2 ≤ m ^ 2 := sq_le_sq' (abs_le.mp h).1 (abs_le.mp h).2
  have hroot := (integerSquareRootIsFloor (m * m - v * v).toNat).1
  have hcast : ((isqrt (m * m - v * v).toNat * isqrt (m * m - v * v).toNat : Nat) : Int) ≤ ((m * m - v * v).toNat : Int) := by
    exact_mod_cast hroot
  rw [Int.toNat_of_nonneg (by nlinarith)] at hcast
  push_cast at hcast
  nlinarith

/-- A pair of voltages limited one after the other. -/
theorem limited_pair {m : Int} (hm : 0 ≤ m) (v w : Int) :
    |clampAbs m v| ≤ m ∧ |clampAbs (isqrt (m * m - clampAbs m v * clampAbs m v).toNat) w| ≤ m ∧
      clampAbs m v ^ 2 + clampAbs (isqrt (m * m - clampAbs m v * clampAbs m v).toNat) w ^ 2 ≤ m ^ 2 := by
  have hv := abs_clampAbs_le hm v
  have hroot := isqrt_rest_sq_le hv
  have hw := abs_clampAbs_le (Int.natCast_nonneg (isqrt (m * m - clampAbs m v * clampAbs m v).toNat)) w
  have hsq := sq_le_sq' (abs_le.mp hw).1 (abs_le.mp hw).2
  have hsum : clampAbs m v ^ 2 + clampAbs (isqrt (m * m - clampAbs m v * clampAbs m v).toNat) w ^ 2 ≤ m ^ 2 := by linarith
  refine ⟨hv, ?_, hsum⟩
  have hle : clampAbs (isqrt (m * m - clampAbs m v * clampAbs m v).toNat) w ^ 2 ≤ m ^ 2 := by
    linarith [sq_nonneg (clampAbs m v)]
  exact abs_le_of_sq_le_sq hle hm

/-! ### The loops and the duties (R76, R78, R79) -/

theorem stepIntegrator_eq (clamp : ClampState) (integ err kic : Int) : stepIntegrator clamp integ err kic =
    if (clamp = .high ∧ 0 < err) ∨ (clamp = .low ∧ err < 0) then max (-1000000) (min 1000000 integ)
    else max (-1000000) (min 1000000 (integ + err * kic)) := by
  unfold stepIntegrator
  dsimp only
  rw [clampAbs_eq_max (by decide)]
  by_cases h : (clamp = .high ∧ 0 < err) ∨ (clamp = .low ∧ err < 0)
  · have hheld : ((clamp = .high && decide (0 < err)) || (clamp = .low && decide (err < 0))) = true := by simpa using h
    rw [if_pos h, if_pos hheld]
  · have hheld : ¬((clamp = .high && decide (0 < err)) || (clamp = .low && decide (err < 0))) = true := by simpa using h
    rw [if_neg h, if_neg hheld]

theorem dutyOf_eq {dmin : Int} (h : dmin ≤ 500) (v offset vdc : Int) : dutyOf v offset vdc dmin =
    max dmin (min (1000 - dmin) (500 + roundDiv ((v - offset) * 1000) vdc)) := clampTo_eq (by omega) _

theorem dutyOf_range {dmin : Int} (h : dmin ≤ 500) (v offset vdc : Int) :
    dmin ≤ dutyOf v offset vdc dmin ∧ dutyOf v offset vdc dmin ≤ 1000 - dmin := clampTo_range (by omega) _

theorem dutiesOf_range {dmin : Int} (h : dmin ≤ 500) (va vb vc vdc d : Int)
    (hd : d ∈ [(dutiesOf va vb vc vdc dmin).a, (dutiesOf va vb vc vdc dmin).b, (dutiesOf va vb vc vdc dmin).c]) :
    dmin ≤ d ∧ d ≤ 1000 - dmin := by
  by_cases hlow : vdc < 50
  · rw [dutiesOf, if_pos hlow] at hd
    have hmid : d = 500 := by simpa [Duties.mid] using hd
    omega
  · rw [dutiesOf, if_neg hlow] at hd
    simp only [List.mem_cons, List.not_mem_nil, or_false] at hd
    rcases hd with rfl | rfl | rfl <;> exact dutyOf_range h _ _ _

/-- The voltage-limited flag of an arrival (R77). -/
theorem limited_flag {m mq vd vq : Int} (flag : Bool) :
    (flag || decide (clampState vd m ≠ .none) || decide (clampState vq mq ≠ .none)) =
      (flag || decide (m < |vd| ∨ mq < |vq|)) := by
  rw [Bool.or_assoc, ← Bool.decide_or]
  simp only [clampState_limits]

/-! ### The sine table (R74) -/

theorem getD_le_of_forall {l : List Nat} {d : Nat} (h : ∀ x ∈ l, x ≤ d) (i : Nat) : l.getD i 0 ≤ d := by
  rw [List.getD_eq_getElem?_getD]
  cases hx : l[i]? with
  | none => exact Nat.zero_le _
  | some x => exact h x (List.mem_of_getElem? hx)

theorem sinePieces_le : ∀ l ∈ sinePieces, ∀ x ∈ l, x ≤ 32767 := by decide +kernel

theorem sineQuarter_le (k : Nat) : sineQuarter k ≤ 32767 := by
  unfold sineQuarter
  split_ifs with h
  · exact le_refl _
  · refine getD_le_of_forall (fun x hx => ?_) _
    rw [List.getD_eq_getElem?_getD] at hx
    cases hl : sinePieces[k / 64]? with
    | none => simp [hl] at hx
    | some l => exact sinePieces_le l (List.mem_of_getElem? hl) x (by simpa [hl] using hx)

theorem abs_sineAt_le (k : Nat) : |sineAt k| ≤ 32767 := by
  have hle := fun j => sineQuarter_le j
  have hquarter : ∀ j, |(sineQuarter j : Int)| ≤ 32767 := fun j => by
    rw [Nat.abs_cast]
    exact_mod_cast hle j
  unfold sineAt
  dsimp only
  split_ifs
  · exact hquarter _
  · exact hquarter _
  · rw [abs_neg]
    exact hquarter _
  · rw [abs_neg]
    exact hquarter _

theorem sineAt_mod (k : Nat) : sineAt (k % 4096) = sineAt k := by simp only [sineAt, Nat.mod_mod]

/-- Settles O14. -/
theorem voltagesAndDutiesInRange : Obligations.VoltagesAndDutiesInRange := by
  refine ⟨fun g c vdc idRef iqRef sin cos hv hm => limited_pair (vMax_nonneg hv hm) _ _,
    fun va vb vc vdc dmin _ h d hd => dutiesOf_range h va vb vc vdc d hd, fun g c vdc idRef iqRef sin cos hv hm => ?_,
    fun g => rfl, fun s x => ?_, by decide +kernel, fun k _ => ⟨(sineAt_mod _).symm, abs_sineAt_le k⟩⟩
  · have hbound : 0 ≤ vMax vdc c.mlim := vMax_nonneg hv hm
    dsimp only
    refine ⟨?_, fun hlow => congrArg some (if_pos hlow), fun hfull _ h500 => ?_⟩
    · have hroot := fun n : Nat => Int.natCast_nonneg (isqrt n)
      rw [← stepIntegrator_eq, ← stepIntegrator_eq]
      unfold vMax at hbound
      rw [← clampAbs_eq_max hbound, ← clampAbs_eq_max (hroot _), ← limited_flag]
      rfl
    · refine (congrArg some (if_neg (by omega))).trans ?_
      dsimp only
      rw [dutyOf_eq h500, dutyOf_eq h500, dutyOf_eq h500]
      rfl
  · cases x <;> rfl

end Sys2Proof.Machine
end

section
/-! The steps of the vibration watch: what they change of the channels, what they leave, and the trigger conditions that they
take (R83 to R100, R129, R131). -/

namespace Sys2Proof.Machine

/-! ### The wait for a MANUAL second condition -/

/-- A program whose second condition is MANUAL goes on from `s` to `t`: its wait for the first condition ends only in the window
of the second, and an open window stays as it is (R131). -/
def State.TriggerKept (s t : State) : Prop :=
  t.req.partTime = s.req.partTime ∧ ∀ p, s.record.program = some p → p.second = some .manual →
    t.record.program = some p ∧
    (s.record.trigState = .waitFirst → t.record.trigState = .waitFirst ∨ s.windowBegun t p) ∧
    (s.record.trigState = .waitSecond → t.record.trigState = .waitSecond ∧ t.record.windowTimer = s.record.windowTimer ∧
      t.record.deadline = s.record.deadline)

namespace State
variable {s t u : State}

theorem TriggerKept.of_eq (hreq : t.req.partTime = s.req.partTime) (hprogram : t.record.program = s.record.program)
    (hstate : t.record.trigState = s.record.trigState) (htimer : t.record.windowTimer = s.record.windowTimer)
    (hdeadline : t.record.deadline = s.record.deadline) : s.TriggerKept t :=
  ⟨hreq, fun _ hp _ => ⟨hprogram.trans hp, fun h => .inl (hstate.trans h), fun h => ⟨hstate.trans h, htimer, hdeadline⟩⟩⟩

theorem TriggerKept.refl (s : State) : s.TriggerKept s := .of_eq rfl rfl rfl rfl rfl

theorem TriggerKept.trans (h : s.TriggerKept t) (h' : t.TriggerKept u) : s.TriggerKept u := by
  refine ⟨h'.1.trans h.1, fun p hp hsecond => ?_⟩
  obtain ⟨htp, hwait, hopen⟩ := h.2 p hp hsecond
  obtain ⟨hup, hwait', hopen'⟩ := h'.2 p htp hsecond
  refine ⟨hup, fun hs => ?_, fun hs => ?_⟩
  · rcases hwait hs with ht | ⟨ht, htimer, hdeadline⟩
    · rcases hwait' ht with hu | ⟨hu, htimer, hdeadline⟩
      · exact .inl hu
      · exact .inr ⟨hu, htimer, by rw [hdeadline, h.1]⟩
    · obtain ⟨hu, htimer', hdeadline'⟩ := hopen' ht
      exact .inr ⟨hu, htimer'.trans htimer, hdeadline'.trans hdeadline⟩
  · obtain ⟨ht, htimer, hdeadline⟩ := hopen hs
    obtain ⟨hu, htimer', hdeadline'⟩ := hopen' ht
    exact ⟨hu, htimer'.trans htimer, hdeadline'.trans hdeadline⟩

theorem postRecord_eq (s : State) (o : Record) : s.postRecord o = { s with
    record := (s.postRecord o).record, req := { s.req with notice := (s.postRecord o).req.notice }, mem := (s.postRecord o).mem } := by
  unfold State.postRecord
  dsimp only
  split_ifs <;> rfl

theorem fire_eq (s : State) (p : Program) (d : Option Nat) : s.fire p d = { s with
    record := (s.fire p d).record, req := { s.req with notice := (s.fire p d).req.notice }, mem := (s.fire p d).mem } := by
  unfold State.fire
  dsimp only
  split
  · rfl
  · rw [State.postRecord_eq]
    rfl

theorem takeCond_eq (s : State) (c : TrigCond) (d : Option Nat) : s.takeCond c d = { s with
    record := (s.takeCond c d).record, req := { s.req with notice := (s.takeCond c d).req.notice }, mem := (s.takeCond c d).mem } := by
  unfold State.takeCond
  split
  · split
    · split
      · rw [State.fire_eq]
      · rfl
    · rfl
  · split
    · rw [State.fire_eq]
    · rfl
  · rfl

theorem takeCond_triggerKept (s : State) {c : TrigCond} (hc : c ≠ .manual) (d : Option Nat) : s.TriggerKept (s.takeCond c d) := by
  refine ⟨by rw [s.takeCond_eq], fun p hp hsecond => ?_⟩
  cases hst : s.record.trigState with
  | waitFirst =>
    by_cases hfirst : p.first = c
    · rw [State.takeCond_window d hp hst hfirst (by simp [hsecond])]
      exact ⟨hp, fun _ => .inr ⟨rfl, rfl, rfl⟩, fun h => by simp at h⟩
    · have hsame : s.takeCond c d = s := by simp [State.takeCond, hp, hst, hfirst]
      rw [hsame]
      exact ⟨hp, fun _ => .inl hst, fun h => by simp at h⟩
  | waitSecond =>
    have hsame : s.takeCond c d = s := by simp [State.takeCond, hp, hst, hsecond, Ne.symm hc]
    rw [hsame]
    exact ⟨hp, fun h => by simp at h, fun _ => ⟨hst, rfl, rfl⟩⟩
  | _ =>
    have hsame : s.takeCond c d = s := by simp [State.takeCond, hst]
    rw [hsame]
    exact ⟨hp, fun h => by simp at h, fun h => by simp at h⟩

/-- On the way from `s` to `t` the condition is taken. -/
def Takes (s t : State) (c : TrigCond) : Prop := ∃ u d, s.TriggerKept u ∧ (u.takeCond c d).TriggerKept t

theorem Takes.after {c : TrigCond} (h : s.Takes t c) (h' : t.TriggerKept u) : s.Takes u c := by
  obtain ⟨v, d, hv, ht⟩ := h
  exact ⟨v, d, hv, ht.trans h'⟩

theorem Takes.before {c : TrigCond} (h' : s.TriggerKept t) (h : t.Takes u c) : s.Takes u c := by
  obtain ⟨v, d, hv, ht⟩ := h
  exact ⟨v, d, h'.trans hv, ht⟩

/-- A program that waits for a condition that is taken stands in the window of its second (R131). -/
theorem Takes.begun {c : TrigCond} {p : Program} (h : s.Takes t c) (hc : c ≠ .manual) (hw : s.waitsFor c p) :
    s.windowBegun t p := by
  obtain ⟨u, d, hu, ht⟩ := h
  obtain ⟨hp, hfirst, hsecond, hst⟩ := hw
  have htaken : s.windowBegun (u.takeCond c d) p := by
    obtain ⟨hup, hwait, -⟩ := hu.2 p hp hsecond
    rcases hwait hst with h | ⟨h, htimer, hdeadline⟩
    · rw [State.takeCond_window d hup h hfirst (by simp [hsecond])]
      exact ⟨rfl, rfl, congrArg (· + BitVec.ofNat 32 p.window) hu.1⟩
    · have hsame : u.takeCond c d = u := by simp [State.takeCond, hup, h, hsecond, Ne.symm hc]
      rw [hsame]
      exact ⟨h, htimer, hdeadline⟩
  obtain ⟨hstate, htimer, hdeadline⟩ := htaken
  have hprogram : (u.takeCond c d).record.program = some p :=
    ((u.takeCond_triggerKept hc d).2 p (hu.2 p hp hsecond).1 hsecond).1
  obtain ⟨-, -, hopen⟩ := ht.2 p hprogram hsecond
  obtain ⟨h1, h2, h3⟩ := hopen hstate
  exact ⟨h1, h2.trans htimer, h3.trans hdeadline⟩

/-! ### Sweeps and formings -/

/-- `t` is `s` but for the channels, what is formed from them, and what reports and trigger conditions write. -/
structure Swept (s t : State) : Prop where
  eq : t = { s with
    watch := { s.watch with
      channels := t.watch.channels, groups := t.watch.groups, suspect := t.watch.suspect, lost := t.watch.lost }
    faults := t.faults, record := t.record, req := { s.req with notice := t.req.notice }, mem := t.mem }
  resets : t.record.resets = s.record.resets
  trigger : s.TriggerKept t

theorem Swept.refl (s : State) : s.Swept s := ⟨rfl, rfl, .refl s⟩

theorem Swept.trans (h : s.Swept t) (h' : t.Swept u) : s.Swept u := by
  refine ⟨?_, h'.resets.trans h.resets, h.trigger.trans h'.trigger⟩
  have heq := h'.eq
  rw [h.eq] at heq
  exact heq

theorem Swept.meas (h : s.Swept t) : t.meas = s.meas := by rw [h.eq]
theorem Swept.seq (h : s.Swept t) : t.seq = s.seq := by rw [h.eq]
theorem Swept.settings (h : s.Swept t) : t.watch.settings = s.watch.settings := by rw [h.eq]
theorem Swept.cfg (h : s.Swept t) : t.watch.cfg = s.watch.cfg := by rw [Watch.cfg, h.settings, Watch.cfg]
theorem Swept.fitted (h : s.Swept t) : t.watch.fitted = s.watch.fitted := by
  funext c
  unfold Watch.fitted
  rw [h.settings]

/-- `t` is `s` but for what is formed from the channels, and what reports and trigger conditions write. -/
structure Formed (s t : State) : Prop where
  swept : s.Swept t
  channels : t.watch.channels = s.watch.channels

theorem Formed.refl (s : State) : s.Formed s := ⟨.refl s, rfl⟩

theorem Formed.trans (h : s.Formed t) (h' : t.Formed u) : s.Formed u := ⟨h.swept.trans h'.swept, h'.channels.trans h.channels⟩

theorem Formed.channel (h : s.Formed t) (c : Channel) : t.channel c = s.channel c := by rw [State.channel, h.channels, State.channel]

theorem Reported.formed (h : s.Reported t) : s.Formed t := by
  rw [State.Reported] at h
  rw [h]
  exact ⟨⟨rfl, rfl, .of_eq rfl rfl rfl rfl rfl⟩, rfl⟩

theorem setGroup_formed (s : State) (g : Side) (w : GroupWatch) : s.Formed (s.setGroup g w) :=
  ⟨⟨rfl, rfl, .of_eq rfl rfl rfl rfl rfl⟩, rfl⟩

theorem takeCond_formed (s : State) {c : TrigCond} (hc : c ≠ .manual) (d : Option Nat) : s.Formed (s.takeCond c d) := by
  refine ⟨⟨?_, s.takeCond_keeps c d, s.takeCond_triggerKept hc d⟩, by simp⟩
  rw [s.takeCond_eq]

theorem formSuspect_formed (s : State) (c : Channel) : s.Formed (s.formSuspect c) := by
  refine Formed.trans (t := s.setWatch { s.watch with suspect := s.watch.anyFitted fun w => decide (w.health = .suspect) })
    ⟨⟨rfl, rfl, .of_eq rfl rfl rfl rfl rfl⟩, rfl⟩ ?_
  exact (State.alarmLevel_reported _ _ _ _ _).formed

theorem formLost_formed (s : State) (c : Channel) : s.Formed (s.formLost c) := by
  refine Formed.trans (t := s.setWatch { s.watch with lost := s.watch.anyFitted fun w => decide (w.health = .lost) })
    ⟨⟨rfl, rfl, .of_eq rfl rfl rfl rfl rfl⟩, rfl⟩ ?_
  exact (State.alarmLevel_reported _ _ _ _ _).formed

theorem formDemand_formed (s : State) (g : Side) : s.Formed (s.formDemand g) := s.setGroup_formed g _

theorem formAlert_formed (s : State) (g : Side) : s.Formed (s.formAlert g) :=
  (s.setGroup_formed g _).trans (State.alarmLevel_reported _ _ _ _ _).formed

theorem formDwell_formed (s : State) (g : Side) : s.Formed (s.formDwell g) := by
  unfold State.formDwell
  split
  · exact .refl s
  · exact s.setGroup_formed g _

theorem formGroup_formed (s : State) (g : Side) : s.Formed (s.formGroup g) :=
  ((s.formDemand_formed g).trans (State.formAlert_formed _ g)).trans (State.formDwell_formed _ g)

theorem healthChanged_formed (s : State) (c : Channel) : s.Formed (s.healthChanged c) :=
  (((s.takeCond_formed (by nofun) _).trans (State.formSuspect_formed _ c)).trans (State.formLost_formed _ c)).trans
    (State.formGroup_formed _ _)

theorem healthChanged_takes (s : State) (c : Channel) : s.Takes (s.healthChanged c) .healthChange :=
  ⟨s, some c.val, .refl s, (((State.formSuspect_formed _ c).trans (State.formLost_formed _ c)).trans
    (State.formGroup_formed _ _)).swept.trigger⟩

theorem vibEntry_formed (s : State) (c : Channel) (v0 : VibState) : s.Formed (s.vibEntry c v0) := by
  unfold State.vibEntry
  split
  · split
    · exact .refl s
    · exact s.takeCond_formed (by nofun) _
  · exact s.takeCond_formed (by nofun) _
  · exact .refl s

/-! ### Work on one channel -/

/-- Channel `c` has become `w`, and what is formed from the channels may have followed. -/
structure Worked (s t : State) (c : Channel) (w : ChannelWatch) : Prop where
  swept : s.Swept t
  here : t.channel c = w
  others : ∀ d, d ≠ c → t.channel d = s.channel d

variable {c : Channel} {w w' : ChannelWatch}

theorem Worked.trans (h : s.Worked t c w) (h' : t.Worked u c w') : s.Worked u c w' :=
  ⟨h.swept.trans h'.swept, h'.here, fun d hd => (h'.others d hd).trans (h.others d hd)⟩

theorem Formed.worked (h : s.Formed t) (c : Channel) : s.Worked t c (s.channel c) :=
  ⟨h.swept, h.channel c, fun d _ => h.channel d⟩

theorem Worked.formed (h : s.Worked t c w) (h' : t.Formed u) : s.Worked u c w :=
  ⟨h.swept.trans h'.swept, (h'.channel c).trans h.here, fun d hd => (h'.channel d).trans (h.others d hd)⟩

theorem setChannel_worked (s : State) (c : Channel) (w : ChannelWatch) : s.Worked (s.setChannel c w) c w :=
  ⟨⟨rfl, rfl, .of_eq rfl rfl rfl rfl rfl⟩, vget_vset_same _ _ _, fun _ hd => vget_vset_other _ _ hd⟩

end State

/-! ### Samples (R85, R86, R88, R95) -/

/-- A channel after a held run of 32 (R88). -/
def ChannelWatch.heldOut (w : ChannelWatch) : ChannelWatch := if w.health = .lost then { w with goodRun := 0 } else w.lose

/-- A channel after the visit work of a sample (R95 to R97). -/
def State.visited (s : State) (c : Channel) (w : ChannelWatch) (t : Tag) (y : Int) : ChannelWatch :=
  if s.meas.shell.valid then
    let w1 := w.follow s.meas.shell.sector
    let w2 := if decide (s.watch.cfg.watchSpeed ≤ |s.meas.n|) && t ≠ .held then w1.visitSample y else w1
    if w.mapChanges s.meas.shell.sector then w2.formMap (vget s.watch.cfg.sector c) else w2
  else w.noVisit

/-- A channel after its mean, its sum and its counts have taken a sample (R85, R86). -/
def ChannelWatch.noted (w : ChannelWatch) (r : Receiver) : ChannelWatch :=
  (w.noteTag r.tag (w.sampleOf r.tag r.code)).accumulate r.tag (w.sampleOf r.tag r.code)

/-- A channel after a sample and a held run that it may complete (R85 to R88). -/
def ChannelWatch.heard (w : ChannelWatch) (r : Receiver) : ChannelWatch :=
  if r.tag = .held && (w.noted r).heldRun = 32 then (w.noted r).heldOut else w.noted r

/-- A channel after the work of a sample. -/
def State.sampled (s : State) (c : Channel) (r : Receiver) : ChannelWatch :=
  let w := s.channel c
  s.visited c (w.heard r) r.tag (w.sampleOf r.tag r.code - (w.noted r).mean)

namespace State
variable (s : State) (c : Channel)

theorem heldLost_worked : s.Worked (s.heldLost c) c (s.channel c).heldOut := by
  unfold State.heldLost ChannelWatch.heldOut
  dsimp only
  split
  · exact s.setChannel_worked c _
  · exact (s.setChannel_worked c _).formed (State.healthChanged_formed _ c)

theorem heldLost_takes (h : (s.channel c).health ≠ .lost) : s.Takes (s.heldLost c) .healthChange := by
  unfold State.heldLost
  dsimp only
  rw [if_neg h]
  exact (State.healthChanged_takes _ c).before (s.setChannel_worked c _).swept.trigger

theorem formSectors_worked : s.Worked (s.formSectors c) c ((s.channel c).formMap (vget s.watch.cfg.sector c)) := by
  unfold State.formSectors
  dsimp only
  have hset := s.setChannel_worked c ((s.channel c).formMap (vget s.watch.cfg.sector c))
  split
  · exact hset
  · split
    · exact hset.formed (((State.takeCond_formed _ (by nofun) _).trans (State.formDemand_formed _ _)).trans (State.formAlert_formed _ _))
    · exact hset.formed ((State.formDemand_formed _ _).trans (State.formAlert_formed _ _))

/-- A rise of the sector alert is a trigger condition (R97). -/
theorem formSectors_takes (hnow : ((s.channel c).formMap (vget s.watch.cfg.sector c)).sectorAlert = true)
    (hbefore : (s.channel c).sectorAlert = false) : s.Takes (s.formSectors c) .sectorAlert := by
  unfold State.formSectors
  dsimp only
  rw [if_neg (by simp [hnow, hbefore]), if_pos hnow]
  exact ⟨_, _, (s.setChannel_worked c _).swept.trigger,
    ((State.formDemand_formed _ _).trans (State.formAlert_formed _ _)).swept.trigger⟩

theorem visitWork_worked (t : Tag) (y : Int) : s.Worked (s.visitWork c t y) c (s.visited c (s.channel c) t y) := by
  unfold State.visitWork State.visited
  dsimp only
  split
  · have hset := s.setChannel_worked c (if decide (s.watch.cfg.watchSpeed ≤ |s.meas.n|) && t ≠ .held then
      ((s.channel c).follow s.meas.shell.sector).visitSample y else (s.channel c).follow s.meas.shell.sector)
    split
    · have hform := State.formSectors_worked (s.setChannel c (if decide (s.watch.cfg.watchSpeed ≤ |s.meas.n|) && t ≠ .held then
        ((s.channel c).follow s.meas.shell.sector).visitSample y else (s.channel c).follow s.meas.shell.sector)) c
      rw [hset.here] at hform
      exact hset.trans hform
    · exact hset
  · exact s.setChannel_worked c _

theorem sampleWork_worked (r : Receiver) : s.Worked (s.sampleWork c r) c (s.sampled c r) := by
  unfold State.sampleWork State.sampled
  dsimp only
  have hnote := s.setChannel_worked c ((s.channel c).noted r)
  have hheard : s.Worked (if r.tag = .held && ((s.channel c).noted r).heldRun = 32 then
      (s.setChannel c ((s.channel c).noted r)).heldLost c else s.setChannel c ((s.channel c).noted r)) c
      ((s.channel c).heard r) := by
    unfold ChannelWatch.heard
    split
    · have hlost := State.heldLost_worked (s.setChannel c ((s.channel c).noted r)) c
      rw [hnote.here] at hlost
      exact hnote.trans hlost
    · exact hnote
  have hvisit := State.visitWork_worked (if r.tag = .held && ((s.channel c).noted r).heldRun = 32 then
      (s.setChannel c ((s.channel c).noted r)).heldLost c else s.setChannel c ((s.channel c).noted r)) c r.tag
      ((s.channel c).sampleOf r.tag r.code - ((s.channel c).noted r).mean)
  rw [hheard.here] at hvisit
  have hsame : ∀ u : State, s.Swept u → u.visited c = s.visited c := fun u hu => by
    unfold State.visited
    rw [hu.meas, hu.cfg]
  rw [hsame _ hheard.swept] at hvisit
  exact hheard.trans hvisit

end State

end Sys2Proof.Machine
end

section
/-! The block end, the sweeps over the channels, and the sample period as a whole (R83, R87 to R94, R100). -/

namespace Sys2Proof.Machine

/-! ### The block end of a channel (R87 to R94) -/

/-- A channel after steps 1 to 4 of a block end (R87, R89). -/
def ChannelWatch.judged (w : ChannelWatch) : ChannelWatch := w.closeBlock.stepHealth (decide (8 < w.held + w.errs))

/-- A channel that stands as `w` is evaluated (R91). -/
def State.evaluated (s : State) (w : ChannelWatch) : Bool :=
  w.levelValid && decide (s.watch.cfg.watchSpeed ≤ |s.meas.n|) && decide (w.health ≠ .lost)

/-- A channel after its evaluation (R91 to R93). -/
def State.stepped (s : State) (c : Channel) (w : ChannelWatch) : ChannelWatch :=
  if s.evaluated w then w.evaluate s.watch.cfg c else w

/-- A channel after the test of its danger memory (R94). -/
def ChannelWatch.forgotten (w : ChannelWatch) (evaluated : Bool) : ChannelWatch :=
  if evaluated && w.memory && decide (w.health = .healthy) && decide (w.vib = .normal) then { w with memory := false } else w

/-- A channel after its block end. -/
def State.blockEnded (s : State) (c : Channel) (w : ChannelWatch) : ChannelWatch :=
  (s.stepped c w.judged).forgotten (s.evaluated w.judged)

namespace State
variable {s t u : State} (c : Channel)

theorem Swept.evaluated (h : s.Swept t) : t.evaluated = s.evaluated := by
  unfold State.evaluated
  rw [h.meas, h.cfg]

theorem Swept.stepped (h : s.Swept t) : t.stepped = s.stepped := by
  unfold State.stepped
  rw [h.evaluated, h.cfg]

theorem evaluateChannel_worked (s : State) : s.Worked (s.evaluateChannel c) c (s.stepped c (s.channel c)) := by
  unfold State.evaluateChannel State.stepped
  have hsame : s.evaluates c = s.evaluated (s.channel c) := rfl
  rw [hsame]
  dsimp only
  have hset := s.setChannel_worked c ((s.channel c).evaluate s.watch.cfg c)
  split
  · split
    · exact hset
    · exact hset.formed ((State.vibEntry_formed _ c _).trans (State.formGroup_formed _ _))
  · exact (Formed.refl s).worked c

/-- An evaluation that ends in `v`, a state above the one before it, takes the trigger condition of `v` (R92). -/
theorem evaluateChannel_takes {s : State} {v : VibState} {tc : TrigCond} (hv : (s.stepped c (s.channel c)).vib = v)
    (hne : v ≠ (s.channel c).vib)
    (hentry : ∀ u : State, (u.channel c).vib = v → u.vibEntry c (s.channel c).vib = u.takeCond tc (some c.val)) :
    s.Takes (s.evaluateChannel c) tc := by
  unfold State.stepped at hv
  by_cases he : s.evaluated (s.channel c) = true
  · rw [if_pos he] at hv
    have hset := s.setChannel_worked c ((s.channel c).evaluate s.watch.cfg c)
    have heval : s.evaluateChannel c =
        ((s.setChannel c ((s.channel c).evaluate s.watch.cfg c)).vibEntry c (s.channel c).vib).formGroup (groupOf c) := by
      unfold State.evaluateChannel
      rw [if_pos (show s.evaluates c = true from he)]
      dsimp only
      rw [if_neg (by rw [hv]; exact hne)]
    rw [heval, hentry _ (by rw [hset.here, hv])]
    exact ⟨_, _, hset.swept.trigger, (State.formGroup_formed _ _).swept.trigger⟩
  · rw [if_neg he] at hv
    exact absurd hv.symm hne

theorem testMemory_worked (s : State) (e : Bool) : s.Worked (s.testMemory c e) c ((s.channel c).forgotten e) := by
  unfold State.testMemory ChannelWatch.forgotten
  dsimp only
  split
  · exact (s.setChannel_worked c _).formed ((State.formDemand_formed _ _).trans (State.formAlert_formed _ _))
  · exact (Formed.refl s).worked c

/-- The state after the health of a block end and what follows its change. -/
def afterHealth (s : State) (c : Channel) : State :=
  let s1 := s.setChannel c (s.channel c).judged
  if (s.channel c).judged.health = (s.channel c).health then s1 else s1.healthChanged c

theorem blockEndChannel_eq (s : State) : s.blockEndChannel c =
    ((s.afterHealth c).evaluateChannel c).testMemory c ((s.afterHealth c).evaluates c) := rfl

theorem afterHealth_worked (s : State) : s.Worked (s.afterHealth c) c (s.channel c).judged := by
  have hset := s.setChannel_worked c (s.channel c).judged
  unfold State.afterHealth
  dsimp only
  split
  · exact hset
  · exact hset.formed (State.healthChanged_formed _ c)

theorem afterHealth_evaluates (s : State) : (s.afterHealth c).evaluates c = s.evaluated (s.channel c).judged := by
  have h := s.afterHealth_worked c
  rw [← h.here, ← h.swept.evaluated]
  rfl

theorem blockEndChannel_worked (s : State) : s.Worked (s.blockEndChannel c) c (s.blockEnded c (s.channel c)) := by
  have hhealth := s.afterHealth_worked c
  have heval := evaluateChannel_worked c (s.afterHealth c)
  rw [hhealth.here, hhealth.swept.stepped] at heval
  have hmemory := testMemory_worked c ((s.afterHealth c).evaluateChannel c) ((s.afterHealth c).evaluates c)
  rw [heval.here, afterHealth_evaluates] at hmemory
  rw [blockEndChannel_eq, afterHealth_evaluates]
  exact (hhealth.trans heval).trans hmemory

/-- A change of health at a block end is a trigger condition (R90). -/
theorem blockEndChannel_health {s : State} (h : (s.channel c).judged.health ≠ (s.channel c).health) :
    s.Takes (s.blockEndChannel c) .healthChange := by
  have hafter : s.Takes (s.afterHealth c) .healthChange := by
    unfold State.afterHealth
    dsimp only
    rw [if_neg h]
    exact (State.healthChanged_takes _ c).before (s.setChannel_worked c _).swept.trigger
  exact hafter.after ((evaluateChannel_worked c _).swept.trans (testMemory_worked c _ _).swept).trigger

/-- The entry into ALERT from below, or into DANGER, is a trigger condition (R92). -/
theorem blockEndChannel_vib {s : State} {v : VibState} {tc : TrigCond} (hv : (s.stepped c (s.channel c).judged).vib = v)
    (hne : v ≠ (s.channel c).judged.vib)
    (hentry : ∀ u : State, (u.channel c).vib = v → u.vibEntry c (s.channel c).judged.vib = u.takeCond tc (some c.val)) :
    s.Takes (s.blockEndChannel c) tc := by
  have h := s.afterHealth_worked c
  have heval := evaluateChannel_takes (s := s.afterHealth c) (v := v) (tc := tc) c (by rw [h.here, h.swept.stepped, hv])
    (by rw [h.here]; exact hne) (by rw [h.here]; exact hentry)
  exact (heval.before h.swept.trigger).after (testMemory_worked c _ _).swept.trigger

/-! ### Sweeps over the channels -/

/-- A sweep over different channels leaves each channel of the list as its own step leaves it. -/
theorem foldl_worked {step : State → Channel → State} (hstep : ∀ (u : State) (d : Channel), ∃ w, u.Worked (step u d) d w) (c : Channel) :
    ∀ (l : List Channel) (s : State), l.Nodup → s.Swept (l.foldl step s) ∧
      (c ∉ l → (l.foldl step s).channel c = s.channel c) ∧
      (c ∈ l → ∃ u, s.Swept u ∧ u.channel c = s.channel c ∧ (step u c).Swept (l.foldl step s) ∧
        (l.foldl step s).channel c = (step u c).channel c) := by
  intro l
  induction l with
  | nil => exact fun s _ => ⟨.refl s, fun _ => rfl, fun h => by simp at h⟩
  | cons d l ih =>
    intro s hnodup
    obtain ⟨hd, hl⟩ := List.nodup_cons.mp hnodup
    obtain ⟨w, hw⟩ := hstep s d
    obtain ⟨hswept, hout, hin⟩ := ih (step s d) hl
    refine ⟨hw.swept.trans hswept, fun hc => ?_, fun hc => ?_⟩
    · rw [List.mem_cons, not_or] at hc
      exact (hout hc.2).trans (hw.others c hc.1)
    · by_cases hcd : c = d
      · subst hcd
        exact ⟨s, .refl s, rfl, hswept, hout hd⟩
      · obtain ⟨u, hu, hchannel, hstep', hlast⟩ := hin ((List.mem_cons.mp hc).resolve_left hcd)
        exact ⟨u, hw.swept.trans hu, hchannel.trans (hw.others c hcd), hstep', hlast⟩

theorem fittedChannels_nodup (w : Watch) : w.fittedChannels.Nodup := List.Nodup.filter _ (by decide)

theorem mem_fittedChannels {w : Watch} {c : Channel} : c ∈ w.fittedChannels ↔ w.fitted c = true := by
  have hall : ∀ d : Channel, d ∈ allChannels := by decide
  simp [Watch.fittedChannels, hall c]

theorem takeReceivers_eq (s : State) : s.takeReceivers = { s with meas := s.takeReceivers.meas } := rfl

theorem takeReceivers_receiver (s : State) (c : Channel) : s.takeReceivers.receiver c =
    if s.watch.fitted c then (s.receiver c).taken else s.receiver c := by
  simp [State.takeReceivers, State.receiver, vget]

/-- What the takes and the samples of a sample period leave beside the fitted channels. -/
theorem takeSamples_swept (s : State) : s.takeReceivers.Swept s.takeSamples :=
  (foldl_worked (fun u d => ⟨_, u.sampleWork_worked d (s.receiver d)⟩) 0 s.watch.fittedChannels s.takeReceivers
    (fittedChannels_nodup _)).1

theorem takeSamples_unfitted (s : State) {c : Channel} (h : s.watch.fitted c = false) :
    s.takeSamples.channel c = s.channel c :=
  (foldl_worked (fun u d => ⟨_, u.sampleWork_worked d (s.receiver d)⟩) c s.watch.fittedChannels s.takeReceivers
    (fittedChannels_nodup _)).2.1 (by simp [mem_fittedChannels, h])

/-- The work of a fitted channel's sample within the sweep. -/
theorem takeSamples_fitted (s : State) {c : Channel} (h : s.watch.fitted c = true) :
    ∃ u, s.takeReceivers.Swept u ∧ u.channel c = s.channel c ∧ (u.sampleWork c (s.receiver c)).Swept s.takeSamples ∧
      s.takeSamples.channel c = (u.sampleWork c (s.receiver c)).channel c :=
  (foldl_worked (fun u d => ⟨_, u.sampleWork_worked d (s.receiver d)⟩) c s.watch.fittedChannels s.takeReceivers
    (fittedChannels_nodup _)).2.2 (mem_fittedChannels.mpr h)

theorem takeReceivers_trigger (s : State) : s.TriggerKept s.takeReceivers := .of_eq rfl rfl rfl rfl rfl

theorem Swept.sampled (h : s.Swept t) (hc : t.channel c = s.channel c) (r : Receiver) : t.sampled c r = s.sampled c r := by
  unfold State.sampled State.visited
  rw [h.meas, h.cfg, hc]

theorem takeSamples_channel (s : State) {c : Channel} (h : s.watch.fitted c = true) :
    s.takeSamples.channel c = s.sampled c (s.receiver c) := by
  obtain ⟨u, hu, hc, -, hlast⟩ := s.takeSamples_fitted h
  rw [hlast, (u.sampleWork_worked c _).here, Swept.sampled c hu hc]
  rfl

/-! ### The block end (R87, R104) -/

/-- The block ends of all fitted channels. -/
def blockSwept (s : State) : State := s.watch.fittedChannels.foldl State.blockEndChannel s

theorem blockSwept_swept (s : State) : s.Swept s.blockSwept :=
  (foldl_worked (fun u d => ⟨_, u.blockEndChannel_worked d⟩) 0 s.watch.fittedChannels s (fittedChannels_nodup _)).1

theorem blockSwept_unfitted (s : State) {c : Channel} (h : s.watch.fitted c = false) : s.blockSwept.channel c = s.channel c :=
  (foldl_worked (fun u d => ⟨_, u.blockEndChannel_worked d⟩) c s.watch.fittedChannels s (fittedChannels_nodup _)).2.1
    (by simp [mem_fittedChannels, h])

theorem blockSwept_fitted (s : State) {c : Channel} (h : s.watch.fitted c = true) :
    ∃ u, s.Swept u ∧ u.channel c = s.channel c ∧ (u.blockEndChannel c).Swept s.blockSwept ∧
      s.blockSwept.channel c = (u.blockEndChannel c).channel c :=
  (foldl_worked (fun u d => ⟨_, u.blockEndChannel_worked d⟩) c s.watch.fittedChannels s (fittedChannels_nodup _)).2.2
    (mem_fittedChannels.mpr h)

theorem blockSwept_channel (s : State) {c : Channel} (h : s.watch.fitted c = true) :
    s.blockSwept.channel c = s.blockEnded c (s.channel c) := by
  obtain ⟨u, hu, hc, -, hlast⟩ := s.blockSwept_fitted h
  rw [hlast, (u.blockEndChannel_worked c).here, hc]
  unfold State.blockEnded
  rw [hu.stepped, hu.evaluated]

theorem blockEnd_awaiting {s : State} (h : s.watch.awaiting = none) : s.blockEnd = s.blockSwept := by
  have hswept := s.blockSwept_swept
  have hnone : s.blockSwept.watch.awaiting = none := by rw [hswept.eq]; exact h
  rw [State.blockEnd, State.vibrationInForce, ← State.blockSwept, hnone]

/-- Step 3 of a sample period that does not end the block (R83). -/
theorem advanceBlock_within {s : State} (h : s.watch.blockPos < 255) :
    s.advanceBlock = s.setWatch { s.watch with blockPos := s.watch.blockPos + 1 } := by
  have hmod : (s.watch.blockPos + 1) % 256 = s.watch.blockPos + 1 := Nat.mod_eq_of_lt (by omega)
  rw [State.advanceBlock, hmod]
  exact if_neg (by omega)

theorem advanceBlock_end {s : State} (h : s.watch.blockPos = 255) :
    s.advanceBlock = (s.setWatch { s.watch with blockPos := 0 }).blockEnd := by
  rw [State.advanceBlock, h]
  exact if_pos rfl

/-! ### The watch millisecond (R100) -/

theorem closeRecord_trigger (s : State) : s.TriggerKept s.closeRecord := by
  have hpost : ∀ (v : State) o, v.TriggerKept (v.postRecord o) := fun v o => by
    unfold State.postRecord
    dsimp only
    split_ifs <;> exact .of_eq rfl rfl rfl rfl rfl
  have hhand : ∀ (v : State) o, v.TriggerKept (v.handOver o) := fun v o => by
    unfold State.handOver
    split
    · exact .of_eq rfl rfl rfl rfl rfl
    · have hrep := ((v.setStore { v.store with dropped := countTo 65535 v.store.dropped }).alarmRise_reported .storeFault .second
        (some stateDetailDropped)).trans (State.fall_reported _ .storeFault .second)
      refine .trans (t := v.countDropped) (.trans (t := v.setStore { v.store with dropped := countTo 65535 v.store.dropped })
        (.of_eq rfl rfl rfl rfl rfl) hrep.formed.swept.trigger) (.of_eq rfl rfl rfl rfl rfl)
    · exact .refl v
  unfold State.closeRecord
  split
  · next o ho =>
    exact .trans ((hpost s o).trans (hhand _ o)) (.of_eq (by simp) (by simp) (by simp) (by simp) (by simp))
  · exact .refl s

theorem openTrip_trigger (s : State) (k : FaultKind) (d : Option Nat) : s.TriggerKept (s.openTrip k d) := by
  have htrigger := fun id => s.record.trigger_eq id
  unfold State.openTrip
  split
  · exact .of_eq rfl (by rw [htrigger]; rfl) (by rw [htrigger]; rfl) (by rw [htrigger]; rfl) (by rw [htrigger]; rfl)
  · exact .of_eq rfl (by rw [htrigger]; rfl) (by rw [htrigger]; rfl) (by rw [htrigger]; rfl) (by rw [htrigger]; rfl)

theorem restEntry_partTime (s : State) : s.restEntry.req.partTime = s.req.partTime := by
  unfold State.restEntry State.encodersAtRest
  rw [State.fall_eq, State.formSingle_reported]
  simp [State.levelAtRest]

theorem enterTripped_trigger {s : State} (hr : s.seq.restartPending = false) : s.TriggerKept s.enterTripped := by
  obtain ⟨-, -, -, hrecord, -⟩ := s.enterTripped_calm_eqs hr
  refine .of_eq ?_ (by rw [hrecord]) (by rw [hrecord]) (by rw [hrecord]) (by rw [hrecord])
  unfold State.enterTripped
  rw [State.pendingRestart_calm _ (by simp [Sequencer.tripped, hr]), State.restEntry_partTime]
  simp [State.backrollOff, State.gatesOff]

theorem firstCause_trigger {s : State} (k : FaultKind) (d : Option Nat) (hr : s.seq.restartPending = false) :
    s.TriggerKept (s.firstCause k d) := by
  have hlock : s.TriggerKept (s.setFaults { s.faults with lock := true }) := .of_eq rfl rfl rfl rfl rfl
  have hopen : ∀ u : State, u.TriggerKept u.openWindow := fun _ => .of_eq rfl rfl rfl rfl rfl
  rw [State.firstCause]
  exact ((hlock.trans (State.openTrip_trigger _ k d)).trans (hopen _)).trans (State.enterTripped_trigger (by simpa using hr))

/-- A trip rise leaves the trigger program as it is. -/
theorem tripRise_trigger {s : State} (k : FaultKind) (src : Source) (hr : s.seq.restartPending = false) :
    s.TriggerKept (s.tripRise k src) := by
  have hlatch : s.TriggerKept (s.latchRise k src none) := by
    rw [s.latchRise_eq]
    exact .of_eq rfl rfl rfl rfl rfl
  have hfollow : ∀ (u : State) f, u.TriggerKept (u.setRecord (u.record.followOn f)) := fun u f => by
    unfold RecordUnit.followOn
    split
    · split <;> exact .of_eq rfl rfl rfl rfl rfl
    · exact .of_eq rfl rfl rfl rfl rfl
  have hclose : ∀ u : State, u.TriggerKept u.closeIfZero := fun u => by
    unfold State.closeIfZero
    split
    · exact .trans (t := u.setFaults { u.faults with windowOpen := false }) (.of_eq rfl rfl rfl rfl rfl)
        (State.closeRecord_trigger _)
    · exact .refl u
  unfold State.tripRise
  split
  · exact .refl s
  · refine hlatch.trans ?_
    unfold State.tripCause
    split
    · exact .refl _
    · split
      · unfold State.followOnCause
        split
        · exact hfollow _ _
        · exact .refl _
      · exact (State.firstCause_trigger k none (by simpa using hr)).trans (hclose _)

theorem tripPulse_trigger {s : State} (k : FaultKind) (hr : s.seq.restartPending = false) : s.TriggerKept (s.tripPulse k) :=
  (State.tripRise_trigger k .first hr).trans (State.fall_reported _ _ _).formed.swept.trigger

/-- What a dwell step leaves, a trip or none: the channels and what is formed from them but for the groups' timers. -/
structure Dwelt (s t : State) : Prop where
  watch : t.watch = { s.watch with groups := t.watch.groups }
  meas : t.meas = s.meas
  resets : t.record.resets = s.record.resets
  calm : t.seq.restartPending = false
  trigger : s.TriggerKept t

theorem Dwelt.trans (h : s.Dwelt t) (h' : t.Dwelt u) : s.Dwelt u := by
  refine ⟨?_, h'.meas.trans h.meas, h'.resets.trans h.resets, h'.calm, h.trigger.trans h'.trigger⟩
  have hwatch := h'.watch
  rw [h.watch] at hwatch
  exact hwatch

theorem Dwelt.channel (h : s.Dwelt t) (c : Channel) : t.channel c = s.channel c := by rw [State.channel, h.watch, State.channel]

theorem setGroup_dwelt {s : State} (g : Side) (w : GroupWatch) (hr : s.seq.restartPending = false) : s.Dwelt (s.setGroup g w) :=
  ⟨rfl, rfl, rfl, hr, .of_eq rfl rfl rfl rfl rfl⟩

theorem formDwell_dwelt {s : State} (g : Side) (hr : s.seq.restartPending = false) : s.Dwelt (s.formDwell g) := by
  unfold State.formDwell
  split
  · exact ⟨rfl, rfl, rfl, hr, .refl s⟩
  · exact setGroup_dwelt g _ hr

theorem dwellStep_dwelt {s : State} (g : Side) (hr : s.seq.restartPending = false) : s.Dwelt (s.dwellStep g) := by
  unfold State.dwellStep
  split
  · have hset := setGroup_dwelt g { s.group g with dwell := 0 } hr
    obtain ⟨hcalm, hresets, -, hmeas, hwatch⟩ := State.tripPulse_calm _ (.vibDanger g) hset.calm
    exact hset.trans ⟨by rw [hwatch], hmeas, hresets, hcalm, State.tripPulse_trigger _ hset.calm⟩
  · split
    · exact setGroup_dwelt g _ hr
    · exact formDwell_dwelt g hr

/-- The quarter count advanced (R83). -/
def quartered (s : State) : State := s.setWatch { s.watch with quarter := (s.watch.quarter + 1) % 4 }

theorem advanceQuarter_dwelt {s : State} (hr : s.seq.restartPending = false) : s.quartered.Dwelt s.advanceQuarter := by
  unfold State.advanceQuarter
  dsimp only
  split
  · have ha := dwellStep_dwelt (s := s.quartered) .a hr
    have hkept : s.unlessReset (fun s => s.dwellStep .b) (s.quartered.dwellStep .a) = (s.quartered.dwellStep .a).dwellStep .b :=
      State.unlessReset_kept _ ha.resets
    rw [← State.quartered, hkept]
    exact ha.trans (dwellStep_dwelt .b ha.calm)
  · exact ⟨rfl, rfl, rfl, hr, .refl _⟩

/-! ### The sample period (R83) -/

/-- A sample period in which no restart is pending brings no reset about. -/
theorem samplePeriod_calm_eq {s : State} (hr : s.seq.restartPending = false) :
    s.samplePeriod = s.takeSamples.advanceBlock.advanceQuarter.requestSamples := by
  have hcalm : s.takeSamples.seq.restartPending = false := by
    rw [s.takeSamples_swept.seq]
    exact hr
  obtain ⟨hblock, hresets, -⟩ := State.advanceBlock_calm _ hcalm
  have hquarter := advanceQuarter_dwelt hblock
  have h1 : s.takeSamples.advanceBlock.record.resets = s.record.resets := hresets.trans s.takeSamples_swept.resets
  rw [State.samplePeriod, State.unlessReset_kept _ h1, State.unlessReset_kept _ (hquarter.resets.trans h1)]

/-- After its samples and its block end a sample period changes no channel. -/
theorem samplePeriod_after {s : State} (hr : s.seq.restartPending = false) :
    (∀ c, s.samplePeriod.channel c = s.takeSamples.advanceBlock.channel c) ∧
      s.samplePeriod.meas = s.takeSamples.advanceBlock.meas ∧
      s.samplePeriod.watch = { s.takeSamples.advanceBlock.watch with
        groups := s.samplePeriod.watch.groups, quarter := (s.takeSamples.advanceBlock.watch.quarter + 1) % 4
        sampleRequest := true } ∧
      s.takeSamples.advanceBlock.TriggerKept s.samplePeriod := by
  have hcalm : s.takeSamples.seq.restartPending = false := by
    rw [s.takeSamples_swept.seq]
    exact hr
  have hquarter := advanceQuarter_dwelt (State.advanceBlock_calm _ hcalm).1
  have hrequest : ∀ v : State, (∀ c, v.requestSamples.channel c = v.channel c) ∧ v.requestSamples.meas = v.meas ∧
      v.requestSamples.watch = { v.watch with sampleRequest := true } ∧ v.TriggerKept v.requestSamples := fun _ =>
    ⟨fun _ => rfl, rfl, rfl, .of_eq rfl rfl rfl rfl rfl⟩
  have hquartered : ∀ v : State, (∀ c, v.quartered.channel c = v.channel c) ∧ v.quartered.meas = v.meas ∧
      v.quartered.watch = { v.watch with quarter := (v.watch.quarter + 1) % 4 } ∧ v.TriggerKept v.quartered := fun _ =>
    ⟨fun _ => rfl, rfl, rfl, .of_eq rfl rfl rfl rfl rfl⟩
  obtain ⟨hc, hm, hw, ht⟩ := hrequest s.takeSamples.advanceBlock.advanceQuarter
  obtain ⟨hc', hm', hw', ht'⟩ := hquartered s.takeSamples.advanceBlock
  rw [samplePeriod_calm_eq hr]
  refine ⟨fun c => by rw [hc, hquarter.channel, hc'], by rw [hm, hquarter.meas, hm'], ?_, (ht'.trans hquarter.trigger).trans ht⟩
  have hwatch := hquarter.watch
  rw [hw'] at hwatch
  rw [hw, hwatch]

end State

end Sys2Proof.Machine
end

section
/-! The conditions and demands of the vibration watch stand as its channels ask (R90, R98 to R100). -/

namespace Sys2Proof.Machine

/-! ### The parts of the law -/

/-- The dwell timer of a group is 0 with no channel in DANGER (R100). -/
def State.dwellLaw (s : State) (g : Side) : Prop := ¬s.someIn g (fun w => w.vib = .danger) → (s.group g).dwell = 0

/-- The demand of a group stands as its channels ask (R99). -/
def State.demandLaw (s : State) (g : Side) : Prop :=
  let alert := s.someIn g fun w => w.vib = .alert ∨ w.sectorAlert = true
  let danger := s.someIn g fun w => w.vib = .danger ∨ w.memory = true
  let lost := s.someIn g fun w => w.health = .lost
  let v := s.watch.cfg
  let demand := (s.group g).demand
  demand ≤ 1000 ∧ (alert → demand ≤ v.alertDerate) ∧ (danger → demand ≤ v.dangerDerate) ∧ (lost → demand ≤ v.lostDerate) ∧
  (demand = 1000 ∨ (alert ∧ demand = v.alertDerate) ∨ (danger ∧ demand = v.dangerDerate) ∨ (lost ∧ demand = v.lostDerate))

/-- VIB ALERT of a group stands as its channels ask (R98). -/
def State.alertLaw (s : State) (g : Side) : Prop :=
  ((s.group g).alert = true ↔ s.someIn g (fun w => w.vib = .alert ∨ w.sectorAlert = true) ∨
    s.someIn g fun w => w.vib = .danger ∨ w.memory = true) ∧
  s.sourcePresent .vibAlert (sourceOf g) = (s.group g).alert

/-- SENSOR SUSPECT stands as the health of the fitted channels asks (R90). -/
def State.suspectLaw (s : State) : Prop :=
  (s.watch.suspect = true ↔ ∃ c, s.watch.fitted c = true ∧ (s.channel c).health = .suspect) ∧
    s.sourcePresent .sensorSuspect .first = s.watch.suspect

/-- SENSOR LOST stands as the health of the fitted channels asks (R90). -/
def State.sensorLostLaw (s : State) : Prop :=
  (s.watch.lost = true ↔ ∃ c, s.watch.fitted c = true ∧ (s.channel c).health = .lost) ∧
    s.sourcePresent .sensorLost .first = s.watch.lost

namespace State
variable {s t u : State} {c : Channel} {g : Side}

theorem groupLaw_iff : s.groupLaw g ↔ s.demandLaw g ∧ s.alertLaw g ∧ s.dwellLaw g :=
  ⟨fun ⟨h1, h2, h3, h4, h5, halert, hsource, hdwell⟩ => ⟨⟨h1, h2, h3, h4, h5⟩, ⟨halert, hsource⟩, hdwell⟩,
    fun ⟨⟨h1, h2, h3, h4, h5⟩, ⟨halert, hsource⟩, hdwell⟩ => ⟨h1, h2, h3, h4, h5, halert, hsource, hdwell⟩⟩

theorem vibrationLaw_iff : s.vibrationLaw ↔ (∀ g, s.groupLaw g) ∧ s.suspectLaw ∧ s.sensorLostLaw :=
  ⟨fun ⟨hgroups, hsuspect, hlost, hsource, hsource'⟩ => ⟨hgroups, ⟨hsuspect, hsource⟩, hlost, hsource'⟩,
    fun ⟨hgroups, ⟨hsuspect, hsource⟩, hlost, hsource'⟩ => ⟨hgroups, hsuspect, hlost, hsource, hsource'⟩⟩

/-! ### What the forming reads -/

theorem anyIn_iff {p : ChannelWatch → Bool} : s.watch.anyIn g p = true ↔ s.someIn g fun w => p w = true := by
  simp [Watch.anyIn, Watch.groupChannels, State.someIn, mem_fittedChannels, State.channel]

theorem anyFitted_iff {p : ChannelWatch → Bool} : s.watch.anyFitted p = true ↔
    ∃ c, s.watch.fitted c = true ∧ p (s.channel c) = true := by
  simp [Watch.anyFitted, mem_fittedChannels, State.channel]

theorem someIn_congr {p q : ChannelWatch → Prop} (h : ∀ w, p w ↔ q w) : s.someIn g p ↔ s.someIn g q := by
  simp only [State.someIn, h]

theorem someIn_or {p q : ChannelWatch → Prop} : s.someIn g (fun w => p w ∨ q w) ↔ s.someIn g p ∨ s.someIn g q := by
  unfold State.someIn
  constructor
  · rintro ⟨c, hf, hg, h | h⟩
    · exact .inl ⟨c, hf, hg, h⟩
    · exact .inr ⟨c, hf, hg, h⟩
  · rintro (⟨c, hf, hg, h⟩ | ⟨c, hf, hg, h⟩)
    · exact ⟨c, hf, hg, .inl h⟩
    · exact ⟨c, hf, hg, .inr h⟩

theorem asksAlert_iff : s.watch.anyIn g ChannelWatch.asksAlert = true ↔
    s.someIn g fun w => w.vib = .alert ∨ w.sectorAlert = true :=
  anyIn_iff.trans (someIn_congr fun w => by simp [ChannelWatch.asksAlert])

theorem asksDanger_iff : s.watch.anyIn g ChannelWatch.asksDanger = true ↔
    s.someIn g fun w => w.vib = .danger ∨ w.memory = true :=
  anyIn_iff.trans (someIn_congr fun w => by simp [ChannelWatch.asksDanger])

theorem asksLost_iff : s.watch.anyIn g (fun w => decide (w.health = .lost)) = true ↔
    s.someIn g fun w => w.health = .lost :=
  anyIn_iff.trans (someIn_congr fun w => by simp)

theorem inDanger_iff : s.watch.inDanger g = true ↔ s.someIn g fun w => w.vib = .danger :=
  anyIn_iff.trans (someIn_congr fun w => by simp)

theorem alertOf_iff : s.watch.alertOf g = true ↔
    s.someIn g (fun w => w.vib = .alert ∨ w.sectorAlert = true) ∨ s.someIn g fun w => w.vib = .danger ∨ w.memory = true := by
  rw [← someIn_or]
  exact anyIn_iff.trans (someIn_congr fun w => by simp [ChannelWatch.asksAlert, ChannelWatch.asksDanger])

/-- A value lowered to each derate that is asked for: it lies at none above them, and is the start value or one of them. -/
theorem lowered_spec (b1 b2 b3 : Bool) (d1 d2 d3 : Int) :
    let low (b : Bool) (d : Int) (x : Int) : Int := if b then min d x else x
    let v := low b1 d1 (low b2 d2 (low b3 d3 1000))
    v ≤ 1000 ∧ (b1 = true → v ≤ d1) ∧ (b2 = true → v ≤ d2) ∧ (b3 = true → v ≤ d3) ∧
      (v = 1000 ∨ (b1 = true ∧ v = d1) ∨ (b2 = true ∧ v = d2) ∨ (b3 = true ∧ v = d3)) := by
  cases b1 <;> cases b2 <;> cases b3 <;> simp <;> omega

/-- The demand formed from the channels meets its part of the law (R99). -/
theorem demandOf_spec (s : State) (g : Side) :
    let alert := s.someIn g fun w => w.vib = .alert ∨ w.sectorAlert = true
    let danger := s.someIn g fun w => w.vib = .danger ∨ w.memory = true
    let lost := s.someIn g fun w => w.health = .lost
    let v := s.watch.cfg
    let demand := s.watch.demandOf g
    demand ≤ 1000 ∧ (alert → demand ≤ v.alertDerate) ∧ (danger → demand ≤ v.dangerDerate) ∧ (lost → demand ≤ v.lostDerate) ∧
    (demand = 1000 ∨ (alert ∧ demand = v.alertDerate) ∨ (danger ∧ demand = v.dangerDerate) ∨
      (lost ∧ demand = v.lostDerate)) := by
  have h := lowered_spec (s.watch.anyIn g ChannelWatch.asksAlert) (s.watch.anyIn g ChannelWatch.asksDanger)
    (s.watch.anyIn g fun c => decide (c.health = .lost)) s.watch.cfg.alertDerate s.watch.cfg.dangerDerate s.watch.cfg.lostDerate
  rw [asksAlert_iff, asksDanger_iff, asksLost_iff] at h
  exact h

/-! ### What keeps the parts -/

theorem Formed.someIn (h : s.Formed t) {p : ChannelWatch → Prop} : t.someIn g p ↔ s.someIn g p := by
  simp only [State.someIn, h.swept.fitted, h.channel]

theorem Formed.demandLaw (h : s.Formed t) (hdemand : (t.group g).demand = (s.group g).demand) (hs : s.demandLaw g) :
    t.demandLaw g := by
  unfold State.demandLaw
  simp only [h.someIn, h.swept.cfg, hdemand]
  exact hs

theorem Formed.alertLaw (h : s.Formed t) (halert : (t.group g).alert = (s.group g).alert)
    (hsrc : t.sourcePresent .vibAlert (sourceOf g) = s.sourcePresent .vibAlert (sourceOf g)) (hs : s.alertLaw g) :
    t.alertLaw g := by
  unfold State.alertLaw
  simp only [h.someIn, halert, hsrc]
  exact hs

theorem Formed.dwellLaw (h : s.Formed t) (hdwell : (t.group g).dwell = (s.group g).dwell) (hs : s.dwellLaw g) : t.dwellLaw g := by
  unfold State.dwellLaw
  rw [h.someIn, hdwell]
  exact hs

theorem Formed.groupLaw (h : s.Formed t) (hgroup : t.group g = s.group g)
    (hsrc : t.sourcePresent .vibAlert (sourceOf g) = s.sourcePresent .vibAlert (sourceOf g)) (hs : s.groupLaw g) :
    t.groupLaw g := by
  obtain ⟨hdemand, halert, hdwell⟩ := groupLaw_iff.mp hs
  exact groupLaw_iff.mpr ⟨h.demandLaw (by rw [hgroup]) hdemand, h.alertLaw (by rw [hgroup]) hsrc halert,
    h.dwellLaw (by rw [hgroup]) hdwell⟩

theorem Formed.suspectLaw (h : s.Formed t) (hflag : t.watch.suspect = s.watch.suspect)
    (hentry : t.faults.entry .sensorSuspect = s.faults.entry .sensorSuspect) (hs : s.suspectLaw) : t.suspectLaw := by
  unfold State.suspectLaw
  simp only [hflag, State.sourcePresent, hentry, h.swept.fitted, h.channel]
  exact hs

theorem Formed.sensorLostLaw (h : s.Formed t) (hflag : t.watch.lost = s.watch.lost)
    (hentry : t.faults.entry .sensorLost = s.faults.entry .sensorLost) (hs : s.sensorLostLaw) : t.sensorLostLaw := by
  unfold State.sensorLostLaw
  simp only [hflag, State.sourcePresent, hentry, h.swept.fitted, h.channel]
  exact hs

/-- The law is kept where nothing is formed and nothing reported. -/
theorem Formed.law_of_same (h : s.Formed t) (hgroups : t.watch.groups = s.watch.groups) (hsuspect : t.watch.suspect = s.watch.suspect)
    (hlost : t.watch.lost = s.watch.lost) (hfaults : t.faults = s.faults) :
    (∀ g, s.groupLaw g → t.groupLaw g) ∧ (s.suspectLaw → t.suspectLaw) ∧ (s.sensorLostLaw → t.sensorLostLaw) :=
  ⟨fun _ => h.groupLaw (by rw [State.group, hgroups, State.group]) (by rw [State.sourcePresent, hfaults, State.sourcePresent]),
    h.suspectLaw hsuspect (by rw [hfaults]), h.sensorLostLaw hlost (by rw [hfaults])⟩

theorem takeCond_law (s : State) {tc : TrigCond} (hc : tc ≠ .manual) (d : Option Nat) :
    (∀ g, s.groupLaw g → (s.takeCond tc d).groupLaw g) ∧ (s.suspectLaw → (s.takeCond tc d).suspectLaw) ∧
      (s.sensorLostLaw → (s.takeCond tc d).sensorLostLaw) :=
  (s.takeCond_formed hc d).law_of_same (by simp) (by simp) (by simp) (by simp)

theorem formSuspect_law (s : State) (c : Channel) : (s.formSuspect c).suspectLaw := by
  have h := s.formSuspect_formed c
  have hflag : (s.formSuspect c).watch.suspect = s.watch.anyFitted fun w => decide (w.health = .suspect) := by
    simp [State.formSuspect]
  refine ⟨?_, (State.alarmLevel_source _ _ _ _ _).trans hflag.symm⟩
  rw [hflag, anyFitted_iff]
  simp only [h.swept.fitted, h.channel, decide_eq_true_eq]

theorem formLost_law (s : State) (c : Channel) : (s.formLost c).sensorLostLaw := by
  have h := s.formLost_formed c
  have hflag : (s.formLost c).watch.lost = s.watch.anyFitted fun w => decide (w.health = .lost) := by
    simp [State.formLost]
  refine ⟨?_, (State.alarmLevel_source _ _ _ _ _).trans hflag.symm⟩
  rw [hflag, anyFitted_iff]
  simp only [h.swept.fitted, h.channel, decide_eq_true_eq]

theorem formSuspect_entry (s : State) (c : Channel) {k : FaultKind} (h : k ≠ .sensorSuspect) :
    (s.formSuspect c).faults.entry k = s.faults.entry k := State.alarmLevel_other _ _ _ _ h

theorem formLost_entry (s : State) (c : Channel) {k : FaultKind} (h : k ≠ .sensorLost) :
    (s.formLost c).faults.entry k = s.faults.entry k := State.alarmLevel_other _ _ _ _ h

theorem formAlert_entry (s : State) (g : Side) {k : FaultKind} (h : k ≠ .vibAlert) :
    (s.formAlert g).faults.entry k = s.faults.entry k := State.alarmLevel_other _ _ _ _ h

theorem formSuspect_groups (s : State) (c : Channel) : (s.formSuspect c).watch.groups = s.watch.groups ∧
    (s.formSuspect c).watch.lost = s.watch.lost := by simp [State.formSuspect]

theorem formLost_groups (s : State) (c : Channel) : (s.formLost c).watch.groups = s.watch.groups ∧
    (s.formLost c).watch.suspect = s.watch.suspect := by simp [State.formLost]

theorem alarmLevel_otherSource (s : State) (k : FaultKind) {src other : Source} (d : Option Nat) (now : Bool) (h : other ≠ src) :
    (s.alarmLevel k src d now).sourcePresent k other = s.sourcePresent k other := by
  unfold State.alarmLevel
  split
  · exact s.alarmRise_otherSource k d h
  · exact s.fall_otherSource k h

theorem setGroup_same (s : State) (g : Side) (w : GroupWatch) : (s.setGroup g w).group g = w := Pair.get_set_same _ _ _

theorem setGroup_other (s : State) {g g' : Side} (w : GroupWatch) (h : g' ≠ g) : (s.setGroup g w).group g' = s.group g' :=
  Pair.get_set_other _ _ h

theorem formAlert_group (s : State) (g : Side) : (s.formAlert g).group g = { s.group g with alert := s.watch.alertOf g } := by
  have h : ∀ u : State, u.watch = (s.setGroup g { s.group g with alert := s.watch.alertOf g }).watch → u.group g =
      { s.group g with alert := s.watch.alertOf g } := fun u hu => by
    rw [State.group, hu]
    exact s.setGroup_same g _
  exact h _ (by simp [State.formAlert])

theorem formAlert_other (s : State) {g g' : Side} (h : g' ≠ g) : (s.formAlert g).group g' = s.group g' := by
  have hw : ∀ u : State, u.watch = (s.setGroup g { s.group g with alert := s.watch.alertOf g }).watch → u.group g' =
      s.group g' := fun u hu => by
    rw [State.group, hu]
    exact s.setGroup_other _ h
  exact hw _ (by simp [State.formAlert])

theorem sourceOf_ne {g g' : Side} (h : g' ≠ g) : sourceOf g' ≠ sideSource g := by
  cases g with
  | a => cases g' with
    | a => exact absurd rfl h
    | b => decide
  | b => cases g' with
    | a => decide
    | b => exact absurd rfl h

/-- The demand of a group formed meets its part of the law; the other parts are kept. -/
theorem formDemand_law (s : State) (g : Side) : (s.formDemand g).demandLaw g ∧
    (∀ g', g' ≠ g → s.demandLaw g' → (s.formDemand g).demandLaw g') ∧ (∀ g', s.alertLaw g' → (s.formDemand g).alertLaw g') ∧
    (∀ g', s.dwellLaw g' → (s.formDemand g).dwellLaw g') ∧ (s.suspectLaw → (s.formDemand g).suspectLaw) ∧
    (s.sensorLostLaw → (s.formDemand g).sensorLostLaw) := by
  have h := s.formDemand_formed g
  have hsame : (s.formDemand g).group g = { s.group g with demand := s.watch.demandOf g } := s.setGroup_same g _
  have hother : ∀ g', g' ≠ g → (s.formDemand g).group g' = s.group g' := fun g' hne => s.setGroup_other _ hne
  have hfields : ∀ g', ((s.formDemand g).group g').alert = (s.group g').alert ∧
      ((s.formDemand g).group g').dwell = (s.group g').dwell := fun g' => by
    by_cases hne : g' = g
    · rw [hne, hsame]
      exact ⟨rfl, rfl⟩
    · rw [hother g' hne]
      exact ⟨rfl, rfl⟩
  refine ⟨?_, fun g' hne => h.demandLaw (by rw [hother g' hne]), fun g' => h.alertLaw (hfields g').1 rfl,
    fun g' => h.dwellLaw (hfields g').2, h.suspectLaw rfl rfl, h.sensorLostLaw rfl rfl⟩
  unfold State.demandLaw
  simp only [h.someIn, h.swept.cfg, hsame]
  exact s.demandOf_spec g

/-- VIB ALERT of a group formed meets its part of the law; the other parts are kept. -/
theorem formAlert_law (s : State) (g : Side) : (s.formAlert g).alertLaw g ∧
    (∀ g', g' ≠ g → s.alertLaw g' → (s.formAlert g).alertLaw g') ∧ (∀ g', s.demandLaw g' → (s.formAlert g).demandLaw g') ∧
    (∀ g', s.dwellLaw g' → (s.formAlert g).dwellLaw g') ∧ (s.suspectLaw → (s.formAlert g).suspectLaw) ∧
    (s.sensorLostLaw → (s.formAlert g).sensorLostLaw) := by
  have h := s.formAlert_formed g
  have hfields : ∀ g', ((s.formAlert g).group g').demand = (s.group g').demand ∧
      ((s.formAlert g).group g').dwell = (s.group g').dwell := fun g' => by
    by_cases hne : g' = g
    · rw [hne, formAlert_group]
      exact ⟨rfl, rfl⟩
    · rw [formAlert_other _ hne]
      exact ⟨rfl, rfl⟩
  refine ⟨?_, fun g' hne => h.alertLaw (by rw [formAlert_other _ hne]) (State.alarmLevel_otherSource _ _ _ _ (sourceOf_ne hne)),
    fun g' => h.demandLaw (hfields g').1, fun g' => h.dwellLaw (hfields g').2,
    h.suspectLaw (by simp [State.formAlert, State.setGroup]) (s.formAlert_entry g (by decide)),
    h.sensorLostLaw (by simp [State.formAlert, State.setGroup]) (s.formAlert_entry g (by decide))⟩
  have hsource : (s.formAlert g).sourcePresent .vibAlert (sourceOf g) = s.watch.alertOf g := by
    rw [sourceOf_eq]
    exact State.alarmLevel_source _ _ _ _ _
  unfold State.alertLaw
  simp only [h.someIn, hsource, formAlert_group]
  exact ⟨alertOf_iff, trivial⟩

/-- The dwell of a group formed meets its part of the law; the other parts are kept. -/
theorem formDwell_law (s : State) (g : Side) : (s.formDwell g).dwellLaw g ∧
    (∀ g', g' ≠ g → s.dwellLaw g' → (s.formDwell g).dwellLaw g') ∧ (∀ g', s.demandLaw g' → (s.formDwell g).demandLaw g') ∧
    (∀ g', s.alertLaw g' → (s.formDwell g).alertLaw g') ∧ (s.suspectLaw → (s.formDwell g).suspectLaw) ∧
    (s.sensorLostLaw → (s.formDwell g).sensorLostLaw) := by
  have h := s.formDwell_formed g
  unfold State.formDwell at h ⊢
  by_cases hd : (s.watch.inDanger g && decide (s.watch.cfg.dwell ≠ 0)) = true
  · rw [if_pos hd] at h ⊢
    refine ⟨fun hnone => ?_, fun _ _ => id, fun _ => id, fun _ => id, id, id⟩
    rw [Bool.and_eq_true, inDanger_iff] at hd
    exact absurd hd.1 hnone
  · rw [if_neg hd] at h ⊢
    have hfields : ∀ g', ((s.setGroup g { s.group g with dwell := 0 }).group g').demand = (s.group g').demand ∧
        ((s.setGroup g { s.group g with dwell := 0 }).group g').alert = (s.group g').alert := fun g' => by
      by_cases hne : g' = g
      · rw [hne, setGroup_same]
        exact ⟨rfl, rfl⟩
      · rw [setGroup_other _ _ hne]
        exact ⟨rfl, rfl⟩
    exact ⟨fun _ => by rw [setGroup_same], fun g' hne => h.dwellLaw (by rw [setGroup_other _ _ hne]),
      fun g' => h.demandLaw (hfields g').1, fun g' => h.alertLaw (hfields g').2 rfl, h.suspectLaw rfl rfl,
      h.sensorLostLaw rfl rfl⟩

/-- Demand and VIB ALERT formed where the dwell timer stands as it must. -/
theorem formed_law (s : State) (g : Side) : (s.dwellLaw g → ((s.formDemand g).formAlert g).groupLaw g) ∧
    (∀ g', g' ≠ g → s.groupLaw g' → ((s.formDemand g).formAlert g).groupLaw g') ∧
    (s.suspectLaw → ((s.formDemand g).formAlert g).suspectLaw) ∧
    (s.sensorLostLaw → ((s.formDemand g).formAlert g).sensorLostLaw) := by
  obtain ⟨hdemand, hdemand', halert1, hdwell1, hsuspect1, hlost1⟩ := s.formDemand_law g
  obtain ⟨halert, halert', hdemand2, hdwell2, hsuspect2, hlost2⟩ := (s.formDemand g).formAlert_law g
  refine ⟨fun h => groupLaw_iff.mpr ⟨hdemand2 g hdemand, halert, hdwell2 g (hdwell1 g h)⟩, fun g' hne h => ?_,
    fun h => hsuspect2 (hsuspect1 h), fun h => hlost2 (hlost1 h)⟩
  obtain ⟨h1, h2, h3⟩ := groupLaw_iff.mp h
  exact groupLaw_iff.mpr ⟨hdemand2 g' (hdemand' g' hne h1), halert' g' hne (halert1 g' h2), hdwell2 g' (hdwell1 g' h3)⟩

/-- Everything formed of a group meets the law of the group, and keeps the rest of it. -/
theorem formGroup_law (s : State) (g : Side) : (s.formGroup g).groupLaw g ∧
    (∀ g', g' ≠ g → s.groupLaw g' → (s.formGroup g).groupLaw g') ∧
    (s.suspectLaw → (s.formGroup g).suspectLaw) ∧ (s.sensorLostLaw → (s.formGroup g).sensorLostLaw) := by
  obtain ⟨hdemand, hdemand', halert1, hdwell1, hsuspect1, hlost1⟩ := s.formDemand_law g
  obtain ⟨halert, halert', hdemand2, hdwell2, hsuspect2, hlost2⟩ := (s.formDemand g).formAlert_law g
  obtain ⟨hdwell, hdwell', hdemand3, halert3, hsuspect3, hlost3⟩ := ((s.formDemand g).formAlert g).formDwell_law g
  refine ⟨groupLaw_iff.mpr ⟨hdemand3 g (hdemand2 g hdemand), halert3 g halert, hdwell⟩, fun g' hne h => ?_,
    fun h => hsuspect3 (hsuspect2 (hsuspect1 h)), fun h => hlost3 (hlost2 (hlost1 h))⟩
  obtain ⟨h1, h2, h3⟩ := groupLaw_iff.mp h
  exact groupLaw_iff.mpr ⟨hdemand3 g' (hdemand2 g' (hdemand' g' hne h1)), halert3 g' (halert' g' hne (halert1 g' h2)),
    hdwell' g' hne (hdwell2 g' (hdwell1 g' h3))⟩

/-- What follows a change of health: the group of the channel and the sensors meet the law, and the other group keeps it. -/
theorem healthChanged_law (s : State) (c : Channel) : (s.healthChanged c).groupLaw (groupOf c) ∧
    (∀ g, g ≠ groupOf c → s.groupLaw g → (s.healthChanged c).groupLaw g) ∧ (s.healthChanged c).suspectLaw ∧
    (s.healthChanged c).sensorLostLaw := by
  obtain ⟨htake, -⟩ := s.takeCond_law (tc := .healthChange) (by nofun) (some c.val)
  set u := s.takeCond .healthChange (some c.val)
  have hsuspect := u.formSuspect_formed c
  have hlost := (u.formSuspect c).formLost_formed c
  obtain ⟨hgroup, hother, hkeep, hkeep'⟩ := ((u.formSuspect c).formLost c).formGroup_law (groupOf c)
  have hgroups : ∀ g, u.groupLaw g → ((u.formSuspect c).formLost c).groupLaw g := fun g hg => by
    refine hlost.groupLaw ?_ ?_ (hsuspect.groupLaw ?_ ?_ hg)
    · rw [State.group, (formLost_groups _ c).1, State.group]
    · rw [State.sourcePresent, formLost_entry _ c (by decide), State.sourcePresent]
    · rw [State.group, (u.formSuspect_groups c).1, State.group]
    · rw [State.sourcePresent, u.formSuspect_entry c (by decide), State.sourcePresent]
  exact ⟨hgroup, fun g hg h => hother g hg (hgroups g (htake g h)),
    hkeep (hlost.suspectLaw (formLost_groups _ c).2 (formLost_entry _ c (by decide)) (u.formSuspect_law c)),
    hkeep' (formLost_law _ c)⟩

/-- Everything formed after a VIBRATION group has come into force meets the law (R104). -/
theorem formAll_law (s : State) (c : Channel) : (s.formAll c).vibrationLaw := by
  have hsuspect := (s.formSuspect c).formLost_formed c |>.suspectLaw (formLost_groups _ c).2 (formLost_entry _ c (by decide))
    (s.formSuspect_law c)
  have hlost := (s.formSuspect c).formLost_law c
  obtain ⟨halertA, -, -, -, hs1, hl1⟩ := ((s.formSuspect c).formLost c).formAlert_law .a
  obtain ⟨halertB, halert2, -, -, hs2, hl2⟩ := (((s.formSuspect c).formLost c).formAlert .a).formAlert_law .b
  obtain ⟨hdemandA, -, halert3, -, hs3, hl3⟩ := ((((s.formSuspect c).formLost c).formAlert .a).formAlert .b).formDemand_law .a
  obtain ⟨hdemandB, hdemand4, halert4, -, hs4, hl4⟩ :=
    (((((s.formSuspect c).formLost c).formAlert .a).formAlert .b).formDemand .a).formDemand_law .b
  obtain ⟨hdwellA, -, hdemand5, halert5, hs5, hl5⟩ :=
    ((((((s.formSuspect c).formLost c).formAlert .a).formAlert .b).formDemand .a).formDemand .b).formDwell_law .a
  obtain ⟨hdwellB, hdwell6, hdemand6, halert6, hs6, hl6⟩ :=
    (((((((s.formSuspect c).formLost c).formAlert .a).formAlert .b).formDemand .a).formDemand .b).formDwell .a).formDwell_law .b
  have hA := halert6 _ (halert5 _ (halert4 _ (halert3 _ (halert2 _ (by decide) halertA))))
  have hB := halert6 _ (halert5 _ (halert4 _ (halert3 _ halertB)))
  refine vibrationLaw_iff.mpr ⟨fun g => ?_, hs6 (hs5 (hs4 (hs3 (hs2 (hs1 hsuspect))))), hl6 (hl5 (hl4 (hl3 (hl2 (hl1 hlost)))))⟩
  cases g with
  | a => exact groupLaw_iff.mpr ⟨hdemand6 _ (hdemand5 _ (hdemand4 _ (by decide) hdemandA)), hA, hdwell6 _ (by decide) hdwellA⟩
  | b => exact groupLaw_iff.mpr ⟨hdemand6 _ (hdemand5 _ hdemandB), hB, hdwellB⟩

end State

end Sys2Proof.Machine
end

section
/-! The law of the vibration watch is kept by the samples, the block ends, trips, resets and the departure from UNCONFIGURED (R90,
R98 to R100). -/

namespace Sys2Proof.Machine

/-- The two states of a channel ask for the same of demand, VIB ALERT, dwell and the sensor conditions. -/
structure ChannelWatch.SameAsks (w w' : ChannelWatch) : Prop where
  vib : w'.vib = w.vib
  sectorAlert : w'.sectorAlert = w.sectorAlert
  memory : w'.memory = w.memory
  health : w'.health = w.health

/-- From `s` to `t` the law of the groups and that of each sensor condition are kept. -/
structure State.LawKept (s t : State) : Prop where
  groups : (∀ g, s.groupLaw g) → ∀ g, t.groupLaw g
  suspect : s.suspectLaw → t.suspectLaw
  lost : s.sensorLostLaw → t.sensorLostLaw

namespace State
variable {s t u : State} {c : Channel} {w : ChannelWatch}

theorem LawKept.refl (s : State) : s.LawKept s := ⟨id, id, id⟩

theorem LawKept.trans (h : s.LawKept t) (h' : t.LawKept u) : s.LawKept u :=
  ⟨h'.groups ∘ h.groups, h'.suspect ∘ h.suspect, h'.lost ∘ h.lost⟩

theorem LawKept.law (h : s.LawKept t) (hs : s.vibrationLaw) : t.vibrationLaw := by
  obtain ⟨hgroups, hsuspect, hlost⟩ := vibrationLaw_iff.mp hs
  exact vibrationLaw_iff.mpr ⟨h.groups hgroups, h.suspect hsuspect, h.lost hlost⟩

/-- The law speaks of the settings in force, the channels, the groups, the sensor flags and three fault kinds alone. -/
theorem LawKept.of_view (hsettings : t.watch.settings = s.watch.settings) (hchannels : t.watch.channels = s.watch.channels)
    (hgroups : t.watch.groups = s.watch.groups) (hsuspect : t.watch.suspect = s.watch.suspect) (hlost : t.watch.lost = s.watch.lost)
    (hentry : ∀ k, k = .vibAlert ∨ k = .sensorSuspect ∨ k = .sensorLost → t.faults.entry k = s.faults.entry k) : s.LawKept t := by
  have hfitted : t.watch.fitted = s.watch.fitted := by
    funext d
    unfold Watch.fitted
    rw [hsettings]
  have hchannel : ∀ d, t.channel d = s.channel d := fun d => by rw [State.channel, hchannels, State.channel]
  have hcfg : t.watch.cfg = s.watch.cfg := by rw [Watch.cfg, hsettings, Watch.cfg]
  have hgroup : ∀ g, t.group g = s.group g := fun g => by rw [State.group, hgroups, State.group]
  have hsome : ∀ g p, t.someIn g p ↔ s.someIn g p := fun g p => by simp only [State.someIn, hfitted, hchannel]
  refine ⟨fun h g => ?_, fun h => ?_, fun h => ?_⟩
  · have hg := h g
    unfold State.groupLaw at hg ⊢
    simp only [hsome, hcfg, hgroup, State.sourcePresent, hentry .vibAlert (by tauto)]
    exact hg
  · unfold State.suspectLaw at h ⊢
    simp only [hfitted, hchannel, hsuspect, State.sourcePresent, hentry .sensorSuspect (by tauto)]
    exact h
  · unfold State.sensorLostLaw at h ⊢
    simp only [hfitted, hchannel, hlost, State.sourcePresent, hentry .sensorLost (by tauto)]
    exact h

theorem LawKept.of_watch (hwatch : t.watch = s.watch)
    (hentry : ∀ k, k = .vibAlert ∨ k = .sensorSuspect ∨ k = .sensorLost → t.faults.entry k = s.faults.entry k) : s.LawKept t :=
  .of_view (by rw [hwatch]) (by rw [hwatch]) (by rw [hwatch]) (by rw [hwatch]) (by rw [hwatch]) hentry

/-! ### A channel rewritten -/

theorem someIn_setChannel {g : Side} {p : ChannelWatch → Prop} (h : groupOf c = g → (p w ↔ p (s.channel c))) :
    (s.setChannel c w).someIn g p ↔ s.someIn g p := by
  have hset := s.setChannel_worked c w
  refine exists_congr fun d => ?_
  rw [hset.swept.fitted]
  by_cases hd : d = c
  · subst hd
    rw [hset.here]
    exact and_congr_right fun _ => and_congr_right h
  · rw [hset.others d hd]

/-- A channel rewritten leaves the other group's law alone, and that of its own group where it asks for the same. -/
theorem setChannel_groupLaw {g : Side} (h : groupOf c = g → (s.channel c).SameAsks w) (hs : s.groupLaw g) :
    (s.setChannel c w).groupLaw g := by
  have hsome : ∀ p : ChannelWatch → Prop, (groupOf c = g → (p w ↔ p (s.channel c))) →
      ((s.setChannel c w).someIn g p ↔ s.someIn g p) := fun p => someIn_setChannel
  unfold State.groupLaw at hs ⊢
  rw [hsome (fun w => w.vib = .alert ∨ w.sectorAlert = true) fun hg => by rw [(h hg).vib, (h hg).sectorAlert],
    hsome (fun w => w.vib = .danger ∨ w.memory = true) fun hg => by rw [(h hg).vib, (h hg).memory],
    hsome (fun w => w.health = .lost) fun hg => by rw [(h hg).health], hsome (fun w => w.vib = .danger) fun hg => by rw [(h hg).vib]]
  exact hs

theorem setChannel_dwellLaw {g : Side} (h : w.vib = (s.channel c).vib) (hs : s.dwellLaw g) : (s.setChannel c w).dwellLaw g := by
  unfold State.dwellLaw at hs ⊢
  rw [someIn_setChannel fun _ => by rw [h]]
  exact hs

theorem setChannel_health {p : Health → Prop} (h : w.health = (s.channel c).health) :
    (∃ d, (s.setChannel c w).watch.fitted d = true ∧ p ((s.setChannel c w).channel d).health) ↔
      ∃ d, s.watch.fitted d = true ∧ p (s.channel d).health := by
  have hset := s.setChannel_worked c w
  refine exists_congr fun d => ?_
  rw [hset.swept.fitted]
  by_cases hd : d = c
  · subst hd
    rw [hset.here, h]
  · rw [hset.others d hd]

theorem setChannel_sensors (h : w.health = (s.channel c).health) : (s.suspectLaw → (s.setChannel c w).suspectLaw) ∧
    (s.sensorLostLaw → (s.setChannel c w).sensorLostLaw) := by
  refine ⟨fun hs => ⟨?_, hs.2⟩, fun hs => ⟨?_, hs.2⟩⟩
  · rw [setChannel_health (p := fun v => v = .suspect) h]
    exact hs.1
  · rw [setChannel_health (p := fun v => v = .lost) h]
    exact hs.1

theorem setChannel_lawKept (h : (s.channel c).SameAsks w) : s.LawKept (s.setChannel c w) :=
  ⟨fun hs g => setChannel_groupLaw (fun _ => h) (hs g), (setChannel_sensors h.health).1, (setChannel_sensors h.health).2⟩

/-- A channel rewritten, then everything formed that its health may change. -/
theorem setChannel_healthChanged (s : State) (c : Channel) (w : ChannelWatch) :
    s.LawKept ((s.setChannel c w).healthChanged c) ∧ ((s.setChannel c w).healthChanged c).sensorLostLaw := by
  obtain ⟨hgroup, hother, hsuspect, hlost⟩ := (s.setChannel c w).healthChanged_law c
  refine ⟨⟨fun hs g => ?_, fun _ => hsuspect, fun _ => hlost⟩, hlost⟩
  by_cases hg : g = groupOf c
  · rw [hg]
    exact hgroup
  · exact hother g hg (setChannel_groupLaw (fun h => absurd h.symm hg) (hs g))

theorem takeCond_lawKept (s : State) {tc : TrigCond} (hc : tc ≠ .manual) (d : Option Nat) : s.LawKept (s.takeCond tc d) :=
  have h := s.takeCond_law hc d
  ⟨fun hs g => h.1 g (hs g), h.2.1, h.2.2⟩

theorem formGroup_lawKept (s : State) (g : Side) : s.LawKept (s.formGroup g) := by
  obtain ⟨hgroup, hother, hsuspect, hlost⟩ := s.formGroup_law g
  refine ⟨fun hs g' => ?_, hsuspect, hlost⟩
  by_cases hg : g' = g
  · rw [hg]
    exact hgroup
  · exact hother g' hg (hs g')

/-- A channel rewritten without a change of its vibration state or health, then demand and VIB ALERT of its group formed. -/
theorem setChannel_formed {v : State} (hgroups : ∀ g, (s.setChannel c w).groupLaw g → v.groupLaw g)
    (hdwell : (s.setChannel c w).dwellLaw (groupOf c) → v.dwellLaw (groupOf c))
    (hsensors : ((s.setChannel c w).suspectLaw → v.suspectLaw) ∧ ((s.setChannel c w).sensorLostLaw → v.sensorLostLaw))
    (hvib : w.vib = (s.channel c).vib) (hhealth : w.health = (s.channel c).health) :
    s.LawKept ((v.formDemand (groupOf c)).formAlert (groupOf c)) := by
  obtain ⟨hgroup, hrest, hsuspect, hlost⟩ := v.formed_law (groupOf c)
  obtain ⟨hsuspect', hlost'⟩ := setChannel_sensors hhealth
  refine ⟨fun hs g => ?_, fun h => hsuspect (hsensors.1 (hsuspect' h)), fun h => hlost (hsensors.2 (hlost' h))⟩
  by_cases hg : g = groupOf c
  · rw [hg]
    exact hgroup (hdwell (setChannel_dwellLaw hvib (groupLaw_iff.mp (hs _)).2.2))
  · exact hrest g hg (hgroups g (setChannel_groupLaw (fun h => absurd h.symm hg) (hs g)))

theorem takeCond_dwellLaw (s : State) {tc : TrigCond} (hc : tc ≠ .manual) (d : Option Nat) {g : Side} (h : s.dwellLaw g) :
    (s.takeCond tc d).dwellLaw g := (s.takeCond_formed hc d).dwellLaw (by simp [State.group]) h

/-! ### The samples -/

theorem heard_asks (w : ChannelWatch) (r : Receiver) : w.SameAsks (w.noted r) := ⟨rfl, rfl, rfl, rfl⟩

theorem heldLost_lawKept (s : State) (c : Channel) : s.LawKept (s.heldLost c) := by
  unfold State.heldLost
  dsimp only
  split
  · exact setChannel_lawKept ⟨rfl, rfl, rfl, rfl⟩
  · exact (s.setChannel_healthChanged c _).1

/-- After the held run of a channel that was not LOST the condition SENSOR LOST is formed (R90). -/
theorem heldLost_sensorLost (h : (s.channel c).health ≠ .lost) : (s.heldLost c).sensorLostLaw := by
  unfold State.heldLost
  dsimp only
  rw [if_neg h]
  exact (s.setChannel_healthChanged c _).2

theorem formSectors_lawKept (s : State) (c : Channel) : s.LawKept (s.formSectors c) := by
  unfold State.formSectors
  dsimp only
  split
  · next halert => exact setChannel_lawKept ⟨rfl, halert, rfl, rfl⟩
  · split
    · obtain ⟨hgroups, hsensors⟩ := (s.setChannel c ((s.channel c).formMap (vget s.watch.cfg.sector c))).takeCond_law
        (tc := .sectorAlert) (by nofun) (some c.val)
      exact setChannel_formed hgroups (takeCond_dwellLaw _ (by nofun) _) hsensors rfl rfl
    · exact setChannel_formed (fun _ => id) id ⟨id, id⟩ rfl rfl

theorem follow_asks (w : ChannelWatch) (i : Nat) : w.SameAsks (w.follow i) := by
  unfold ChannelWatch.follow
  split
  · exact ⟨rfl, rfl, rfl, rfl⟩
  · split
    · exact ⟨rfl, rfl, rfl, rfl⟩
    · unfold ChannelWatch.closeVisit
      split <;> exact ⟨rfl, rfl, rfl, rfl⟩

theorem visitWork_lawKept (s : State) (c : Channel) (t : Tag) (y : Int) : s.LawKept (s.visitWork c t y) := by
  unfold State.visitWork
  dsimp only
  split
  · have hasks : (s.channel c).SameAsks (if decide (s.watch.cfg.watchSpeed ≤ |s.meas.n|) && t ≠ .held then
        ((s.channel c).follow s.meas.shell.sector).visitSample y else (s.channel c).follow s.meas.shell.sector) := by
      obtain ⟨h1, h2, h3, h4⟩ := follow_asks (s.channel c) s.meas.shell.sector
      split <;> exact ⟨h1, h2, h3, h4⟩
    split
    · exact (setChannel_lawKept hasks).trans (formSectors_lawKept _ c)
    · exact setChannel_lawKept hasks
  · exact setChannel_lawKept ⟨rfl, rfl, rfl, rfl⟩

theorem sampleWork_lawKept (s : State) (c : Channel) (r : Receiver) : s.LawKept (s.sampleWork c r) := by
  unfold State.sampleWork
  dsimp only
  refine .trans ?_ (visitWork_lawKept _ c _ _)
  have hnoted := setChannel_lawKept (s := s) (c := c) (heard_asks (s.channel c) r)
  split
  · exact hnoted.trans (heldLost_lawKept _ c)
  · exact hnoted

/-! ### The block end -/

/-- The table of R89 moves health and runs alone, but for the entry of a SUSPECT channel into LOST. -/
theorem stepHealth_cases (w : ChannelWatch) (bad : Bool) : (w.stepHealth bad = w.lose ∧ w.health = .suspect) ∨
    ∃ h good count, w.stepHealth bad = { w with health := h, goodRun := good, badRun := count } ∧
      (h = .lost → w.health = .lost) := by
  unfold ChannelWatch.stepHealth
  split
  · split
    · exact .inr ⟨_, _, _, rfl, by nofun⟩
    · exact .inr ⟨w.health, _, _, rfl, id⟩
  · next _ h =>
    split
    · exact .inl ⟨rfl, h⟩
    · exact .inr ⟨w.health, _, _, rfl, id⟩
  · exact .inr ⟨w.health, w.goodRun, w.badRun, rfl, id⟩
  · exact .inr ⟨_, _, _, rfl, by nofun⟩
  · split
    · exact .inr ⟨_, _, _, rfl, by nofun⟩
    · exact .inr ⟨w.health, _, w.badRun, rfl, id⟩
  · exact .inr ⟨w.health, _, w.badRun, rfl, id⟩

/-- A block end that leaves the health leaves what the channel asks for. -/
theorem judged_asks {w : ChannelWatch} (h : w.judged.health = w.health) : w.SameAsks w.judged := by
  unfold ChannelWatch.judged at h ⊢
  rcases stepHealth_cases w.closeBlock (decide (8 < w.held + w.errs)) with ⟨heq, hsuspect⟩ | ⟨h', good, count, heq, -⟩
  · rw [heq, show w.health = .suspect from hsuspect] at h
    exact absurd h (by simp [ChannelWatch.lose])
  · rw [heq] at h ⊢
    exact ⟨rfl, rfl, rfl, h⟩

theorem afterHealth_lawKept (s : State) (c : Channel) : s.LawKept (s.afterHealth c) := by
  unfold State.afterHealth
  dsimp only
  split
  · next h => exact setChannel_lawKept (judged_asks h)
  · exact (s.setChannel_healthChanged c _).1

/-- An evaluation moves the vibration state and its counts alone (R91 to R93). -/
theorem evaluate_eq (w : ChannelWatch) (v : VibSettings) (c : Channel) : w.evaluate v c = { w with
    vib := (w.evaluate v c).vib, alertOn := (w.evaluate v c).alertOn, dangerOn := (w.evaluate v c).dangerOn
    offCount := (w.evaluate v c).offCount } := by
  have hdown : ∀ (u : ChannelWatch) threshold off below, u.stepDown threshold off below = { u with
      vib := (u.stepDown threshold off below).vib, alertOn := (u.stepDown threshold off below).alertOn
      dangerOn := (u.stepDown threshold off below).dangerOn, offCount := (u.stepDown threshold off below).offCount } :=
    fun u threshold off below => by
      unfold ChannelWatch.stepDown
      dsimp only
      split_ifs <;> rfl
  have hnormal : ∀ u : ChannelWatch, u.evalNormal v c = { u with
      vib := (u.evalNormal v c).vib, alertOn := (u.evalNormal v c).alertOn, dangerOn := (u.evalNormal v c).dangerOn
      offCount := (u.evalNormal v c).offCount } := fun u => by
    unfold ChannelWatch.evalNormal
    dsimp only
    split_ifs <;> rfl
  unfold ChannelWatch.evaluate
  split
  · rw [hnormal]
    rfl
  · rw [← hnormal]
  · unfold ChannelWatch.evalAlert
    dsimp only
    split_ifs
    · rfl
    · rw [hdown]
    · rfl
    · rw [hdown]
  · rw [← hdown]

theorem vibEntry_law (s : State) (c : Channel) (v0 : VibState) : s.LawKept (s.vibEntry c v0) := by
  unfold State.vibEntry
  split
  · split
    · exact .refl s
    · exact s.takeCond_lawKept (by nofun) _
  · exact s.takeCond_lawKept (by nofun) _
  · exact .refl s

theorem vibEntry_groupLaw (s : State) (c : Channel) (v0 : VibState) {g : Side} (h : s.groupLaw g) : (s.vibEntry c v0).groupLaw g := by
  unfold State.vibEntry
  split
  · split
    · exact h
    · exact (s.takeCond_law (by nofun) _).1 g h
  · exact (s.takeCond_law (by nofun) _).1 g h
  · exact h

theorem evaluateChannel_lawKept (s : State) (c : Channel) : s.LawKept (s.evaluateChannel c) := by
  unfold State.evaluateChannel
  split
  · dsimp only
    have heq := evaluate_eq (s.channel c) s.watch.cfg c
    have hhealth : ((s.channel c).evaluate s.watch.cfg c).health = (s.channel c).health := by rw [heq]
    split
    · next hvib => exact setChannel_lawKept ⟨hvib, by rw [heq], by rw [heq], hhealth⟩
    · set u := s.setChannel c ((s.channel c).evaluate s.watch.cfg c) with hu
      obtain ⟨hgroup, hother, hsuspect, hlost⟩ := (u.vibEntry c (s.channel c).vib).formGroup_law (groupOf c)
      have hentry := u.vibEntry_law c (s.channel c).vib
      obtain ⟨hs1, hl1⟩ := setChannel_sensors (s := s) (c := c) hhealth
      refine ⟨fun hs g => ?_, fun h => hsuspect (hentry.suspect (hs1 h)), fun h => hlost (hentry.lost (hl1 h))⟩
      by_cases hg : g = groupOf c
      · rw [hg]
        exact hgroup
      · exact hother g hg (u.vibEntry_groupLaw c _ (setChannel_groupLaw (fun h => absurd h.symm hg) (hs g)))
  · exact .refl s

theorem testMemory_lawKept (s : State) (c : Channel) (e : Bool) : s.LawKept (s.testMemory c e) := by
  unfold State.testMemory
  dsimp only
  split
  · exact setChannel_formed (fun _ => id) id ⟨id, id⟩ rfl rfl
  · exact .refl s

theorem blockEndChannel_lawKept (s : State) (c : Channel) : s.LawKept (s.blockEndChannel c) :=
  ((afterHealth_lawKept s c).trans (evaluateChannel_lawKept _ c)).trans (testMemory_lawKept _ c _)

/-! ### Sweeps -/

theorem foldl_lawKept {step : State → Channel → State} (hstep : ∀ (u : State) (d : Channel), u.LawKept (step u d)) :
    ∀ (l : List Channel) (s : State), s.LawKept (l.foldl step s) := by
  intro l
  induction l with
  | nil => exact fun s => .refl s
  | cons d l ih => exact fun s => (hstep s d).trans (ih _)

theorem takeSamples_lawKept (s : State) : s.LawKept s.takeSamples :=
  .trans (t := s.takeReceivers) (.of_watch rfl fun _ _ => rfl) (foldl_lawKept (fun u d => u.sampleWork_lawKept d _) _ _)

theorem blockSwept_lawKept (s : State) : s.LawKept s.blockSwept := foldl_lawKept (fun u d => u.blockEndChannel_lawKept d) _ _

end State

end Sys2Proof.Machine
end

section
/-! The danger dwell (R100), and the law of the vibration watch over a sample period and RESET SECTOR MAP (R83, R102). -/

namespace Sys2Proof.Machine

namespace State
variable {s t u : State}

/-! ### Trips, resets and the departure from UNCONFIGURED keep the law -/

theorem performReset_law (s : State) : s.performReset.vibrationLaw := by
  obtain ⟨-, -, hwatch, -⟩ := s.performReset_units
  have hfitted : ∀ c, s.performReset.watch.fitted c = false := fun c => by rw [hwatch]; rfl
  have hnone : ∀ g p, ¬s.performReset.someIn g p := fun g p ⟨c, hc, _⟩ => by simp [hfitted] at hc
  have hgroup : ∀ g, s.performReset.group g = .reset := fun g => by
    rw [State.group, hwatch]
    cases g <;> rfl
  have habsent : ∀ k src, (k = .vibAlert ∨ k = .sensorSuspect ∨ k = .sensorLost) →
      s.performReset.sourcePresent k src = false := fun k src hk => by
    rw [State.sourcePresent, s.performReset_entry]
    rcases hk with rfl | rfl | rfl <;> cases src <;> rfl
  have hnofit : ∀ p : Health → Prop, ¬∃ c, s.performReset.watch.fitted c = true ∧ p (s.performReset.channel c).health :=
    fun p ⟨c, hc, _⟩ => by simp [hfitted] at hc
  refine vibrationLaw_iff.mpr ⟨fun g => groupLaw_iff.mpr ⟨?_, ?_, fun _ => by rw [hgroup]; rfl⟩, ?_, ?_⟩
  · unfold State.demandLaw
    simp only [hnone, hgroup]
    simp [GroupWatch.reset]
  · unfold State.alertLaw
    simp only [hnone, hgroup, habsent _ _ (.inl rfl)]
    simp [GroupWatch.reset]
  · refine ⟨⟨fun h => ?_, fun h => absurd h (hnofit fun v => v = .suspect)⟩, ?_⟩
    · rw [hwatch] at h
      exact absurd h (by decide)
    · rw [habsent _ _ (.inr (.inl rfl)), hwatch]
      rfl
  · refine ⟨⟨fun h => ?_, fun h => absurd h (hnofit fun v => v = .lost)⟩, ?_⟩
    · rw [hwatch] at h
      exact absurd h (by decide)
    · rw [habsent _ _ (.inr (.inr rfl)), hwatch]
      rfl

/-- The kinds of the watch are none that a trip, an entry or a closing record reports. -/
theorem ofWatch_ofRest {k : FaultKind} (h : k = .vibAlert ∨ k = .sensorSuspect ∨ k = .sensorLost) : k.ofRest = false := by
  rcases h with rfl | rfl | rfl <;> rfl

theorem enterStopped_law (hs : s.vibrationLaw) : s.enterStopped.vibrationLaw := by
  by_cases hr : s.seq.restartPending = true
  · rw [State.enterStopped_restart hr]
    exact performReset_law _
  · have hr' : s.seq.restartPending = false := by simpa using hr
    obtain ⟨-, -, -, -, hwatch, -⟩ := s.enterStopped_calm hr'
    exact LawKept.law (.of_watch hwatch fun k hk => s.enterStopped_entry (ofWatch_ofRest hk) hr') hs

theorem firstCause_law (k : FaultKind) (d : Option Nat) (hs : s.vibrationLaw) : (s.firstCause k d).vibrationLaw := by
  by_cases hr : s.seq.restartPending = true
  · rw [State.firstCause_restart k d hr]
    exact s.performReset_law
  · have hr' : s.seq.restartPending = false := by simpa using hr
    obtain ⟨-, -, -, -, hwatch, -⟩ := s.firstCause_calm k d hr'
    exact LawKept.law (.of_watch hwatch fun j hj => s.firstCause_entry (ofWatch_ofRest hj) k d hr') hs

theorem closeIfZero_law (hs : s.vibrationLaw) : s.closeIfZero.vibrationLaw :=
  LawKept.law (.of_watch (by simp) fun _ hk => s.closeIfZero_other (FaultKind.ne_ofRest (ofWatch_ofRest hk) rfl)) hs

theorem followOnCause_law (k : FaultKind) (d : Option Nat) (n : Nat) (hs : s.vibrationLaw) :
    (s.followOnCause k d n).vibrationLaw := by
  unfold State.followOnCause
  split
  · exact LawKept.law (.of_watch rfl fun _ _ => rfl) hs
  · exact hs

theorem fall_law (k : FaultKind) (src : Source) (hk : ∀ j, (j = .vibAlert ∨ j = .sensorSuspect ∨ j = .sensorLost) → j ≠ k)
    (hs : s.vibrationLaw) : (s.fall k src).vibrationLaw :=
  LawKept.law (.of_watch (by simp) fun j hj => s.fall_other src (hk j hj)) hs

theorem tripRise_law (k : FaultKind) (src : Source) (hk : ∀ j, (j = .vibAlert ∨ j = .sensorSuspect ∨ j = .sensorLost) → j ≠ k)
    (hs : s.vibrationLaw) : (s.tripRise k src).vibrationLaw := by
  have hlatch : (s.latchRise k src none).vibrationLaw :=
    LawKept.law (.of_watch (by simp) fun j hj => s.latchRise_other src none (hk j hj)) hs
  unfold State.tripRise
  split
  · exact hs
  · unfold State.tripCause
    split
    · exact hlatch
    · split
      · exact followOnCause_law _ _ _ hlatch
      · exact closeIfZero_law (firstCause_law _ _ hlatch)

theorem tripPulse_law (k : FaultKind) (hk : ∀ j, (j = .vibAlert ∨ j = .sensorSuspect ∨ j = .sensorLost) → j ≠ k)
    (hs : s.vibrationLaw) : (s.tripPulse k).vibrationLaw := fall_law k .first hk (tripRise_law k .first hk hs)

theorem takeLatched_law (k : FaultKind) (hs : s.vibrationLaw) : (s.takeLatched k).vibrationLaw := by
  unfold State.takeLatched
  dsimp only
  split
  · exact followOnCause_law _ _ _ hs
  · exact firstCause_law _ _ hs

theorem departureTest_law (hs : s.vibrationLaw) : s.departureTest.vibrationLaw := by
  have hfold : ∀ (l : List FaultKind) (v : State), v.vibrationLaw → (l.foldl State.takeLatched v).vibrationLaw := by
    intro l
    induction l with
    | nil => exact fun _ h => h
    | cons k l ih => exact fun v h => ih _ (takeLatched_law k h)
  unfold State.departureTest
  split
  · split
    · exact enterStopped_law hs
    · exact closeIfZero_law (hfold _ _ (enterStopped_law hs))
  · exact hs

theorem finish_lawKept (s : State) (k : Fin 8) (rc : ResultCode) (rs : List Word) : s.LawKept (s.finish k rc rs) :=
  .of_watch (by simp) fun _ _ => by simp

theorem rewriteMap_lawKept (s : State) : s.LawKept s.rewriteMap := by
  rw [s.rewriteMap_eq]
  exact .of_view rfl rfl rfl rfl rfl fun _ _ => rfl

/-- A VIBRATION group that comes into force forms everything anew (R104). -/
theorem vibrationInForce_law (hs : s.vibrationLaw) : s.vibrationInForce.vibrationLaw := by
  unfold State.vibrationInForce
  split
  · exact hs
  · exact departureTest_law ((finish_lawKept _ _ _ _).law ((rewriteMap_lawKept _).law (formAll_law _ _)))

/-! ### The sample period -/

theorem advanceBlock_law (hs : s.vibrationLaw) : s.advanceBlock.vibrationLaw := by
  have hpos : (s.setWatch { s.watch with blockPos := (s.watch.blockPos + 1) % 256 }).vibrationLaw :=
    LawKept.law (.of_view rfl rfl rfl rfl rfl fun _ _ => rfl) hs
  unfold State.advanceBlock
  dsimp only
  split
  · exact vibrationInForce_law ((blockSwept_lawKept _).law hpos)
  · exact hpos

/-- The dwell timer of a group rewritten, where the group is in DANGER or the timer is 0. -/
theorem setDwell_lawKept (s : State) (g : Side) (n : Nat) (h : s.watch.inDanger g = true ∨ n = 0) :
    s.LawKept (s.setGroup g { s.group g with dwell := n }) := by
  have hformed := s.setGroup_formed g { s.group g with dwell := n }
  refine ⟨fun hs g' => ?_, hformed.suspectLaw rfl rfl, hformed.sensorLostLaw rfl rfl⟩
  by_cases hg : g' = g
  · subst hg
    obtain ⟨hdemand, halert, -⟩ := groupLaw_iff.mp (hs g')
    refine groupLaw_iff.mpr ⟨hformed.demandLaw (by rw [setGroup_same]) hdemand, hformed.alertLaw (by rw [setGroup_same]) rfl halert,
      fun hnone => ?_⟩
    rw [hformed.someIn] at hnone
    rw [setGroup_same]
    rcases h with h | h
    · exact absurd (inDanger_iff.mp h) hnone
    · exact h
  · exact hformed.groupLaw (s.setGroup_other _ hg) rfl (hs g')

theorem formDwell_lawKept (s : State) (g : Side) : s.LawKept (s.formDwell g) := by
  unfold State.formDwell
  split
  · exact .refl s
  · exact s.setDwell_lawKept g 0 (.inr rfl)

theorem dwellStep_law (g : Side) (hs : s.vibrationLaw) : (s.dwellStep g).vibrationLaw := by
  unfold State.dwellStep
  split
  · exact tripPulse_law _ (fun j hj => by rcases hj with rfl | rfl | rfl <;> nofun) ((s.setDwell_lawKept g 0 (.inr rfl)).law hs)
  · split
    · next h =>
      unfold State.dwellCounts at h
      rw [Bool.and_eq_true, Bool.and_eq_true] at h
      exact (s.setDwell_lawKept g _ (.inl h.1.1)).law hs
    · exact (s.formDwell_lawKept g).law hs

theorem unlessReset_law {s0 v : State} {f : State → State} (hv : v.vibrationLaw) (hf : v.vibrationLaw → (f v).vibrationLaw) :
    (s0.unlessReset f v).vibrationLaw := by
  unfold State.unlessReset
  split
  · exact hf hv
  · exact hv

theorem advanceQuarter_law (hs : s.vibrationLaw) : s.advanceQuarter.vibrationLaw := by
  have hquarter : s.quartered.vibrationLaw := LawKept.law (.of_view rfl rfl rfl rfl rfl fun _ _ => rfl) hs
  unfold State.advanceQuarter
  dsimp only
  split
  · exact unlessReset_law (dwellStep_law .a hquarter) (dwellStep_law .b)
  · exact hquarter

theorem samplePeriod_law (hs : s.vibrationLaw) : s.samplePeriod.vibrationLaw := by
  have hrequest : ∀ v : State, v.LawKept v.requestSamples := fun v => .of_view rfl rfl rfl rfl rfl fun _ _ => rfl
  have hblock := advanceBlock_law (s.takeSamples_lawKept.law hs)
  unfold State.samplePeriod
  exact unlessReset_law (unlessReset_law hblock advanceQuarter_law) (hrequest _).law

/-! ### RESET SECTOR MAP (R102) -/

theorem formed_lawKept (s : State) (g : Side) : s.LawKept ((s.formDemand g).formAlert g) := by
  obtain ⟨hgroup, hrest, hsuspect, hlost⟩ := s.formed_law g
  refine ⟨fun hs g' => ?_, hsuspect, hlost⟩
  by_cases hg : g' = g
  · rw [hg]
    exact hgroup (groupLaw_iff.mp (hs g)).2.2
  · exact hrest g' hg (hs g')

theorem zeroMap_lawKept (s : State) (c : Channel) : s.LawKept (s.zeroMap c) :=
  ((setChannel_lawKept (s := s) (c := c) (w := { (s.channel c).noVisit with map := List.replicate 64 0 }) ⟨rfl, rfl, rfl, rfl⟩).trans
    (formSectors_lawKept _ c)).trans (formed_lawKept _ _)

theorem takeSlot_lawKept (s : State) (k : Fin 8) (rest : List (Fin 8)) : s.LawKept (s.takeSlot k rest) :=
  .of_watch (by simp) fun _ _ => by simp

theorem refuseInvalid_lawKept (s : State) (k : Fin 8) (i : Nat) (b : Bool) : s.LawKept (s.refuseInvalid k i b) :=
  .of_watch (by simp) fun _ _ => by simp

theorem exec_resetSectorMap {k : Fin 8} {rest : List (Fin 8)} (hhead : s.atHead (some .resetSectorMap) k rest) :
    exec .resetSectorMap s = .next (
      match namedChannels (s.param k 0) with
      | none => (s.takeSlot k rest).refuseInvalid k 0 false
      | some cs =>
        if s.param k 0 ≠ 0xFFFF && !cs.any s.watch.fitted then (s.takeSlot k rest).finish k .noEffect []
        else (((cs.filter s.watch.fitted).foldl State.zeroMap (s.takeSlot k rest)).rewriteMap).finish k .ok []) := by
  rw [exec_take rfl hhead, s.wordAt_slotParams k 0 (by decide)]
  have hwatch : (s.takeSlot k rest).watch = s.watch := by simp
  rw [hwatch] <;> rfl

theorem resetSectorMap_lawKept {k : Fin 8} {rest : List (Fin 8)} (hhead : s.atHead (some .resetSectorMap) k rest) :
    ∃ t, exec .resetSectorMap s = .next t ∧ s.LawKept t := by
  refine ⟨_, exec_resetSectorMap hhead, (s.takeSlot_lawKept k rest).trans ?_⟩
  split
  · exact refuseInvalid_lawKept _ _ _ _
  · split
    · exact finish_lawKept _ _ _ _
    · exact ((foldl_lawKept zeroMap_lawKept _ _).trans (rewriteMap_lawKept _)).trans (finish_lawKept _ _ _ _)

/-! ### The danger dwell (R100) -/

theorem governed_iff {d : DriveState} : d.governed = true ↔ d = .breakaway ∨ d = .run ∨ d = .stopping := by cases d <;> simp [DriveState.governed]

theorem dwellCounts_of {g : Side} (hdanger : s.watch.inDanger g = true) (hgov : s.seq.drive.governed = true)
    (hset : s.watch.cfg.dwell ≠ 0) : s.dwellCounts g = true := by simp [State.dwellCounts, hdanger, hgov, hset]

theorem dwellStep_counts {g : Side} (hcounts : s.dwellCounts g = true) (hlt : (s.group g).dwell + 1 < s.watch.cfg.dwell) :
    s.dwellStep g = s.setGroup g { s.group g with dwell := (s.group g).dwell + 1 } := by
  have hreached : s.dwellReached g = false := by simp [State.dwellReached, hlt]
  rw [State.dwellStep, hreached, hcounts]
  rfl

theorem dwellStep_reached {g : Side} (hcounts : s.dwellCounts g = true) (hle : s.watch.cfg.dwell ≤ (s.group g).dwell + 1) :
    s.dwellStep g = (s.setGroup g { s.group g with dwell := 0 }).tripPulse (.vibDanger g) := by
  have hreached : s.dwellReached g = true := by simp [State.dwellReached, hcounts, hle]
  rw [State.dwellStep, if_pos hreached]

/-- A dwell step that does not reach its time rewrites the timer of its group alone. -/
theorem dwellStep_below {g : Side} (hlt : (s.group g).dwell + 1 < s.watch.cfg.dwell ∨ s.seq.drive.governed = false) :
    ∃ n, s.dwellStep g = s.setGroup g { s.group g with dwell := n } := by
  have hreached : s.dwellReached g = false := by
    unfold State.dwellReached State.dwellCounts
    rcases hlt with h | h
    · simp [h]
    · simp [h]
  unfold State.dwellStep State.formDwell
  rw [hreached]
  by_cases hcounts : s.dwellCounts g = true
  · exact ⟨_, by rw [if_neg (by simp), if_pos hcounts]⟩
  · rw [if_neg (by simp), if_neg hcounts]
    split
    · refine ⟨(s.group g).dwell, ?_⟩
      have hsame : s.watch.groups.set g (s.group g) = s.watch.groups := by cases g <;> rfl
      show s = s.setWatch { s.watch with groups := s.watch.groups.set g (s.group g) }
      rw [hsame]
      rfl
    · exact ⟨0, rfl⟩

/-- A sample period at a watch millisecond within a block, with no reset (R83, R100). -/
theorem samplePeriod_millisecond {v : State} (hv : v = s.takeSamples.advanceBlock.quartered)
    (hq : (s.takeSamples.advanceBlock.watch.quarter + 1) % 4 = 0)
    (hresets : s.takeSamples.advanceBlock.record.resets = s.record.resets)
    (ha : (v.dwellStep .a).record.resets = s.record.resets) (hb : ((v.dwellStep .a).dwellStep .b).record.resets = s.record.resets) :
    s.samplePeriod = ((v.dwellStep .a).dwellStep .b).requestSamples := by
  subst hv
  have hquarter : s.takeSamples.advanceBlock.advanceQuarter =
      (s.takeSamples.advanceBlock.quartered.dwellStep .a).dwellStep .b := by
    unfold State.advanceQuarter
    dsimp only
    rw [if_pos hq, ← State.quartered]
    exact State.unlessReset_kept _ (ha.trans hresets.symm)
  rw [State.samplePeriod, State.unlessReset_kept _ hresets, hquarter, State.unlessReset_kept _ hb]

/-- Both dwell steps where the timer of `g` counts below its time and the other one does not reach its own. -/
theorem dwellSteps_count {v : State} {g : Side} (hcounts : v.dwellCounts g = true)
    (hbelow : (v.group g).dwell + 1 < v.watch.cfg.dwell) (hother : (v.group (otherSide g)).dwell + 1 < v.watch.cfg.dwell) :
    (v.dwellStep .a).record.resets = v.record.resets ∧ ((v.dwellStep .a).dwellStep .b).record.resets = v.record.resets ∧
      (((v.dwellStep .a).dwellStep .b).group g).dwell = (v.group g).dwell + 1 ∧ ((v.dwellStep .a).dwellStep .b).seq = v.seq ∧
      ((v.dwellStep .a).dwellStep .b).gov = v.gov := by
  cases g with
  | a =>
    have ha := dwellStep_counts hcounts hbelow
    obtain ⟨n, hb⟩ := dwellStep_below (s := v.setGroup .a { v.group .a with dwell := (v.group .a).dwell + 1 }) (g := .b) (.inl hother)
    rw [ha, hb]
    exact ⟨rfl, rfl, rfl, rfl, rfl⟩
  | b =>
    obtain ⟨n, ha⟩ := dwellStep_below (s := v) (g := .a) (.inl hother)
    have hb := dwellStep_counts (s := v.setGroup .a { v.group .a with dwell := n }) (g := .b) hcounts hbelow
    rw [ha, hb]
    exact ⟨rfl, rfl, rfl, rfl, rfl⟩

/-- A dwell step of a group that reaches its time: the trip (R100, R108). -/
theorem dwellStep_trips {v : State} {g : Side} (hcounts : v.dwellCounts g = true) (hle : v.watch.cfg.dwell ≤ (v.group g).dwell + 1)
    (hready : v.tripReady) (habsent : v.sourcePresent (.vibDanger g) .first = false) :
    State.Tripped v (v.dwellStep g) (.vibDanger g) ∧ (v.dwellStep g).sourcePresent (.vibDanger g) .first = false ∧
      (v.dwellStep g).record.resets = v.record.resets ∧ ((v.dwellStep g).group g).dwell = 0 := by
  have hset : (v.setGroup g { v.group g with dwell := 0 }).tripReady := hready
  have htrip := State.tripPulse_tripped _ (.vibDanger g) hset habsent
  obtain ⟨-, hresets, -, -, hwatch⟩ := State.tripPulse_calm _ (.vibDanger g) hset.2.2.2
  rw [dwellStep_reached hcounts hle]
  refine ⟨htrip.of_same rfl rfl rfl, State.tripPulse_absent _ _, hresets, ?_⟩
  rw [State.group, hwatch]
  exact congrArg GroupWatch.dwell (v.setGroup_same g _)

/-- Both dwell steps where the timer of `g` reaches its time and the other one does not reach its own. -/
theorem dwellSteps_trip {v : State} {g : Side} (hcounts : v.dwellCounts g = true) (hle : v.watch.cfg.dwell ≤ (v.group g).dwell + 1)
    (hother : (v.group (otherSide g)).dwell + 1 < v.watch.cfg.dwell) (hready : v.tripReady)
    (habsent : v.sourcePresent (.vibDanger g) .first = false) :
    (v.dwellStep .a).record.resets = v.record.resets ∧ ((v.dwellStep .a).dwellStep .b).record.resets = v.record.resets ∧
      State.Tripped v ((v.dwellStep .a).dwellStep .b) (.vibDanger g) ∧
      ((v.dwellStep .a).dwellStep .b).sourcePresent (.vibDanger g) .first = false ∧
      (((v.dwellStep .a).dwellStep .b).group g).dwell = 0 := by
  cases g with
  | a =>
    obtain ⟨htrip, hsource, hresets, hdwell⟩ := dwellStep_trips hcounts hle hready habsent
    have hdrive : (v.dwellStep .a).seq.drive.governed = false := by
      rw [htrip.seq]
      rfl
    obtain ⟨n, hb⟩ := dwellStep_below (s := v.dwellStep .a) (g := .b) (.inr hdrive)
    rw [hb]
    exact ⟨hresets, hresets, htrip.of_frame rfl rfl rfl rfl rfl, hsource, hdwell⟩
  | b =>
    obtain ⟨n, ha⟩ := dwellStep_below (s := v) (g := .a) (.inl hother)
    obtain ⟨htrip, hsource, hresets, hdwell⟩ := dwellStep_trips (v := v.setGroup .a { v.group .a with dwell := n }) (g := .b)
      hcounts hle hready habsent
    rw [ha]
    exact ⟨rfl, hresets, htrip.of_same rfl rfl rfl, hsource, hdwell⟩

/-- The dwell timer that a sample period finds at its time: the event row of R100 is that sample period. -/
theorem dangerDwellReached_of {u : State} (hu : u = s.takeSamples.advanceBlock) {g : Side} (hq : s.watch.quarter = 3)
    (hresets : u.record.resets = s.record.resets) (hcounts : u.dwellCounts g = true)
    (hle : u.watch.cfg.dwell ≤ (u.group g).dwell + 1) (hother : (u.group (otherSide g)).dwell + 1 < u.watch.cfg.dwell) :
    s.dangerDwellReached g = true := by
  unfold State.dangerDwellReached
  dsimp only
  rw [← hu]
  cases g with
  | a => simp [hq, hresets, State.dwellReached, hcounts, hle]
  | b =>
    obtain ⟨n, ha⟩ := dwellStep_below (s := u) (g := .a) (.inl hother)
    have hreached : (u.setGroup .a { u.group .a with dwell := n }).dwellReached .b = true := by
      have h : (u.setGroup .a { u.group .a with dwell := n }).dwellReached .b = u.dwellReached .b := rfl
      rw [h]
      simp [State.dwellReached, hcounts, hle]
    simp [hq, hresets, ha, hreached]

end State

/-- Settles O52. -/
theorem dangerDwellTrips : Obligations.DangerDwellTrips := by
  refine ⟨fun s g hpos hq => ?_, fun s hs => ⟨⟨_, rfl, State.samplePeriod_law hs⟩, fun k rest hhead => ?_⟩⟩
  · intro u
    have hu : u = s.takeSamples.advanceBlock := rfl
    clear_value u
    intro hdanger hdrive hset
    have hswept := s.takeSamples_swept
    have hwithin : u = s.takeSamples.setWatch { s.takeSamples.watch with blockPos := s.takeSamples.watch.blockPos + 1 } :=
      hu.trans (State.advanceBlock_within (by rw [hswept.eq]; exact hpos))
    have hseq : u.seq = s.seq := by rw [hwithin]; exact hswept.seq
    have hcfg : u.watch.cfg = s.watch.cfg := by rw [hwithin]; exact hswept.cfg
    have hgov : u.gov = s.gov := by rw [hwithin]; simp
    have hsettings : u.drive = s.drive := by rw [hwithin]; simp
    have hpending : u.pending = s.pending := by rw [hwithin]; simp
    have hresets : u.record.resets = s.record.resets := by rw [hwithin]; exact hswept.resets
    have hlock : u.faults.lock = s.faults.lock := by rw [hwithin]; exact s.takeSamples_keeps.1
    have hquarter : (u.watch.quarter + 1) % 4 = 0 := by
      have h : u.watch.quarter = 3 := by
        rw [hwithin]
        show s.takeSamples.watch.quarter = 3
        rw [hswept.eq]
        exact hq
      rw [h]
    have hgoverned : u.seq.drive.governed = true := by
      rw [hseq]
      exact State.governed_iff.mpr hdrive
    rw [← hcfg] at hset ⊢
    have hcounts : u.quartered.dwellCounts g = true :=
      State.dwellCounts_of (s := u.quartered) (State.inDanger_iff.mpr hdanger) hgoverned hset
    refine ⟨fun hbelow hother => ?_, fun hle hother hready habsent => ?_⟩
    · obtain ⟨ha, hb, hdwell, hseq', hgov'⟩ := State.dwellSteps_count (v := u.quartered) hcounts hbelow hother
      have hperiod := State.samplePeriod_millisecond (s := s) (v := u.quartered) (by rw [hu]) (by rw [← hu]; exact hquarter) (by rw [← hu]; exact hresets)
        (ha.trans hresets) (hb.trans hresets)
      generalize (u.quartered.dwellStep .a).dwellStep .b = w at *
      refine ⟨_, congrArg Host.Outcome.next ((if_pos hq).trans hperiod), hdwell, hseq'.trans hseq, hgov'.trans hgov⟩
    · have hready' : u.quartered.tripReady := by
        obtain ⟨h1, h2, h3, h4⟩ := hready
        rw [← hseq] at h1 h2 h4
        exact ⟨h1, h2, hlock.trans h3, h4⟩
      obtain ⟨ha, hb, htrip, hsource, hdwell⟩ := State.dwellSteps_trip (v := u.quartered) hcounts hle hother hready' habsent
      have hperiod := State.samplePeriod_millisecond (s := s) (v := u.quartered) (by rw [hu]) (by rw [← hu]; exact hquarter) (by rw [← hu]; exact hresets)
        (ha.trans hresets) (hb.trans hresets)
      have hreached := State.dangerDwellReached_of (s := s) (u := u) hu hq hresets hcounts hle hother
      generalize (u.quartered.dwellStep .a).dwellStep .b = w at *
      have htrip' := htrip.of_same (s := s) (congrArg Sequencer.afterTrip hseq) hsettings hpending
      exact ⟨_, congrArg Host.Outcome.next ((if_pos hreached).trans hperiod), congrArg Host.Outcome.next hperiod,
        htrip'.of_frame rfl rfl rfl rfl rfl, hsource, hdwell⟩
  · obtain ⟨t, ht, hkept⟩ := State.resetSectorMap_lawKept hhead
    exact ⟨t, ht, hkept.law hs⟩

end Sys2Proof.Machine
end

section
/-! The vibration sample period (R16, R83 to R94). -/

namespace Sys2Proof.Machine

/-! ### What a sample leaves of a channel -/

namespace State
variable {s t u : State} {c : Channel}

theorem visited_eq (s : State) (c : Channel) (w : ChannelWatch) (t : Tag) (y : Int) : s.visited c w t y = { w with
    visitSector := (s.visited c w t y).visitSector, visitPeak := (s.visited c w t y).visitPeak
    visitCount := (s.visited c w t y).visitCount, map := (s.visited c w t y).map
    sectorAlert := (s.visited c w t y).sectorAlert, worstSector := (s.visited c w t y).worstSector
    worstValue := (s.visited c w t y).worstValue } := by
  have hfollow : ∀ i, w.follow i = { w with
      visitSector := (w.follow i).visitSector, visitPeak := (w.follow i).visitPeak, visitCount := (w.follow i).visitCount
      map := (w.follow i).map } := fun i => by
    unfold ChannelWatch.follow ChannelWatch.closeVisit
    split
    · rfl
    · split_ifs <;> rfl
  unfold State.visited
  dsimp only
  rw [hfollow]
  split_ifs <;> rfl

theorem heard_eq (w : ChannelWatch) (r : Receiver) : w.heard r = { w.noted r with
    health := (w.heard r).health, goodRun := (w.heard r).goodRun, badRun := (w.heard r).badRun, memory := (w.heard r).memory
    vib := (w.heard r).vib, alertOn := (w.heard r).alertOn, dangerOn := (w.heard r).dangerOn
    offCount := (w.heard r).offCount } := by
  unfold ChannelWatch.heard ChannelWatch.heldOut
  split_ifs <;> rfl

/-- Mean, sum, counts and seen flags after a sample are those that the tag and the value give (R85, R86). -/
theorem sampled_noted (s : State) (c : Channel) (r : Receiver) :
    (s.sampled c r).mean = ((s.channel c).noted r).mean ∧ (s.sampled c r).lastGood = ((s.channel c).noted r).lastGood ∧
    (s.sampled c r).heldRun = ((s.channel c).noted r).heldRun ∧ (s.sampled c r).heldSeen = ((s.channel c).noted r).heldSeen ∧
    (s.sampled c r).overloadSeen = ((s.channel c).noted r).overloadSeen ∧ (s.sampled c r).sumSq = ((s.channel c).noted r).sumSq ∧
    (s.sampled c r).held = ((s.channel c).noted r).held ∧ (s.sampled c r).errs = ((s.channel c).noted r).errs := by
  rw [State.sampled, visited_eq, heard_eq]
  exact ⟨rfl, rfl, rfl, rfl, rfl, rfl, rfl, rfl⟩

/-- A sample that does not complete a held run leaves health, vibration state, counts and memory. -/
theorem sampled_asks (s : State) (c : Channel) (r : Receiver) (h : r.tag ≠ .held ∨ (s.channel c).heldRun < 31) :
    let w := s.channel c
    let w' := s.sampled c r
    w'.health = w.health ∧ w'.goodRun = w.goodRun ∧ w'.badRun = w.badRun ∧ w'.vib = w.vib ∧ w'.alertOn = w.alertOn ∧
    w'.dangerOn = w.dangerOn ∧ w'.offCount = w.offCount ∧ w'.memory = w.memory := by
  have hrun : ((s.channel c).noted r).heldRun = if r.tag = .held then countTo 32 (s.channel c).heldRun else 0 := rfl
  have hheard : (s.channel c).heard r = (s.channel c).noted r := by
    rw [ChannelWatch.heard, hrun]
    refine if_neg ?_
    rcases h with h | h
    · simp [h]
    · have hne : countTo 32 (s.channel c).heldRun ≠ 32 := by
        unfold countTo
        split_ifs <;> omega
      by_cases ht : r.tag = .held
      · simp [ht, hne]
      · simp [ht]
  rw [State.sampled, visited_eq, hheard]
  exact ⟨rfl, rfl, rfl, rfl, rfl, rfl, rfl, rfl⟩

/-! ### What a block end leaves of a channel -/

theorem stepped_eq (s : State) (c : Channel) (w : ChannelWatch) : s.stepped c w = { w with
    vib := (s.stepped c w).vib, alertOn := (s.stepped c w).alertOn, dangerOn := (s.stepped c w).dangerOn
    offCount := (s.stepped c w).offCount } := by
  unfold State.stepped
  split_ifs
  · rw [evaluate_eq]
  · rfl

theorem forgotten_eq (w : ChannelWatch) (e : Bool) : w.forgotten e = { w with memory := (w.forgotten e).memory } := by
  unfold ChannelWatch.forgotten
  split_ifs <;> rfl

/-- Health and runs after a block end are those of the table of R89; vibration state and counts those of the evaluation. -/
theorem blockEnded_eqs (s : State) (c : Channel) (w : ChannelWatch) :
    let w' := s.blockEnded c w
    w'.health = w.judged.health ∧ w'.goodRun = w.judged.goodRun ∧ w'.badRun = w.judged.badRun ∧
    w'.vib = (s.stepped c w.judged).vib ∧ w'.alertOn = (s.stepped c w.judged).alertOn ∧
    w'.dangerOn = (s.stepped c w.judged).dangerOn ∧ w'.offCount = (s.stepped c w.judged).offCount := by
  rw [State.blockEnded, forgotten_eq, stepped_eq]
  exact ⟨rfl, rfl, rfl, rfl, rfl, rfl, rfl⟩

/-- What the block end writes of the level (R87), and what it keeps of the samples. -/
theorem blockEnded_level (s : State) (c : Channel) (w : ChannelWatch) :
    let w' := s.blockEnded c w
    w'.level = isqrt (w.sumSq / 256) ∧ w'.levelValid = decide (w.held ≤ 64) ∧ w'.sumSq = 0 ∧ w'.held = 0 ∧ w'.errs = 0 ∧
    w'.mean = w.mean ∧ w'.lastGood = w.lastGood ∧ w'.heldRun = w.heldRun ∧ w'.heldSeen = w.heldSeen ∧
    w'.overloadSeen = w.overloadSeen := by
  have hjudged : w.judged = w.closeBlock.lose ∨ ∃ h good count, w.judged = { w.closeBlock with
      health := h, goodRun := good, badRun := count } := by
    rcases stepHealth_cases w.closeBlock (decide (8 < w.held + w.errs)) with ⟨heq, -⟩ | ⟨h, good, count, heq, -⟩
    · exact .inl heq
    · exact .inr ⟨h, good, count, heq⟩
  rw [State.blockEnded, forgotten_eq, stepped_eq]
  rcases hjudged with heq | ⟨h, good, count, heq⟩ <;> rw [heq] <;> exact ⟨rfl, rfl, rfl, rfl, rfl, rfl, rfl, rfl, rfl, rfl⟩

/-! ### The sample period with no trip -/

theorem Swept.units (h : s.Swept t) : t.seq = s.seq ∧ t.gov = s.gov ∧ t.regs = s.regs ∧ t.drive = s.drive ∧ t.meas = s.meas := by
  rw [h.eq]
  exact ⟨rfl, rfl, rfl, rfl, rfl⟩

theorem advanceBlock_swept {s : State} (h : s.watch.awaiting = none) :
    (s.setWatch { s.watch with blockPos := (s.watch.blockPos + 1) % 256 }).Swept s.advanceBlock := by
  unfold State.advanceBlock
  dsimp only
  split
  · rw [blockEnd_awaiting (show (s.setWatch { s.watch with blockPos := (s.watch.blockPos + 1) % 256 }).watch.awaiting = none from h)]
    exact blockSwept_swept _
  · exact .refl _

theorem dwellStep_idle {s : State} (h : s.watch.cfg.dwell = 0) (g : Side) :
    s.dwellStep g = s.setGroup g { s.group g with dwell := 0 } := by
  have hcounts : s.dwellCounts g = false := by simp [State.dwellCounts, h]
  have hreached : s.dwellReached g = false := by simp [State.dwellReached, hcounts]
  unfold State.dwellStep State.formDwell
  rw [hreached, hcounts]
  simp [h]

/-- A watch millisecond with a dwell setting of 0 (R100). -/
theorem advanceQuarter_idle {s : State} (h : s.watch.cfg.dwell = 0) : s.quartered.Formed s.advanceQuarter ∧
    s.LawKept s.advanceQuarter ∧ (s.watch.quarter = 3 → ∀ g, (s.advanceQuarter.group g).dwell = 0) := by
  have ha := dwellStep_idle (s := s.quartered) h .a
  set v := s.quartered.setGroup .a { s.quartered.group .a with dwell := 0 } with hv
  have hb := dwellStep_idle (s := v) h .b
  have hresets : v.record.resets = s.record.resets := rfl
  have heq : s.advanceQuarter = if (s.watch.quarter + 1) % 4 = 0 then v.setGroup .b { v.group .b with dwell := 0 } else s.quartered := by
    unfold State.advanceQuarter
    dsimp only
    split
    · rw [← State.quartered, ha, State.unlessReset_kept _ hresets, hb]
    · rfl
  rw [heq]
  have hquartered : s.LawKept s.quartered := .of_view rfl rfl rfl rfl rfl fun _ _ => rfl
  refine ⟨?_, ?_, fun hq g => ?_⟩
  · split
    · exact (s.quartered.setGroup_formed .a _).trans (v.setGroup_formed .b _)
    · exact .refl _
  · split
    · exact (hquartered.trans (s.quartered.setDwell_lawKept .a 0 (.inr rfl))).trans (v.setDwell_lawKept .b 0 (.inr rfl))
    · exact hquartered
  · rw [hq, if_pos rfl]
    cases g <;> rfl

/-- A sample period with a dwell setting of 0 and no group awaiting force touches the vibration watch and the receivers alone. -/
theorem samplePeriod_idle {s : State} (hr : s.seq.restartPending = false) (hawait : s.watch.awaiting = none)
    (hdwell : s.watch.cfg.dwell = 0) :
    s.samplePeriod.seq = s.seq ∧ s.samplePeriod.gov = s.gov ∧ s.samplePeriod.regs = s.regs ∧ s.samplePeriod.drive = s.drive ∧
      s.samplePeriod.meas = s.takeReceivers.meas ∧ s.samplePeriod.watch.blockPos = (s.watch.blockPos + 1) % 256 ∧
      s.samplePeriod.watch.quarter = (s.watch.quarter + 1) % 4 ∧ s.samplePeriod.watch.sampleRequest = true ∧
      (s.watch.quarter = 3 → ∀ g, (s.samplePeriod.group g).dwell = 0) ∧
      (s.takeSamples.sensorLostLaw → s.takeSamples.watch.blockPos < 255 → s.samplePeriod.sensorLostLaw) := by
  have hswept := s.takeSamples_swept
  have hawait' : s.takeSamples.watch.awaiting = none := by rw [hswept.eq]; exact hawait
  have hpos' : s.takeSamples.watch.blockPos = s.watch.blockPos := by rw [hswept.eq]; rfl
  have hquarter' : s.takeSamples.watch.quarter = s.watch.quarter := by rw [hswept.eq]; rfl
  have hblock := State.advanceBlock_swept hawait'
  have hpos : s.takeSamples.advanceBlock.watch.blockPos = (s.takeSamples.watch.blockPos + 1) % 256 := by rw [hblock.eq]; rfl
  have hquarter : s.takeSamples.advanceBlock.watch.quarter = s.takeSamples.watch.quarter := by rw [hblock.eq]; rfl
  have hcfg : s.takeSamples.advanceBlock.watch.cfg.dwell = 0 := by
    rw [hblock.cfg]
    exact (congrArg VibSettings.dwell hswept.cfg).trans hdwell
  obtain ⟨hidle, hkept, hzero⟩ := advanceQuarter_idle hcfg
  obtain ⟨h1, h2, h3, h4, h5⟩ := hswept.units
  obtain ⟨h1', h2', h3', h4', h5'⟩ := hblock.units
  obtain ⟨h1'', h2'', h3'', h4'', h5''⟩ := hidle.swept.units
  have hwatch := (samplePeriod_after hr).2.2.1
  have hrequest : ∀ v : State, v.requestSamples.seq = v.seq ∧ v.requestSamples.gov = v.gov ∧ v.requestSamples.regs = v.regs ∧
      v.requestSamples.drive = v.drive ∧ (∀ g, v.requestSamples.group g = v.group g) ∧ v.LawKept v.requestSamples := fun _ =>
    ⟨rfl, rfl, rfl, rfl, fun _ => rfl, .of_view rfl rfl rfl rfl rfl fun _ _ => rfl⟩
  obtain ⟨r1, r2, r3, r4, r5, r6⟩ := hrequest s.takeSamples.advanceBlock.advanceQuarter
  have hmeas := (samplePeriod_after hr).2.1
  have hwithin : s.takeSamples.watch.blockPos < 255 → s.takeSamples.LawKept s.takeSamples.advanceBlock := fun hp => by
    rw [advanceBlock_within hp]
    exact .of_view rfl rfl rfl rfl rfl fun _ _ => rfl
  refine ⟨?_, ?_, ?_, ?_, hmeas.trans (h5'.trans h5), by rw [hwatch, hpos, hpos'], by rw [hwatch, hquarter, hquarter'],
    by rw [hwatch], fun hq g => ?_, fun hl hp => ?_⟩
  · rw [samplePeriod_calm_eq hr, r1, h1'']
    exact h1'.trans h1
  · rw [samplePeriod_calm_eq hr, r2, h2'']
    exact h2'.trans h2
  · rw [samplePeriod_calm_eq hr, r3, h3'']
    exact h3'.trans h3
  · rw [samplePeriod_calm_eq hr, r4, h4'']
    exact h4'.trans h4
  · rw [samplePeriod_calm_eq hr, r5]
    exact hzero (by rw [hquarter, hquarter', hq]) g
  · rw [samplePeriod_calm_eq hr]
    exact (((hwithin hp).trans hkept).trans r6).lost hl

/-! ### A held run of 32 (R88) -/

theorem noted_heldRun {w : ChannelWatch} {r : Receiver} (hheld : r.tag = .held) (h31 : w.heldRun = 31) :
    (r.tag = .held && (w.noted r).heldRun = 32) = true := by
  have hrun : (w.noted r).heldRun = if r.tag = .held then countTo 32 w.heldRun else 0 := rfl
  rw [hrun, hheld, h31]
  rfl

theorem sampleWork_held {s : State} {c : Channel} {r : Receiver} (hheld : r.tag = .held) (h31 : (s.channel c).heldRun = 31) :
    s.sampleWork c r = ((s.setChannel c ((s.channel c).noted r)).heldLost c).visitWork c r.tag
      ((s.channel c).sampleOf r.tag r.code - ((s.channel c).noted r).mean) := by
  have hrun := noted_heldRun hheld h31
  unfold State.sampleWork
  dsimp only
  exact congrArg (fun v : State => v.visitWork c r.tag ((s.channel c).sampleOf r.tag r.code - ((s.channel c).noted r).mean))
    (if_pos hrun)

/-- The sample that completes a held run of 32 of a channel that is not LOST: SENSOR LOST is formed, and the change of health is a
trigger condition (R88, R90). -/
theorem sampleWork_lost {s : State} {c : Channel} {r : Receiver} (hheld : r.tag = .held) (h31 : (s.channel c).heldRun = 31)
    (hne : (s.channel c).health ≠ .lost) : (s.sampleWork c r).sensorLostLaw ∧ s.Takes (s.sampleWork c r) .healthChange := by
  have hset := s.setChannel_worked c ((s.channel c).noted r)
  have hne' : ((s.setChannel c ((s.channel c).noted r)).channel c).health ≠ .lost := by rw [hset.here]; exact hne
  rw [sampleWork_held hheld h31]
  exact ⟨(visitWork_lawKept _ c _ _).lost (heldLost_sensorLost hne'),
    ((heldLost_takes _ c hne').before hset.swept.trigger).after (visitWork_worked _ c _ _).swept.trigger⟩

/-- What such a sample leaves of the channel. -/
theorem sampled_lost {s : State} {c : Channel} {r : Receiver} (hheld : r.tag = .held) (h31 : (s.channel c).heldRun = 31)
    (hne : (s.channel c).health ≠ .lost) :
    let w' := s.sampled c r
    w'.health = .lost ∧ w'.vib = .unknown ∧ w'.goodRun = 0 ∧ w'.badRun = 0 ∧
      w'.memory = ((s.channel c).memory || decide ((s.channel c).vib = .danger)) := by
  have hheard : (s.channel c).heard r = ((s.channel c).noted r).lose := by
    rw [ChannelWatch.heard, noted_heldRun hheld h31, if_pos rfl, ChannelWatch.heldOut]
    exact if_neg hne
  rw [State.sampled, visited_eq, hheard]
  exact ⟨rfl, rfl, rfl, rfl, rfl⟩

/-- In the sweep over the channels SENSOR LOST stays formed after the channel that lost its health. -/
theorem takeSamples_sensorLost {s : State} {c : Channel} (hfit : s.watch.fitted c = true) (hheld : (s.receiver c).tag = .held)
    (h31 : (s.channel c).heldRun = 31) (hne : (s.channel c).health ≠ .lost) : s.takeSamples.sensorLostLaw := by
  obtain ⟨l1, l2, hl⟩ := List.append_of_mem (mem_fittedChannels.mpr hfit)
  have hnodup := fittedChannels_nodup s.watch
  rw [hl] at hnodup
  have hout : c ∉ l1 := fun h => by
    have := List.disjoint_of_nodup_append hnodup h
    simp at this
  have hu := (foldl_worked (fun u d => ⟨_, u.sampleWork_worked d (s.receiver d)⟩) c l1 s.takeReceivers
    (List.Nodup.of_append_left hnodup)).2.1 hout
  set u := l1.foldl (fun s' d => s'.sampleWork d (s.receiver d)) s.takeReceivers
  have hsplit : s.takeSamples = l2.foldl (fun s' d => s'.sampleWork d (s.receiver d)) (u.sampleWork c (s.receiver c)) := by
    rw [State.takeSamples, hl, List.foldl_append]
    rfl
  rw [hsplit]
  refine (foldl_lawKept (fun v d => v.sampleWork_lawKept d _) _ _).lost (sampleWork_lost hheld ?_ ?_).1
  · rw [hu]
    exact h31
  · rw [hu]
    exact hne

end State

end Sys2Proof.Machine
end

section
/-! The vibration sample period, channel by channel (R83 to R94, R129, R131). -/

namespace Sys2Proof.Machine

namespace State
variable {s : State} {c : Channel}

/-! ### A fitted channel over a sample period -/

theorem takeSamples_blockPos (s : State) : s.takeSamples.watch.blockPos = s.watch.blockPos ∧
    s.takeSamples.watch.awaiting = s.watch.awaiting := by
  rw [s.takeSamples_swept.eq]
  exact ⟨rfl, rfl⟩

/-- A channel over a sample period that does not end the block. -/
theorem samplePeriod_within (hr : s.seq.restartPending = false) (hpos : s.watch.blockPos < 255) (hfit : s.watch.fitted c = true) :
    s.samplePeriod.channel c = s.sampled c (s.receiver c) := by
  have hset : ∀ (v : State) n, (v.setWatch { v.watch with blockPos := n }).channel c = v.channel c := fun _ _ => rfl
  rw [(samplePeriod_after hr).1, advanceBlock_within (by rw [s.takeSamples_blockPos.1]; exact hpos), hset, takeSamples_channel s hfit]

/-- The state at the end of a block, before the block ends of its channels. -/
def atBlockEnd (s : State) : State := s.takeSamples.setWatch { s.takeSamples.watch with blockPos := 0 }

theorem atBlockEnd_channel (hfit : s.watch.fitted c = true) : s.atBlockEnd.channel c = s.sampled c (s.receiver c) :=
  takeSamples_channel s hfit

theorem atBlockEnd_fitted (s : State) : s.atBlockEnd.watch.fitted = s.watch.fitted := s.takeSamples_swept.fitted

theorem atBlockEnd_stepped (s : State) : s.atBlockEnd.stepped = s.stepped := by
  have hsame : s.atBlockEnd.stepped = s.takeSamples.stepped := rfl
  rw [hsame, s.takeSamples_swept.stepped]
  rfl

theorem atBlockEnd_evaluated (s : State) : s.atBlockEnd.evaluated = s.evaluated := by
  have hsame : s.atBlockEnd.evaluated = s.takeSamples.evaluated := rfl
  rw [hsame, s.takeSamples_swept.evaluated]
  rfl

theorem advanceBlock_atEnd (hpos : s.watch.blockPos = 255) (hawait : s.watch.awaiting = none) :
    s.takeSamples.advanceBlock = s.atBlockEnd.blockSwept := by
  obtain ⟨hp, ha⟩ := s.takeSamples_blockPos
  rw [advanceBlock_end (by rw [hp, hpos])]
  exact blockEnd_awaiting (ha.trans hawait)

/-- A channel over a sample period that ends the block. -/
theorem samplePeriod_end (hr : s.seq.restartPending = false) (hpos : s.watch.blockPos = 255) (hawait : s.watch.awaiting = none)
    (hfit : s.watch.fitted c = true) : s.samplePeriod.channel c = s.blockEnded c (s.sampled c (s.receiver c)) := by
  rw [(samplePeriod_after hr).1, advanceBlock_atEnd hpos hawait, blockSwept_channel _ (by rw [atBlockEnd_fitted]; exact hfit),
    atBlockEnd_channel hfit]
  unfold State.blockEnded
  rw [atBlockEnd_stepped, atBlockEnd_evaluated]

/-- A trigger condition that the sample of a channel takes. -/
theorem samplePeriod_within_takes {tc : TrigCond} (hr : s.seq.restartPending = false) (hpos : s.watch.blockPos < 255)
    (hfit : s.watch.fitted c = true)
    (h : ∀ u : State, s.takeReceivers.Swept u → u.channel c = s.channel c → u.Takes (u.sampleWork c (s.receiver c)) tc) :
    s.Takes s.samplePeriod tc := by
  obtain ⟨u, hu, hchannel, hlast, -⟩ := s.takeSamples_fitted hfit
  have hafter := (samplePeriod_after hr).2.2.2
  rw [advanceBlock_within (by rw [s.takeSamples_blockPos.1]; exact hpos)] at hafter
  have hset : s.takeSamples.TriggerKept (s.takeSamples.setWatch { s.takeSamples.watch with
      blockPos := s.takeSamples.watch.blockPos + 1 }) := .of_eq rfl rfl rfl rfl rfl
  exact ((h u hu hchannel).before (s.takeReceivers_trigger.trans hu.trigger)).after ((hlast.trigger.trans hset).trans hafter)

/-- A trigger condition that the block end of a channel takes. -/
theorem samplePeriod_end_takes {tc : TrigCond} (hr : s.seq.restartPending = false) (hpos : s.watch.blockPos = 255)
    (hawait : s.watch.awaiting = none) (hfit : s.watch.fitted c = true)
    (h : ∀ u : State, u.channel c = s.sampled c (s.receiver c) → u.stepped = s.stepped → u.Takes (u.blockEndChannel c) tc) :
    s.Takes s.samplePeriod tc := by
  obtain ⟨u, hu, hchannel, hlast, -⟩ := s.atBlockEnd.blockSwept_fitted (c := c) (by rw [atBlockEnd_fitted]; exact hfit)
  have hafter := (samplePeriod_after hr).2.2.2
  rw [advanceBlock_atEnd hpos hawait] at hafter
  have hset : s.takeSamples.TriggerKept s.atBlockEnd := .of_eq rfl rfl rfl rfl rfl
  have hbefore := ((s.takeReceivers_trigger.trans s.takeSamples_swept.trigger).trans hset).trans hu.trigger
  exact ((h u (hchannel.trans (atBlockEnd_channel hfit)) (by rw [hu.stepped, atBlockEnd_stepped])).before hbefore).after
    (hlast.trigger.trans hafter)

end State

/-! ### The tables of R89 and R91 to R94 -/

/-- The health table (R89), with the runs it counts. -/
theorem stepHealth_table (w : ChannelWatch) (bad : Bool) :
    let runs := ((w.stepHealth bad).health, (w.stepHealth bad).goodRun, (w.stepHealth bad).badRun)
    (w.health = .suspect → bad = false → runs = if 15 ≤ w.goodRun then (.healthy, 0, 0) else (.suspect, w.goodRun + 1, 0)) ∧
    (w.health = .suspect → bad = true → runs = if 3 ≤ w.badRun then (.lost, 0, 0) else (.suspect, 0, w.badRun + 1)) ∧
    (w.health = .healthy → bad = false → runs = (.healthy, w.goodRun, w.badRun)) ∧
    (w.health = .healthy → bad = true → runs = (.suspect, 0, 1)) ∧
    (w.health = .lost → bad = false → runs = if 15 ≤ w.goodRun then (.suspect, 0, 0) else (.lost, w.goodRun + 1, w.badRun)) ∧
    (w.health = .lost → bad = true → runs = (.lost, 0, w.badRun)) := by
  refine ⟨?_, ?_, ?_, ?_, ?_, ?_⟩ <;> intro hh hb <;> subst hb <;> simp only [ChannelWatch.stepHealth, hh]
  · split_ifs <;> rfl
  · split_ifs <;> rfl
  · split_ifs <;> rfl

/-- The vibration state and its counts after an evaluation (R91 to R93). -/
theorem evaluate_table (w : ChannelWatch) (v : VibSettings) (c : Channel) :
    let e := w.evaluate v c
    let counts := (e.vib, e.alertOn, e.dangerOn, e.offCount)
    let up := fun n : Nat => if n < 255 then n + 1 else 255
    let la := vget v.alert c
    let ld := vget v.danger c
    (w.vib = .normal ∨ w.vib = .unknown →
      let known := w.vib = .normal
      let a := if la ≤ w.level then up (if known then w.alertOn else 0) else 0
      let d := if ld ≤ w.level then up (if known then w.dangerOn else 0) else 0
      counts = if v.dOn ≤ d then (.danger, 0, 0, 0) else if v.aOn ≤ a then (.alert, 0, 0, 0)
        else (.normal, a, d, if known then w.offCount else 0)) ∧
    (w.vib = .alert →
      let d := if ld ≤ w.level then up w.dangerOn else 0
      let o := if w.level < la * 9 / 10 then up w.offCount else 0
      counts = if v.dOn ≤ d then (.danger, 0, 0, 0) else if v.off ≤ o then (.normal, 0, 0, 0)
        else (.alert, w.alertOn, d, o)) ∧
    (w.vib = .danger →
      let o := if w.level < ld * 9 / 10 then up w.offCount else 0
      counts = if v.off ≤ o then (.alert, 0, 0, 0) else (.danger, w.alertOn, w.dangerOn, o)) := by
  have hnormal : ∀ u : ChannelWatch, u.vib = .normal →
      ((u.evalNormal v c).vib, (u.evalNormal v c).alertOn, (u.evalNormal v c).dangerOn, (u.evalNormal v c).offCount) =
        if v.dOn ≤ (if vget v.danger c ≤ u.level then countTo 255 u.dangerOn else 0) then (.danger, 0, 0, 0)
        else if v.aOn ≤ (if vget v.alert c ≤ u.level then countTo 255 u.alertOn else 0) then (.alert, 0, 0, 0)
        else (.normal, if vget v.alert c ≤ u.level then countTo 255 u.alertOn else 0,
          if vget v.danger c ≤ u.level then countTo 255 u.dangerOn else 0, u.offCount) := fun u hu => by
    unfold ChannelWatch.evalNormal
    dsimp only
    generalize (if vget v.danger c ≤ u.level then countTo 255 u.dangerOn else 0) = d
    generalize (if vget v.alert c ≤ u.level then countTo 255 u.alertOn else 0) = a
    split_ifs <;> simp [hu, ChannelWatch.zeroCounts]
  have hdown : ∀ (u : ChannelWatch) threshold below,
      ((u.stepDown threshold v.off below).vib, (u.stepDown threshold v.off below).alertOn,
        (u.stepDown threshold v.off below).dangerOn, (u.stepDown threshold v.off below).offCount) =
      if v.off ≤ (if u.level < threshold * 9 / 10 then countTo 255 u.offCount else 0) then (below, 0, 0, 0)
      else (u.vib, u.alertOn, u.dangerOn, if u.level < threshold * 9 / 10 then countTo 255 u.offCount else 0) :=
    fun u threshold below => by
      unfold ChannelWatch.stepDown
      dsimp only
      generalize (if u.level < threshold * 9 / 10 then countTo 255 u.offCount else 0) = n
      split_ifs <;> rfl
  refine ⟨fun hv => ?_, fun hv => ?_, fun hv => ?_⟩
  · rcases hv with hv | hv
    · have heval : w.evaluate v c = w.evalNormal v c := by simp only [ChannelWatch.evaluate, hv]
      dsimp only
      rw [heval, hnormal w hv, hv]
      rfl
    · have heval : w.evaluate v c = ({ w.zeroCounts with vib := .normal } : ChannelWatch).evalNormal v c := by
        simp only [ChannelWatch.evaluate, hv]
      dsimp only
      rw [heval, hnormal _ rfl, hv]
      rfl
  · have heval : w.evaluate v c = w.evalAlert v c := by simp only [ChannelWatch.evaluate, hv]
    dsimp only
    rw [heval]
    unfold ChannelWatch.evalAlert
    dsimp only
    have hcount : (if vget v.danger c ≤ w.level then countTo 255 w.dangerOn else 0) =
        if vget v.danger c ≤ w.level then (if w.dangerOn < 255 then w.dangerOn + 1 else 255) else 0 := rfl
    rw [hcount]
    generalize (if vget v.danger c ≤ w.level then (if w.dangerOn < 255 then w.dangerOn + 1 else 255) else 0) = d
    by_cases hd : v.dOn ≤ d
    · rw [if_pos hd, if_pos hd]
      rfl
    · rw [if_neg hd, if_neg hd, hdown, ← hv]
      rfl
  · have heval : w.evaluate v c = w.stepDown (vget v.danger c) v.off .alert := by simp only [ChannelWatch.evaluate, hv]
    dsimp only
    rw [heval, hdown, hv]
    rfl

/-! ### The block end, clause by clause -/

namespace State
variable {s : State} {c : Channel}

/-- What the level, the hold count and the speed say of the evaluation (R91). -/
theorem evaluated_judged (s : State) (w : ChannelWatch) : s.evaluated w.judged = true ↔
    w.held ≤ 64 ∧ s.watch.cfg.watchSpeed ≤ |s.meas.n| ∧ w.judged.health ≠ .lost := by
  have hvalid : w.judged.levelValid = decide (w.held ≤ 64) := by
    have h := (s.blockEnded_level 0 w).2.1
    rw [State.blockEnded, forgotten_eq, stepped_eq] at h
    exact h
  simp [State.evaluated, hvalid, and_assoc]

/-- The channel as the table of R89 leaves it: LOST with its counts at 0, or with vibration state, counts and memory kept. -/
theorem judged_cases (w : ChannelWatch) : (w.judged = w.closeBlock.lose ∧ w.health = .suspect) ∨
    (w.judged.vib = w.vib ∧ w.judged.alertOn = w.alertOn ∧ w.judged.dangerOn = w.dangerOn ∧ w.judged.offCount = w.offCount ∧
      w.judged.memory = w.memory ∧ (w.judged.health = .lost → w.health = .lost)) := by
  unfold ChannelWatch.judged
  rcases stepHealth_cases w.closeBlock (decide (8 < w.held + w.errs)) with ⟨heq, hh⟩ | ⟨h, good, count, heq, hlost⟩
  · exact .inl ⟨heq, hh⟩
  · rw [heq]
    exact .inr ⟨rfl, rfl, rfl, rfl, rfl, hlost⟩

/-- The danger memory after a block end (R94). -/
theorem blockEnded_memory (s : State) (c : Channel) (w : ChannelWatch) : (s.blockEnded c w).memory = true ↔
    w.judged.memory = true ∧
      ¬(s.evaluated w.judged = true ∧ (s.blockEnded c w).health = .healthy ∧ (s.blockEnded c w).vib = .normal) := by
  obtain ⟨hhealth, -, -, hvib, -⟩ := s.blockEnded_eqs c w
  have hstepped : (s.stepped c w.judged).memory = w.judged.memory ∧ (s.stepped c w.judged).health = w.judged.health := by
    rw [stepped_eq]
    exact ⟨rfl, rfl⟩
  obtain ⟨hmemory, hhealth'⟩ := hstepped
  rw [hhealth, hvib]
  unfold State.blockEnded ChannelWatch.forgotten
  rw [hmemory, hhealth']
  by_cases hev : s.evaluated w.judged = true
  · by_cases hm : w.judged.memory = true
    · by_cases hh : w.judged.health = .healthy
      · by_cases hv : (s.stepped c w.judged).vib = .normal <;> simp [hev, hm, hh, hv, hmemory]
      · simp [hev, hm, hh, hmemory]
    · simp [hm, hmemory]
  · simp [hev, hmemory]

end State

end Sys2Proof.Machine
end

section
/-! The rule of the vibration sample period (R16, R83 to R94). -/

namespace Sys2Proof.Machine

/-- What the tag and the value of a sample write in a channel (R85, R86), in the words of the rule. -/
theorem ChannelWatch.noted_eqs (w : ChannelWatch) (r : Receiver) :
    let x := if r.tagged = .held then w.lastGood else (r.buffer.map Prod.fst).getD 0
    let m := w.mean + truncDiv (x - w.mean) 64
    (w.noted r).mean = m ∧ (w.noted r).lastGood = (if r.tagged = .none ∨ r.tagged = .overrun then x else w.lastGood) ∧
    (w.noted r).heldRun = (if r.tagged = .held then min 32 (w.heldRun + 1) else 0) ∧
    (w.noted r).heldSeen = (w.heldSeen || decide (r.tagged = .held)) ∧
    (w.noted r).overloadSeen = (w.overloadSeen || decide (r.tagged = .overload)) ∧
    (w.noted r).sumSq = w.sumSq + ((x - m) ^ 2).toNat ∧
    (w.noted r).held = w.held + (if r.tagged = .held then 1 else 0) ∧
    (w.noted r).errs = w.errs + (if r.tagged = .overload ∨ r.tagged = .overrun then 1 else 0) := by
  have hcount : countTo 32 w.heldRun = min 32 (w.heldRun + 1) := by
    unfold countTo
    split_ifs <;> omega
  simp only [← Receiver.tag_eq_tagged, ← hcount, sq]
  refine ⟨rfl, rfl, rfl, rfl, rfl, rfl, ?_, ?_⟩
  · show (if r.tag = .held then w.held + 1 else w.held) = _
    split_ifs <;> rfl
  · show (if r.tag = .overload ∨ r.tag = .overrun then w.errs + 1 else w.errs) = _
    split_ifs <;> rfl

/-- A channel that its block end evaluates (R91). -/
theorem State.evaluated_iff (s : State) (c : Channel) (w : ChannelWatch) : s.evaluated w.judged = true ↔
    w.held ≤ 64 ∧ s.watch.cfg.watchSpeed ≤ |s.meas.n| ∧ (s.blockEnded c w).health ≠ .lost := by
  rw [(s.blockEnded_eqs c w).1]
  exact s.evaluated_judged w

/-- Vibration state and counts of a channel that its block end does not evaluate. -/
theorem State.blockEnded_kept (s : State) (c : Channel) (w : ChannelWatch) (h : s.evaluated w.judged = false) :
    let w' := s.blockEnded c w
    (w'.vib, w'.alertOn, w'.dangerOn, w'.offCount) = (w.judged.vib, w.judged.alertOn, w.judged.dangerOn, w.judged.offCount) := by
  obtain ⟨-, -, -, h1, h2, h3, h4⟩ := s.blockEnded_eqs c w
  have hsame : s.stepped c w.judged = w.judged := if_neg (by simp [h])
  rw [hsame] at h1 h2 h3 h4
  dsimp only
  rw [h1, h2, h3, h4]

/-- Vibration state and counts of a channel that its block end evaluates. -/
theorem State.blockEnded_evaluated (s : State) (c : Channel) (w : ChannelWatch) (h : s.evaluated w.judged = true) :
    let w' := s.blockEnded c w
    let e := w.judged.evaluate s.watch.cfg c
    (w'.vib, w'.alertOn, w'.dangerOn, w'.offCount) = (e.vib, e.alertOn, e.dangerOn, e.offCount) := by
  obtain ⟨-, -, -, h1, h2, h3, h4⟩ := s.blockEnded_eqs c w
  have hsame : s.stepped c w.judged = w.judged.evaluate s.watch.cfg c := if_pos h
  rw [hsame] at h1 h2 h3 h4
  dsimp only
  rw [h1, h2, h3, h4]

/-- The level that a block end forms (R87). -/
theorem ChannelWatch.judged_level (w : ChannelWatch) : w.judged.level = isqrt (w.sumSq / 256) := by
  unfold ChannelWatch.judged
  rcases State.stepHealth_cases w.closeBlock (decide (8 < w.held + w.errs)) with ⟨heq, -⟩ | ⟨h, good, count, heq, -⟩ <;> rw [heq] <;> rfl

/-- A channel that is evaluated has not become LOST, so its vibration state, counts and memory are those before the block end. -/
theorem ChannelWatch.judged_kept {w : ChannelWatch} (h : w.judged.health ≠ .lost ∨ w.health = .lost) :
    w.judged.vib = w.vib ∧ w.judged.alertOn = w.alertOn ∧ w.judged.dangerOn = w.dangerOn ∧ w.judged.offCount = w.offCount ∧
      w.judged.memory = w.memory := by
  rcases State.judged_cases w with ⟨heq, hsuspect⟩ | ⟨h1, h2, h3, h4, h5, -⟩
  · have hlost : w.judged.health = .lost := by rw [heq]; rfl
    rcases h with h | h
    · exact absurd hlost h
    · rw [hsuspect] at h
      exact absurd h (by decide)
  · exact ⟨h1, h2, h3, h4, h5⟩

/-- A channel that becomes LOST forgets its vibration state (R90); any other keeps it at its health step. -/
theorem ChannelWatch.judged_vib (w : ChannelWatch) : w.judged.vib = w.vib ∨ w.judged.vib = .unknown := by
  rcases State.judged_cases w with ⟨heq, -⟩ | ⟨hvib, -⟩
  · exact .inr (by rw [heq]; rfl)
  · exact .inl hvib

/-- The entry into DANGER fires its condition. -/
theorem State.vibEntry_danger {s : State} {c : Channel} (v0 : VibState) (h : (s.channel c).vib = .danger) :
    s.vibEntry c v0 = s.takeCond .vibDanger (some c.val) := by
  unfold State.vibEntry
  rw [h]

/-- The entry into ALERT fires its condition when it does not come from DANGER. -/
theorem State.vibEntry_alert {s : State} {c : Channel} {v0 : VibState} (h : (s.channel c).vib = .alert) (hv : v0 ≠ .danger) :
    s.vibEntry c v0 = s.takeCond .vibAlert (some c.val) := by
  unfold State.vibEntry
  rw [h]
  exact if_neg hv

/-- Settles O51. -/
theorem vibrationSampleRule : Obligations.VibrationSampleRule := by
  refine ⟨fun s hr hawait _ hdwell => ?_, fun s c p hpos hawait hr hfit => ?_, fun s c p hpos hr hfit hheld h31 hne hw => ?_⟩
  · obtain ⟨hseq, hgov, hregs, hdrive, hmeas, hpos, hquarter, hrequest, hzero, hlost⟩ := State.samplePeriod_idle hr hawait hdwell
    have hreceiver : ∀ c, s.samplePeriod.receiver c = if s.watch.fitted c then (s.receiver c).taken else s.receiver c := fun c => by
      rw [← s.takeReceivers_receiver, State.receiver, hmeas, State.receiver]
    have hmeas' : s.samplePeriod.meas = { s.meas with receivers := s.samplePeriod.meas.receivers } := by
      rw [hmeas]
      rfl
    have hnoted := fun c => (s.channel c).noted_eqs (s.receiver c)
    have hsampled := fun c => s.sampled_noted c (s.receiver c)
    dsimp only
    refine ⟨fun hp => ⟨_, rfl, ⟨hpos, hquarter, hrequest, hseq, hgov, hregs, hdrive, hmeas', hreceiver, fun c hc => ?_⟩,
        fun c hc => ?_, fun hq => ⟨congrArg Host.Outcome.next (if_pos hq), hzero hq .a, hzero hq .b⟩⟩,
      fun hp c hc hheld h31 hne => ?_,
      fun hp => ⟨_, congrArg Host.Outcome.next (if_pos hp), rfl,
        ⟨hpos, hquarter, hrequest, hseq, hgov, hregs, hdrive, hmeas', hreceiver, fun c hc => ?_⟩, fun c hc => ?_⟩⟩
    · obtain ⟨h1, h2, h3, h4, h5, -, -, -⟩ := hsampled c
      obtain ⟨n1, n2, n3, n4, n5, -, -, -⟩ := hnoted c
      rw [State.samplePeriod_within hr hp hc]
      exact ⟨h1.trans n1, h2.trans n2, h3.trans n3, h4.trans n4, h5.trans n5⟩
    · obtain ⟨-, -, -, -, -, h6, h7, h8⟩ := hsampled c
      obtain ⟨-, -, -, -, -, n6, n7, n8⟩ := hnoted c
      rw [State.samplePeriod_within hr hp hc]
      exact ⟨h6.trans n6, h7.trans n7, h8.trans n8⟩
    · have hheld' : (s.receiver c).tag = .held := by rw [Receiver.tag_eq_tagged]; exact hheld
      have hreached : s.heldRunReached c = true := by simp [State.heldRunReached, hc, hheld', h31]
      obtain ⟨h1, h2, h3, h4, h5⟩ := State.sampled_lost hheld' h31 hne
      have hchannel := State.samplePeriod_within hr hp hc
      have hlaw := hlost (State.takeSamples_sensorLost hc hheld' h31 hne) (by rw [s.takeSamples_blockPos.1]; exact hp)
      refine ⟨_, congrArg Host.Outcome.next (if_pos hreached), rfl, ?_⟩
      have hsource : s.samplePeriod.sourcePresent .sensorLost .first = true := by
        rw [hlaw.2, hlaw.1]
        refine ⟨c, ?_, by rw [hchannel]; exact h1⟩
        have hsettings : s.samplePeriod.watch.fitted = s.takeSamples.advanceBlock.watch.fitted := by
          rw [(State.samplePeriod_after hr).2.2.1]
          rfl
        rw [hsettings, State.advanceBlock_within (by rw [s.takeSamples_blockPos.1]; exact hp)]
        show s.takeSamples.watch.fitted c = true
        rw [s.takeSamples_swept.fitted]
        exact hc
      rw [hchannel]
      exact ⟨h1, h2, h3, h4, h5, hsource⟩
    · obtain ⟨h1, h2, h3, h4, h5, -, -, -⟩ := hsampled c
      obtain ⟨n1, n2, n3, n4, n5, -, -, -⟩ := hnoted c
      obtain ⟨-, -, -, -, -, b1, b2, b3, b4, b5⟩ := s.blockEnded_level c (s.sampled c (s.receiver c))
      rw [State.samplePeriod_end hr hp hawait hc]
      exact ⟨(b1.trans h1).trans n1, (b2.trans h2).trans n2, (b3.trans h3).trans n3, (b4.trans h4).trans n4, (b5.trans h5).trans n5⟩
    · obtain ⟨-, -, -, -, -, h6, h7, -⟩ := hsampled c
      obtain ⟨-, -, -, -, -, n6, n7, -⟩ := hnoted c
      obtain ⟨b1, b2, b3, b4, b5, -⟩ := s.blockEnded_level c (s.sampled c (s.receiver c))
      rw [State.samplePeriod_end hr hp hawait hc]
      refine ⟨?_, ?_, b3, b4, b5⟩
      · rw [b1, h6, n6]
      · rw [b2, h7, n7]
  · intro w r x m level held bad runs counts up v la ld hrun evaluated
    obtain ⟨-, -, -, -, -, hsum, hheld, herrs⟩ := s.sampled_noted c r
    obtain ⟨-, -, -, -, -, nsum, nheld, nerrs⟩ := w.noted_eqs r
    have htag : r.tag ≠ .held ∨ w.heldRun < 31 := by rw [Receiver.tag_eq_tagged]; exact hrun
    obtain ⟨ahealth, agood, abad, avib, aalert, adanger, aoff, amemory⟩ := s.sampled_asks c r htag
    have hchannel := State.samplePeriod_end hr hpos hawait hfit
    have htakes := fun {tc : TrigCond} => State.samplePeriod_end_takes (tc := tc) hr hpos hawait hfit
    set w' := s.sampled c r with hw'
    have hlevel : w'.judged.level = level := by rw [w'.judged_level, hsum, nsum]
    have hbad : decide (8 < w'.held + w'.errs) = true ↔ bad := by
      rw [decide_eq_true_eq, hheld, herrs, nheld, nerrs, ← add_assoc]
    have hgood : decide (8 < w'.held + w'.errs) = false ↔ ¬bad := by rw [← hbad, Bool.not_eq_true]
    have hev : s.evaluated w'.judged = true ↔ evaluated s.samplePeriod := by
      rw [s.evaluated_iff c, hheld, nheld, ← hchannel]
    obtain ⟨ehealth, egood, ebad, evib, -⟩ := s.blockEnded_eqs c w'
    have hruns : runs s.samplePeriod = (w'.judged.health, w'.judged.goodRun, w'.judged.badRun) := by
      show ((s.samplePeriod.channel c).health, (s.samplePeriod.channel c).goodRun, (s.samplePeriod.channel c).badRun) = _
      rw [hchannel, ehealth, egood, ebad]
    have hcounts : counts s.samplePeriod = ((s.blockEnded c w').vib, (s.blockEnded c w').alertOn, (s.blockEnded c w').dangerOn,
        (s.blockEnded c w').offCount) := by
      show ((s.samplePeriod.channel c).vib, (s.samplePeriod.channel c).alertOn, (s.samplePeriod.channel c).dangerOn,
        (s.samplePeriod.channel c).offCount) = _
      rw [hchannel]
    have hfinal : (s.samplePeriod.channel c).health = w'.judged.health := by rw [hchannel, ehealth]
    have hkept : ∀ v : VibState, w.vib ≠ v → VibState.unknown ≠ v → w'.judged.vib ≠ v := fun v h1 h2 => by
      rcases w'.judged_vib with hj | hj <;> rw [hj]
      · rw [avib]
        exact h1
      · exact h2
    obtain ⟨t1, t2, t3, t4, t5, t6⟩ := stepHealth_table w'.closeBlock (decide (8 < w'.held + w'.errs))
    refine ⟨s.samplePeriod, congrArg Host.Outcome.next (if_pos hpos), fun hh hb => ?_, fun hh hb => ?_, fun hh hb => ?_,
      fun hh hb => ?_, fun hh hb => ?_, fun hh hb => ?_, fun hh hl => ?_, fun hl he => ?_, fun he hv => ?_, fun he hv => ?_,
      fun he hv => ?_, ?_, fun hne hw => ?_, fun hv hv' hw => ?_, fun hv hv' hw => ?_⟩
    · exact (hruns.trans (t1 (ahealth.trans hh) (hgood.mpr hb))).trans (by rw [show w'.closeBlock.goodRun = w.goodRun from agood])
    · exact (hruns.trans (t2 (ahealth.trans hh) (hbad.mpr hb))).trans (by rw [show w'.closeBlock.badRun = w.badRun from abad])
    · exact (hruns.trans (t3 (ahealth.trans hh) (hgood.mpr hb))).trans
        (by rw [show w'.closeBlock.goodRun = w.goodRun from agood, show w'.closeBlock.badRun = w.badRun from abad])
    · exact hruns.trans (t4 (ahealth.trans hh) (hbad.mpr hb))
    · exact (hruns.trans (t5 (ahealth.trans hh) (hgood.mpr hb))).trans
        (by rw [show w'.closeBlock.goodRun = w.goodRun from agood, show w'.closeBlock.badRun = w.badRun from abad])
    · exact (hruns.trans (t6 (ahealth.trans hh) (hbad.mpr hb))).trans (by rw [show w'.closeBlock.badRun = w.badRun from abad])
    · rw [hfinal] at hl
      have hnot : s.evaluated w'.judged = false := by simp [State.evaluated, hl]
      rw [hcounts, s.blockEnded_kept c w' hnot]
      rcases State.judged_cases w' with ⟨heq, -⟩ | ⟨-, -, -, -, -, hlost⟩
      · rw [heq]
        rfl
      · exact absurd ((hlost hl).symm.trans ahealth).symm hh
    · have hnot : s.evaluated w'.judged = false := by rw [← Bool.not_eq_true, hev]; exact he
      rw [hfinal] at hl
      obtain ⟨k1, k2, k3, k4, -⟩ := ChannelWatch.judged_kept (w := w') (hl.symm.imp id ahealth.trans)
      rw [hcounts, s.blockEnded_kept c w' hnot, k1, k2, k3, k4, avib, aalert, adanger, aoff]
    · obtain ⟨k1, k2, k3, k4, -⟩ := ChannelWatch.judged_kept (w := w') (.inl ((s.evaluated_judged w').mp (hev.mpr he)).2.2)
      rw [hcounts, s.blockEnded_evaluated c w' (hev.mpr he)]
      have htable := (evaluate_table w'.judged s.watch.cfg c).1 (by rw [k1, avib]; exact hv)
      simp only [k1, k2, k3, k4, hlevel, avib, aalert, adanger, aoff] at htable
      exact htable
    · obtain ⟨k1, k2, k3, k4, -⟩ := ChannelWatch.judged_kept (w := w') (.inl ((s.evaluated_judged w').mp (hev.mpr he)).2.2)
      rw [hcounts, s.blockEnded_evaluated c w' (hev.mpr he)]
      have htable := (evaluate_table w'.judged s.watch.cfg c).2.1 (by rw [k1, avib]; exact hv)
      simp only [k2, k3, k4, hlevel, aalert, adanger, aoff] at htable
      exact htable
    · obtain ⟨k1, k2, k3, k4, -⟩ := ChannelWatch.judged_kept (w := w') (.inl ((s.evaluated_judged w').mp (hev.mpr he)).2.2)
      rw [hcounts, s.blockEnded_evaluated c w' (hev.mpr he)]
      have htable := (evaluate_table w'.judged s.watch.cfg c).2.2 (by rw [k1, avib]; exact hv)
      simp only [k2, k3, k4, hlevel, aalert, adanger, aoff] at htable
      exact htable
    · rw [← hev, hchannel, s.blockEnded_memory c w', ehealth]
      refine and_congr_left fun _ => ?_
      rcases State.judged_cases w' with ⟨heq, hsuspect⟩ | ⟨-, -, -, -, hmemory, hlost⟩
      · have hmem : w'.judged.memory = (w'.memory || decide (w'.vib = .danger)) := by rw [heq]; rfl
        have hh : w'.judged.health = .lost := by rw [heq]; rfl
        have hne : w.health ≠ .lost := by rw [← ahealth, hsuspect]; decide
        rw [hmem, hh, amemory, avib]
        simp [show (s.channel c).health ≠ .lost from hne, w]
      · rw [hmemory, amemory]
        refine ⟨.inl, fun h => h.elim id fun ⟨hne, hl, _⟩ => absurd ((hlost hl).symm.trans ahealth).symm hne⟩
    · refine (htakes fun u hu hst => u.blockEndChannel_health c ?_).begun (by nofun) hw
      rw [hu, ← hfinal, ahealth]
      exact hne
    · rw [hchannel, evib] at hv'
      refine (htakes fun u hu hst => State.blockEndChannel_vib c (v := .alert) ?_ ?_ fun v hv0 => ?_).begun (by nofun) hw
      · rw [hu, hst, hv']
      · rw [hu]
        exact fun h => hkept .alert (by rw [hv]; decide) (by decide) h.symm
      · exact State.vibEntry_alert hv0 (by rw [hu]; exact hkept .danger (by rw [hv]; decide) (by decide))
    · rw [hchannel, evib] at hv'
      refine (htakes fun u hu hst => State.blockEndChannel_vib c (v := .danger) ?_ ?_ fun v hv0 => ?_).begun (by nofun) hw
      · rw [hu, hst, hv']
      · rw [hu]
        exact fun h => hkept .danger hv (by decide) h.symm
      · exact State.vibEntry_danger _ hv0
  · have hheld' : (s.receiver c).tag = .held := by rw [Receiver.tag_eq_tagged]; exact hheld
    have hreached : s.heldRunReached c = true := by simp [State.heldRunReached, hfit, hheld', h31]
    refine ⟨_, congrArg Host.Outcome.next (if_pos hreached), ?_⟩
    refine (State.samplePeriod_within_takes hr hpos hfit fun u hu hc => ?_).begun (by nofun) hw
    exact (State.sampleWork_lost hheld' (by rw [hc]; exact h31) (by rw [hc]; exact hne)).2

end Sys2Proof.Machine
end

section
/-! RESET SECTOR MAP (R97, R102, R129). -/

namespace Sys2Proof.Machine

/-- Channel 0 fitted with a sector level of 0, so that its empty map stands in alert (R97), a trigger program that fires at a
sector alert, and RESET SECTOR MAP for the channel posted in slot 0. -/
def zeroLevelReset : State :=
  let s := State.reset
  { s with
    watch := { s.watch with settings := some { s.watch.cfg with
      fitted := vset s.watch.cfg.fitted 0 true, sector := vset s.watch.cfg.sector 0 0 } }
    record := { s.record with program := some ⟨.sectorAlert, none, 0, false⟩, trigState := .waitFirst }
    req := { s.req with order := [0], starting := false }
    mem := s.mem.writeWord (slotAddr 0 + 2) 18 }

theorem zeroLevelReset_head : zeroLevelReset.atHead (some .resetSectorMap) 0 [] ∧ zeroLevelReset.param 0 0 = 0 ∧
    zeroLevelReset.watch.fitted 0 = true := by decide +kernel

/-- A byte of the exchange memory after a step. -/
def byteAfter (c : Instr) (s : State) (a : Nat) : Option Byte :=
  match exec c s with
  | .next t => some (t.mem.read a)
  | _ => none

theorem byteAfter_of_exec {c : Instr} {s t : State} (h : exec c s = .next t) (a : Nat) : byteAfter c s a = some (t.mem.read a) := by
  rw [byteAfter, h]

/-- The zeroed map raises the sector alert, the program fires, and its record is posted in entry 0 of the record list: the state
word of that entry changes. -/
theorem zeroLevelReset_byte : zeroLevelReset.mem.read (entryAddr 0) = 0 ∧
    byteAfter .resetSectorMap zeroLevelReset (entryAddr 0) = some 1 := by
  decide +kernel

/-- Refutes O39: where the sector level of a fitted channel is 0 its empty map stands in alert (R97), so RESET SECTOR MAP can be the
rise that a trigger program waits for (R129). The record that fires then is posted to the record list (R140), whose entry lies
neither in the answer nor in the sector map image. -/
theorem not_resetSectorMapRule : ¬Obligations.ResetSectorMapRule := by
  intro h
  obtain ⟨hhead, hparam, hfit⟩ := zeroLevelReset_head
  obtain ⟨t, hexec, -, -, -, -, -, -, -, -, -, -, -, -, -, hmem, -⟩ := (h.1 zeroLevelReset 0 [] 0 hhead).2.2
    (.inl (by rw [hparam]; rfl)) hfit
  have houtside : ¬inAnswer 0 (entryAddr 0) ∧ ¬(mapImageAddr ≤ entryAddr 0 ∧ entryAddr 0 < mapImageAddr + 794) := by decide
  have hkept := hmem (entryAddr 0) houtside.1 houtside.2
  obtain ⟨hbefore, hafter⟩ := zeroLevelReset_byte
  rw [byteAfter_of_exec hexec, hkept, hbefore] at hafter
  exact absurd hafter (by decide)

end Sys2Proof.Machine
end

section
/-! The close of a record: the list entry, the store's answer and what the store does with it (R139, R140, R142, R154). -/

namespace Sys2Proof.Machine

/-! ### The store status of the entries (R142, R154) -/

theorem Memory.holds_self (m : Memory) (a n : Nat) : m.Holds a (m.readWords a n) := by
  rw [Memory.Holds, Memory.readWords_length]

theorem Memory.Holds.of_writeWord_outside {m : Memory} {a b : Nat} {ws : List Word} (h : m.Holds a ws) (w : Word)
    (hb : b + 2 ≤ a ∨ a + 2 * ws.length ≤ b) : (m.writeWord b w).Holds a ws :=
  h.of_read fun x _ _ => Memory.read_writeWords_outside m b [w] x (by simp only [List.length_singleton]; omega)

theorem entry_apart {j k : Fin 8} (h : k ≠ j) : entryAddr j + 260 ≤ entryAddr k ∨ entryAddr k + 260 ≤ entryAddr j := by
  have hval : k.val ≠ j.val := fun hv => h (Fin.ext hv)
  simp only [entryAddr]
  omega

/-- The image of an entry after the store status of a record has been noted in the entries of a list. -/
theorem noteStoreEntries_holds (id : Nat) (st : StoreStatus) {k : Fin 8} {ws : List Word} (hlen : ws.length = 128) :
    ∀ (l : List (Fin 8)) (s : State), s.mem.Holds (imageAddr k) ws →
      (s.record.listEntry k).held = true → (s.record.listEntry k).id = some id →
      (l.foldl (State.noteStoreEntry id st) s).mem.Holds (imageAddr k) (if k ∈ l then ws.set 90 (natWord st.code) else ws) := by
  intro l
  induction l generalizing ws with
  | nil => exact fun s h _ _ => h
  | cons j l ih =>
    intro s h hheld hid
    have hrecord : (s.noteStoreEntry id st j).record = s.record := by simp
    rw [← hrecord] at hheld hid
    have hstep : (s.noteStoreEntry id st j).mem.Holds (imageAddr k) (if k = j then ws.set 90 (natWord st.code) else ws) := by
      unfold State.noteStoreEntry
      by_cases hkj : k = j
      · subst hkj
        rw [hrecord] at hheld hid
        rw [if_pos (by simp [hheld, hid]), if_pos rfl]
        exact h.of_writeWord (i := 90) _ (by omega)
      · rw [if_neg hkj]
        split
        · refine h.of_writeWord_outside _ ?_
          have := entry_apart hkj
          simp only [storeStatusAddr, imageAddr]
          omega
        · exact h
    have hrest := ih (ws := if k = j then ws.set 90 (natWord st.code) else ws) (by split_ifs <;> simp [hlen]) _ hstep hheld hid
    refine cast (congrArg _ ?_) hrest
    by_cases hkj : k = j <;> by_cases hkl : k ∈ l <;> simp [hkj, hkl]

/-- The store status noted in the entry that holds the record (R142). -/
theorem State.noteStoreEnd_holds {s : State} {id : Nat} (st : StoreStatus) {k : Fin 8} {ws : List Word} (hlen : ws.length = 128)
    (h : s.mem.Holds (imageAddr k) ws) (hheld : (s.record.listEntry k).state ≠ .empty) (hid : (s.record.listEntry k).id = some id) :
    (s.noteStoreEnd id st).mem.Holds (imageAddr k) (ws.set 90 (natWord st.code)) := by
  have hmem : ∀ j : Fin 8, j ∈ allEntries := by decide
  have hrest := noteStoreEntries_holds id st hlen allEntries s h (by simpa [ListEntry.held] using hheld) hid
  rwa [if_pos (hmem k)] at hrest

theorem State.noteStoreEnd_status {s : State} {id : Nat} (st : StoreStatus) {k : Fin 8}
    (hheld : (s.record.listEntry k).state ≠ .empty) (hid : (s.record.listEntry k).id = some id) :
    (s.noteStoreEnd id st).mem.readWord (storeStatusAddr k) = natWord st.code := by
  have h := State.noteStoreEnd_holds st (s.mem.readWords_length (imageAddr k) 128) (s.mem.holds_self _ _) hheld hid
  have hword := congrArg (·[90]?) h
  have hlen : 90 < ((s.mem.readWords (imageAddr k) 128).set 90 (natWord st.code)).length := by
    rw [List.length_set, Memory.readWords_length]
    decide
  rw [Memory.readWords_getElem? _ _ _ _ hlen, List.getElem?_set_self (by rwa [List.length_set] at hlen)] at hword
  exact Option.some.inj hword

/-- Outside the images of the list the noted store status leaves the memory. -/
theorem State.noteStoreEnd_entry {s : State} (id : Nat) (st : StoreStatus) (k : Fin 8) :
    (s.noteStoreEnd id st).mem.readWord (entryAddr k) = s.mem.readWord (entryAddr k) := by
  have hstep : ∀ (l : List (Fin 8)) (u : State),
      (l.foldl (State.noteStoreEntry id st) u).mem.readWord (entryAddr k) = u.mem.readWord (entryAddr k) := fun l => by
    induction l with
    | nil => exact fun _ => rfl
    | cons j l ih =>
      intro u
      rw [List.foldl_cons, ih]
      unfold State.noteStoreEntry
      split
      · refine Memory.readWord_writeWord_other _ _ _ _ ?_
        simp only [storeStatusAddr, imageAddr, entryAddr]
        omega
      · rfl
  exact hstep allEntries s

/-- The image of a record with its store status rewritten (R183). -/
theorem Record.words_status (o : Record) (st : StoreStatus) :
    o.words.set 90 (natWord st.code) = ({ o with storeStatus := st } : Record).words := by
  have hlen : (o.headWords ++ o.causesWords ++ (List.range 7).flatMap (followOnWords o.followOns) ++ o.snap.words ++
      padWords 30 (o.snap.channels.flatMap ChannelSnap.words) ++ o.ref.words).length = 90 := by
    simp only [List.length_append, o.headWords_length, o.causesWords_length, Record.followOns_length, padWords_length,
      Record.snapWords_length, Record.refWords_length]
  have hnew : ({ o with storeStatus := st } : Record).words =
      o.headWords ++ o.causesWords ++ (List.range 7).flatMap (followOnWords o.followOns) ++ o.snap.words ++
        padWords 30 (o.snap.channels.flatMap ChannelSnap.words) ++ o.ref.words ++ [natWord st.code] ++ firedWords o.fired ++
        [packBits [o.snap.voltageLimited.a, o.snap.voltageLimited.b]] ++ Record.restWords := Record.words_parts _
  rw [o.words_parts, hnew]
  generalize o.headWords ++ o.causesWords ++ (List.range 7).flatMap (followOnWords o.followOns) ++ o.snap.words ++
      padWords 30 (o.snap.channels.flatMap ChannelSnap.words) ++ o.ref.words = pre at hlen
  simp only [List.append_assoc]
  rw [List.set_append_right 90 _ hlen.le, hlen]
  rfl

/-! ### The store's answer (R154) -/

theorem StoreUnit.answer_eq (u : StoreUnit) : u.answer =
    if u.state = .absent then .none else if u.state = .outOfService ∨ 4 ≤ u.queue.length then .dropped else .queued := by
  unfold StoreUnit.answer
  by_cases hlen : u.queue.length < 4
  · cases u.state <;> simp [hlen, Nat.not_le.mpr hlen]
  · cases u.state <;> simp [hlen, Nat.not_lt.mp hlen]

/-- What the store unit does with a record handed to it (R154). -/
theorem State.handOver_store (s : State) (o : Record) : (s.handOver o).store =
    if s.store.answer = .queued then { s.store with queue := s.store.queue ++ [QueuedRecord.mk o.id o.words 0] }.serve
    else if s.store.answer = .dropped then { s.store with dropped := countTo 65535 s.store.dropped } else s.store := by
  unfold State.handOver
  cases s.store.answer <;> simp [State.countDropped_store]

/-! ### The close (R139) -/

namespace State
variable {s : State} {o : Record}

theorem closeRecord_eq (ho : s.record.openRecord = some o) : s.closeRecord =
    (((s.postRecord o).handOver o).noteStoreEnd o.id s.store.answer).setRecord
      { (s.postRecord o).record with openRecord := none, kindSet := [] } := by
  have hrecord : (((s.postRecord o).handOver o).noteStoreEnd o.id s.store.answer).record = (s.postRecord o).record := by simp
  have hstore : (s.postRecord o).store = s.store := by simp
  unfold State.closeRecord
  rw [ho]
  dsimp only
  rw [hstore, hrecord]

theorem closeRecord_store (ho : s.record.openRecord = some o) : s.closeRecord.store =
    if s.store.answer = .queued then { s.store with queue := s.store.queue ++ [QueuedRecord.mk o.id o.words 0] }.serve
    else if s.store.answer = .dropped then { s.store with dropped := countTo 65535 s.store.dropped } else s.store := by
  have hstore : (s.postRecord o).store = s.store := by simp
  have h : s.closeRecord.store = ((s.postRecord o).handOver o).store := by
    rw [closeRecord_eq ho]
    simp
  rw [h, State.handOver_store, hstore]

/-- The notices that a close raises stand after it. -/
theorem handOver_notice (s : State) (o : Record) {i : Nat} (h : s.req.notice.getLsbD i = true) :
    (s.handOver o).req.notice.getLsbD i = true := by
  have hraise : ∀ (u : State) (n : Nat), u.req.notice.getLsbD i = true → (u.raiseNotice n).req.notice.getLsbD i = true :=
    fun u n hu => by
      show (u.req.notice ||| noticeBit n).getLsbD i = true
      rw [BitVec.getLsbD_or, hu, Bool.true_or]
  have hpulse : s.countDropped.req.notice.getLsbD i = true := by
    unfold State.countDropped State.alarmPulse State.alarmRise
    rw [State.fall_eq]
    split
    · exact h
    · exact hraise _ _ h
  unfold State.handOver
  split
  · exact h
  · exact hraise _ _ hpulse
  · exact h

/-- A close whose record an entry of the list takes (R139, R140). -/
theorem closeRecord_filled (ho : s.record.openRecord = some o)
    (hempty : (s.record.listEntry s.record.nextIndex).state = .empty) :
    let k := s.record.nextIndex
    s.closeRecord.record = { s.record.setListEntry k ⟨.filled, some o.id, o.ref⟩ with
      nextIndex := k + 1, openRecord := none, kindSet := [] } ∧
    s.closeRecord.record.listEntry k = ⟨.filled, some o.id, o.ref⟩ ∧
    s.closeRecord.req.notice.getLsbD noticeRecord = true ∧ s.closeRecord.mem.readWord (entryAddr k) = 1 ∧
    s.closeRecord.ImageShown k { o with storeStatus := s.store.answer } := by
  intro k
  obtain ⟨hrecord, hmem, hreq⟩ := State.postRecord_filled o hempty
  set v := (s.postRecord o).handOver o with hv
  have hvrecord : v.record = (s.postRecord o).record := by simp [hv]
  have hvmem : v.mem = (s.postRecord o).mem := by simp [hv]
  have hentry : (s.postRecord o).record.listEntry k = ⟨.filled, some o.id, o.ref⟩ := by
    rw [hrecord]
    exact vget_vset_same _ _ _
  have hholds : v.mem.Holds (imageAddr k) o.words := by
    rw [hvmem, hmem]
    refine (Memory.holds_writeWords _ _ _).of_writeWord_outside _ (.inl ?_)
    simp only [imageAddr]
    omega
  have hnoted := State.noteStoreEnd_holds (s := v) s.store.answer o.words_length hholds
    (by rw [hvrecord, hentry]; nofun) (by rw [hvrecord, hentry])
  rw [Record.words_status] at hnoted
  have hword : (v.noteStoreEnd o.id s.store.answer).mem.readWord (entryAddr k) = 1 := by
    rw [State.noteStoreEnd_entry, hvmem, hmem]
    exact Memory.readWord_writeWord_same _ _ _
  have hnotice : (v.noteStoreEnd o.id s.store.answer).req.notice.getLsbD noticeRecord = true := by
    have hsame : (v.noteStoreEnd o.id s.store.answer).req = v.req := by simp
    rw [hsame]
    refine handOver_notice _ o ?_
    rw [hreq]
    exact raised_notice _ (by decide)
  rw [closeRecord_eq ho, ← hv]
  generalize v.noteStoreEnd o.id s.store.answer = u at hnoted hword hnotice ⊢
  generalize s.postRecord o = w at hrecord hentry ⊢
  exact ⟨congrArg (fun r : RecordUnit => { r with openRecord := none, kindSet := [] }) hrecord, hentry, hnotice, hword,
    State.imageShown_of_holds hnoted⟩

end State

end Sys2Proof.Machine
end

section
/-! The life of a trip record (R108 to R110, R126, R132, R135 to R140, R154, R156, R157, R183). -/

namespace Sys2Proof.Machine

/-! ### The grouping window through the entry into TRIPPED -/

/-- Of the fault unit the entries alone have changed: lock and grouping window stay. -/
def State.WindowKept (s t : State) : Prop := t.faults = { s.faults with entries := t.faults.entries }

namespace State
variable {s t u : State}

theorem WindowKept.trans (h : s.WindowKept t) (h' : t.WindowKept u) : s.WindowKept u := by
  rw [State.WindowKept] at *
  rw [h', h]

theorem fall_windowKept (s : State) (k : FaultKind) (src : Source) : s.WindowKept (s.fall k src) := by
  unfold State.fall
  split <;> rfl

theorem alarmRise_windowKept (s : State) (k : FaultKind) (src : Source) (d : Option Nat) : s.WindowKept (s.alarmRise k src d) := by
  unfold State.alarmRise
  split <;> rfl

theorem latchRise_windowKept (s : State) (k : FaultKind) (src : Source) (d : Option Nat) : s.WindowKept (s.latchRise k src d) := by
  unfold State.latchRise
  split <;> rfl

theorem formSingle_windowKept (s : State) : s.WindowKept s.formSingle := by
  have hite : ∀ (b : Bool) {u v w : State}, u.WindowKept v → u.WindowKept w → u.WindowKept (if b then v else w) :=
    fun b _ _ _ hv hw => by cases b <;> assumption
  have h1 := hite (s.onlyLost .a) (u := s) rfl (s.fall_windowKept .encoderSingle .first)
  have h2 := hite (s.onlyLost .b) h1 (h1.trans (State.fall_windowKept _ .encoderSingle .second))
  have h3 := hite (s.onlyLost .a) (h2.trans (State.alarmRise_windowKept _ .encoderSingle .first (some 0))) h2
  exact hite (s.onlyLost .b) (h3.trans (State.alarmRise_windowKept _ .encoderSingle .second (some 1))) h3

theorem restEntry_windowKept (s : State) : s.WindowKept s.restEntry := by
  have hlevel : ∀ v : State, v.WindowKept v.levelAtRest := fun v =>
    .trans (t := v.setLevel { v.level with counts := ⟨.zero, .zero⟩ }) rfl
      ((((State.fall_windowKept _ _ _).trans (State.fall_windowKept _ _ _)).trans (State.fall_windowKept _ _ _)).trans
        (State.fall_windowKept _ _ _))
  exact (WindowKept.trans (t := s.setGov s.gov.zeroed) rfl (hlevel _)).trans
    ((State.formSingle_windowKept _).trans (State.fall_windowKept _ _ _))

theorem enterTripped_windowKept (hr : s.seq.restartPending = false) : s.WindowKept s.enterTripped := by
  rw [State.enterTripped, State.pendingRestart_calm _ (by simp [Sequencer.tripped, hr])]
  refine .trans (t := s.gatesOff.setSeq { s.gatesOff.seq.tripped with drive := .tripped }) rfl (.trans (.trans ?_ (State.fall_windowKept _ _ _))
    (State.restEntry_windowKept _))
  rfl

/-! ### A first cause (R108, R126, R135 to R137) -/

theorem snapshot_taken (s : State) : s.SnapshotTaken s.snapshot := by
  have hall : ∀ c : Channel, allChannels[c.val]? = some c := by decide
  refine ⟨⟨rfl, rfl⟩, ⟨rfl, rfl, rfl, rfl⟩, ⟨?_, rfl, rfl⟩, ⟨rfl, rfl, rfl⟩, ⟨rfl, rfl⟩, fun c => ?_⟩
  · have hforce : ∀ x, s.gov.publishedLimit x = s.gov.inForce (s.gov.limit.get x) := fun x => by
      unfold Governor.publishedLimit Governor.inForce DirLimit.get
      cases s.gov.limitDir <;> rfl
    show Pair.ofFn s.gov.publishedLimit = _
    rw [Pair.ofFn, hforce, hforce]
    rfl
  · show (allChannels.map s.channelSnap)[c.val]? = _
    rw [List.getElem?_map, hall c]
    rfl

/-- The record that a first cause opens. -/
def tripRecord (s : State) (k : FaultKind) (d : Option Nat) : Record := s.newRecord (some (k, d)) .queued none

theorem openTrip_record {k : FaultKind} {d : Option Nat} (h : s.record.idCounter < 0xFFFFFFFF) : (s.openTrip k d).record =
    { s.record with
      banks := (s.record.trigger (some s.record.idCounter)).banks, idCounter := s.record.idCounter + 1
      openRecord := some (s.tripRecord k d), kindSet := [k] } := by
  have hids : s.record.noIds = false := by
    rw [RecordUnit.noIds, decide_eq_false_iff_not]
    exact Nat.not_le.mpr h
  rw [State.openTrip, hids, if_neg (by decide), RecordUnit.trigger_eq]
  rfl

/-- The fault unit after a first cause: lock SET, and the grouping window as it opens (R108). -/
theorem firstCause_window {k : FaultKind} {d : Option Nat} (hr : s.seq.restartPending = false) :
    let f := (s.firstCause k d).faults
    f.lock = true ∧ f.windowOpen = true ∧ f.firstCauseTime = s.req.partTime ∧ f.timer = 0 ∧
      f.windowLen = s.record.windowLength := by
  have h := enterTripped_windowKept (s := ((s.setFaults { s.faults with lock := true }).openTrip k d).openWindow) (by simpa using hr)
  have hlength : ((s.setFaults { s.faults with lock := true }).openTrip k d).record.windowLength = s.record.windowLength := by
    unfold State.openTrip
    split <;> rw [RecordUnit.trigger_eq] <;> rfl
  rw [State.WindowKept] at h
  dsimp only
  rw [State.firstCause, h]
  simp [State.openWindow, hlength]

theorem tripCause_first {k : FaultKind} {d : Option Nat} (hd : s.seq.drive ≠ .unconfigured) (hl : s.faults.lock = false) :
    s.tripCause k d = (s.firstCause k d).closeIfZero := by
  unfold State.tripCause
  split
  · contradiction
  · exact if_neg (by simp [hl])

theorem tripCause_followOn {k : FaultKind} {d : Option Nat} (hd : s.seq.drive ≠ .unconfigured) (hl : s.faults.lock = true) :
    s.tripCause k d = s.followOnCause k d (s.faults.timer / 1000) := by
  unfold State.tripCause
  split
  · contradiction
  · exact if_pos hl

/-! ### E-STOP as a first cause and as a follow-on (R33, R108, R109) -/

/-- E-STOP read as active and latched, before what its cause brings. -/
def eStopped (s : State) : State :=
  ((s.setInputs { s.inputs with eStop := true }).setSeq { s.seq with eStop := true }).latchRise .eStop .first none

theorem eStopped_eq (s : State) : s.eStopped = { s with
    inputs := { s.inputs with eStop := true }, seq := { s.seq with eStop := true }, faults := s.eStopped.faults } :=
  State.latchRise_eq _ _ _ _

theorem eStopped_record (s : State) : s.eStopped.record = s.record := by rw [s.eStopped_eq]

theorem exec_eStop (hin : s.inputs.eStop = false) (habs : s.sourcePresent .eStop .first = false) :
    exec .eStopActive s = .next (s.eStopped.tripCause .eStop none) := by
  have htrip : execEStopActive s = .next (((s.setInputs { s.inputs with eStop := true }).setSeq
      { s.seq with eStop := true }).tripRise .eStop .first) := if_neg (by simp [hin])
  refine htrip.trans (congrArg Host.Outcome.next ?_)
  exact if_neg (by simpa [State.sourcePresent] using habs)

theorem exec_eStop_first (hin : s.inputs.eStop = false) (habs : s.sourcePresent .eStop .first = false) (h : s.tripReady) :
    exec .eStopActive s = .next (s.eStopped.firstCause .eStop none).closeIfZero := by
  obtain ⟨hu, -, hlock, -⟩ := h
  have hlock' : s.eStopped.faults.lock = false := by
    rw [State.eStopped, State.latchRise_windowKept]
    exact hlock
  have hdrive : s.eStopped.seq.drive ≠ .unconfigured := by
    rw [s.eStopped_eq]
    exact hu
  rw [exec_eStop hin habs, tripCause_first hdrive hlock']

/-- What E-STOP as a first cause leaves before a window of 0 closes. -/
theorem eStop_firstCause {r : RecordSettings} (h : s.tripReady) (hsettings : s.record.settings = some r)
    (hid : s.record.idCounter < 0xFFFFFFFF) :
    let t := s.eStopped.firstCause .eStop none
    t.seq = s.eStopped.seq.afterTrip ∧ t.record = { s.record with
      banks := (s.record.trigger (some s.record.idCounter)).banks, idCounter := s.record.idCounter + 1
      openRecord := some (s.eStopped.tripRecord .eStop none), kindSet := [.eStop] } ∧
    t.store = s.store ∧ t.mem = s.mem ∧ t.faults.lock = true ∧ t.faults.windowOpen = true ∧
    t.faults.firstCauseTime = s.req.partTime ∧ t.faults.timer = 0 ∧ t.faults.windowLen = r.window := by
  have hr : s.eStopped.seq.restartPending = false := by
    rw [s.eStopped_eq]
    exact h.2.2.2
  obtain ⟨hseq, -, -, -, hrecord, hstore, hmem⟩ := s.eStopped.firstCause_calm_eqs .eStop none hr
  obtain ⟨hlock, hopen, htime, htimer, hlen⟩ := firstCause_window (k := .eStop) (d := none) hr
  dsimp only
  rw [openTrip_record (by rw [s.eStopped_record]; exact hid), s.eStopped_record] at hrecord
  have hlength : s.eStopped.record.windowLength = r.window := by
    rw [s.eStopped_record, RecordUnit.windowLength, hsettings]
    rfl
  refine ⟨hseq, hrecord, hstore.trans ?_, hmem.trans ?_, hlock, hopen, htime.trans ?_, htimer, hlen.trans hlength⟩ <;>
    rw [s.eStopped_eq]

theorem eStopped_snapshot (s : State) : s.SnapshotTaken s.eStopped.snapshot := by
  have h := s.eStopped.snapshot_taken
  rw [s.eStopped_eq] at h ⊢
  obtain ⟨h1, h2, h3, h4, h5, h6⟩ := h
  exact ⟨h1, h2, h3, h4, h5, h6⟩

end State

end Sys2Proof.Machine
end

section
/-! The settling of the rule about a trip record's life. -/

namespace Sys2Proof.Machine

namespace State
variable {s t : State}

theorem closeIfZero_open (h : s.faults.windowLen ≠ 0) : s.closeIfZero = s := if_neg (by simp [h])

theorem closeIfZero_zero (hopen : s.faults.windowOpen = true) (h : s.faults.windowLen = 0) : s.closeIfZero = s.closeWindow :=
  if_pos (by simp [hopen, h])

/-- What the record of E-STOP as a first cause holds. -/
theorem eStopped_tripRecord (s : State) :
    let o := s.eStopped.tripRecord .eStop none
    o.id = s.record.idCounter ∧ o.first = some (.eStop, none) ∧ o.followOns = [] ∧ o.lostCauses = 0 ∧ o.drive = s.seq.drive ∧
      o.runKind = s.seq.runKind ∧ o.clock = s.req.clock ∧ o.clockSet = s.req.clockSet ∧ o.partTime = s.req.partTime ∧
      o.fired = none ∧ o.storeStatus = .queued ∧ s.SnapshotTaken o.snap ∧ o.ref = s.record.reference := by
  have hsnap := s.eStopped_snapshot
  rw [s.eStopped_eq] at hsnap ⊢
  exact ⟨rfl, rfl, rfl, rfl, rfl, rfl, rfl, rfl, rfl, rfl, rfl, hsnap, rfl⟩

/-- The list entry that the record of E-STOP takes, and what the unit keeps of the others, at a close. -/
theorem closeWindow_store {o : Record} (ho : s.record.openRecord = some o) : s.closeWindow.store =
    if s.store.answer = .queued then { s.store with queue := s.store.queue ++ [QueuedRecord.mk o.id o.words 0] }.serve
    else if s.store.answer = .dropped then { s.store with dropped := countTo 65535 s.store.dropped } else s.store :=
  State.closeRecord_store (s := s.setFaults { s.faults with windowOpen := false }) ho

theorem closeWindow_filled {o : Record} (ho : s.record.openRecord = some o)
    (hempty : (s.record.listEntry s.record.nextIndex).state = .empty) :
    let k := s.record.nextIndex
    s.closeWindow.record = { s.record.setListEntry k ⟨.filled, some o.id, o.ref⟩ with
      nextIndex := k + 1, openRecord := none, kindSet := [] } ∧
    s.closeWindow.record.listEntry k = ⟨.filled, some o.id, o.ref⟩ ∧
    s.closeWindow.req.notice.getLsbD noticeRecord = true ∧ s.closeWindow.mem.readWord (entryAddr k) = 1 ∧
    s.closeWindow.ImageShown k { o with storeStatus := s.store.answer } :=
  State.closeRecord_filled (s := s.setFaults { s.faults with windowOpen := false }) ho hempty

theorem closeWindow_record {o : Record} (ho : s.record.openRecord = some o) : s.closeWindow.record =
    { (s.postRecord o).record with openRecord := none, kindSet := [] } := by
  have h := State.closeRecord_record (s := s.setFaults { s.faults with windowOpen := false }) ho
  rw [State.postRecord_record] at h ⊢
  exact h

end State

theorem StoreUnit.answer_cases (u : StoreUnit) :
    let queues := decide (u.state ≠ .absent ∧ u.state ≠ .outOfService ∧ u.queue.length < 4)
    (queues = true ↔ u.answer = .queued) ∧
    u.answer = if queues then .queued else if u.state = .absent then .none else .dropped := by
  rw [u.answer_eq]
  by_cases ha : u.state = .absent <;> by_cases ho : u.state = .outOfService <;> by_cases hl : u.queue.length < 4 <;>
    simp [ha, ho, hl, Nat.not_le.mpr, Nat.not_lt.mp]

/-- The store unit in READY with a free port and a record that it can program (R154, R157). -/
theorem StoreUnit.serve_ready {u : StoreUnit} (hstate : u.state = .ready) (hjob : u.job = .idle) : u.serve = u.serveReady := by
  unfold StoreUnit.serve
  rw [if_neg (by simp [hjob]), hstate]

theorem StoreUnit.serveReady_program {u : StoreUnit} (hprogram : u.canProgram = true) :
    (u.erase ≠ .running → u.serveReady = u.startBody) ∧
    (u.erase = .running → u.serveReady = if u.cfg.suspendSupported then u.startSuspend else u) := by
  unfold StoreUnit.serveReady StoreUnit.serveSuspended
  refine ⟨fun h => ?_, fun h => ?_⟩
  · cases he : u.erase with
    | none => exact if_pos hprogram
    | suspended => exact if_pos hprogram
    | running => exact absurd he h
  · rw [h, hprogram]
    rfl

/-- A pulse of an alarm kind whose source was absent (R106, R111). -/
theorem State.alarmPulse_pulsed {s : State} {k : FaultKind} {src : Source} {d : Option Nat} (habs : s.sourcePresent k src = false) :
    ((s.alarmPulse k src d).faults.entry k).seen = true ∧ ((s.alarmPulse k src d).faults.entry k).detail = d ∧
      (s.alarmPulse k src d).sourcePresent k src = false := by
  have hrise : s.alarmRise k src d =
      (s.setEntry k { (s.faults.entry k).rise src s.req.partTime d with seen := true }).raiseNotice noticeAlarm :=
    if_neg (by simp [habs])
  have hentry : (s.alarmRise k src d).faults.entry k = { (s.faults.entry k).rise src s.req.partTime d with seen := true } := by
    rw [hrise]
    exact FaultUnit.entry_setEntry_same _ _ _
  have hpresent : (s.alarmRise k src d).sourcePresent k src = true := State.alarmRise_source _ _ _ _
  have hfall : ((s.alarmRise k src d).fall k src).faults.entry k = ((s.alarmRise k src d).faults.entry k).setSource src false := by
    unfold State.fall
    rw [if_pos hpresent]
    exact FaultUnit.entry_setEntry_same _ _ _
  refine ⟨?_, ?_, State.fall_source _ _ _⟩
  · rw [State.alarmPulse, hfall, hentry]
    cases src <;> rfl
  · rw [State.alarmPulse, hfall, hentry]
    cases src <;> rfl

/-- A closed record that the store unit drops (R154). -/
theorem State.closeWindow_dropped {s : State} {o : Record} (ho : s.record.openRecord = some o) (h : s.store.answer = .dropped) :
    s.closeWindow.req.notice.getLsbD noticeStore = true ∧
      (s.sourcePresent .storeFault .second = false → (s.closeWindow.faults.entry .storeFault).seen = true ∧
        (s.closeWindow.faults.entry .storeFault).detail = some 1 ∧ s.closeWindow.sourcePresent .storeFault .second = false) := by
  set v := (s.setFaults { s.faults with windowOpen := false }).postRecord o with hv
  have hanswer : v.store.answer = .dropped := by
    rw [← h]
    simp [hv]
  have hover : v.handOver o = v.countDropped.raiseNotice noticeStore := by rw [State.handOver, hanswer]
  have hclose : s.closeWindow.req = (v.handOver o).req ∧ s.closeWindow.faults = (v.handOver o).faults := by
    rw [State.closeWindow, State.closeRecord_eq (s := s.setFaults { s.faults with windowOpen := false }) ho, ← hv]
    simp
  have hfaults : v.faults.entry .storeFault = s.faults.entry .storeFault := by
    simp [hv, FaultUnit.entry]
  rw [State.sourcePresent, State.sourcePresent, hclose.1, hclose.2, hover]
  clear_value v
  have hnotice : (v.countDropped.req.notice ||| noticeBit noticeStore).getLsbD noticeStore = true := raised_notice _ (by decide)
  refine ⟨hnotice, fun habs => ?_⟩
  rw [← hfaults] at habs
  exact State.alarmPulse_pulsed (s := v.setStore { v.store with dropped := countTo 65535 v.store.dropped }) habs

/-- Settles O56. -/
theorem tripRecordLife : Obligations.TripRecordLife := by
  refine ⟨fun s r hin habs hready hsettings hwindow hid => ?_, fun s r hin habs hready hsettings hwindow hid => ?_,
    fun s o hin habs htripped hlock hopen ho => ?_, fun s o hopen hdue ho => ?_,
    fun s h => congrArg Host.Outcome.next (if_neg (by simp [h])),
    fun s hstate hdue => ⟨_, congrArg Host.Outcome.next (if_pos (by simp [hstate, hdue])), rfl⟩,
    fun s h => congrArg Host.Outcome.next (if_neg (by simp [h]))⟩
  · obtain ⟨-, hrecord, hstore, hmem, -, hwopen, htime, htimer, hlen⟩ := State.eStop_firstCause hready hsettings hid
    have hexec := State.exec_eStop_first hin habs hready
    obtain ⟨o1, o2, o3, o4, o5, o6, o7, o8, o9, o10, o11, o12, o13⟩ := s.eStopped_tripRecord
    generalize s.eStopped.firstCause .eStop none = t at *
    rw [State.closeIfZero_open (by rw [hlen]; exact hwindow)] at hexec
    refine ⟨t, hexec, s.eStopped.tripRecord .eStop none, by rw [hrecord], o1, o2, o3, o4, o5, o6, o7, o8, o9, o10, o11, o12,
      by rw [hrecord], by rw [hrecord], hwopen, hlen, htime, htimer, ?_, by rw [hrecord], hstore, hmem⟩
    rw [o13]
    exact State.triggered_of_banks (by rw [hrecord])
  · obtain ⟨hseq, hrecord, hstore, -, hlock, hwopen, -, -, hlen⟩ := State.eStop_firstCause hready hsettings hid
    have hexec := State.exec_eStop_first hin habs hready
    obtain ⟨o1, o2, o3, o4, o5, o6, o7, o8, o9, o10, -, o12, o13⟩ := s.eStopped_tripRecord
    generalize s.eStopped.firstCause .eStop none = t at *
    generalize s.eStopped.tripRecord .eStop none = o at *
    have ho : t.record.openRecord = some o := by rw [hrecord]
    obtain ⟨hqueues, hanswer⟩ := s.store.answer_cases
    rw [State.closeIfZero_zero hwopen (hlen.trans hwindow)] at hexec
    have hrec := State.closeWindow_record ho
    have hbanks : t.closeWindow.record.banks = (s.record.trigger (some s.record.idCounter)).banks ∧
        t.closeWindow.record.idCounter = s.record.idCounter + 1 := by
      rw [hrec, State.postRecord_record, hrecord]
      split <;> exact ⟨rfl, rfl⟩
    refine ⟨t.closeWindow, hexec, ?_, ?_, ?_, by rw [hrec], by rw [hrec], hbanks.2, fun hq => ?_,
      { o with storeStatus := s.store.answer }, o1, o2, o3, o4, o5, o6, o7, o8, o9, o10, o12, hanswer, ?_, fun hempty => ?_⟩
    · have hsame : t.closeWindow.seq = t.seq := by simp
      rw [hsame, hseq]
      rfl
    · rw [← hlock]
      simp
    · simp [State.closeWindow]
    · rw [State.closeWindow_store ho, hstore, if_pos (hqueues.mp hq)]
      simp [o1]
    · rw [o13]
      exact State.triggered_of_banks hbanks.1
    · have hnext : t.record.nextIndex = s.record.nextIndex := by rw [hrecord]
      have hentry : t.record.listEntry = s.record.listEntry := by rw [hrecord]; rfl
      have hfilled := State.closeWindow_filled ho (by rw [hentry, hnext]; exact hempty)
      rw [hnext, hstore] at hfilled
      exact ⟨hfilled.2.1, hfilled.2.2.2.2⟩
  · have hkept : s.WindowKept s.eStopped := .trans (t := (s.setInputs { s.inputs with eStop := true }).setSeq { s.seq with eStop := true }) rfl
      (State.latchRise_windowKept _ _ _ _)
    have hexec := State.exec_eStop hin habs
    rw [State.tripCause_followOn (by rw [s.eStopped_eq]; simp [htripped]) (by rw [hkept]; exact hlock), State.followOnCause,
      if_pos (by rw [hkept]; exact hopen), s.eStopped_record, show s.eStopped.faults.timer = s.faults.timer by rw [hkept]] at hexec
    refine ⟨_, hexec, ?_, ?_, fun hin => ?_, fun hnew hlen => ?_, fun hnew hlen => ?_⟩
    · exact State.latchRise_latched _ _ _ _ habs
    · show s.eStopped.seq.drive = .tripped
      rw [s.eStopped_eq]
      exact htripped
    · simp [RecordUnit.followOn, ho, hin]
    · simp [RecordUnit.followOn, ho, hnew, Record.addFollowOn, hlen]
    · simp [RecordUnit.followOn, ho, hnew, Record.addFollowOn, Nat.not_lt.mpr hlen]
  · obtain ⟨hrec, hstore⟩ := And.intro (State.closeWindow_record ho) (State.closeWindow_store ho)
    have hexec : exec .groupingWindowExpiry s = .next s.closeWindow := congrArg Host.Outcome.next (if_pos (by simp [hopen, hdue]))
    refine ⟨s.closeWindow, hexec, by simp [State.closeWindow], by simp, by rw [hrec], by rw [hrec], by simp, by simp, fun hempty => ?_,
      fun hfull => ?_, fun habsent => ?_, fun hstate hlen => ?_, fun hready hqueue hjob hblank => ?_, fun hdropped => ?_⟩
    · obtain ⟨hrec', hentry, hnotice, hword, himage⟩ := State.closeWindow_filled ho hempty
      rw [s.store.answer_eq] at himage
      exact ⟨hentry, by rw [hrec'], hnotice, hword, himage⟩
    · have hheld : (s.record.listEntry s.record.nextIndex).held = true := by simp [ListEntry.held, hfull]
      rw [hrec, State.postRecord_record, if_pos hheld]
      exact ⟨rfl, rfl, countTo_eq _⟩
    · have hans : s.store.answer = .none := by simp [StoreUnit.answer_eq, habsent]
      rw [hstore, hans]
      rfl
    · have hans : s.store.answer = .queued := by
        rcases hstate with h | h | h <;> simp [StoreUnit.answer_eq, h, hlen]
      rw [hstore, if_pos hans]
      simp
    · have hans : s.store.answer = .queued := by simp [StoreUnit.answer_eq, hready, hqueue]
      rw [if_pos hans, StoreUnit.serve_ready (by exact hready) (by exact hjob)] at hstore
      set u : StoreUnit := { s.store with queue := s.store.queue ++ [QueuedRecord.mk o.id o.words 0] } with hu
      obtain ⟨hbody, hsuspend⟩ := StoreUnit.serveReady_program (u := u) (by
        have hsome : u.blankSlot.isSome = true := hblank
        rw [StoreUnit.canProgram, hsome, hu]
        simp)
      have hcfg : u.cfg = s.store.cfg := rfl
      rw [hstore]
      refine ⟨fun herase => ?_, fun herase hs => ?_, fun herase hs => ?_⟩
      · rw [hbody herase]
        exact ⟨rfl, rfl⟩
      · rw [hsuspend herase, hcfg, if_pos hs]
        exact ⟨rfl, rfl⟩
      · rw [hsuspend herase, hcfg, if_neg (by simpa using hs)]
    · have hans : s.store.answer = .dropped := by
        rcases hdropped with h | ⟨h, hlen⟩
        · simp [StoreUnit.answer_eq, h]
        · simp [StoreUnit.answer_eq, h, hlen]
      rw [hstore, hans, if_neg (by decide), if_pos rfl, countTo_eq]
      exact ⟨rfl, State.closeWindow_dropped ho hans⟩

end Sys2Proof.Machine
end

section
/-! The capture period: the frame, the freeze and the flags taken (R85, R123 to R125, R127, R184). -/

namespace Sys2Proof.Machine

/-! ### The words of a frame (R184) -/

theorem packBits_getLsbD : ∀ (bs : List Bool) (j : Nat), j < 16 → (packBits bs).getLsbD j = bs.getD j false
  | [], j, _ => by simp [packBits]
  | b :: bs, 0, _ => by
    cases b <;> simp [packBits, flagWord]
  | b :: bs, j + 1, hj => by
    have hflag : (flagWord b).getLsbD (j + 1) = false := by
      cases b
      · exact BitVec.getLsbD_zero
      · simp [flagWord]
    have ih := packBits_getLsbD bs j (by omega)
    rw [packBits, BitVec.getLsbD_or, hflag, BitVec.getLsbD_shiftLeft, Bool.or_false]
    simpa [hj] using ih

theorem find_putFrame (i j : Nat) (ws : List Word) (fs : List (Nat × List Word)) :
    (putFrame i ws fs).find? (fun f => f.1 == j) = if j = i then some (i, ws) else fs.find? fun f => f.1 == j := by
  induction fs with
  | nil => by_cases h : i = j <;> simp [putFrame, h, eq_comm (a := j)]
  | cons f fs ih =>
    obtain ⟨m, v⟩ := f
    unfold putFrame
    by_cases him : i = m
    · by_cases hij : i = j <;> simp [← him, hij, eq_comm (a := j)]
    · by_cases hlt : i < m
      · rw [if_neg him, if_pos hlt]
        by_cases hij : i = j <;> simp [hij, eq_comm (a := j)]
      · by_cases hmj : m = j
        · have hji : ¬j = i := fun h => him (h.symm.trans hmj.symm)
          rw [if_neg him, if_neg hlt]
          simp [hmj, hji]
        · simpa [him, hlt, hmj] using ih

/-- Frames of the banks after a frame has been written. -/
theorem RecordUnit.frameOf_write (r : RecordUnit) (i : Fin 4) (ws : List Word) :
    (r.setBank i ((r.bank i).write ws)).frameOf i (r.bank i).writeIndex = ws ∧
    ∀ j, j ≠ (r.bank i).writeIndex → (r.setBank i ((r.bank i).write ws)).frameOf i j = r.frameOf i j := by
  have hframes : ∀ j, (r.setBank i ((r.bank i).write ws)).frameOf i j =
      match (putFrame (r.bank i).writeIndex ws (r.bank i).frames).find? fun f => f.1 == j with
      | some f => f.2
      | none => (List.range 24).map (Config.undefinedFrameWord r.resets i.val j) := fun j => by
    have hbank : (r.setBank i ((r.bank i).write ws)).bank i = (r.bank i).write ws := vget_vset_same _ _ _
    rw [RecordUnit.frameOf, hbank] <;> rfl
  refine ⟨?_, fun j hj => ?_⟩
  · rw [hframes, find_putFrame, if_pos rfl]
  · rw [hframes, find_putFrame, if_neg hj]
    rfl

/-! ### The flags taken (R85, R123) -/

theorem State.takeFlags_channel (s : State) (c : Channel) :
    (s.setWatch s.watch.takeFlags).channel c = { s.channel c with heldSeen := false, overloadSeen := false } := vget_map _ _ _

/-! ### The entries at a freeze (R127, R142) -/

namespace State
variable {s : State} {i : Fin 4} {gen : Word} {k : Fin 8}

/-- The entry holds a record whose capture reference awaits the bank. -/
def entryAwaits (s : State) (i : Fin 4) (gen : Word) (k : Fin 8) : Bool :=
  (s.record.listEntry k).held && (s.record.listEntry k).ref.awaits i gen

theorem completeEntry_same (h : s.entryAwaits i gen k = true) :
    (s.completeEntry i gen k).record.listEntry k =
      { s.record.listEntry k with ref := { (s.record.listEntry k).ref with status := .complete } } ∧
    (s.completeEntry i gen k).mem.readWord (captureStatusAddr k) = natWord CaptureStatus.complete.code := by
  have hawaits : (s.record.listEntry k).ref.awaits i gen = true := (Bool.and_eq_true _ _ ▸ h).2
  have href : (s.record.listEntry k).ref.completeFor i gen = { (s.record.listEntry k).ref with status := .complete } :=
    if_pos hawaits
  unfold State.completeEntry
  dsimp only
  rw [if_pos (show ((s.record.listEntry k).held && (s.record.listEntry k).ref.awaits i gen) = true from h), href]
  exact ⟨vget_vset_same _ _ _, Memory.readWord_writeWord_same _ _ _⟩

theorem completeEntry_other {j : Fin 8} (h : s.entryAwaits i gen k = false ∨ k ≠ j) :
    (s.completeEntry i gen j).record.listEntry k = s.record.listEntry k ∧
    (s.completeEntry i gen j).mem.readWord (captureStatusAddr k) = s.mem.readWord (captureStatusAddr k) := by
  unfold State.completeEntry
  dsimp only
  split
  · next hj =>
    have hkj : k ≠ j := by
      rcases h with h | h
      · rintro rfl
        rw [State.entryAwaits, hj] at h
        contradiction
      · exact h
    refine ⟨vget_vset_other _ _ hkj, Memory.readWord_writeWord_other _ _ _ _ ?_⟩
    have := entry_apart hkj
    simp only [captureStatusAddr, imageAddr]
    omega
  · exact ⟨rfl, rfl⟩

theorem completeEntries_idle (l : List (Fin 8)) (h : s.entryAwaits i gen k = false) :
    let t := l.foldl (State.completeEntry i gen) s
    t.record.listEntry k = s.record.listEntry k ∧ t.mem.readWord (captureStatusAddr k) = s.mem.readWord (captureStatusAddr k) := by
  induction l generalizing s with
  | nil => exact ⟨rfl, rfl⟩
  | cons j l ih =>
    obtain ⟨hentry, hmem⟩ := State.completeEntry_other (j := j) (.inl h)
    obtain ⟨hentry', hmem'⟩ := ih (s := s.completeEntry i gen j) (by rw [State.entryAwaits, hentry]; exact h)
    exact ⟨hentry'.trans hentry, hmem'.trans hmem⟩

theorem completeEntries_awaiting (l : List (Fin 8)) (h : s.entryAwaits i gen k = true) (hk : k ∈ l) :
    let t := l.foldl (State.completeEntry i gen) s
    t.record.listEntry k = { s.record.listEntry k with ref := { (s.record.listEntry k).ref with status := .complete } } ∧
      t.mem.readWord (captureStatusAddr k) = natWord CaptureStatus.complete.code := by
  induction l generalizing s with
  | nil => simp at hk
  | cons j l ih =>
    by_cases hkj : k = j
    · subst hkj
      obtain ⟨hentry, hmem⟩ := State.completeEntry_same h
      have hdone : (s.completeEntry i gen k).entryAwaits i gen k = false := by
        rw [State.entryAwaits, hentry]
        simp [CaptureRef.awaits]
      obtain ⟨hentry', hmem'⟩ := State.completeEntries_idle l hdone
      exact ⟨hentry'.trans hentry, hmem'.trans hmem⟩
    · obtain ⟨hentry, -⟩ := State.completeEntry_other (s := s) (i := i) (gen := gen) (j := j) (.inr hkj)
      have hrest := ih (s := s.completeEntry i gen j) (by rw [State.entryAwaits, hentry]; exact h)
        ((List.mem_cons.mp hk).resolve_left hkj)
      rw [hentry] at hrest
      exact hrest

/-! ### The freeze and the next bank (R125, R127) -/

theorem goLiveFirst_some {r : RecordUnit} {is : List (Fin 4)} {j : Fin 4}
    (h : is.find? (fun m => decide ((r.bank m).state = .free)) = some j) : r.goLiveFirst is = r.goLive j := by
  rw [RecordUnit.goLiveFirst, h]

theorem goLiveFirst_none {r : RecordUnit} {is : List (Fin 4)} (h : ∀ m ∈ is, (r.bank m).state ≠ .free) : r.goLiveFirst is = r := by
  have hnone : is.find? (fun m => decide ((r.bank m).state = .free)) = none := by
    rw [List.find?_eq_none]
    simpa using h
  rw [RecordUnit.goLiveFirst, hnone]

/-- The first FREE bank in ring order behind bank `i` (R125). -/
theorem find_next {f : Fin 4 → Bool} {j : Fin 4} (hji : j ≠ i) (hfree : f j = true) (hfirst : ∀ m, m ≠ i → m - i < j - i → f m = false) :
    [i + 1, i + 2, i + 3].find? f = some j := by
  have hpos : ∀ i j : Fin 4, j ≠ i → j = i + 1 ∨ (j = i + 2 ∧ i + 1 ≠ i ∧ i + 1 - i < j - i) ∨
      (j = i + 3 ∧ (i + 1 ≠ i ∧ i + 1 - i < j - i) ∧ i + 2 ≠ i ∧ i + 2 - i < j - i) := by decide
  rcases hpos i j hji with h | ⟨h, h1, h1'⟩ | ⟨h, ⟨h1, h1'⟩, h2, h2'⟩
  · simp [← h, hfree]
  · simp [hfirst _ h1 h1', ← h, hfree]
  · simp [hfirst _ h1 h1', hfirst _ h2 h2', ← h, hfree]

theorem frozen_bank (s : State) (i m : Fin 4) : (s.frozen i).record.bank m =
    if m = i then { s.record.bank i with state := .frozen } else s.record.bank m := by
  rw [RecordUnit.bank, s.frozen_banks, vget_vset]
  rfl

/-- A freeze with no FREE bank behind (R127). -/
theorem freezeBank_last (h : ∀ m, m ≠ i → (s.record.bank m).state ≠ .free) : s.freezeBank i = s.frozen i := by
  have hset : ∀ v : State, v.setRecord v.record = v := fun _ => rfl
  rw [s.freezeBank_eq, goLiveFirst_none fun m hm => ?_]
  · exact hset _
  · have hne : ∀ i m : Fin 4, m ∈ [i + 1, i + 2, i + 3] → m ≠ i := by decide
    rw [frozen_bank, if_neg (hne i m hm)]
    exact h m (hne i m hm)

/-- A freeze at which bank `j` goes LIVE (R125, R127). -/
theorem freezeBank_next {j : Fin 4} (hji : j ≠ i) (hfree : (s.record.bank j).state = .free)
    (hfirst : ∀ m, m ≠ i → m - i < j - i → (s.record.bank m).state ≠ .free) :
    s.freezeBank i = (s.frozen i).setRecord ((s.frozen i).record.goLive j) := by
  rw [s.freezeBank_eq, goLiveFirst_some (find_next hji ?_ fun m hm hlt => ?_)]
  · rw [frozen_bank, if_neg hji, hfree]
    rfl
  · rw [frozen_bank, if_neg hm]
    simp [hfirst m hm hlt]

theorem goLive_bank (r : RecordUnit) (j m : Fin 4) : (r.goLive j).bank m = if m = j then (r.bank j).goLive r.preCount else r.bank m :=
  vget_vset _ _ _ _

/-- The open record, the entries, the notice and what a freeze leaves. -/
theorem frozen_eqs (s : State) (i : Fin 4) :
    let t := s.frozen i
    let gen := (s.record.bank i).generation
    t.record.openRecord = s.record.openRecord.map (fun o => { o with ref := o.ref.completeFor i gen }) ∧
    t.req.notice.getLsbD noticeCapture = true ∧ t.record.settings = s.record.settings ∧
    (∀ k, s.entryAwaits i gen k = true → (t.record.listEntry k).ref.status = .complete ∧
      t.mem.readWord (captureStatusAddr k) = natWord CaptureStatus.complete.code) ∧
    (∀ k, s.entryAwaits i gen k = false → t.record.listEntry k = s.record.listEntry k) := by
  set u := s.setRecord (s.record.frozen i) with hu
  have hunit : ∀ (v : State) (k : Fin 8), (State.completeEntry i (s.record.bank i).generation v k).record.openRecord = v.record.openRecord ∧
      (State.completeEntry i (s.record.bank i).generation v k).record.settings = v.record.settings := fun v k => by
    unfold State.completeEntry
    dsimp only
    split <;> exact ⟨rfl, rfl⟩
  have hopen := foldl_keeps (fun v : State => v.record.openRecord) _ (fun v k => (hunit v k).1) allEntries u
  have hsettings := foldl_keeps (fun v : State => v.record.settings) _ (fun v k => (hunit v k).2) allEntries u
  have hmem : ∀ k : Fin 8, k ∈ allEntries := by decide
  have hawaits : ∀ k, u.entryAwaits i (s.record.bank i).generation k = s.entryAwaits i (s.record.bank i).generation k :=
    fun _ => rfl
  have hentries : ∀ k, u.record.listEntry k = s.record.listEntry k := fun _ => rfl
  have hrest := fun (k : Fin 8) h => State.completeEntries_idle (s := u) (i := i) (gen := (s.record.bank i).generation) (k := k) allEntries h
  have hdone := fun (k : Fin 8) h => State.completeEntries_awaiting (s := u) (i := i) (gen := (s.record.bank i).generation) (k := k) allEntries h (hmem k)
  have hfrozen : s.frozen i = (allEntries.foldl (State.completeEntry i (s.record.bank i).generation) u).raiseNotice noticeCapture := rfl
  have hraise : ∀ v : State, (v.raiseNotice noticeCapture).record = v.record ∧ (v.raiseNotice noticeCapture).mem = v.mem ∧
      (v.raiseNotice noticeCapture).req.notice = v.req.notice ||| noticeBit noticeCapture := fun _ => ⟨rfl, rfl, rfl⟩
  dsimp only at hrest hdone ⊢
  rw [hfrozen, (hraise _).1, (hraise _).2.1, (hraise _).2.2]
  refine ⟨hopen, raised_notice _ (by decide), hsettings, fun k hk => ?_, fun k hk => ?_⟩
  · obtain ⟨hentry, hword⟩ := hdone k (by rw [hawaits]; exact hk)
    exact ⟨by rw [hentry], hword⟩
  · rw [(hrest k (by rw [hawaits]; exact hk)).1, hentries]

end State

end Sys2Proof.Machine
end

section
/-! The capture period (R85, R123 to R125, R127, R129, R131, R133, R184). -/

namespace Sys2Proof.Machine

/-! ### The frame of a period -/

/-- The first 23 words of a capture frame (R184). -/
def State.frameHead (s : State) (index : Nat) : List Word :=
  let level := fun c : Channel => if s.watch.fitted c then natWord (s.channel c).level else 0
  let limit := fun l : DirLimit => if s.gov.limitDir = .regenerating then l.regenerating else l.motoring
  [natWord (index + 2048 * s.seq.drive.code + 16384 * s.seq.runKind.code),
    BitVec.ofNat 16 s.req.partTime.toNat, intWord s.meas.n, intWord (truncDiv s.seq.ramp 1000), intWord s.gov.td,
    intWord s.gov.tg, intWord s.gov.torque.a, intWord s.gov.torque.b, intWord s.gov.estimate.a,
    intWord s.gov.estimate.b, intWord (limit s.gov.limit.a), intWord (limit s.gov.limit.b),
    intWord s.meas.links.a.vdc, intWord s.meas.links.b.vdc, intWord s.regs.a.iq, intWord s.regs.b.iq, level 0, level 1,
    level 2, level 3, level 4, level 5, natWord s.meas.shell.position]

/-- Word 23 of the frame, with the flags that are taken. -/
def State.frameTail (s : State) : Word := s.frameFlags s.watch.heldFlags s.watch.overloadFlags

theorem State.frameWords_eq (s : State) (index : Nat) :
    s.frameWords s.watch.heldFlags s.watch.overloadFlags index = s.frameHead index ++ [s.frameTail] := by
  have hlimit : ∀ x, s.gov.publishedLimit x =
      if s.gov.limitDir = .regenerating then (s.gov.limit.get x).regenerating else (s.gov.limit.get x).motoring := fun x => by
    unfold Governor.publishedLimit DirLimit.get
    cases s.gov.limitDir <;> rfl
  have htime : loWord s.req.partTime = BitVec.ofNat 16 s.req.partTime.toNat := by
    apply BitVec.eq_of_toNat_eq
    simp [loWord]
  rw [State.frameWords, hlimit, hlimit, htime]
  rfl

theorem State.frameTail_bits (s : State) :
    (∀ c : Channel, s.frameTail.getLsbD c.val = (s.channel c).heldSeen ∧ s.frameTail.getLsbD (6 + c.val) = (s.channel c).overloadSeen) ∧
    s.frameTail.getLsbD 12 = s.regs.a.lastPeriod ∧ s.frameTail.getLsbD 13 = s.regs.b.lastPeriod ∧
    s.frameTail.getLsbD 14 = s.meas.shell.valid ∧ s.frameTail.getLsbD 15 = decide (s.gov.limitDir = .regenerating) := by
  have hlist : ∀ f : ChannelWatch → Bool, s.watch.channels.toList.map f = allChannels.map fun c => f (s.channel c) := fun f => by
    refine List.ext_getElem (by simp; rfl) fun i h1 h2 => ?_
    have hall : ∀ (i : Nat) (h : i < allChannels.length), (allChannels[i]).val = i := by decide
    simp only [List.getElem_map, Vector.getElem_toList]
    simp [State.channel, vget, hall]
  have hbits : ∀ j, j < 16 → s.frameTail.getLsbD j =
      ((allChannels.map fun c => (s.channel c).heldSeen) ++ (allChannels.map fun c => (s.channel c).overloadSeen) ++
        [s.regs.a.lastPeriod, s.regs.b.lastPeriod, s.meas.shell.valid, decide (s.gov.limitDir = .regenerating)]).getD j false :=
    fun j hj => by
      rw [State.frameTail, State.frameFlags, Watch.heldFlags, Watch.overloadFlags, packBits_getLsbD _ _ hj, hlist, hlist]
  refine ⟨fun c => ?_, hbits 12 (by decide), hbits 13 (by decide), hbits 14 (by decide), hbits 15 (by decide)⟩
  rw [hbits c.val (by omega), hbits (6 + c.val) (by omega)]
  fin_cases c <;> exact ⟨rfl, rfl⟩

/-! ### SPEED BELOW (R131) -/

namespace State
variable {s t u : State}

theorem belowConditions_still (h : s.record.trigState = .disarmed ∨ s.record.program = none) : s.belowConditions = s := by
  have hset : s.setRecord s.record = s := rfl
  have hidle : ∀ (c : Option TrigCond) b, s.takeBelow c b b = s := fun c b => by
    unfold State.takeBelow
    cases c <;> simp
  have hstep : s.record.stepBelow s.meas.n = s.record := by
    unfold RecordUnit.stepBelow
    rcases h with h | h
    · split
      · exact if_pos h
      · rfl
    · rw [h]
  unfold State.belowConditions
  dsimp only
  rw [hstep, hset]
  split
  · rw [hidle, hidle]
    exact ite_self _
  · rfl

/-- The record unit after the speed-below flags of a program that waits for SPEED BELOW. -/
theorem stepBelow_waiting {p : Program} {x : Int} (hp : s.record.program = some p) (hfirst : p.first = .speedBelow x)
    (hstate : s.record.trigState = .waitFirst) : s.record.stepBelow s.meas.n =
      { s.record with belowFirst := decide (|s.meas.n| < x), belowSecond := belowFlag p.second s.meas.n } := by
  unfold RecordUnit.stepBelow
  rw [hp]
  dsimp only
  rw [if_neg (by simp [hstate]), hfirst, ← hp]
  rfl

/-- What a capture period does with the conditions of a program. -/
theorem belowConditions_program {p : Program} {r : RecordUnit} (hp : s.record.program = some p)
    (hstep : s.record.stepBelow s.meas.n = r) : s.belowConditions =
      if p.second = some p.first then (s.setRecord r).takeBelow (some p.first) s.record.belowFirst r.belowFirst
      else ((s.setRecord r).takeBelow (some p.first) s.record.belowFirst r.belowFirst).takeBelow p.second s.record.belowSecond
        r.belowSecond := by
  unfold State.belowConditions
  dsimp only
  rw [hstep]
  split
  · next q hq =>
    obtain rfl : q = p := Option.some.inj (hq.symm.trans hp)
    rfl
  · next hq => exact absurd (hq.symm.trans hp) (by simp)

/-- A period that sets no speed-below flag, of a program that waits for SPEED BELOW. -/
theorem belowConditions_quiet {p : Program} {x : Int} (hp : s.record.program = some p) (hfirst : p.first = .speedBelow x)
    (hstate : s.record.trigState = .waitFirst) (h : x ≤ |s.meas.n| ∨ s.record.belowFirst = true) :
    s.belowConditions = s.setRecord { s.record with
      belowFirst := decide (|s.meas.n| < x), belowSecond := belowFlag p.second s.meas.n } := by
  have hquiet : (decide (|s.meas.n| < x) && !s.record.belowFirst) = false := by
    rcases h with h | h
    · simp [h]
    · simp [h]
  have hother : ∀ (u : State) (c : Option TrigCond) (was now : Bool), u.record.program = some p → u.record.trigState = .waitFirst →
      c ≠ some p.first → u.takeBelow c was now = u := fun u c was now hu hwait hc => by
    unfold State.takeBelow
    split
    · next c =>
      split
      · have hne : ¬p.first = c := fun he => hc (he ▸ rfl)
        simp [State.takeCond, hu, hwait, hne]
      · rfl
    · rfl
  rw [belowConditions_program hp (stepBelow_waiting hp hfirst hstate)]
  have hnone : ∀ (u : State) c, u.takeBelow c s.record.belowFirst (decide (|s.meas.n| < x)) = u := fun u c => by
    unfold State.takeBelow
    split
    · rw [hquiet]
      rfl
    · rfl
  dsimp only
  rw [hnone]
  split
  · rfl
  · next hc => exact hother _ _ _ _ hp hstate hc

/-- The period that sets the speed-below flag takes the condition. -/
theorem belowConditions_taken {p : Program} {x : Int} (hp : s.record.program = some p) (hfirst : p.first = .speedBelow x)
    (hstate : s.record.trigState = .waitFirst) (hbelow : |s.meas.n| < x) (hbefore : s.record.belowFirst = false)
    (hsecond : p.second = none ∨ p.second = some .manual) :
    s.belowConditions = (s.setRecord { s.record with belowFirst := true, belowSecond := false }).takeCond p.first none := by
  have hflag : belowFlag p.second s.meas.n = false := by rcases hsecond with h | h <;> rw [h] <;> rfl
  have hnot : p.second ≠ some p.first := by rcases hsecond with h | h <;> rw [h, hfirst] <;> nofun
  have hidle : ∀ (u : State) (c : Option TrigCond) (was : Bool), u.takeBelow c was false = u := fun u c was => by
    unfold State.takeBelow
    cases c <;> simp
  have htake : ∀ (u : State) (c : TrigCond), u.takeBelow (some c) false true = u.takeCond c none := fun _ _ => rfl
  have hstep := stepBelow_waiting hp hfirst hstate
  rw [hflag, decide_eq_true hbelow] at hstep
  rw [belowConditions_program hp hstep, if_neg hnot]
  dsimp only
  rw [hidle, hbefore, htake]

/-! ### What the conditions leave of the banks -/

/-- The frames of the banks, and where bank `i` is written, are those of `s`. -/
structure FramesKept (s t : State) (i : Fin 4) : Prop where
  frames : ∀ m, (t.record.bank m).frames = (s.record.bank m).frames
  index : (t.record.bank i).writeIndex = (s.record.bank i).writeIndex
  valid : (t.record.bank i).valid = (s.record.bank i).valid
  resets : t.record.resets = s.record.resets

variable {i : Fin 4}

theorem FramesKept.refl (s : State) : s.FramesKept s i := ⟨fun _ => rfl, rfl, rfl, rfl⟩

theorem FramesKept.trans (h : s.FramesKept t i) (h' : t.FramesKept u i) : s.FramesKept u i :=
  ⟨fun m => (h'.frames m).trans (h.frames m), h'.index.trans h.index, h'.valid.trans h.valid, h'.resets.trans h.resets⟩

theorem FramesKept.frameOf (h : s.FramesKept t i) (m : Fin 4) (j : Nat) : t.record.frameOf m j = s.record.frameOf m j := by
  rw [RecordUnit.frameOf, h.frames, h.resets, RecordUnit.frameOf]

theorem FramesKept.of_banks (h : ∀ m, t.record.bank m = s.record.bank m) (hresets : t.record.resets = s.record.resets) :
    s.FramesKept t i := ⟨fun m => by rw [h], by rw [h], by rw [h], hresets⟩

theorem trigger_frames (r : RecordUnit) (id : Option Nat) (m : Fin 4) : ((r.trigger id).bank m).frames = (r.bank m).frames ∧
    ((r.trigger id).bank m).writeIndex = (r.bank m).writeIndex ∧ ((r.trigger id).bank m).valid = (r.bank m).valid := by
  have hbank : ∀ b : Bank, (b.trigger id).frames = b.frames ∧ (b.trigger id).writeIndex = b.writeIndex ∧
      (b.trigger id).valid = b.valid := fun b => by
    unfold Bank.trigger
    split <;> exact ⟨rfl, rfl, rfl⟩
  unfold RecordUnit.trigger
  split
  · next i _ =>
    rw [RecordUnit.setBank, RecordUnit.bank, vget_vset]
    split
    · next hm =>
      subst hm
      exact hbank _
    · exact ⟨rfl, rfl, rfl⟩
  · exact ⟨rfl, rfl, rfl⟩

theorem fire_framesKept (s : State) (p : Program) (d : Option Nat) : s.FramesKept (s.fire p d) i := by
  have hbanks : ∃ id, (s.fire p d).record.banks = (s.record.trigger id).banks := by
    rcases Nat.lt_or_ge s.record.idCounter 0xFFFFFFFF with h | h
    · refine ⟨some s.record.idCounter, ?_⟩
      rw [State.fire_ids p d h, State.setRecord_record, State.postRecord_record]
      split <;> rfl
    · exact ⟨none, by rw [State.fire_noIds p d h]; rfl⟩
  obtain ⟨id, hid⟩ := hbanks
  have hsame : ∀ m, (s.fire p d).record.bank m = (s.record.trigger id).bank m := fun m => by
    rw [RecordUnit.bank, hid]
    rfl
  exact ⟨fun m => by rw [hsame, (trigger_frames _ id m).1], by rw [hsame, (trigger_frames _ id i).2.1],
    by rw [hsame, (trigger_frames _ id i).2.2], by simp⟩

theorem takeCond_framesKept (s : State) (c : TrigCond) (d : Option Nat) : s.FramesKept (s.takeCond c d) i := by
  unfold State.takeCond
  split
  · split
    · split
      · exact s.fire_framesKept _ d
      · exact .of_banks (fun _ => rfl) rfl
    · exact .refl s
  · split
    · exact s.fire_framesKept _ d
    · exact .refl s
  · exact .refl s

theorem belowConditions_framesKept (s : State) : s.FramesKept s.belowConditions i := by
  have hstep : s.FramesKept (s.setRecord (s.record.stepBelow s.meas.n)) i := by
    unfold RecordUnit.stepBelow
    split
    · split
      · exact .refl s
      · exact .of_banks (fun _ => rfl) rfl
    · exact .refl s
  have htake : ∀ (u : State) (c : Option TrigCond) (was now : Bool), u.FramesKept (u.takeBelow c was now) i := fun u c was now => by
    unfold State.takeBelow
    split
    · split
      · exact u.takeCond_framesKept _ none
      · exact .refl u
    · exact .refl u
  unfold State.belowConditions
  dsimp only
  split
  · split
    · exact hstep.trans (htake _ _ _ _)
    · exact (hstep.trans (htake _ _ _ _)).trans (htake _ _ _ _)
  · exact hstep

/-! ### The banks at the frame and at the freeze (R124, R125, R127) -/

theorem frozen_record (s : State) (i : Fin 4) :
    (s.frozen i).record = { s.record.frozen i with entries := (s.frozen i).record.entries } := by
  have hstep : ∀ (v : State) (k : Fin 8), { (State.completeEntry i (s.record.bank i).generation v k).record with entries := s.record.entries } =
      { v.record with entries := s.record.entries } := fun v k => by
    unfold State.completeEntry
    dsimp only
    split <;> rfl
  have hfold := foldl_keeps (fun v : State => { v.record with entries := s.record.entries }) _ hstep allEntries
    (s.setRecord (s.record.frozen i))
  have hframe : ∀ v : State, (v.raiseNotice noticeCapture).record = v.record := fun _ => rfl
  rw [State.frozen, hframe]
  generalize allEntries.foldl (State.completeEntry i (s.record.bank i).generation) (s.setRecord (s.record.frozen i)) = v at hfold ⊢
  exact congrArg (fun r : RecordUnit => { r with entries := v.record.entries }) hfold

theorem goLiveFirst_frames (r : RecordUnit) (is : List (Fin 4)) : (∀ m, ((r.goLiveFirst is).bank m).frames = (r.bank m).frames) ∧
    ∀ i, i ∉ is → (r.goLiveFirst is).bank i = r.bank i := by
  unfold RecordUnit.goLiveFirst
  split
  · next j hj =>
    refine ⟨fun m => ?_, fun i hi => ?_⟩
    · rw [goLive_bank]
      split
      · next hm => rw [hm]; rfl
      · rfl
    · rw [goLive_bank, if_neg]
      rintro rfl
      exact hi (List.mem_of_find?_eq_some hj)
  · exact ⟨fun _ => rfl, fun _ _ => rfl⟩

theorem freezeBank_framesKept (s : State) (i : Fin 4) : s.FramesKept (s.freezeBank i) i ∧
    (s.freezeBank i).record.bank i = { s.record.bank i with state := .frozen } := by
  have hbehind : ∀ i : Fin 4, i ∉ [i + 1, i + 2, i + 3] := by decide
  have hresets : (s.freezeBank i).record.resets = s.record.resets := by simp
  obtain ⟨hframes, hother⟩ := goLiveFirst_frames (s.frozen i).record [i + 1, i + 2, i + 3]
  have hbank := fun m => s.frozen_bank i m
  have hrecord : (s.freezeBank i).record = (s.frozen i).record.goLiveFirst [i + 1, i + 2, i + 3] := by
    rw [s.freezeBank_eq, State.setRecord_record]
  have hhere : (s.freezeBank i).record.bank i = { s.record.bank i with state := .frozen } := by
    rw [hrecord, hother i (hbehind i), hbank, if_pos rfl]
  refine ⟨⟨fun m => ?_, by rw [hhere], by rw [hhere], hresets⟩, hhere⟩
  rw [hrecord, hframes, hbank]
  split
  · next h => rw [h]
  · rfl

end State

end Sys2Proof.Machine
end

section
/-! The settling of the rule of the capture period. -/

namespace Sys2Proof.Machine

namespace State
variable {s t u : State} {i : Fin 4}

/-! ### The record of a frame (R124, R127) -/

theorem writeFrame_record (s : State) (i : Fin 4) : (s.writeFrame i).record =
    s.record.setBank i ((s.record.bank i).write (s.frameHead (s.record.bank i).writeIndex ++ [s.frameTail])) := by
  rw [← State.frameWords_eq]
  rfl

theorem writeFrame_eq (s : State) (i : Fin 4) : s.writeFrame i = s.setRecord (s.writeFrame i).record := rfl

theorem writeFrame_bank (s : State) (i : Fin 4) : (s.writeFrame i).record.bank i =
    (s.record.bank i).write (s.frameHead (s.record.bank i).writeIndex ++ [s.frameTail]) := by
  rw [writeFrame_record]
  exact vget_vset_same _ _ _

theorem writeFrame_other (s : State) {i m : Fin 4} (h : m ≠ i) : (s.writeFrame i).record.bank m = s.record.bank m := by
  rw [writeFrame_record]
  exact vget_vset_other _ _ h

theorem recordFrame_none (h : s.record.activeBanks = 0) : s.recordFrame = s := by
  rw [State.recordFrame, RecordUnit.activeBank_of_zero h]

theorem recordFrame_some (h : s.record.activeBanks = 1) (hi : (s.record.bank i).active = true) : s.recordFrame =
    if ((s.writeFrame i).record.bank i).postDone then (s.writeFrame i).freezeBank i else s.writeFrame i := by
  rw [State.recordFrame, RecordUnit.activeBank_of_one h hi]

theorem active_live (h : (s.record.bank i).state = .live) : (s.record.bank i).active = true := by simp [Bank.active, h]

theorem active_post (h : (s.record.bank i).state = .post) : (s.record.bank i).active = true := by simp [Bank.active, h]

theorem recordFrame_live (h : s.record.activeBanks = 1) (hlive : (s.record.bank i).state = .live) : s.recordFrame = s.writeFrame i := by
  rw [recordFrame_some h (active_live hlive), writeFrame_bank]
  exact if_neg (by simp [Bank.postDone, Bank.write, hlive])

theorem recordFrame_post (h : s.record.activeBanks = 1) (hpost : (s.record.bank i).state = .post)
    (hleft : (s.record.bank i).postWritten + 1 < (s.record.bank i).post) : s.recordFrame = s.writeFrame i := by
  rw [recordFrame_some h (active_post hpost), writeFrame_bank]
  exact if_neg (by simp [Bank.postDone, Bank.write, hpost, hleft])

theorem recordFrame_done (h : s.record.activeBanks = 1) (hpost : (s.record.bank i).state = .post)
    (hdone : (s.record.bank i).postWritten + 1 = (s.record.bank i).post) : s.recordFrame = (s.writeFrame i).freezeBank i := by
  rw [recordFrame_some h (active_post hpost), writeFrame_bank]
  exact if_pos (by simp [Bank.postDone, Bank.write, hpost, hdone])

/-- The record of this period's frame stands in `t`. -/
def Captured (s t : State) (i : Fin 4) : Prop := (s.writeFrame i).FramesKept t i

theorem recordFrame_captured (h : s.record.activeBanks = 1) (hi : (s.record.bank i).active = true) : s.Captured s.recordFrame i := by
  rw [recordFrame_some h hi]
  split
  · exact ((s.writeFrame i).freezeBank_framesKept i).1
  · exact .refl _

theorem capturePeriod_captured (h : s.record.activeBanks = 1) (hi : (s.record.bank i).active = true) : s.Captured s.capturePeriod i :=
  (recordFrame_captured h hi).trans (.trans (t := s.recordFrame.setWatch s.recordFrame.watch.takeFlags) (.of_banks (fun _ => rfl) rfl)
    (State.belowConditions_framesKept (s.recordFrame.setWatch s.recordFrame.watch.takeFlags)))

/-- What a period's frame leaves of the banks (R124). -/
theorem Captured.spec (h : s.Captured t i) :
    let b := s.record.bank i
    t.record.frameOf i b.writeIndex = s.frameHead b.writeIndex ++ [s.frameTail] ∧
    (∀ j, j ≠ b.writeIndex → t.record.frameOf i j = s.record.frameOf i j) ∧
    (∀ m, m ≠ i → (t.record.bank m).frames = (s.record.bank m).frames) ∧
    (t.record.bank i).writeIndex = (b.writeIndex + 1) % 2048 ∧
    (t.record.bank i).valid = (if b.valid < 2048 then b.valid + 1 else 2048) := by
  obtain ⟨hhere, hrest⟩ := s.record.frameOf_write i (s.frameHead (s.record.bank i).writeIndex ++ [s.frameTail])
  rw [← writeFrame_record] at hhere hrest
  have hvalid : ((s.writeFrame i).record.bank i).valid = countTo 2048 (s.record.bank i).valid := by rw [writeFrame_bank]; rfl
  refine ⟨(h.frameOf i _).trans hhere, fun j hj => (h.frameOf i j).trans (hrest j hj), fun m hm => ?_, ?_, ?_⟩
  · rw [h.frames, writeFrame_other _ hm]
  · rw [h.index, writeFrame_bank]
    rfl
  · rw [h.valid, hvalid]
    unfold countTo
    split_ifs <;> omega

/-! ### The program and the flags at a period -/

/-- Program, trigger state, id counter, list position and part time are those of `s`. -/
structure ProgramKept (s t : State) : Prop where
  program : t.record.program = s.record.program
  state : t.record.trigState = s.record.trigState
  below : t.record.belowFirst = s.record.belowFirst
  counter : t.record.idCounter = s.record.idCounter
  next : t.record.nextIndex = s.record.nextIndex
  time : t.req.partTime = s.req.partTime

theorem recordFrame_program (s : State) : s.ProgramKept s.recordFrame := by
  have hwrite : ∀ (v : State) i, v.ProgramKept (v.writeFrame i) := fun v i => ⟨rfl, rfl, rfl, rfl, rfl, rfl⟩
  have hfreeze : ∀ (v : State) i, v.ProgramKept (v.freezeBank i) := fun v i => by
    have hreq : ∀ (w : State) (k : Fin 8), (State.completeEntry i (v.record.bank i).generation w k).req = w.req := fun w k => by
      unfold State.completeEntry
      dsimp only
      split <;> rfl
    have hfold := foldl_keeps (fun w : State => w.req) _ hreq allEntries (v.setRecord (v.record.frozen i))
    have htime : (v.frozen i).req.partTime = v.req.partTime := by
      have hraise : ∀ w : State, (w.raiseNotice noticeCapture).req.partTime = w.req.partTime := fun _ => rfl
      rw [State.frozen, hraise]
      exact congrArg RequestUnit.partTime hfold
    have hrecord := v.frozen_record i
    rw [v.freezeBank_eq]
    generalize v.frozen i = w at htime hrecord ⊢
    have hset : ∀ r : RecordUnit, (w.setRecord r).record = r ∧ (w.setRecord r).req = w.req := fun _ => ⟨rfl, rfl⟩
    constructor <;> simp only [hset, RecordUnit.goLiveFirst_frame]
    · rw [hrecord]; rfl
    · rw [hrecord]; rfl
    · rw [hrecord]; rfl
    · rw [hrecord]; rfl
    · rw [hrecord]; rfl
    · exact htime
  unfold State.recordFrame
  split
  · exact ⟨rfl, rfl, rfl, rfl, rfl, rfl⟩
  · next i _ =>
    dsimp only
    split
    · obtain ⟨a1, a2, a3, a4, a5, a6⟩ := hwrite s i
      obtain ⟨b1, b2, b3, b4, b5, b6⟩ := hfreeze (s.writeFrame i) i
      exact ⟨b1.trans a1, b2.trans a2, b3.trans a3, b4.trans a4, b5.trans a5, b6.trans a6⟩
    · exact hwrite s i

/-- The watch after a period: the flags of the channels taken (R85). -/
theorem capturePeriod_flags (s : State) : s.capturePeriod.watch = { s.watch with channels := s.capturePeriod.watch.channels } ∧
    ∀ c, s.capturePeriod.channel c = { s.channel c with heldSeen := false, overloadSeen := false } := by
  have hwatch : s.capturePeriod.watch = s.watch.takeFlags := by
    have h : s.recordFrame.watch = s.watch := by simp
    have hbelow : ∀ v : State, v.belowConditions.watch = v.watch := fun v => by simp
    rw [State.capturePeriod, hbelow, h]
    rfl
  refine ⟨by rw [hwatch]; rfl, fun c => ?_⟩
  rw [State.channel, hwatch]
  exact s.takeFlags_channel c

/-- A period with no program armed is its frame alone. -/
theorem capturePeriod_still (h : s.record.trigState = .disarmed ∨ s.record.program = none) :
    s.capturePeriod = s.recordFrame.setWatch s.recordFrame.watch.takeFlags := by
  obtain ⟨hprogram, hstate, -⟩ := s.recordFrame_program
  rw [State.capturePeriod, belowConditions_still]
  show s.recordFrame.record.trigState = _ ∨ s.recordFrame.record.program = _
  rw [hprogram, hstate]
  exact h

end State

end Sys2Proof.Machine
end

section
/-! The settling of the rule of the capture period (R85, R123 to R127, R129, R131, R133, R184). -/

namespace Sys2Proof.Machine

theorem countTo_2048 (n : Nat) : countTo 2048 n = if n < 2048 then n + 1 else 2048 := by
  unfold countTo
  split_ifs <;> omega

theorem Bank.write_live {b : Bank} (h : b.state = .live) (ws : List Word) : b.write ws = { b with
    frames := (b.write ws).frames, writeIndex := (b.writeIndex + 1) % 2048
    valid := if b.valid < 2048 then b.valid + 1 else 2048 } := by
  rw [← countTo_2048]
  simp [Bank.write, h]

theorem Bank.write_post {b : Bank} (h : b.state = .post) (ws : List Word) : b.write ws = { b with
    frames := (b.write ws).frames, writeIndex := (b.writeIndex + 1) % 2048
    valid := if b.valid < 2048 then b.valid + 1 else 2048, postWritten := b.postWritten + 1 } := by
  rw [← countTo_2048]
  simp [Bank.write, h]

theorem activeBanks_congr {r r' : RecordUnit} (h : ∀ m, (r'.bank m).active = (r.bank m).active) : r'.activeBanks = r.activeBanks := by
  unfold RecordUnit.activeBanks
  simp only [h]

theorem activeBank_congr {r r' : RecordUnit} (h : ∀ m, (r'.bank m).active = (r.bank m).active) : r'.activeBank = r.activeBank := by
  unfold RecordUnit.activeBank
  simp only [h]

namespace State
variable {s : State} {i : Fin 4}

theorem writeFrame_active (s : State) (i m : Fin 4) : ((s.writeFrame i).record.bank m).active = (s.record.bank m).active := by
  by_cases hm : m = i
  · subst hm
    rw [writeFrame_bank]
    rfl
  · rw [writeFrame_other _ hm]

/-- A period at whose frame nothing else happens. -/
theorem capturePeriod_frame_only (hstill : s.record.trigState = .disarmed ∨ s.record.program = none)
    (h : s.recordFrame = s.writeFrame i) : s.capturePeriod = { s with
      watch := s.watch.takeFlags, record := (s.writeFrame i).record } := by
  have hset : ∀ v : State, (s.setRecord v.record).setWatch (s.setRecord v.record).watch.takeFlags =
      { s with watch := s.watch.takeFlags, record := v.record } := fun _ => rfl
  rw [capturePeriod_still hstill, h, writeFrame_eq]
  exact hset _

/-- The freeze of a bank at the last of its post frames (R127). -/
theorem frozen_spec (s : State) (i : Fin 4) :
    let t := (s.writeFrame i).freezeBank i
    (∀ k : Fin 8, (s.record.listEntry k).state ≠ .empty → (s.record.listEntry k).ref.status = .pending →
      (s.record.listEntry k).ref.bank = some i → (s.record.listEntry k).ref.generation = (s.record.bank i).generation →
      (t.record.listEntry k).ref.status = .complete ∧
      t.mem.readWord (captureStatusAddr k) = natWord CaptureStatus.complete.code) ∧
    (∀ o : Record, s.record.openRecord = some o → o.ref.status = .pending → o.ref.bank = some i →
      o.ref.generation = (s.record.bank i).generation →
      t.record.openRecord = some { o with ref := { o.ref with status := .complete } }) ∧
    t.req.notice.getLsbD noticeCapture = true := by
  obtain ⟨hopen, hnotice, -, hentries, -⟩ := (s.writeFrame i).frozen_eqs i
  have hgen : ((s.writeFrame i).record.bank i).generation = (s.record.bank i).generation := by
    rw [writeFrame_bank]
    rfl
  rw [hgen] at hopen hentries
  have hkept : (s.writeFrame i).record.openRecord = s.record.openRecord ∧
      ∀ k, (s.writeFrame i).record.listEntry k = s.record.listEntry k := ⟨rfl, fun _ => rfl⟩
  rw [hkept.1] at hopen
  have hset : ((s.writeFrame i).freezeBank i).req = ((s.writeFrame i).frozen i).req ∧
      ((s.writeFrame i).freezeBank i).mem = ((s.writeFrame i).frozen i).mem ∧
      ((s.writeFrame i).freezeBank i).record.openRecord = ((s.writeFrame i).frozen i).record.openRecord ∧
      ∀ k, ((s.writeFrame i).freezeBank i).record.listEntry k = ((s.writeFrame i).frozen i).record.listEntry k := by
    rw [State.freezeBank_eq]
    generalize (s.writeFrame i).frozen i = v
    exact ⟨rfl, rfl, by simp, fun k => by rw [RecordUnit.listEntry, State.setRecord_record]; simp [RecordUnit.listEntry]⟩
  obtain ⟨hreq, hmem, hrec, hlist⟩ := hset
  dsimp only
  rw [hreq, hmem, hrec]
  refine ⟨fun k hheld hpending hbank hgeneration => ?_, fun o ho hpending hbank hgeneration => ?_, hnotice⟩
  · rw [hlist]
    refine hentries k ?_
    rw [State.entryAwaits, hkept.2]
    simp [ListEntry.held, CaptureRef.awaits, hheld, hpending, hbank, hgeneration]
  · rw [hopen, ho]
    simp [CaptureRef.completeFor, CaptureRef.awaits, hpending, hbank, hgeneration]

end State

/-- Settles O59. -/
theorem capturePeriodAndFreeze : Obligations.CapturePeriodAndFreeze := by
  refine ⟨fun s => ?_, fun s p x hp hfirst hstate hbanks => ?_⟩
  · intro still flags
    have hflags : flags s.capturePeriod := s.capturePeriod_flags
    refine ⟨fun hstill hz => ⟨s.capturePeriod, rfl, hflags, ?_⟩, fun i => ?_⟩
    · have hset : ∀ w, s.setWatch w = { s with watch := w } := fun _ => rfl
      rw [State.capturePeriod_still hstill, State.recordFrame_none hz, hset]
    · intro b level limit first written valid
      have hwritten : s.record.activeBanks = 1 → b.active = true → written s.capturePeriod ∧
          (s.capturePeriod.record.bank i).writeIndex = (b.writeIndex + 1) % 2048 ∧ (s.capturePeriod.record.bank i).valid = valid ∧
          (∀ j, j ≠ b.writeIndex → s.capturePeriod.record.frameOf i j = s.record.frameOf i j) ∧
          ∀ m, m ≠ i → (s.capturePeriod.record.bank m).frames = (s.record.bank m).frames := fun h hi => by
        obtain ⟨hhere, hrest, hothers, hindex, hvalid⟩ := (State.capturePeriod_captured h hi).spec
        exact ⟨⟨s.frameTail, hhere, s.frameTail_bits⟩, hindex, hvalid, hrest, hothers⟩
      refine ⟨fun hactive h => ?_, fun hstill hlive h => ?_, fun hstill hpost h hleft => ?_, fun hstill hpost h hdone => ?_⟩
      · obtain ⟨h1, h2, h3, h4, h5⟩ := hwritten h (by rcases hactive with h | h <;> simp [Bank.active, h])
        exact ⟨s.capturePeriod, rfl, hflags, h1, h2, h3, h4, h5, by simp, by simp, by simp, by simp, by simp, by simp⟩
      · obtain ⟨h1, -, -, h4, -⟩ := hwritten h (State.active_live hlive)
        have honly := State.capturePeriod_frame_only hstill (State.recordFrame_live h hlive)
        refine ⟨s.capturePeriod, rfl, hflags, by rw [honly]; rfl, fun j hj => ?_, ?_, h1, h4⟩
        · rw [honly]
          exact s.writeFrame_other hj
        · rw [honly]
          exact (s.writeFrame_bank i).trans ((Bank.write_live hlive _).trans (by rw [← s.writeFrame_bank i]))
      · obtain ⟨h1, -, -, -, -⟩ := hwritten h (State.active_post hpost)
        have honly := State.capturePeriod_frame_only hstill (State.recordFrame_post h hpost hleft)
        have hnot : s.freezeReached = false := by
          rw [State.freezeReached, RecordUnit.activeBank_of_one h (State.active_post hpost)]
          simp [b, hleft]
        refine ⟨s.capturePeriod, rfl, hflags, by rw [honly]; rfl, fun j hj => ?_, ?_, h1, congrArg Host.Outcome.next (if_neg (by simp [hnot]))⟩
        · rw [honly]
          exact s.writeFrame_other hj
        · rw [honly]
          exact (s.writeFrame_bank i).trans ((Bank.write_post hpost _).trans (by rw [← s.writeFrame_bank i]))
      · obtain ⟨h1, -, hvalid, -, -⟩ := hwritten h (State.active_post hpost)
        have hreached : s.freezeReached = true := by
          rw [State.freezeReached, RecordUnit.activeBank_of_one h (State.active_post hpost)]
          simp [b, hpost, hdone]
        have hperiod : s.capturePeriod = ((s.writeFrame i).freezeBank i).setWatch ((s.writeFrame i).freezeBank i).watch.takeFlags := by
          rw [State.capturePeriod_still hstill, State.recordFrame_done h hpost hdone]
        obtain ⟨hentries, hopen, hnotice⟩ := s.frozen_spec i
        have hhere := ((s.writeFrame i).freezeBank_framesKept i).2
        rw [s.writeFrame_bank, Bank.write_post hpost] at hhere
        have hset : ∀ (v : State) w, (v.setWatch w).record = v.record ∧ (v.setWatch w).req = v.req ∧ (v.setWatch w).mem = v.mem :=
          fun _ _ => ⟨rfl, rfl, rfl⟩
        intro frozen
        have hfrozen : frozen s.capturePeriod := by
          refine ⟨congrArg Host.Outcome.next (if_pos hreached), rfl, hflags, h1, ?_⟩
          have hunits : ((s.writeFrame i).freezeBank i).seq = s.seq ∧ ((s.writeFrame i).freezeBank i).gov = s.gov ∧
              ((s.writeFrame i).freezeBank i).faults = s.faults ∧ ((s.writeFrame i).freezeBank i).store = s.store := by simp
          rw [hperiod] at hvalid ⊢
          generalize (s.writeFrame i).freezeBank i = v at *
          rw [(hset _ _).1, (hset _ _).2.1, (hset _ _).2.2]
          rw [(hset _ _).1] at hvalid
          refine ⟨by rw [hhere], ?_, hvalid, by rw [hhere], by rw [hhere], hentries, hopen, hnotice, hunits⟩
          rw [hhere]
          exact hdone
        have hbehind : ∀ m, m ≠ i → (s.writeFrame i).record.bank m = s.record.bank m := fun m hm => s.writeFrame_other hm
        refine ⟨fun j hji hfree hnext => ⟨s.capturePeriod, hfrozen, ?_⟩, fun hnone => ⟨s.capturePeriod, hfrozen, ?_⟩⟩
        · have hnext' := State.freezeBank_next (s := s.writeFrame i) hji (by rw [hbehind j hji]; exact hfree)
            (fun m hm hlt => by rw [hbehind m hm]; exact hnext m hm hlt)
          obtain ⟨-, -, hsettings, -, -⟩ := (s.writeFrame i).frozen_eqs i
          have hbank := fun m => (s.writeFrame i).frozen_bank i m
          rw [hperiod, hnext', (hset _ _).1, State.setRecord_record]
          generalize (s.writeFrame i).frozen i = v at hsettings hbank
          refine ⟨fun m hm hmj => ?_, ?_⟩
          · rw [State.goLive_bank, if_neg hmj, hbank, if_neg hm, hbehind m hm]
          · rw [State.goLive_bank, if_pos rfl, hbank, if_neg hji, hbehind j hji, RecordUnit.preCount, hsettings]
            rfl
        · have hlast := State.freezeBank_last (s := s.writeFrame i) (i := i) (fun m hm => by rw [hbehind m hm]; exact hnone m)
          have hbank := fun m => (s.writeFrame i).frozen_bank i m
          have hlaw : (s.writeFrame i).bankLaw := by
            rw [State.bankLaw, activeBanks_congr (s.writeFrame_active i), h]
          have hidle := State.frozen_inactive hlaw ((s.writeFrame_active i i).trans (State.active_post hpost))
          rw [hperiod, hlast, (hset _ _).1]
          generalize (s.writeFrame i).frozen i = v at hidle hbank
          refine ⟨fun m hm => by rw [hbank, if_neg hm, hbehind m hm], ?_⟩
          unfold RecordUnit.activeBanks
          simp [hidle]
  · have hkept := s.recordFrame_program
    set u := s.recordFrame.setWatch s.recordFrame.watch.takeFlags with hu
    have hmeas : u.meas = s.meas := by simp [hu]
    have hprogram : u.record.program = some p := hkept.program.trans hp
    have hwait : u.record.trigState = .waitFirst := hkept.state.trans hstate
    have hbelow : u.record.belowFirst = s.record.belowFirst := hkept.below
    have htime : u.req.partTime = s.req.partTime := hkept.time
    have hperiod : s.capturePeriod = u.belowConditions := rfl
    have hquiet := State.belowConditions_quiet hprogram hfirst hwait
    have htaken := State.belowConditions_taken hprogram hfirst hwait
    rw [← hperiod, hmeas, hbelow] at hquiet htaken
    set v := u.setRecord { u.record with belowFirst := true, belowSecond := false } with hv
    have hvprogram : v.record.program = some p := hprogram
    have hvwait : v.record.trigState = .waitFirst := hwait
    refine ⟨fun hx => ⟨s.capturePeriod, rfl, ?_⟩, fun hx hb => ⟨s.capturePeriod, rfl, ?_⟩, fun hx hb hsecond => ⟨s.capturePeriod, rfl, ?_⟩,
      fun hx hb hsecond hid hempty => ?_⟩
    · rw [hquiet (.inl hx)]
      exact ⟨decide_eq_false (Int.not_lt.mpr hx), hwait⟩
    · rw [hquiet (.inr hb)]
      exact ⟨decide_eq_true hx, hwait⟩
    · rw [htaken hx hb (.inr hsecond), State.takeCond_window none hvprogram hvwait rfl (by simp [hsecond])]
      refine ⟨rfl, rfl, rfl, ?_⟩
      show u.req.partTime + _ = _
      rw [htime]
    · have hfire := htaken hx hb (.inl hsecond)
      rw [State.takeCond_fires (p := p) none hvprogram (.inl ⟨hvwait, rfl, hsecond⟩)] at hfire
      intro posted
      have hid' : v.record.idCounter = s.record.idCounter := hkept.counter
      have hnext : v.record.nextIndex = s.record.nextIndex := hkept.next
      have hposted : s.recordFrame.record.entries = s.record.entries → posted s.capturePeriod v.record.reference ∧
          s.capturePeriod.record.banks = (v.record.trigger (some s.record.idCounter)).banks := fun hentries => by
        have hlist : v.record.listEntry v.record.nextIndex = s.record.listEntry s.record.nextIndex := by
          rw [hnext, RecordUnit.listEntry, RecordUnit.listEntry, ← hentries]
          rfl
        obtain ⟨hrecord, -, hreq⟩ := State.fire_filled (s := v) p none (by rw [hid']; exact hid) (by rw [hlist]; exact hempty)
        rw [← hfire, hid', hnext] at hrecord
        rw [← hfire] at hreq
        have hunit : s.capturePeriod.record.belowFirst = v.record.belowFirst ∧ s.capturePeriod.record.trigState = p.after ∧
            s.capturePeriod.record.idCounter = s.record.idCounter + 1 ∧
            s.capturePeriod.record.banks = (v.record.trigger (some s.record.idCounter)).banks := by
          rw [hrecord]
          exact ⟨rfl, rfl, rfl, rfl⟩
        obtain ⟨hflag, hafter, hcounter, hbanks'⟩ := hunit
        refine ⟨⟨rfl, hflag, hafter, hcounter, ?_, ?_, by simp, by simp⟩, hbanks'⟩
        · rw [hrecord]
          exact vget_vset_same _ _ _
        · rw [hreq]
          exact raised_notice _ (by decide)
      refine ⟨fun hz => ⟨s.capturePeriod, ?_⟩, fun i => ?_⟩
      · have hnone := State.recordFrame_none hz
        have hbank : v.record.banks = s.record.banks := (show v.record.banks = s.recordFrame.record.banks from rfl).trans (by rw [hnone])
        have hidle : v.record.activeBank = none := by
          have hsame : v.record.activeBank = s.record.activeBank := activeBank_congr fun m => by
            rw [RecordUnit.bank, hbank]
            rfl
          rw [hsame, RecordUnit.activeBank_of_zero hz]
        obtain ⟨h1, h2⟩ := hposted (by rw [hnone])
        rw [RecordUnit.reference, hidle] at h1
        rw [RecordUnit.trigger, hidle] at h2
        exact ⟨h1, h2.trans hbank⟩
      · intro b index valid hlive h
        have honly := State.recordFrame_live h hlive
        have hbank : ∀ m, v.record.bank m = (s.writeFrame i).record.bank m := fun m =>
          (show v.record.bank m = s.recordFrame.record.bank m from rfl).trans (by rw [honly])
        have hactive : v.record.activeBank = some i := by
          have hsame : v.record.activeBank = s.record.activeBank := activeBank_congr fun m => by
            rw [hbank, s.writeFrame_active]
          rw [hsame, RecordUnit.activeBank_of_one h (State.active_live hlive)]
        have hhere := (hbank i).trans ((s.writeFrame_bank i).trans (Bank.write_live hlive _))
        obtain ⟨h1, h2⟩ := hposted (by rw [honly]; rfl)
        have hstate : (v.record.bank i).state = .live := by rw [hhere]; exact hlive
        refine ⟨s.capturePeriod, ?_, ?_⟩
        · rw [RecordUnit.reference, hactive] at h1
          dsimp only at h1
          rw [Bank.reference, if_pos hstate, hhere] at h1
          exact h1
        · have hafter : s.capturePeriod.record.bank i = (v.record.bank i).trigger (some s.record.idCounter) := by
            rw [RecordUnit.bank, h2, RecordUnit.trigger, hactive]
            exact vget_vset_same _ _ _
          rw [hafter, Bank.trigger, if_pos hstate, hhere]

end Sys2Proof.Machine
end

section
/-! What the record unit writes leaves the answers of requests and the words beside the record list (R139, R140, R142, R167). -/

namespace Sys2Proof.Machine

/-- Of the memory the record list alone, and of the request unit the notices alone have changed, of which none has fallen. -/
structure State.Aside (s t : State) : Prop where
  mem : ∀ a, a < 0x1000 ∨ 0x1820 ≤ a → t.mem.read a = s.mem.read a
  req : t.req = { s.req with notice := t.req.notice }
  notice : ∀ i, s.req.notice.getLsbD i = true → t.req.notice.getLsbD i = true

namespace State
variable {s t u : State}

theorem Aside.trans (h : s.Aside t) (h' : t.Aside u) : s.Aside u := by
  refine ⟨fun a ha => (h'.mem a ha).trans (h.mem a ha), ?_, fun i hi => h'.notice i (h.notice i hi)⟩
  have hreq := h'.req
  rw [h.req] at hreq
  exact hreq

theorem Aside.of_same (hmem : t.mem = s.mem) (hreq : t.req = s.req) : s.Aside t :=
  ⟨fun _ _ => by rw [hmem], by rw [hreq], fun _ hi => by rw [hreq]; exact hi⟩

theorem Aside.refl (s : State) : s.Aside s := .of_same rfl rfl

theorem raiseNotice_aside (s : State) (i : Nat) : s.Aside (s.raiseNotice i) := by
  refine ⟨fun _ _ => rfl, rfl, fun j hj => ?_⟩
  show (s.req.notice ||| noticeBit i).getLsbD j = true
  rw [BitVec.getLsbD_or, hj, Bool.true_or]

theorem fall_aside (s : State) (k : FaultKind) (src : Source) : s.Aside (s.fall k src) := by
  unfold State.fall
  split
  · exact .of_same rfl rfl
  · exact .refl s

theorem alarmRise_aside (s : State) (k : FaultKind) (src : Source) (d : Option Nat) : s.Aside (s.alarmRise k src d) := by
  unfold State.alarmRise
  split
  · exact .refl s
  · exact .trans (t := s.setEntry k { (s.faults.entry k).rise src s.req.partTime d with seen := true }) (.of_same rfl rfl)
      (raiseNotice_aside _ _)

theorem latchRise_aside (s : State) (k : FaultKind) (src : Source) (d : Option Nat) : s.Aside (s.latchRise k src d) := by
  unfold State.latchRise
  split
  · exact .refl s
  · exact .of_same rfl rfl

/-- Words written within the record list. -/
theorem Aside.of_list (hmem : ∀ a, a < 0x1000 ∨ 0x1820 ≤ a → t.mem.read a = s.mem.read a) (hreq : t.req = s.req) : s.Aside t :=
  ⟨hmem, by rw [hreq], fun _ hi => by rw [hreq]; exact hi⟩

theorem setRecord_aside (s : State) (r : RecordUnit) : s.Aside (s.setRecord r) := .of_same rfl rfl

theorem setWatch_aside (s : State) (w : Watch) : s.Aside (s.setWatch w) := .of_same rfl rfl

theorem setSeq_aside (s : State) (q : Sequencer) : s.Aside (s.setSeq q) := .of_same rfl rfl

theorem setGov_aside (s : State) (g : Governor) : s.Aside (s.setGov g) := .of_same rfl rfl

theorem setLevel_aside (s : State) (l : LevelWatch) : s.Aside (s.setLevel l) := .of_same rfl rfl

theorem setFaults_aside (s : State) (f : FaultUnit) : s.Aside (s.setFaults f) := .of_same rfl rfl

theorem gatesOff_aside (s : State) : s.Aside s.gatesOff := .of_same rfl rfl

/-- An image and its entry word lie within the record list. -/
theorem listed_aside (s : State) (n : Fin 8) (ws : List Word) (h : ws.length = 128) :
    s.Aside ((s.writeWords (imageAddr n) ws).writeWord (entryAddr n) 1) := by
  refine .of_list (fun a ha => ?_) rfl
  show ((s.mem.writeWords (imageAddr n) ws).writeWords (entryAddr n) [1]).read a = s.mem.read a
  rw [Memory.read_writeWords_outside _ _ _ _ (by simp only [entryAddr, List.length_singleton]; omega),
    Memory.read_writeWords_outside _ _ _ _ (by simp only [imageAddr, entryAddr, h]; omega)]

theorem postRecord_aside (s : State) (o : Record) : s.Aside (s.postRecord o) := by
  unfold State.postRecord
  dsimp only
  split
  · exact .of_same rfl rfl
  · exact ((s.listed_aside _ _ o.words_length).trans (State.setRecord_aside _ _)).trans (State.raiseNotice_aside _ _)

theorem noteStoreEnd_aside (s : State) (id : Nat) (st : StoreStatus) : s.Aside (s.noteStoreEnd id st) := by
  have hstep : ∀ (u : State) k, u.Aside (u.noteStoreEntry id st k) := fun u k => by
    unfold State.noteStoreEntry
    split
    · refine .of_list (fun a ha => ?_) rfl
      show (u.mem.writeWords (storeStatusAddr k) [natWord st.code]).read a = u.mem.read a
      exact Memory.read_writeWords_outside _ _ _ _
        (by simp only [storeStatusAddr, imageAddr, entryAddr, List.length_singleton]; omega)
    · exact .refl u
  exact foldl_holds (fun u => s.Aside u) _ (fun u k hu => hu.trans (hstep u k)) allEntries s (.refl s)

theorem alarmPulse_aside (s : State) (k : FaultKind) (src : Source) (d : Option Nat) : s.Aside (s.alarmPulse k src d) :=
  (s.alarmRise_aside k src d).trans (State.fall_aside _ _ _)

theorem countDropped_aside (s : State) : s.Aside s.countDropped :=
  .trans (t := s.setStore { s.store with dropped := countTo 65535 s.store.dropped }) (.of_same rfl rfl) (State.alarmPulse_aside _ _ _ _)

theorem handOver_aside (s : State) (o : Record) : s.Aside (s.handOver o) := by
  unfold State.handOver
  split
  · exact .of_same rfl rfl
  · exact s.countDropped_aside.trans (raiseNotice_aside _ _)
  · exact .refl s

theorem closeRecord_aside (s : State) : s.Aside s.closeRecord := by
  unfold State.closeRecord
  split
  · next o ho =>
    exact (((s.postRecord_aside o).trans (State.handOver_aside _ o)).trans (State.noteStoreEnd_aside _ _ _)).trans (State.setRecord_aside _ _)
  · exact .refl s

theorem closeIfZero_aside (s : State) : s.Aside s.closeIfZero := by
  unfold State.closeIfZero
  split
  · exact .trans (t := s.setFaults { s.faults with windowOpen := false }) (.of_same rfl rfl) (State.closeRecord_aside _)
  · exact .refl s

theorem fire_aside (s : State) (p : Program) (d : Option Nat) : s.Aside (s.fire p d) := by
  rcases Nat.lt_or_ge s.record.idCounter 0xFFFFFFFF with h | h
  · rw [State.fire_ids p d h]
    exact ((State.setRecord_aside _ _).trans (State.postRecord_aside _ _)).trans (State.setRecord_aside _ _)
  · rw [State.fire_noIds p d h]
    exact .of_same rfl rfl

theorem takeCond_aside (s : State) (c : TrigCond) (d : Option Nat) : s.Aside (s.takeCond c d) := by
  unfold State.takeCond
  split
  · split
    · split
      · exact s.fire_aside _ d
      · exact .of_same rfl rfl
    · exact .refl s
  · split
    · exact s.fire_aside _ d
    · exact .refl s
  · exact .refl s

/-! ### Entries, causes and the departure -/

theorem formSingle_aside (s : State) : s.Aside s.formSingle := by
  have hite : ∀ (b : Bool) {u v w : State}, u.Aside v → u.Aside w → u.Aside (if b then v else w) :=
    fun b _ _ _ hv hw => by cases b <;> assumption
  have h1 := hite (s.onlyLost .a) (.refl s) (s.fall_aside .encoderSingle .first)
  have h2 := hite (s.onlyLost .b) h1 (h1.trans (State.fall_aside _ .encoderSingle .second))
  have h3 := hite (s.onlyLost .a) (h2.trans (State.alarmRise_aside _ .encoderSingle .first (some 0))) h2
  exact hite (s.onlyLost .b) (h3.trans (State.alarmRise_aside _ .encoderSingle .second (some 1))) h3

theorem levelAtRest_aside (s : State) : s.Aside s.levelAtRest :=
  ((((s.setLevel_aside _).trans (State.fall_aside _ _ _)).trans (State.fall_aside _ _ _)).trans (State.fall_aside _ _ _)).trans
    (State.fall_aside _ _ _)

theorem encodersAtRest_aside (s : State) : s.Aside s.encodersAtRest := s.formSingle_aside.trans (State.fall_aside _ _ _)

theorem restEntry_aside (s : State) : s.Aside s.restEntry :=
  ((s.setGov_aside _).trans (State.levelAtRest_aside _)).trans (State.encodersAtRest_aside _)

theorem backrollOff_aside (s : State) : s.Aside s.backrollOff := (s.setSeq_aside _).trans (State.fall_aside _ _ _)

theorem enterStopped_aside (hr : s.seq.restartPending = false) : s.Aside s.enterStopped := by
  rw [State.enterStopped, State.pendingRestart_calm _ (by simp [hr])]
  exact (s.gatesOff_aside.trans (State.setSeq_aside _ _)).trans (State.restEntry_aside _)

theorem enterTripped_aside (hr : s.seq.restartPending = false) : s.Aside s.enterTripped := by
  rw [State.enterTripped, State.pendingRestart_calm _ (by simp [Sequencer.tripped, hr])]
  exact ((s.gatesOff_aside.trans (State.setSeq_aside _ _)).trans (State.backrollOff_aside _)).trans (State.restEntry_aside _)

theorem openTrip_aside (s : State) (k : FaultKind) (d : Option Nat) : s.Aside (s.openTrip k d) := by
  unfold State.openTrip
  split <;> exact .of_same rfl rfl

theorem firstCause_aside (k : FaultKind) (d : Option Nat) (hr : s.seq.restartPending = false) : s.Aside (s.firstCause k d) :=
  (((s.setFaults_aside _).trans (State.openTrip_aside _ k d)).trans (State.setFaults_aside _ _)).trans
    (State.enterTripped_aside (by simpa using hr))

theorem followOnCause_aside (s : State) (k : FaultKind) (d : Option Nat) (n : Nat) : s.Aside (s.followOnCause k d n) := by
  unfold State.followOnCause
  split
  · exact .of_same rfl rfl
  · exact .refl s

theorem tripCause_aside (k : FaultKind) (d : Option Nat) (hr : s.seq.restartPending = false) : s.Aside (s.tripCause k d) := by
  unfold State.tripCause
  split
  · exact .refl s
  · split
    · exact s.followOnCause_aside _ _ _
    · exact (State.firstCause_aside k d hr).trans (State.closeIfZero_aside _)

theorem tripRise_aside (k : FaultKind) (src : Source) (hr : s.seq.restartPending = false) : s.Aside (s.tripRise k src) := by
  unfold State.tripRise
  split
  · exact .refl s
  · exact (s.latchRise_aside k src none).trans (State.tripCause_aside k none (by simpa using hr))

theorem takeLatched_aside (k : FaultKind) (hr : s.seq.restartPending = false) : s.Aside (s.takeLatched k) := by
  unfold State.takeLatched
  dsimp only
  split
  · exact s.followOnCause_aside _ _ _
  · exact State.firstCause_aside _ _ hr

theorem departureTest_aside (hr : s.seq.restartPending = false) : s.Aside s.departureTest := by
  have hstopped : s.enterStopped.seq.restartPending = false := by simp [hr]
  have hfold : ∀ (l : List FaultKind) (v : State), v.seq.restartPending = false → v.Aside (l.foldl State.takeLatched v) := fun l => by
    induction l with
    | nil => exact fun v _ => .refl v
    | cons k l ih => exact fun v hv => (State.takeLatched_aside k hv).trans (ih _ (v.takeLatched_calm k hv).1)
  unfold State.departureTest
  split
  · split
    · exact State.enterStopped_aside hr
    · exact ((State.enterStopped_aside hr).trans (hfold _ _ hstopped)).trans (State.closeIfZero_aside _)
  · exact .refl s

end State

/-- A completed request stays answered where only the record list is written (R166, R167). -/
theorem State.Completed.of_aside {s t : State} {k : Fin 8} {st : SlotState} {rc : ResultCode} {ws : List Word}
    (h : State.Completed s k st rc ws) (h' : s.Aside t) : State.Completed t k st rc ws := by
  have hrange := slotAddr_range k
  refine ⟨?_, ?_, ?_, ?_, h'.notice _ h.notice⟩
  · rw [State.slot, h'.req]
    exact h.slot
  · rw [Memory.readWord_of_read fun x _ hx => h'.mem x (by omega)]
    exact h.stateWord
  · rw [Memory.readWord_of_read fun x _ hx => h'.mem x (by omega)]
    exact h.codeWord
  · rw [Memory.readWords_of_read fun x _ hx => h'.mem x (by omega)]
    exact h.resultWords

end Sys2Proof.Machine
end

section
/-! The departure from UNCONFIGURED (R20, R107): to STOPPED, or with trip kinds latched to TRIPPED. -/

namespace Sys2Proof.Machine

/-- The latched flags, and of the trip kinds the rise time and the detail of the last rise, have not changed. -/
structure State.RisesKept (s t : State) : Prop where
  latched : ∀ j, (t.faults.entry j).latched = (s.faults.entry j).latched
  rise : ∀ j ∈ FaultKind.tripKinds, (t.faults.entry j).riseTime = (s.faults.entry j).riseTime ∧
    (t.faults.entry j).detail = (s.faults.entry j).detail

namespace State
variable {s t u : State}

theorem RisesKept.of_faults (h : t.faults.entries = s.faults.entries) : s.RisesKept t :=
  ⟨fun _ => by rw [FaultUnit.entry, h]; rfl, fun _ _ => by rw [FaultUnit.entry, h]; exact ⟨rfl, rfl⟩⟩

theorem RisesKept.trans (h : s.RisesKept t) (h' : t.RisesKept u) : s.RisesKept u :=
  ⟨fun j => (h'.latched j).trans (h.latched j),
    fun j hj => ⟨(h'.rise j hj).1.trans (h.rise j hj).1, (h'.rise j hj).2.trans (h.rise j hj).2⟩⟩

theorem fall_risesKept (s : State) (k : FaultKind) (src : Source) : s.RisesKept (s.fall k src) := by
  refine ⟨fun j => s.fall_latched_entry k j src, fun j _ => ?_⟩
  by_cases hj : j = k
  · subst hj
    unfold State.fall
    split
    · rw [State.setEntry, State.setFaults_faults, FaultUnit.entry_setEntry_same]
      cases src <;> exact ⟨rfl, rfl⟩
    · exact ⟨rfl, rfl⟩
  · rw [s.fall_other src hj]
    exact ⟨rfl, rfl⟩

theorem alarmRise_risesKept (s : State) (k : FaultKind) (src : Source) (d : Option Nat) (h : k ∉ FaultKind.tripKinds) :
    s.RisesKept (s.alarmRise k src d) := by
  refine ⟨fun j => s.alarmRise_latched k src d j.num, fun j hj => ?_⟩
  have hne : j ≠ k := fun hjk => h (hjk ▸ hj)
  rw [s.alarmRise_other src d hne]
  exact ⟨rfl, rfl⟩

theorem alarmLevel_risesKept (s : State) (k : FaultKind) (src : Source) (d : Option Nat) (now : Bool) (h : k ∉ FaultKind.tripKinds) :
    s.RisesKept (s.alarmLevel k src d now) := by
  unfold State.alarmLevel
  split
  · exact s.alarmRise_risesKept k src d h
  · exact s.fall_risesKept k src

theorem formSingle_risesKept (s : State) : s.RisesKept s.formSingle := by
  have hite : ∀ (b : Bool) {u v w : State}, u.RisesKept v → u.RisesKept w → u.RisesKept (if b then v else w) :=
    fun b _ _ _ hv hw => by cases b <;> assumption
  have hrise : ∀ (v : State) src d, v.RisesKept (v.alarmRise .encoderSingle src d) :=
    fun v src d => v.alarmRise_risesKept _ src d (by decide)
  have h1 := hite (s.onlyLost .a) (u := s) (.of_faults rfl) (s.fall_risesKept .encoderSingle .first)
  have h2 := hite (s.onlyLost .b) h1 (h1.trans (State.fall_risesKept _ .encoderSingle .second))
  have h3 := hite (s.onlyLost .a) (h2.trans (hrise _ .first (some 0))) h2
  exact hite (s.onlyLost .b) (h3.trans (hrise _ .second (some 1))) h3

theorem restEntry_risesKept (s : State) : s.RisesKept s.restEntry := by
  have hlevel : ∀ v : State, v.RisesKept v.levelAtRest := fun v =>
    .trans (t := v.setLevel { v.level with counts := ⟨.zero, .zero⟩ }) (.of_faults rfl)
      ((((State.fall_risesKept _ _ _).trans (State.fall_risesKept _ _ _)).trans (State.fall_risesKept _ _ _)).trans
        (State.fall_risesKept _ _ _))
  have hgov : s.RisesKept (s.setGov s.gov.zeroed) := .of_faults rfl
  exact (hgov.trans (hlevel _)).trans ((State.formSingle_risesKept _).trans (State.fall_risesKept _ _ _))

theorem enterStopped_risesKept (hr : s.seq.restartPending = false) : s.RisesKept s.enterStopped := by
  rw [State.enterStopped, State.pendingRestart_calm _ (by simp [hr])]
  have hgates : s.RisesKept (s.gatesOff.setDriveState .stopped) := .of_faults rfl
  exact hgates.trans (State.restEntry_risesKept _)

theorem enterTripped_risesKept (hr : s.seq.restartPending = false) : s.RisesKept s.enterTripped := by
  rw [State.enterTripped, State.pendingRestart_calm _ (by simp [Sequencer.tripped, hr])]
  have hgates : s.RisesKept (s.gatesOff.setSeq { s.gatesOff.seq.tripped with drive := .tripped }) := .of_faults rfl
  have hback : ∀ v : State, v.RisesKept v.backrollOff := fun v =>
    .trans (t := v.setSeq { v.seq with backroll := false }) (.of_faults rfl) (State.fall_risesKept _ _ _)
  exact (hgates.trans (hback _)).trans (State.restEntry_risesKept _)

theorem firstCause_risesKept (k : FaultKind) (d : Option Nat) (hr : s.seq.restartPending = false) :
    s.RisesKept (s.firstCause k d) := by
  have hopen : s.RisesKept ((s.setFaults { s.faults with lock := true }).openTrip k d).openWindow :=
    .of_faults (by rw [State.openTrip_setFaults]; simp [State.openWindow])
  exact hopen.trans (State.enterTripped_risesKept (by simpa using hr))

/-! ### To STOPPED (R20) -/

theorem enterStopped_windowKept (hr : s.seq.restartPending = false) : s.WindowKept s.enterStopped := by
  rw [State.enterStopped, State.pendingRestart_calm _ (by simp [hr])]
  have hgates : s.WindowKept (s.gatesOff.setDriveState .stopped) := rfl
  exact hgates.trans (State.restEntry_windowKept _)

theorem departureTest_none (h : ¬(s.seq.drive = .unconfigured ∧ s.configured = true)) : s.departureTest = s :=
  if_neg (by simpa using h)

/-- The departure with a trip kind latched or none. -/
theorem departureTest_departs (hd : s.seq.drive = .unconfigured) (hc : s.configured = true) : s.departureTest =
    if s.faults.latchedKinds.isEmpty then s.enterStopped
    else (s.faults.latchedKinds.foldl State.takeLatched s.enterStopped).closeIfZero := if_pos (by simp [hd, hc])

theorem latchedKinds_isEmpty : s.faults.latchedKinds.isEmpty = true ↔
    ∀ f ∈ FaultKind.tripKinds, (s.faults.entry f).latched = false := by
  rw [List.isEmpty_iff, FaultUnit.latchedKinds, List.filter_eq_nil_iff]
  simp only [Bool.not_eq_true]

theorem departureTest_stopped (hd : s.seq.drive = .unconfigured) (hc : s.configured = true)
    (h : ∀ f ∈ FaultKind.tripKinds, (s.faults.entry f).latched = false) : s.departureTest = s.enterStopped := by
  rw [State.departureTest_departs hd hc, if_pos (latchedKinds_isEmpty.mpr h)]

/-! ### To TRIPPED (R107) -/

/-- The follow-ons of the latched kinds, with offset 0 (R107). -/
def followLatched (f : FaultUnit) (r : RecordUnit) (ks : List FaultKind) : RecordUnit :=
  ks.foldl (fun r k => r.followOn ⟨k, (f.entry k).detail, 0⟩) r

theorem takeLatched_lock (k : FaultKind) (hl : s.faults.lock = true) : s.takeLatched k = s.followOnCause k (s.faults.entry k).detail 0 :=
  if_pos hl

/-- Kinds taken while the lock is SET and the window OPEN. -/
theorem takeLatched_fold (ks : List FaultKind) : ∀ s : State, s.faults.lock = true → s.faults.windowOpen = true →
    ks.foldl State.takeLatched s = s.setRecord (followLatched s.faults s.record ks) := by
  induction ks with
  | nil => exact fun _ _ _ => rfl
  | cons k ks ih =>
    intro s hl hw
    have hstep : s.takeLatched k = s.setRecord (s.record.followOn ⟨k, (s.faults.entry k).detail, 0⟩) := by
      rw [State.takeLatched_lock k hl, State.followOnCause, if_pos hw]
    rw [List.foldl_cons, hstep]
    exact ih (s.setRecord (s.record.followOn ⟨k, (s.faults.entry k).detail, 0⟩)) hl hw

/-- The first latched kind is a first cause, the others are follow-ons of the record that it opens. -/
theorem departureTest_tripped {f : FaultKind} {fs : List FaultKind} (hd : s.seq.drive = .unconfigured) (hc : s.configured = true)
    (hr : s.seq.restartPending = false) (hl : s.faults.lock = false) (hks : s.faults.latchedKinds = f :: fs) :
    let v := s.enterStopped.firstCause f (s.enterStopped.faults.entry f).detail
    s.departureTest = (v.setRecord (followLatched v.faults v.record fs)).closeIfZero := by
  dsimp only
  have hstopped : s.enterStopped.seq.restartPending = false := by simp [hr]
  have hfirst : s.enterStopped.takeLatched f = s.enterStopped.firstCause f (s.enterStopped.faults.entry f).detail :=
    if_neg (by rw [(State.enterStopped_calm_eqs s hr).2.2.2.2.2.2.1, hl]; decide)
  obtain ⟨-, -, hlock, hopen, -⟩ := s.enterStopped.firstCause_calm_eqs f (s.enterStopped.faults.entry f).detail hstopped
  rw [State.departureTest_departs hd hc, hks, if_neg (by simp), List.foldl_cons, hfirst,
    takeLatched_fold fs _ hlock hopen]

/-- What every departure leaves: the governor at rest, and the answers of requests. -/
theorem departureTest_atRest (hd : s.seq.drive = .unconfigured) (hc : s.configured = true) (hr : s.seq.restartPending = false) :
    s.departureTest.gov.atRest := by
  have hstopped : s.enterStopped.seq.restartPending = false ∧ s.enterStopped.gov.atRest := by
    rw [(State.enterStopped_calm_eqs s hr).2.1]
    exact ⟨by simp [hr], s.gov.zeroed_atRest⟩
  have hstep : ∀ (v : State) k, v.seq.restartPending = false ∧ v.gov.atRest →
      (v.takeLatched k).seq.restartPending = false ∧ (v.takeLatched k).gov.atRest := fun v k hv => by
    refine ⟨(v.takeLatched_calm k hv.1).1, ?_⟩
    unfold State.takeLatched
    dsimp only
    split
    · unfold State.followOnCause
      split
      · exact hv.2
      · exact hv.2
    · rw [(v.firstCause_calm_eqs k _ hv.1).2.1]
      exact v.gov.zeroed_atRest
  rw [State.departureTest_departs hd hc]
  split
  · exact hstopped.2
  · rw [(State.closeIfZero_frame _).2.2.2.2.2.1]
    exact (foldl_holds (fun v : State => v.seq.restartPending = false ∧ v.gov.atRest) State.takeLatched
      (fun v k hv => hstep v k hv) _ _ hstopped).2

/-- A departure with the lock CLEAR and a trip kind latched ends in TRIPPED with the lock SET. -/
theorem departureTest_trips (hd : s.seq.drive = .unconfigured) (hc : s.configured = true) (hr : s.seq.restartPending = false)
    (hl : s.faults.lock = false) (hlatched : ∃ f ∈ FaultKind.tripKinds, (s.faults.entry f).latched = true) :
    s.departureTest.seq = s.seq.afterTrip ∧ s.departureTest.faults.lock = true := by
  obtain ⟨f, hf, hlat⟩ := hlatched
  have hmem : f ∈ s.faults.latchedKinds := List.mem_filter.mpr ⟨hf, hlat⟩
  obtain ⟨g, gs, hks⟩ := List.exists_cons_of_ne_nil (List.ne_nil_of_mem hmem)
  have hstopped : s.enterStopped.seq.restartPending = false := by simp [hr]
  obtain ⟨hseq, -, hlock, -⟩ := s.enterStopped.firstCause_calm_eqs g (s.enterStopped.faults.entry g).detail hstopped
  have hafter : s.enterStopped.seq.afterTrip = s.seq.afterTrip := by
    rw [(State.enterStopped_calm_eqs s hr).1]
    rfl
  rw [State.departureTest_tripped hd hc hr hl hks, (State.closeIfZero_frame _).2.2.2.2.1, State.closeIfZero_lock,
    State.setRecord_seq, State.setRecord_faults]
  exact ⟨hseq.trans hafter, hlock⟩

end State
end Sys2Proof.Machine
end

section
/-! A DRIVE group comes into force (R3, R8, R12, R27, R40, R71, R119). -/

namespace Sys2Proof.Machine

/-! ### Falls -/

/-- Sources reported absent, one after another. -/
def State.fallAll (s : State) (ps : List (FaultKind × Source)) : State := ps.foldl (fun s p => s.fall p.1 p.2) s

namespace State
variable {s t u : State}

theorem fall_sourcePresent (s : State) (k j : FaultKind) (src o : Source) :
    (s.fall k src).sourcePresent j o = (s.sourcePresent j o && !decide ((j, o) = (k, src))) := by
  by_cases hj : j = k
  · subst hj
    by_cases ho : o = src
    · subst ho
      simp [State.fall_source]
    · rw [State.fall_otherSource _ _ ho]
      simp [ho]
  · rw [State.sourcePresent, State.fall_other _ _ hj]
    simp [hj, State.sourcePresent]

theorem fallAll_sourcePresent (ps : List (FaultKind × Source)) : ∀ (s : State) (j : FaultKind) (o : Source),
    (s.fallAll ps).sourcePresent j o = (s.sourcePresent j o && !decide ((j, o) ∈ ps)) := by
  induction ps with
  | nil => simp [State.fallAll]
  | cons p ps ih =>
    intro s j o
    have hstep : s.fallAll (p :: ps) = (s.fall p.1 p.2).fallAll ps := rfl
    rw [hstep, ih, State.fall_sourcePresent, Bool.and_assoc]
    congr 1
    by_cases h1 : (j, o) = p <;> simp [h1]

theorem fallAll_reported (ps : List (FaultKind × Source)) (s : State) : s.Reported (s.fallAll ps) :=
  foldl_holds s.Reported _ (fun u p hu => hu.trans (u.fall_reported p.1 p.2)) ps s (.refl s)

theorem fallAll_risesKept (ps : List (FaultKind × Source)) (s : State) : s.RisesKept (s.fallAll ps) :=
  foldl_holds s.RisesKept _ (fun u p hu => hu.trans (u.fall_risesKept p.1 p.2)) ps s (.of_faults rfl)

theorem fallAll_windowKept (ps : List (FaultKind × Source)) (s : State) : s.WindowKept (s.fallAll ps) :=
  foldl_holds s.WindowKept _ (fun u p hu => hu.trans (u.fall_windowKept p.1 p.2)) ps s rfl

end State

/-! ### A motor leaves or enters the pinion set (R71, R119) -/

/-- The regulator of a motor that has left the set. -/
def Regulator.left (g : Regulator) : Regulator :=
  { g with missing := 0, overcurrent := false, gateFault := false, measLoss := false, limitedCond := false, limitedRun := 0 }

/-- The regulator of a motor that has entered the set. -/
def Regulator.entered (g : Regulator) : Regulator :=
  { g with missing := 0, overcurrent := false, measLoss := false, limitedCond := false, limitedRun := 0 }

/-- The sources that become absent where motor X leaves the set. -/
def leftSources (x : Side) : List (FaultKind × Source) :=
  [(.overcurrent x, .first), (.gateFault x, .first), (.measLoss x, .first), (.voltageLimited, sideSource x),
    (.dcUndervolt x, .first), (.dcLow, sideSource x), (.dcOvervolt x, .first)]

/-- Regulator X replaced and its level counts at 0. -/
def State.moved (s : State) (x : Side) (g : Regulator) : State := (s.setReg x g).setCounts x .zero

theorem State.leaveSet_eq (s : State) (x : Side) : s.leaveSet x = ((s.setReg x (s.regs.get x).left).fallAll (leftSources x)).setCounts x .zero :=
  rfl

theorem State.enterSet_quiet (s : State) (x : Side) (h : s.inputs.gateFault.get x = false) :
    s.enterSet x = s.moved x (s.regs.get x).entered := if_neg (by simpa [State.setReg, State.setCounts] using h)

/-- What a change of the pinion set from `old` to `new` has made of motor X, with no GATE FAULT input read as active. -/
structure State.MotorAdopted (old new : PinionSet) (x : Side) (s t : State) : Prop where
  rest : State.Reported { s with regs := t.regs, level := t.level } t
  reg : t.regs.get x = if old.has x = true ∧ new.has x = false then (s.regs.get x).left
    else if old.has x = false ∧ new.has x = true then (s.regs.get x).entered else s.regs.get x
  counts : t.level.counts.get x = if old.has x = new.has x then s.level.counts.get x else .zero
  other : ∀ y, y ≠ x → t.regs.get y = s.regs.get y ∧ t.level.counts.get y = s.level.counts.get y
  rises : s.RisesKept t
  window : s.WindowKept t
  source : ∀ j o, t.sourcePresent j o =
    (s.sourcePresent j o && !decide (old.has x = true ∧ new.has x = false ∧ (j, o) ∈ leftSources x))

theorem State.adoptMotor_quiet {old : PinionSet} {x : Side} {s : State}
    (hq : old.has x = false → s.inSet x = true → s.inputs.gateFault.get x = false) :
    State.MotorAdopted old s.cfg.pinion x s (State.adoptMotor old s x) := by
  have hset : s.inSet x = s.cfg.pinion.has x := rfl
  unfold State.adoptMotor
  cases hold : old.has x <;> cases hnew : s.inSet x <;> rw [hset] at hnew
  · exact ⟨.refl s, by simp [hold, hnew], by simp [hold, hnew], fun _ _ => ⟨rfl, rfl⟩, .of_faults rfl, rfl, by simp [hold]⟩
  · dsimp only
    rw [State.enterSet_quiet s x (hq hold hnew)]
    refine ⟨rfl, ?_, ?_, fun y hy => ⟨Pair.get_set_other _ _ hy, Pair.get_set_other _ _ hy⟩, .of_faults rfl, rfl, by simp [hold, State.sourcePresent, State.moved, State.setReg, State.setCounts]⟩
    · rw [if_neg (by simp [hold]), if_pos ⟨hold, hnew⟩]
      exact Pair.get_set_same _ _ _
    · rw [if_neg (by simp [hold, hnew])]
      exact Pair.get_set_same _ _ _
  · dsimp only
    rw [State.leaveSet_eq]
    have hrep := State.fallAll_reported (leftSources x) (s.setReg x (s.regs.get x).left)
    have hrises := State.fallAll_risesKept (leftSources x) (s.setReg x (s.regs.get x).left)
    have hwindow := State.fallAll_windowKept (leftSources x) (s.setReg x (s.regs.get x).left)
    have hsource := State.fallAll_sourcePresent (leftSources x) (s.setReg x (s.regs.get x).left)
    have hregs : ((s.setReg x (s.regs.get x).left).fallAll (leftSources x)).regs = s.regs.set x (s.regs.get x).left := by rw [hrep]; rfl
    have hlevel : ((s.setReg x (s.regs.get x).left).fallAll (leftSources x)).level = s.level := by rw [hrep]; rfl
    generalize (s.setReg x (s.regs.get x).left).fallAll (leftSources x) = v at *
    refine ⟨?_, ?_, ?_, fun y hy => ⟨?_, ?_⟩, ⟨hrises.latched, hrises.rise⟩, hwindow, fun j o => ?_⟩
    · rw [State.Reported] at hrep ⊢
      rw [hrep]
      rfl
    · rw [if_pos ⟨hold, hnew⟩]
      show v.regs.get x = _
      rw [hregs]
      exact Pair.get_set_same _ _ _
    · rw [if_neg (by simp [hold, hnew])]
      exact Pair.get_set_same _ _ _
    · show v.regs.get y = _
      rw [hregs]
      exact Pair.get_set_other _ _ hy
    · show (v.level.counts.set x .zero).get y = _
      rw [hlevel]
      exact Pair.get_set_other _ _ hy
    · show v.sourcePresent j o = _
      rw [hsource]
      simp [hold, hnew, State.sourcePresent, State.setReg]
  · exact ⟨.refl s, by simp [hold, hnew], by simp [hold, hnew], fun _ _ => ⟨rfl, rfl⟩, .of_faults rfl, rfl, by simp [hnew]⟩

end Sys2Proof.Machine
end

section
/-! A DRIVE group in force with no GATE FAULT input found active (R3, R8, R12, R27, R71). -/

namespace Sys2Proof.Machine

/-- The blocks of `v` with the new DRIVE group, n, position state and host target formed anew, before the motors. -/
def State.withDrive (v : State) (new : DriveSettings) : State :=
  { v with
    drive := some new, meas := v.meas.adopt v.cfg new
    seq := { v.seq with hostTarget := min v.seq.hostTarget new.nmax } }

/-- What the new DRIVE group has made of `v`, with no GATE FAULT input read as active at an entry. -/
structure State.DriveAdopted (new : DriveSettings) (v t : State) : Prop where
  rest : State.Reported { v.withDrive new with regs := t.regs, level := t.level } t
  reg : ∀ x, t.regs.get x = if v.cfg.pinion.has x = true ∧ new.pinion.has x = false then (v.regs.get x).left
    else if v.cfg.pinion.has x = false ∧ new.pinion.has x = true then (v.regs.get x).entered else v.regs.get x
  counts : ∀ x, t.level.counts.get x = if v.cfg.pinion.has x = new.pinion.has x then v.level.counts.get x else .zero
  rises : v.RisesKept t
  window : v.WindowKept t
  position : t.sourcePresent .positionInvalid .first = (v.meas.adopt v.cfg new).shell.invalidCond
  source : ∀ x, v.cfg.pinion.has x = true → new.pinion.has x = false → ∀ j o, (j, o) ∈ leftSources x → t.sourcePresent j o = false

namespace State
variable {v : State} {new : DriveSettings}

theorem Reported.cfg {s t : State} (h : s.Reported t) : t.cfg = s.cfg := by rw [h]; rfl

theorem withDrive_cfg (v : State) (new : DriveSettings) : (v.withDrive new).cfg = new := rfl

theorem adoptDrive_eq (v : State) (new : DriveSettings) : v.adoptDrive new =
    v.unlessReset (fun s => State.adoptMotor v.cfg.pinion s .b) (State.adoptMotor v.cfg.pinion (v.withDrive new).reportPosition .a) := rfl

theorem position_not_left (x : Side) (o : Source) : (FaultKind.positionInvalid, o) ∉ leftSources x := by
  simp [leftSources]

theorem adoptDrive_quiet (hq : ∀ x, v.cfg.pinion.has x = false → new.pinion.has x = true → v.inputs.gateFault.get x = false) :
    State.DriveAdopted new v (v.adoptDrive new) := by
  have hposition := State.alarmLevel_reported (v.withDrive new) .positionInvalid .first none (v.withDrive new).meas.shell.invalidCond
  have hpresent := State.alarmLevel_source (v.withDrive new) .positionInvalid .first none (v.withDrive new).meas.shell.invalidCond
  have hrises : v.RisesKept (v.withDrive new).reportPosition :=
    .trans (t := v.withDrive new) (.of_faults rfl) (State.alarmLevel_risesKept _ _ _ _ _ (by decide))
  have hwindow : v.WindowKept (v.withDrive new).reportPosition := by
    have hreport : (v.withDrive new).WindowKept (v.withDrive new).reportPosition := by
      unfold State.reportPosition State.alarmLevel
      split
      · exact State.alarmRise_windowKept _ _ _ _
      · exact State.fall_windowKept _ _ _
    exact hreport
  rw [State.adoptDrive_eq]
  rw [← State.reportPosition] at hposition hpresent
  generalize (v.withDrive new).reportPosition = p at *
  have hcfg : p.cfg = new := hposition.cfg.trans (v.withDrive_cfg new)
  have hgate : p.inputs = v.inputs := by rw [hposition]; rfl
  have ha := State.adoptMotor_quiet (old := v.cfg.pinion) (x := .a) (s := p) fun h h' => by
    rw [State.inSet, hcfg] at h'
    rw [hgate]
    exact hq .a h h'
  rw [hcfg] at ha
  generalize State.adoptMotor v.cfg.pinion p .a = a at *
  have hcfg' : a.cfg = new := ha.rest.cfg.trans hcfg
  have hgate' : a.inputs = v.inputs := by rw [ha.rest]; exact hgate
  have hb := State.adoptMotor_quiet (old := v.cfg.pinion) (x := .b) (s := a) fun h h' => by
    rw [State.inSet, hcfg'] at h'
    rw [hgate']
    exact hq .b h h'
  rw [hcfg'] at hb
  have hresets : a.record.resets = v.record.resets := by
    rw [ha.rest]
    show p.record.resets = v.record.resets
    rw [hposition]
    rfl
  rw [State.unlessReset_kept _ hresets]
  generalize State.adoptMotor v.cfg.pinion a .b = b at *
  have hregs : p.regs = v.regs := by rw [hposition]; rfl
  have hlevel : p.level = v.level := by rw [hposition]; rfl
  refine ⟨?_, fun x => ?_, fun x => ?_, (hrises.trans ha.rises).trans hb.rises, (hwindow.trans ha.window).trans hb.window, ?_, ?_⟩
  · have hab := hb.rest
    have hpa := ha.rest
    rw [State.Reported] at *
    rw [hposition] at hpa
    rw [hpa] at hab
    exact hab
  · cases x with
    | a =>
      rw [(hb.other .a (by decide)).1, ha.reg, hregs]
    | b =>
      rw [hb.reg, (ha.other .b (by decide)).1, hregs]
  · cases x with
    | a => rw [(hb.other .a (by decide)).2, ha.counts, hlevel]
    | b => rw [hb.counts, (ha.other .b (by decide)).2, hlevel]
  · rw [hb.source, ha.source, hpresent]
    simp [position_not_left]
    rfl
  · intro x hold hnew j o hin
    rw [hb.source, ha.source]
    cases x with
    | a => simp [hold, hnew, hin]
    | b => simp [hold, hnew, hin]

end State
end Sys2Proof.Machine
end

section
/-! A motor that enters the pinion set with its GATE FAULT input active (R71, R106 to R109). -/

namespace Sys2Proof.Machine

/-- `w` is `v` under the new DRIVE group at the rise of GATE FAULT X that the entry of motor X brings (R71). -/
structure State.FaultEntered (new : DriveSettings) (x : Side) (v w : State) : Prop where
  rest : State.Reported { v.withDrive new with regs := w.regs, level := w.level } w
  flags : (w.regs.get x).gateBlock = true ∧ (w.regs.get x).gateFault = true
  absent : w.sourcePresent (.gateFault x) .first = false
  window : v.WindowKept w

/-- Of `u`, `t` has motors other than X adopted. -/
structure State.OthersAdopted (x : Side) (u t : State) : Prop where
  rest : State.Reported { u with regs := t.regs, level := t.level } t
  reg : t.regs.get x = u.regs.get x
  rises : u.RisesKept t
  window : u.WindowKept t
  source : t.sourcePresent (.gateFault x) .first = u.sourcePresent (.gateFault x) .first

namespace State
variable {v : State} {new : DriveSettings} {x : Side}

theorem MotorAdopted.others {old new : PinionSet} {y : Side} {s t : State} (h : State.MotorAdopted old new y s t) (hxy : x ≠ y) :
    State.OthersAdopted x s t := by
  refine ⟨h.rest, (h.other x hxy).1, h.rises, h.window, ?_⟩
  rw [h.source]
  simp [leftSources, hxy]

/-- The state at the rise, as the entry of motor X makes it. -/
def faultEntered (s : State) (x : Side) : State :=
  let s1 := (s.moved x (s.regs.get x).entered).setGateBlock x
  s1.setReg x { s1.regs.get x with gateFault := true }

theorem enterSet_fault (s : State) (x : Side) (h : s.inputs.gateFault.get x = true) :
    s.enterSet x = (s.faultEntered x).tripRise (.gateFault x) .first := if_pos h

theorem faultEntered_flags (s : State) (x : Side) :
    ((s.faultEntered x).regs.get x).gateBlock = true ∧ ((s.faultEntered x).regs.get x).gateFault = true := by
  have h : (s.faultEntered x).regs.get x = { ((s.moved x (s.regs.get x).entered).setGateBlock x).regs.get x with gateFault := true } :=
    Pair.get_set_same _ _ _
  rw [h]
  exact ⟨State.setGateBlock_flag _ x, rfl⟩

theorem faultEntered_of {s : State} (hrest : State.Reported { v.withDrive new with regs := s.regs, level := s.level } s)
    (habsent : s.sourcePresent (.gateFault x) .first = false) (hwindow : v.WindowKept s) :
    State.FaultEntered new x v (s.faultEntered x) := by
  refine ⟨?_, s.faultEntered_flags x, habsent, hwindow⟩
  have hmoved : ∀ r l, State.Reported { v.withDrive new with regs := r, level := l } { s with regs := r, level := l } := fun r l => by
    rw [State.Reported] at hrest ⊢
    rw [hrest]
  exact hmoved _ _

theorem adoptMotor_enters {old : PinionSet} {s : State} (hold : old.has x = false) (hnew : s.cfg.pinion.has x = true) :
    State.adoptMotor old s x = s.enterSet x := by
  have hset : s.inSet x = true := hnew
  unfold State.adoptMotor
  rw [hold, hset]

/-- Of the two motors one is always in the set. -/
theorem pinion_has_other {p : PinionSet} {x y : Side} (h : p.has x = false) (hxy : y ≠ x) : p.has y = true := by
  cases p <;> cases x <;> cases y <;> simp_all [PinionSet.has]

/-- The rise takes no trip cause: UNCONFIGURED, or TRIPPED with the window CLOSED (R107, R109). -/
def RiseLatches (v : State) : Prop :=
  v.seq.drive = .unconfigured ∨ (v.seq.drive = .tripped ∧ v.faults.lock = true ∧ v.faults.windowOpen = false)

namespace FaultEntered
variable {w : State} (h : State.FaultEntered new x v w)
include h

theorem seq : w.seq = { v.seq with hostTarget := min v.seq.hostTarget new.nmax } := by rw [h.rest]; rfl

theorem tripReady (hready : v.tripReady) : w.tripReady := by
  obtain ⟨hu, ht, hl, hr⟩ := hready
  have hlock : w.faults.lock = v.faults.lock := by rw [h.window]
  exact ⟨by rw [h.seq]; exact hu, by rw [h.seq]; exact ht, hlock.trans hl, by rw [h.seq]; exact hr⟩

theorem latches (hlatch : v.RiseLatches) : w.tripRise (.gateFault x) .first = w.latchRise (.gateFault x) .first none := by
  refine w.tripRise_latches h.absent ?_
  have hlock : w.faults.lock = v.faults.lock := by rw [h.window]
  have hopen : w.faults.windowOpen = v.faults.windowOpen := by rw [h.window]
  rw [h.seq, hlock, hopen]
  exact hlatch

theorem resets (hcalm : v.seq.restartPending = false ∨ v.RiseLatches) :
    (w.tripRise (.gateFault x) .first).record.resets = v.record.resets := by
  have hrecord : w.record.resets = v.record.resets := by rw [h.rest]; rfl
  rcases hcalm with hr | hlatch
  · exact (w.tripRise_calm _ _ (by rw [h.seq]; exact hr)).2.1.trans hrecord
  · rw [h.latches hlatch, w.latchRise_eq]
    exact hrecord

theorem cfg : w.cfg = new := h.rest.cfg

end FaultEntered

/-- The new DRIVE group where motor X enters with its GATE FAULT input active: a rise, then the other motor's part, if that comes after. -/
theorem adoptDrive_fault (hold : v.cfg.pinion.has x = false) (hnew : new.pinion.has x = true) (hactive : v.inputs.gateFault.get x = true)
    (habsent : v.sourcePresent (.gateFault x) .first = false) (hcalm : v.seq.restartPending = false ∨ v.RiseLatches) :
    ∃ w, State.FaultEntered new x v w ∧ State.OthersAdopted x (w.tripRise (.gateFault x) .first) (v.adoptDrive new) := by
  have hposition := State.alarmLevel_reported (v.withDrive new) .positionInvalid .first none (v.withDrive new).meas.shell.invalidCond
  have hother := State.alarmLevel_other (v.withDrive new) .first none (v.withDrive new).meas.shell.invalidCond
    (j := .gateFault x) (k := .positionInvalid) (by simp)
  have hwindow : v.WindowKept (v.withDrive new).reportPosition := by
    have hreport : (v.withDrive new).WindowKept (v.withDrive new).reportPosition := by
      unfold State.reportPosition State.alarmLevel
      split
      · exact State.alarmRise_windowKept _ _ _ _
      · exact State.fall_windowKept _ _ _
    exact hreport
  rw [State.adoptDrive_eq]
  rw [← State.reportPosition] at hposition hother
  generalize (v.withDrive new).reportPosition = p at *
  have hcfg : p.cfg = new := hposition.cfg.trans (v.withDrive_cfg new)
  have hgate : p.inputs = v.inputs := by rw [hposition]; rfl
  have hregs : p.regs = v.regs := by rw [hposition]; rfl
  have hlevel : p.level = v.level := by rw [hposition]; rfl
  have hrest : State.Reported { v.withDrive new with regs := p.regs, level := p.level } p := by
    rw [hregs, hlevel]
    exact hposition
  have habsent' : p.sourcePresent (.gateFault x) .first = false := by
    rw [State.sourcePresent, hother]
    exact habsent
  cases x with
  | a =>
    have hw := State.faultEntered_of hrest habsent' hwindow
    refine ⟨p.faultEntered .a, hw, ?_⟩
    have henters : State.adoptMotor v.cfg.pinion p .a = (p.faultEntered .a).tripRise (.gateFault .a) .first := by
      rw [State.adoptMotor_enters hold (by rw [hcfg]; exact hnew), State.enterSet_fault _ _ (by rw [hgate]; exact hactive)]
    rw [henters, State.unlessReset_kept _ (hw.resets hcalm)]
    refine (State.adoptMotor_quiet fun h => ?_).others (by decide)
    exact absurd (pinion_has_other hold (show Side.b ≠ .a by decide)) (by simp [h])
  | b =>
    have ha := State.adoptMotor_quiet (old := v.cfg.pinion) (x := .a) (s := p) fun h =>
      absurd (pinion_has_other hold (show Side.a ≠ .b by decide)) (by simp [h])
    generalize State.adoptMotor v.cfg.pinion p .a = a at *
    have hrest' : State.Reported { v.withDrive new with regs := a.regs, level := a.level } a := by
      have hpa := ha.rest
      rw [State.Reported] at *
      rw [hposition] at hpa
      exact hpa
    have hsource : a.sourcePresent (.gateFault .b) .first = false := by rw [ha.source, habsent']; rfl
    have hw := State.faultEntered_of hrest' hsource (hwindow.trans ha.window)
    have hresets : a.record.resets = v.record.resets := by rw [hrest']; rfl
    have henters : State.adoptMotor v.cfg.pinion a .b = (a.faultEntered .b).tripRise (.gateFault .b) .first := by
      rw [State.adoptMotor_enters hold (by rw [ha.rest.cfg]; exact (congrArg (·.pinion.has .b) hcfg).trans hnew),
        State.enterSet_fault _ _ (by rw [ha.rest]; exact (congrArg (·.gateFault.get .b) hgate).trans hactive)]
    rw [State.unlessReset_kept _ hresets, henters]
    exact ⟨_, hw, .refl _, rfl, .of_faults rfl, rfl, rfl⟩

end State
end Sys2Proof.Machine
end

section
/-! The measurement unit under a new DRIVE group (R7 to R9, R12). -/

namespace Sys2Proof.Machine

namespace MeasUnit
variable (m : MeasUnit) (old new : DriveSettings)

/-- Windows and shell position begun anew under new counts, before the drive speed is formed (R8, R12). -/
def rescaled : MeasUnit :=
  let m1 := if new.countsPerRev = old.countsPerRev then m
    else { m with encoders := m.encoders.map fun e => { e with window := List.replicate 8 0, speedZeroNext := true } }
  if new.countsPerShell = old.countsPerShell then m1
  else { m1 with shell := { m1.shell with p := 0, reference := false, valid := false } }

theorem adopt_eq : m.adopt old new =
    if new.pinion = old.pinion then m.rescaled old new else ((m.rescaled old new).withN new.pinion).withInUse new.pinion := rfl

theorem rescaled_keeps : (m.rescaled old new).n = m.n ∧ (m.rescaled old new).links = m.links ∧
    (m.rescaled old new).receivers = m.receivers := by
  unfold rescaled
  dsimp only
  split <;> split <;> exact ⟨rfl, rfl, rfl⟩

theorem rescaled_get (x : Side) : (m.rescaled old new).encoders.get x = { m.encoders.get x with
    window := if new.countsPerRev = old.countsPerRev then (m.encoders.get x).window else List.replicate 8 0
    speedZeroNext := (m.encoders.get x).speedZeroNext || decide (new.countsPerRev ≠ old.countsPerRev) } := by
  have hshell : (m.rescaled old new).encoders = (if new.countsPerRev = old.countsPerRev then m
      else { m with encoders := m.encoders.map fun e => { e with window := List.replicate 8 0, speedZeroNext := true } }).encoders := by
    unfold rescaled
    dsimp only
    split <;> rfl
  rw [hshell]
  by_cases h : new.countsPerRev = old.countsPerRev
  · simp [h]
  · simp only [if_neg h, Pair.get_map]
    simp [h]

theorem rescaled_shell : (m.rescaled old new).shell = if new.countsPerShell = old.countsPerShell then m.shell
    else { m.shell with p := 0, reference := false, valid := false } := by
  unfold rescaled
  dsimp only
  split <;> split <;> rfl

theorem rescaled_formN : (m.rescaled old new).formN new.pinion =
    if m.encoders.a.lost = true then (if m.encoders.b.lost = true then m.n else m.encoders.b.speed)
    else if m.encoders.b.lost = true then m.encoders.a.speed
    else if new.pinion = .both then truncDiv (m.encoders.a.speed + m.encoders.b.speed) 2
    else if new.pinion = .aOnly then m.encoders.a.speed else m.encoders.b.speed := by
  have ha := m.rescaled_get old new .a
  have hb := m.rescaled_get old new .b
  rw [Pair.get_a, Pair.get_a] at ha
  rw [Pair.get_b, Pair.get_b] at hb
  unfold formN
  rw [ha, hb, (m.rescaled_keeps old new).1]
  dsimp only
  cases m.encoders.a.lost <;> cases m.encoders.b.lost <;> cases new.pinion <;> rfl

theorem rescaled_inUse : (m.rescaled old new).inUse new.pinion =
    if m.encoders.a.lost = true then (if m.encoders.b.lost = true then none else some .b)
    else if m.encoders.b.lost = true then some .a else if new.pinion = .bOnly then some .b else some .a := by
  rw [inUse_eq, rescaled_get, rescaled_get]
  rfl

/-- The drive speed under a new DRIVE group. -/
theorem adopt_n : (m.adopt old new).n = if new.pinion = old.pinion then m.n else (m.rescaled old new).formN new.pinion := by
  rw [adopt_eq]
  by_cases h : new.pinion = old.pinion
  · rw [if_pos h, if_pos h, (m.rescaled_keeps old new).1]
  · rw [if_neg h, if_neg h, withInUse_eq]
    rfl

theorem adopt_get (x : Side) : (m.adopt old new).encoders.get x = { m.encoders.get x with
    window := if new.countsPerRev = old.countsPerRev then (m.encoders.get x).window else List.replicate 8 0
    speedZeroNext := (m.encoders.get x).speedZeroNext || decide (new.countsPerRev ≠ old.countsPerRev)
    speed := if (m.encoders.get x).lost = true ∧ ¬new.pinion = old.pinion then (m.adopt old new).n
      else (m.encoders.get x).speed } := by
  rw [adopt_n, adopt_eq]
  by_cases h : new.pinion = old.pinion
  · have hsame : ¬((m.encoders.get x).lost = true ∧ ¬new.pinion = old.pinion) := fun h' => h'.2 h
    rw [if_pos h, rescaled_get, if_neg hsame]
  · rw [if_neg h, withInUse_eq]
    show ((m.rescaled old new).withN new.pinion).encoders.get x = _
    rw [withN_get, rescaled_get, Encoder.follow]
    by_cases hl : (m.encoders.get x).lost = true
    · have hfollows : (m.encoders.get x).lost = true ∧ ¬new.pinion = old.pinion := ⟨hl, h⟩
      rw [if_pos hl, if_pos hfollows, if_neg h]
    · have hnone : ¬((m.encoders.get x).lost = true ∧ ¬new.pinion = old.pinion) := fun h' => hl h'.1
      rw [if_neg hl, if_neg hnone]

theorem adopt_shell : (m.adopt old new).shell =
    if new.pinion = old.pinion ∨ (m.rescaled old new).shell.inUse = (m.rescaled old new).inUse new.pinion then (m.rescaled old new).shell
    else { (m.rescaled old new).shell with
      inUse := (m.rescaled old new).inUse new.pinion, p := 0, reference := false, valid := false } := by
  rw [adopt_eq]
  by_cases h : new.pinion = old.pinion
  · rw [if_pos h, if_pos (.inl h)]
  · rw [if_neg h, withInUse_eq, withN_inUse]
    simp only [h, false_or]
    rfl

theorem adopt_keeps : (m.adopt old new).links = m.links ∧ (m.adopt old new).receivers = m.receivers := by
  rw [adopt_eq]
  obtain ⟨-, hlinks, hreceivers⟩ := m.rescaled_keeps old new
  split
  · exact ⟨hlinks, hreceivers⟩
  · rw [withInUse_eq]
    exact ⟨hlinks, hreceivers⟩

/-- The first update under new counts per revolution gives HEALTHY encoders the speed 0 (R8). -/
theorem update_zero (c : DriveSettings) (x : Side) (hlost : (m.encoders.get x).lost = false) (htouched : (m.encoders.get x).touched = false)
    (hzero : (m.encoders.get x).speedZeroNext = true) : ((m.update c ⟨false, false⟩).encoders.get x).speed = 0 := by
  have hclear : (⟨false, false⟩ : Pair Bool).get x = false := by cases x <;> rfl
  rw [(m.update_eqs c _).2.2.2.1, hclear, Encoder.follow, if_neg (by simp [Encoder.update, Encoder.shift, Encoder.stepHealth, Encoder.stepSpeed, hlost, htouched])]
  simp [Encoder.update, Encoder.shift, Encoder.stepHealth, Encoder.stepSpeed, hlost, htouched, hzero]

end MeasUnit
end Sys2Proof.Machine
end

section
/-! LOAD SETTINGS of the DRIVE group (R20, R39, R71, R107, R172). -/

namespace Sys2Proof.Machine

/-- The state in which the group of a LOAD SETTINGS comes into force: the slot taken, the chain BROKEN. -/
def State.loading (s : State) (k : Fin 8) (rest : List (Fin 8)) : State := (s.takeSlot k rest).setChain .broken

theorem State.loading_eq (s : State) (k : Fin 8) (rest : List (Fin 8)) :
    s.loading k rest = { s with req := (s.loading k rest).req } := rfl

/-- The DRIVE group `new` has been loaded by the request in slot `k`, and the request is answered. -/
def State.DriveLoaded (s : State) (k : Fin 8) (new : DriveSettings) (t : State) : Prop :=
  exec .loadSettings s = .next t ∧ t.drive = some new ∧ t.req.chain = .broken ∧ State.Completed t k .done .ok [0] ∧
  t.watch = s.watch ∧ t.pending = s.pending ∧ t.inputs = s.inputs

namespace State
variable {s : State} {k : Fin 8} {rest : List (Fin 8)}

theorem configured_iff : s.configured = true ↔ s.drive.isSome = true ∧ s.gov.envelope.isSome = true ∧
    s.watch.settings.isSome = true ∧ s.record.settings.isSome = true ∧ s.store.settings.isSome = true ∧
    s.store.state ≠ .scanning := by
  simp [State.configured, and_assoc]

/-- The other four groups are in force and the store is settled (R20). -/
def OthersInForce (s : State) : Prop :=
  s.gov.envelope.isSome = true ∧ s.watch.settings.isSome = true ∧ s.record.settings.isSome = true ∧
  s.store.settings.isSome = true ∧ s.store.state ≠ .scanning

/-- A LOAD SETTINGS that passes its checks, group `g` at its length `n`. -/
theorem exec_loadGroup {g n : Nat} {ws : List Word} (hhead : s.atHead (some .loadSettings) k rest) (hg : (s.param k 0).toNat = g)
    (hn : (s.param k 2).toNat = n) (hgroup : g ≤ 4) (hlen : n = imageLength g) (hoff : (s.param k 1).toNat + n ≤ 4096)
    (hclass : g = 0 ∨ g = 4 → s.seq.drive.running = false) (hbusy : s.loadBusy g = false)
    (hws : s.mem.readWords (transferAddr + 2 * (s.param k 1).toNat) n = ws) (himage : imageBad g ws = none) :
    exec .loadSettings s = .next ((s.loading k rest).loadGroup k g ws) := by
  have hwords : s.areaWords (s.param k 1).toNat (s.param k 2).toNat = ws := by rw [State.areaWords, hn, hws]
  have hclass' : loadClass (s.param k 0).toNat s.seq.drive = true := by rw [hg]; exact (loadClass_iff _ _).mpr hclass
  have hgroup' : (s.param k 0).toNat ≤ 4 := by rw [hg]; exact hgroup
  have hlen' : (s.param k 2).toNat = imageLength (s.param k 0).toNat := by rw [hg, hn, hlen]
  have hoff' : (s.param k 1).toNat + (s.param k 2).toNat ≤ 4096 := by rw [hn]; exact hoff
  have hbusy' : s.loadBusy (s.param k 0).toNat = false := by rw [hg]; exact hbusy
  rw [exec_loadSettings_image hhead hclass' hgroup' hlen' hoff' hbusy', hwords, hg, himage, State.loading]

theorem loadBusy_drive (hholder : s.req.holder = none) : s.loadBusy 0 = false := by
  rw [← Bool.not_eq_true, State.loadBusy_iff s (by decide)]
  simp [hholder]

theorem loadDrive_eq {v : State} {ws : List Word}
    (h : (v.adoptDrive (DriveSettings.ofImage ws)).record.resets = v.record.resets) :
    v.loadDrive k ws = ((v.adoptDrive (DriveSettings.ofImage ws)).finish k .ok [0]).departureTest := by
  rw [State.loadDrive, State.unlessReset_kept _ h]

theorem finish_chain (u : State) (k : Fin 8) (rc : ResultCode) (ws : List Word) : (u.finish k rc ws).req.chain = u.req.chain := rfl

/-! ### No GATE FAULT input found active -/

section
variable {new : DriveSettings} {v u : State}

theorem DriveAdopted.drive (h : State.DriveAdopted new v u) : u.drive = some new := by rw [h.rest]; rfl
theorem DriveAdopted.meas (h : State.DriveAdopted new v u) : u.meas = v.meas.adopt v.cfg new := by rw [h.rest]; rfl
theorem DriveAdopted.seq (h : State.DriveAdopted new v u) : u.seq = { v.seq with hostTarget := min v.seq.hostTarget new.nmax } := by
  rw [h.rest]
  rfl
theorem DriveAdopted.gov (h : State.DriveAdopted new v u) : u.gov = v.gov := by rw [h.rest]; rfl
theorem DriveAdopted.watch (h : State.DriveAdopted new v u) : u.watch = v.watch := by rw [h.rest]; rfl
theorem DriveAdopted.record (h : State.DriveAdopted new v u) : u.record = v.record := by rw [h.rest]; rfl
theorem DriveAdopted.store (h : State.DriveAdopted new v u) : u.store = v.store := by rw [h.rest]; rfl
theorem DriveAdopted.pending (h : State.DriveAdopted new v u) : u.pending = v.pending := by rw [h.rest]; rfl
theorem DriveAdopted.inputs (h : State.DriveAdopted new v u) : u.inputs = v.inputs := by rw [h.rest]; rfl
theorem DriveAdopted.mem (h : State.DriveAdopted new v u) : u.mem = v.mem := by rw [h.rest]; rfl
theorem DriveAdopted.req (h : State.DriveAdopted new v u) : u.req.chain = v.req.chain ∧ u.req.partTime = v.req.partTime := by
  rw [h.rest]
  exact ⟨rfl, rfl⟩

end

theorem finish_configured (u : State) (k : Fin 8) (rc : ResultCode) (ws : List Word) :
    (u.finish k rc ws).configured = u.configured := by simp [State.configured]

section
variable {new : DriveSettings} {u : State} (h : State.DriveAdopted new (s.loading k rest) u)
include h

theorem DriveAdopted.configured : u.configured = true ↔ s.OthersInForce := by
  have hgov : u.gov = s.gov := h.gov
  have hwatch : u.watch = s.watch := h.watch
  have hrecord : u.record = s.record := h.record
  have hstore : u.store = s.store := h.store
  rw [State.configured_iff, h.drive, hgov, hwatch, hrecord, hstore]
  exact ⟨And.right, fun hothers => ⟨rfl, hothers⟩⟩

theorem DriveAdopted.stays (hstay : ¬(s.seq.drive = .unconfigured ∧ s.OthersInForce)) :
    (u.finish k .ok [0]).departureTest = u.finish k .ok [0] := by
  have hseq : u.seq.drive = s.seq.drive := by rw [h.seq]; rfl
  refine State.departureTest_none fun hdep => hstay ?_
  rw [u.finish_configured, h.configured, (u.finish_frame k _ _).2.2.2.2.1, hseq] at hdep
  exact hdep

/-- What stands of the unit at every outcome of the departure test. -/
theorem DriveAdopted.loaded (hexec : exec .loadSettings s = .next ((u.finish k .ok [0]).departureTest))
    (hkeep : ¬(s.seq.drive = .unconfigured ∧ s.OthersInForce) ∨ s.seq.restartPending = false) :
    s.DriveLoaded k new (u.finish k .ok [0]).departureTest := by
  have hwatch : u.watch = s.watch := h.watch
  have hpending : u.pending = s.pending := h.pending
  have hinputs : u.inputs = s.inputs := h.inputs
  have hchain : u.req.chain = .broken := h.req.1
  have hcompleted := u.finish_completed k .ok [0]
  have hfchain := u.finish_chain k .ok [0]
  obtain ⟨fpending, finputs, fdrive, -, fseq, -, -, fwatch, -⟩ := u.finish_frame k .ok [0]
  have hseq : u.seq.restartPending = s.seq.restartPending := by rw [h.seq]; rfl
  rcases hkeep with hstay | hr
  · rw [h.stays hstay] at hexec ⊢
    exact ⟨hexec, fdrive.trans h.drive, hfchain.trans hchain, hcompleted, fwatch.trans hwatch, fpending.trans hpending, finputs.trans hinputs⟩
  · generalize u.finish k .ok [0] = f at *
    have hr' : f.seq.restartPending = false := by rw [fseq, hseq, hr]
    obtain ⟨-, -, hdrive', -, hwatch'⟩ := f.departureTest_calm hr'
    obtain ⟨hpending', hinputs'⟩ := f.departureTest_frame
    have haside := State.departureTest_aside hr'
    have hchain' : f.departureTest.req.chain = f.req.chain := by rw [haside.req]
    exact ⟨hexec, hdrive'.trans (fdrive.trans h.drive), hchain'.trans (hfchain.trans hchain), hcompleted.of_aside haside,
      hwatch'.trans (fwatch.trans hwatch), hpending'.trans (fpending.trans hpending), hinputs'.trans (finputs.trans hinputs)⟩

end
end State
end Sys2Proof.Machine
end

section
/-! What the first DRIVE group brings of the departure from UNCONFIGURED (R20, R107, R138). -/

namespace Sys2Proof.Machine

/-! ### The record of a departure into TRIPPED (R107, R138) -/

theorem RecordUnit.followOn_new {u : RecordUnit} {o : Record} {f : FollowOn} (ho : u.openRecord = some o)
    (hnew : u.kindSet.contains f.kind = false) (hroom : o.followOns.length < 7) :
    u.followOn f = { u with openRecord := some { o with followOns := o.followOns ++ [f] }, kindSet := u.kindSet ++ [f.kind] } := by
  rw [RecordUnit.followOn, ho]
  dsimp only
  rw [if_neg (by simpa using hnew), Record.addFollowOn, if_pos hroom]

/-- Kinds that the record does not hold yet, for which it has room, become its follow-ons in their order. -/
theorem followLatched_open (f : FaultUnit) (ks : List FaultKind) : ∀ (r : RecordUnit) (o : Record), r.openRecord = some o →
    ks.Nodup → (∀ k ∈ ks, k ∉ r.kindSet) → o.followOns.length + ks.length ≤ 7 →
    (State.followLatched f r ks).openRecord =
      some { o with followOns := o.followOns ++ ks.map fun k => ⟨k, (f.entry k).detail, 0⟩ } := by
  induction ks with
  | nil =>
    intro r o ho _ _ _
    rw [List.map_nil, List.append_nil]
    exact ho
  | cons k ks ih =>
    intro r o ho hnodup hnew hroom
    obtain ⟨hk, hks⟩ := List.nodup_cons.mp hnodup
    have hlen : o.followOns.length < 7 := by
      rw [List.length_cons] at hroom
      omega
    have hstep := RecordUnit.followOn_new (f := ⟨k, (f.entry k).detail, 0⟩) ho (by simpa using hnew k (List.mem_cons_self)) hlen
    have hfold : State.followLatched f r (k :: ks) = State.followLatched f (r.followOn ⟨k, (f.entry k).detail, 0⟩) ks := rfl
    rw [hfold, ih _ _ (congrArg RecordUnit.openRecord hstep) hks ?_ ?_]
    · rw [List.map_cons, List.append_assoc]
      rfl
    · intro j hj
      rw [hstep]
      have hne : j ≠ k := fun hjk => hk (hjk ▸ hj)
      simpa [hne] using hnew j (List.mem_cons_of_mem _ hj)
    · simp only [List.length_append, List.length_cons, List.length_nil] at hroom ⊢
      omega

theorem State.RisesKept.latchedKinds {s t : State} (h : s.RisesKept t) : t.faults.latchedKinds = s.faults.latchedKinds :=
  List.filter_congr fun k _ => h.latched k

theorem tripKinds_nodup : FaultKind.tripKinds.Nodup := by decide

namespace State
variable {s t : State} {f : FaultKind} {fs : List FaultKind}

/-- The departure of `s` into TRIPPED with a grouping window, and the record that it opens. -/
theorem departureTest_record (hd : s.seq.drive = .unconfigured) (hc : s.configured = true) (hr : s.seq.restartPending = false)
    (hl : s.faults.lock = false) (hks : s.faults.latchedKinds = f :: fs) (hlen : fs.length ≤ 7) {r : RecordSettings}
    (hsettings : s.record.settings = some r) (hwindow : r.window ≠ 0) (hid : s.record.idCounter < 0xFFFFFFFF) :
    let t := s.departureTest
    s.RisesKept t ∧ t.faults.windowOpen = true ∧ t.faults.firstCauseTime = s.req.partTime ∧
      ∃ o, t.record.openRecord = some o ∧ o.id = s.record.idCounter ∧ o.drive = .stopped ∧
        o.first = some (f, (s.faults.entry f).detail) ∧
        o.followOns = fs.map fun j => (⟨j, (s.faults.entry j).detail, 0⟩ : FollowOn) := by
  have hstopped : s.enterStopped.seq.restartPending = false := by simp [hr]
  have hrises := State.enterStopped_risesKept hr
  obtain ⟨hseq, -, -, hrecord, -⟩ := State.enterStopped_calm_eqs s hr
  have htime : s.enterStopped.req.partTime = s.req.partTime := by rw [(State.enterStopped_aside hr).req]
  have hmem : ∀ k ∈ f :: fs, k ∈ FaultKind.tripKinds := fun k hk => (List.mem_filter.mp (hks ▸ hk)).1
  have hnodup : (f :: fs).Nodup := hks ▸ tripKinds_nodup.filter _
  dsimp only
  rw [State.departureTest_tripped hd hc hr hl hks]
  have hdrive : s.enterStopped.seq.drive = .stopped := by rw [hseq]
  generalize s.enterStopped = e at *
  have hfirst := State.firstCause_risesKept f (e.faults.entry f).detail hstopped
  obtain ⟨hlock, hopen, hfct, -, hwlen⟩ := State.firstCause_window (k := f) (d := (e.faults.entry f).detail) hstopped
  have hrec := (e.firstCause_calm_eqs f (e.faults.entry f).detail hstopped).2.2.2.2.1
  rw [State.openTrip_record (by rw [hrecord]; exact hid)] at hrec
  have hwl : e.record.windowLength = r.window := by
    rw [hrecord, RecordUnit.windowLength, hsettings]
    rfl
  generalize e.firstCause f (e.faults.entry f).detail = v at *
  have hclosed : (v.setRecord (State.followLatched v.faults v.record fs)).closeIfZero =
      v.setRecord (State.followLatched v.faults v.record fs) := by
    refine State.closeIfZero_open ?_
    rw [State.setRecord_faults, hwlen, hwl]
    exact hwindow
  have hall := hrises.trans hfirst
  have hdetail : ∀ j ∈ f :: fs, (v.faults.entry j).detail = (s.faults.entry j).detail := fun j hj => (hall.rise j (hmem j hj)).2
  have ho : v.record.openRecord = some (e.tripRecord f (e.faults.entry f).detail) := congrArg RecordUnit.openRecord hrec
  have hkinds : v.record.kindSet = [f] := congrArg RecordUnit.kindSet hrec
  have hfollow := followLatched_open v.faults fs v.record _ ho (List.nodup_cons.mp hnodup).2
    (fun k hk => by
      rw [hkinds, List.mem_singleton]
      rintro rfl
      exact (List.nodup_cons.mp hnodup).1 hk)
    (by simpa [State.tripRecord, State.newRecord] using hlen)
  rw [hclosed]
  refine ⟨⟨hall.latched, hall.rise⟩, hopen, hfct.trans htime, _, hfollow, ?_, hdrive, ?_, ?_⟩
  · exact congrArg RecordUnit.idCounter hrecord
  · have hf := (hrises.rise f (hmem f List.mem_cons_self)).2
    show some (f, (e.faults.entry f).detail) = _
    rw [hf]
  · show [] ++ fs.map _ = _
    rw [List.nil_append]
    refine List.map_congr_left fun j hj => ?_
    rw [hdetail j (List.mem_cons_of_mem _ hj)]

end State
end Sys2Proof.Machine
end

section
/-! LOAD SETTINGS of the DRIVE group, all its outcomes (R20, R39, R71, R107, R172). -/

namespace Sys2Proof.Machine

namespace State
variable {s : State} {k : Fin 8} {rest : List (Fin 8)} {new : DriveSettings} {u : State}

/-! ### No GATE FAULT input found active -/

section
variable (h : State.DriveAdopted new (s.loading k rest) u)
include h

theorem DriveAdopted.finish_read {a : Nat} (ha : ¬inAnswer k a) : (u.finish k .ok [0]).mem.read a = s.mem.read a := by
  have hmem : u.mem = s.mem := h.mem
  rw [State.finish_read _ _ _ _ ha, hmem]

/-- The group in force where no departure follows. -/
theorem DriveAdopted.staying (hexec : exec .loadSettings s = .next ((u.finish k .ok [0]).departureTest))
    (hstay : ¬(s.seq.drive = .unconfigured ∧ s.OthersInForce)) :
    ∃ t, s.DriveLoaded k new t ∧ t.seq = { s.seq with hostTarget := min s.seq.hostTarget new.nmax } ∧ t.gov = s.gov ∧
      t.record = s.record ∧ t.store = s.store ∧ ∀ a, ¬inAnswer k a → t.mem.read a = s.mem.read a := by
  have hloaded := h.loaded hexec (.inl hstay)
  rw [h.stays hstay] at hloaded
  have hread := fun a => h.finish_read (a := a)
  obtain ⟨-, -, -, -, fseq, fgov, -, -, -, -, frecord, fstore⟩ := u.finish_frame k .ok [0]
  exact ⟨_, hloaded, fseq.trans h.seq, fgov.trans h.gov, frecord.trans h.record, fstore.trans h.store, hread⟩

/-- The departure to STOPPED. -/
theorem DriveAdopted.departing (hexec : exec .loadSettings s = .next ((u.finish k .ok [0]).departureTest))
    (hd : s.seq.drive = .unconfigured) (hothers : s.OthersInForce) (hr : s.seq.restartPending = false)
    (hlatched : ∀ f ∈ FaultKind.tripKinds, (s.faults.entry f).latched = false) :
    ∃ t, s.DriveLoaded k new t ∧ t.gov.atRest ∧ t.record = s.record ∧ t.store = s.store ∧ t.faults.lock = s.faults.lock ∧
      t.seq = { s.seq with
        hostTarget := min s.seq.hostTarget new.nmax, gate := ⟨false, false⟩, drive := .stopped } ∧
      ∀ a, ¬inAnswer k a → t.mem.read a = s.mem.read a := by
  have hloaded := h.loaded hexec (.inr hr)
  have hread := fun a => h.finish_read (a := a)
  obtain ⟨-, -, -, -, fseq, -, -, -, ffaults, -, frecord, fstore⟩ := u.finish_frame k .ok [0]
  have hseq : u.seq = { s.seq with hostTarget := min s.seq.hostTarget new.nmax } := h.seq
  have hconf : (u.finish k .ok [0]).configured = true := (u.finish_configured k _ _).trans (h.configured.mpr hothers)
  have hentries : ∀ j, (u.faults.entry j).latched = (s.faults.entry j).latched := h.rises.latched
  have hlock : u.faults.lock = s.faults.lock := by rw [h.window]; rfl
  have hrecord : u.record = s.record := h.record
  have hstore : u.store = s.store := h.store
  generalize u.finish k .ok [0] = f at *
  have hfseq := fseq.trans hseq
  have hdep : f.departureTest = f.enterStopped := by
    refine State.departureTest_stopped (by rw [hfseq]; exact hd) hconf fun j hj => ?_
    rw [ffaults, hentries]
    exact hlatched j hj
  rw [hdep] at hloaded
  obtain ⟨eseq, egov, -, erecord, estore, emem, elock, -⟩ := State.enterStopped_calm_eqs f (by rw [hfseq]; exact hr)
  refine ⟨_, hloaded, ?_, erecord.trans (frecord.trans hrecord), estore.trans (fstore.trans hstore), ?_, ?_, fun a ha => ?_⟩
  · rw [egov]
    exact f.gov.zeroed_atRest
  · rw [elock, ffaults, hlock]
  · rw [eseq, hfseq]
  · rw [emem]
    exact hread a ha

/-- The departure to TRIPPED. -/
theorem DriveAdopted.tripping (hexec : exec .loadSettings s = .next ((u.finish k .ok [0]).departureTest))
    {f : FaultKind} {fs : List FaultKind} {r : RecordSettings}
    (hd : s.seq.drive = .unconfigured) (hothers : s.OthersInForce) (hr : s.seq.restartPending = false)
    (hl : s.faults.lock = false) (hks : (FaultKind.tripKinds.filter fun f => (s.faults.entry f).latched) = f :: fs)
    (hlen : fs.length ≤ 7) (hsettings : s.record.settings = some r) (hwindow : r.window ≠ 0)
    (hid : s.record.idCounter < 0xFFFFFFFF) :
    ∃ t, s.DriveLoaded k new t ∧ t.gov.atRest ∧
      t.seq = Sequencer.afterTrip { s.seq with hostTarget := min s.seq.hostTarget new.nmax } ∧
      t.faults.lock = true ∧ t.faults.windowOpen = true ∧ t.faults.firstCauseTime = s.req.partTime ∧
      (∀ j, (t.faults.entry j).latched = (s.faults.entry j).latched) ∧
      (∀ j ∈ FaultKind.tripKinds, (t.faults.entry j).riseTime = (s.faults.entry j).riseTime ∧
        (t.faults.entry j).detail = (s.faults.entry j).detail) ∧
      ∃ o, t.record.openRecord = some o ∧ o.id = s.record.idCounter ∧ o.drive = .stopped ∧
        o.first = some (f, (s.faults.entry f).detail) ∧
        o.followOns = (fs.map fun j => (⟨j, (s.faults.entry j).detail, 0⟩ : FollowOn)) := by
  have hloaded := h.loaded hexec (.inr hr)
  obtain ⟨-, -, -, -, fseq, -, -, -, ffaults, -, frecord, -⟩ := u.finish_frame k .ok [0]
  have hseq : u.seq = { s.seq with hostTarget := min s.seq.hostTarget new.nmax } := h.seq
  have hconf : (u.finish k .ok [0]).configured = true := (u.finish_configured k _ _).trans (h.configured.mpr hothers)
  have hrises : s.RisesKept u := ⟨h.rises.latched, h.rises.rise⟩
  have hlock : u.faults.lock = s.faults.lock := by rw [h.window]; rfl
  have hrecord : u.record = s.record := h.record
  have htime : u.req.partTime = s.req.partTime := h.req.2
  have hftime : (u.finish k .ok [0]).req.partTime = u.req.partTime := rfl
  generalize u.finish k .ok [0] = f' at *
  have hrises' : s.RisesKept f' := hrises.trans (.of_faults (by rw [ffaults]))
  have hfd : f'.seq.drive = .unconfigured := by rw [fseq, hseq]; exact hd
  have hfr : f'.seq.restartPending = false := by rw [fseq, hseq]; exact hr
  have hfl : f'.faults.lock = false := by rw [ffaults, hlock, hl]
  have hfrecord : f'.record = s.record := frecord.trans hrecord
  have hfks : f'.faults.latchedKinds = f :: fs := hrises'.latchedKinds.trans hks
  have hin : ∀ j ∈ f :: fs, j ∈ FaultKind.tripKinds := fun j hj => (List.mem_filter.mp (hks ▸ hj)).1
  have hdetail : ∀ j ∈ f :: fs, (f'.faults.entry j).detail = (s.faults.entry j).detail := fun j hj => (hrises'.rise j (hin j hj)).2
  obtain ⟨hall, hopen, hfct, o, ho, hoid, hodrive, hofirst, hofollow⟩ := State.departureTest_record hfd hconf hfr hfl hfks hlen
    (by rw [hfrecord]; exact hsettings) hwindow (by rw [hfrecord]; exact hid)
  obtain ⟨htseq, htlock⟩ := State.departureTest_trips hfd hconf hfr hfl
    ⟨f, hin f List.mem_cons_self, by
      rw [hrises'.latched]
      exact (List.mem_filter.mp (hks ▸ List.mem_cons_self : f ∈ FaultKind.tripKinds.filter _)).2⟩
  have hkept := hrises'.trans hall
  refine ⟨_, hloaded, State.departureTest_atRest hfd hconf hfr, ?_, htlock, hopen, ?_, hkept.latched, hkept.rise, o, ho, ?_, hodrive,
    ?_, ?_⟩
  · rw [htseq, fseq, hseq]
  · rw [hfct, hftime, htime]
  · rw [hoid, hfrecord]
  · rw [hofirst, hdetail f List.mem_cons_self]
  · rw [hofollow]
    refine List.map_congr_left fun j hj => ?_
    rw [hdetail j (List.mem_cons_of_mem _ hj)]

end
end State
end Sys2Proof.Machine
end

section
/-! LOAD SETTINGS of the DRIVE group: measurement, regulators, and GATE FAULT at an entry (R8, R9, R12, R71, R119). -/

namespace Sys2Proof.Machine

namespace State
variable {s : State} {k : Fin 8} {rest : List (Fin 8)} {new : DriveSettings} {u : State}

theorem sourceOf_left (x : Side) : (FaultKind.voltageLimited, sourceOf x) ∈ leftSources x ∧ (FaultKind.dcLow, sourceOf x) ∈ leftSources x := by
  rw [sourceOf_eq]
  simp [leftSources]

theorem motor_left (x : Side) : ∀ f ∈ [FaultKind.overcurrent x, .gateFault x, .measLoss x, .dcUndervolt x, .dcOvervolt x],
    (f, Source.first) ∈ leftSources x := by
  simp [leftSources]

/-- The first speed window update under new counts per revolution (R8). -/
theorem first_update_zero {t : State} (hr : t.seq.restartPending = false) (hbreak : t.inputs.lineBreak = ⟨false, false⟩)
    (hzero : ∀ x, (t.meas.encoders.get x).lost = false ∧ (t.meas.encoders.get x).touched = false ∧
      (t.meas.encoders.get x).speedZeroNext = true) :
    ∃ u, exec .speedWindowUpdate t = .next u ∧ ∀ x, (u.meas.encoders.get x).speed = 0 := by
  obtain ⟨hmeas, -⟩ := State.speedUpdate_eqs hr
  refine ⟨t.speedUpdate, rfl, fun x => ?_⟩
  obtain ⟨hlost, htouched, hnext⟩ := hzero x
  rw [hmeas, hbreak]
  exact t.meas.update_zero t.cfg x hlost htouched hnext

/-- What the group in force has made of the measurement unit, the regulators and the level watch. -/
structure FieldAdopted (s : State) (new : DriveSettings) (t : State) : Prop where
  meas : t.meas = s.meas.adopt s.cfg new
  position : t.sourcePresent .positionInvalid .first = t.meas.shell.invalidCond
  reg : ∀ x, t.regs.get x = if s.cfg.pinion.has x = true ∧ new.pinion.has x = false then (s.regs.get x).left
    else if s.cfg.pinion.has x = false ∧ new.pinion.has x = true then (s.regs.get x).entered else s.regs.get x
  counts : ∀ x, t.level.counts.get x = if s.cfg.pinion.has x = new.pinion.has x then s.level.counts.get x else .zero
  source : ∀ x, s.cfg.pinion.has x = true → new.pinion.has x = false → ∀ j o, (j, o) ∈ leftSources x → t.sourcePresent j o = false
  latched : ∀ j, (t.faults.entry j).latched = (s.faults.entry j).latched
  calm : t.seq.restartPending = s.seq.restartPending
  inputs : t.inputs = s.inputs

theorem DriveAdopted.field (h : State.DriveAdopted new (s.loading k rest) u) : s.FieldAdopted new (u.finish k .ok [0]) := by
  obtain ⟨-, finputs, -, fmeas, fseq, -, fregs, -, ffaults, flevel, -, -⟩ := u.finish_frame k .ok [0]
  have hmeas : u.meas = s.meas.adopt s.cfg new := h.meas
  have hseq : u.seq.restartPending = s.seq.restartPending := by rw [h.seq]; rfl
  have hinputs : u.inputs = s.inputs := h.inputs
  have hposition : u.sourcePresent .positionInvalid .first = u.meas.shell.invalidCond := h.position.trans (by rw [h.meas])
  have hreg := h.reg
  have hcounts := h.counts
  have hsource := h.source
  have hlatched := h.rises.latched
  generalize u.finish k .ok [0] = t at *
  refine ⟨by rw [fmeas, hmeas], ?_, fun x => ?_, fun x => ?_, fun x hold hnew j o hin => ?_, fun j => ?_, by rw [fseq, hseq],
    by rw [finputs, hinputs]⟩
  · rw [State.sourcePresent, ffaults, fmeas]
    exact hposition
  · rw [fregs]
    exact hreg x
  · rw [flevel]
    exact hcounts x
  · rw [State.sourcePresent, ffaults]
    exact hsource x hold hnew j o hin
  · rw [ffaults]
    exact hlatched j

/-! ### A GATE FAULT input found active at an entry -/

section
variable {x : Side} {w : State} (hw : State.FaultEntered new x (s.loading k rest) w)
include hw

theorem FaultEntered.blocks : w.drive = some new ∧ w.gov = s.gov ∧ w.watch = s.watch ∧ w.record = s.record ∧ w.store = s.store ∧
    w.pending = s.pending ∧ w.inputs = s.inputs ∧ w.req.chain = .broken ∧
    w.seq = { s.seq with hostTarget := min s.seq.hostTarget new.nmax } := by
  have h := hw.rest
  rw [State.Reported] at h
  refine ⟨?_, ?_, ?_, ?_, ?_, ?_, ?_, ?_, hw.seq⟩ <;> rw [h] <;> rfl

end

/-- The outcome of an entry with GATE FAULT active where no departure follows, given what the rise has made of the unit. -/
theorem OthersAdopted.loaded {x : Side} {T : State} (ho : State.OthersAdopted x T u)
    (hexec : u.record.resets = s.record.resets → exec .loadSettings s = .next ((u.finish k .ok [0]).departureTest))
    (hresets : T.record.resets = s.record.resets) (hstay : ¬(T.seq.drive = .unconfigured ∧ T.configured = true))
    (hdrive : T.drive = some new) (hchain : T.req.chain = .broken) (hwatch : T.watch = s.watch) (hpending : T.pending = s.pending)
    (hinputs : T.inputs = s.inputs) :
    let t := u.finish k .ok [0]
    s.DriveLoaded k new t ∧ t.seq = T.seq ∧ t.gov = T.gov ∧ t.record = T.record ∧ t.store = T.store ∧
      t.faults.lock = T.faults.lock ∧ (t.faults.entry (.gateFault x)).latched = (T.faults.entry (.gateFault x)).latched ∧
      t.sourcePresent (.gateFault x) .first = T.sourcePresent (.gateFault x) .first ∧ t.regs.get x = T.regs.get x := by
  dsimp only
  have hrest := ho.rest
  rw [State.Reported] at hrest
  have urecord : u.record = T.record := by rw [hrest]
  have useq : u.seq = T.seq := by rw [hrest]
  have ugov : u.gov = T.gov := by rw [hrest]
  have ustore : u.store = T.store := by rw [hrest]
  have udrive : u.drive = T.drive := by rw [hrest]
  have uwatch : u.watch = T.watch := by rw [hrest]
  have upending : u.pending = T.pending := by rw [hrest]
  have uinputs : u.inputs = T.inputs := by rw [hrest]
  have uchain : u.req.chain = T.req.chain := by rw [hrest]
  have ulock : u.faults.lock = T.faults.lock := by rw [ho.window]
  have uconf : u.configured = T.configured := by simp only [State.configured, udrive, ugov, uwatch, urecord, ustore]
  have ulatched := ho.rises.latched (.gateFault x)
  have usource := ho.source
  have ureg := ho.reg
  have fcompleted := u.finish_completed k .ok [0]
  have fchain := u.finish_chain k .ok [0]
  have fconf := u.finish_configured k .ok [0]
  obtain ⟨fpending, finputs, fdrive, -, fseq, fgov, fregs, fwatch, ffaults, -, frecord, fstore⟩ := u.finish_frame k .ok [0]
  have hexec' := hexec (by rw [urecord, hresets])
  generalize u.finish k .ok [0] = t at *
  have hnone : t.departureTest = t := by
    refine State.departureTest_none ?_
    rw [fseq, useq, fconf, uconf]
    exact hstay
  rw [hnone] at hexec'
  refine ⟨⟨hexec', by rw [fdrive, udrive, hdrive], by rw [fchain, uchain, hchain], fcompleted, by rw [fwatch, uwatch, hwatch],
    by rw [fpending, upending, hpending], by rw [finputs, uinputs, hinputs]⟩, by rw [fseq, useq], by rw [fgov, ugov],
    by rw [frecord, urecord], by rw [fstore, ustore], by rw [ffaults, ulock], by rw [ffaults, ulatched], ?_, by rw [fregs, ureg]⟩
  rw [State.sourcePresent, ffaults]
  exact usource

section
variable {x : Side} {w : State} (hw : State.FaultEntered new x (s.loading k rest) w)
  (ho : State.OthersAdopted x (w.tripRise (.gateFault x) .first) u)
  (hexec : u.record.resets = s.record.resets → exec .loadSettings s = .next ((u.finish k .ok [0]).departureTest))
include hw ho hexec

/-- GATE FAULT at an entry as a first cause. -/
theorem FaultEntered.trips (hready : s.tripReady) :
    ∃ t, s.DriveLoaded k new t ∧ State.Tripped { s with
        drive := some new, seq := { s.seq with hostTarget := min s.seq.hostTarget new.nmax } } t (.gateFault x) ∧
      (t.regs.get x).gateBlock = true ∧ (t.regs.get x).gateFault = true ∧ t.present (.gateFault x) = true := by
  obtain ⟨bdrive, -, bwatch, brecord, -, bpending, binputs, bchain, bseq⟩ := hw.blocks
  have hready' : w.tripReady := hw.tripReady hready
  obtain ⟨-, hresets, hdrive, -, hwatch⟩ := w.tripRise_calm (.gateFault x) .first hready'.2.2.2
  have htripped := w.tripRise_tripped (.gateFault x) .first hready' hw.absent
  have hpresent := w.tripRise_present (.gateFault x) .first rfl hready'.2.2.2
  have hregs := w.tripRise_regs hready' hw.absent
  have hchain : (w.tripRise (.gateFault x) .first).req.chain = w.req.chain := by
    rw [(State.tripRise_aside (.gateFault x) .first hready'.2.2.2).req]
  have hinputs := (w.tripRise_frame (.gateFault x) .first).2
  obtain ⟨hseq, hrest, hlock, hlatched, hsettings, hqueue⟩ := htripped
  generalize w.tripRise (.gateFault x) .first = T at *
  obtain ⟨hloaded, tseq, tgov, -, -, tlock, tlatched, tsource, treg⟩ := ho.loaded (x := x) hexec (by rw [hresets, brecord])
    (fun hu => by simp [hseq, Sequencer.afterTrip] at hu) (by rw [hdrive, bdrive]) (by rw [hchain, bchain])
    (by rw [hwatch, bwatch]) (by rw [hqueue, bpending]) (by rw [hinputs, binputs])
  have hloaded' := hloaded
  obtain ⟨-, tdrive, -, -, -, tpending, -⟩ := hloaded'
  refine ⟨_, hloaded, ⟨by rw [tseq, hseq, bseq], by rw [tgov]; exact hrest, tlock.trans hlock, tlatched.trans hlatched, tdrive, tpending⟩,
    ?_, ?_, State.present_of_source _ (tsource.trans hpresent)⟩
  · rw [treg, hregs, Pair.get_ofFn, State.ungated_gateBlock, hw.flags.1]
  · rw [treg, hregs, Pair.get_ofFn, State.ungated_gateFault, hw.flags.2]

/-- GATE FAULT at an entry where a rise takes no trip cause. -/
theorem FaultEntered.latching (hlatch : s.RiseLatches) (hstay : ¬(s.seq.drive = .unconfigured ∧ s.OthersInForce)) :
    ∃ t, s.DriveLoaded k new t ∧ t.seq = { s.seq with hostTarget := min s.seq.hostTarget new.nmax } ∧
      (t.faults.entry (.gateFault x)).latched = true ∧ t.present (.gateFault x) = true ∧
      (t.regs.get x).gateBlock = true ∧ (t.regs.get x).gateFault = true ∧ t.faults.lock = s.faults.lock ∧
      t.record = s.record ∧ t.store = s.store := by
  obtain ⟨bdrive, bgov, bwatch, brecord, bstore, bpending, binputs, bchain, bseq⟩ := hw.blocks
  have block : w.faults.lock = s.faults.lock := by rw [hw.window]; rfl
  rw [hw.latches hlatch] at ho
  have hpresent := w.latchRise_present (.gateFault x) .first none
  have hlatched := w.latchRise_latched (.gateFault x) .first none hw.absent
  have hlock : (w.latchRise (.gateFault x) .first none).faults.lock = w.faults.lock := by rw [State.latchRise_windowKept]
  have heq := w.latchRise_eq (.gateFault x) .first none
  generalize w.latchRise (.gateFault x) .first none = T at *
  have tdrive : T.drive = some new := by rw [heq]; exact bdrive
  have trecord : T.record = s.record := by rw [heq]; exact brecord
  have tstore : T.store = s.store := by rw [heq]; exact bstore
  have tgov : T.gov = s.gov := by rw [heq]; exact bgov
  have twatch : T.watch = s.watch := by rw [heq]; exact bwatch
  have tseq : T.seq = { s.seq with hostTarget := min s.seq.hostTarget new.nmax } := by rw [heq]; exact bseq
  have tpending : T.pending = s.pending := by rw [heq]; exact bpending
  have tinputs : T.inputs = s.inputs := by rw [heq]; exact binputs
  have tchain : T.req.chain = .broken := by rw [heq]; exact bchain
  have tregs : T.regs = w.regs := by rw [heq]
  have hnone : ¬(T.seq.drive = .unconfigured ∧ T.configured = true) := fun hu => by
    rw [State.configured_iff, tgov, twatch, trecord, tstore, tseq] at hu
    exact hstay ⟨hu.1, hu.2.2⟩
  obtain ⟨hloaded, fseq, -, frecord, fstore, flock, flatched, fsource, freg⟩ := ho.loaded (x := x) hexec (by rw [trecord]) hnone tdrive tchain
    twatch tpending tinputs
  refine ⟨_, hloaded, by rw [fseq, tseq], flatched.trans hlatched, State.present_of_source _ (fsource.trans hpresent), ?_, ?_,
    by rw [flock, hlock, block], by rw [frecord, trecord], by rw [fstore, tstore]⟩
  · rw [freg, tregs, hw.flags.1]
  · rw [freg, tregs, hw.flags.2]

end
end State

/-- Settles O25. -/
theorem loadDriveInForce : Obligations.LoadDriveInForce := by
  intro s k rest hhead hp0 hp2 hoff hholder himage
  have h0 : (s.param k 0).toNat = 0 := by rw [hp0]; rfl
  have h2 : (s.param k 2).toNat = 46 := by rw [hp2]; rfl
  have hload : s.seq.drive.running = false → exec .loadSettings s =
      .next ((s.loading k rest).loadGroup k 0 (s.mem.readWords (transferAddr + 2 * (s.param k 1).toNat) 46)) := fun hidle =>
    State.exec_loadGroup hhead h0 h2 (by decide) rfl hoff (fun _ => hidle) (State.loadBusy_drive hholder) rfl himage
  generalize s.mem.readWords (transferAddr + 2 * (s.param k 1).toNat) 46 = ws at *
  have hresult : s.seq.drive.running = false →
      ((s.loading k rest).adoptDrive (DriveSettings.ofImage ws)).record.resets = s.record.resets → exec .loadSettings s =
        .next ((((s.loading k rest).adoptDrive (DriveSettings.ofImage ws)).finish k .ok [0]).departureTest) := fun hidle hresets => by
    have hdrive : (s.loading k rest).loadGroup k 0 ws = (s.loading k rest).loadDrive k ws := rfl
    rw [hload hidle, hdrive, State.loadDrive_eq hresets]
  generalize DriveSettings.ofImage ws = new at *
  have hquiet : (∀ x, s.cfg.pinion.has x = false ∧ new.pinion.has x = true → s.inputs.gateFault.get x = false) →
      State.DriveAdopted new (s.loading k rest) ((s.loading k rest).adoptDrive new) := fun hq =>
    State.adoptDrive_quiet fun x hold hnew => hq x ⟨hold, hnew⟩
  have hfault : ∀ x, s.cfg.pinion.has x = false ∧ new.pinion.has x = true → s.inputs.gateFault.get x = true →
      s.sourcePresent (.gateFault x) .first = false → s.seq.restartPending = false ∨ s.RiseLatches →
      ∃ w, State.FaultEntered new x (s.loading k rest) w ∧
        State.OthersAdopted x (w.tripRise (.gateFault x) .first) ((s.loading k rest).adoptDrive new) := fun x hx hact habs hcalm =>
    State.adoptDrive_fault hx.1 hx.2 hact habs hcalm
  generalize (s.loading k rest).adoptDrive new = u at *
  have hexec : ∀ (hidle : s.seq.drive.running = false), State.DriveAdopted new (s.loading k rest) u →
      exec .loadSettings s = .next ((u.finish k .ok [0]).departureTest) := fun hidle h =>
    hresult hidle (congrArg RecordUnit.resets h.record)
  dsimp only
  refine ⟨fun hq hd => ?_, fun hq hd hothers => ?_, fun hq hd hothers hr hlat => ?_,
    fun f fs r hq hd hothers hr hl hks hlen hset hwin hid => ?_, fun hq hd => ?_, fun x hx hact habs => ⟨fun hd hready => ?_, fun hd => ?_⟩⟩
  · have h := hquiet hq
    refine h.staying (hexec ?_ h) fun hu => ?_
    · rcases hd with hd | hd <;> rw [hd] <;> rfl
    · rcases hd with hd | hd <;> simp [hd] at hu
  · have h := hquiet hq
    exact h.staying (hexec (by rw [hd]; rfl) h) fun hu => hothers hu.2
  · have h := hquiet hq
    exact h.departing (hexec (by rw [hd]; rfl) h) hd hothers hr hlat
  · have h := hquiet hq
    exact h.tripping (hexec (by rw [hd]; rfl) h) hd hothers hr hl hks hlen hset hwin hid
  · have h := hquiet hq
    have hstay : ¬(s.seq.drive = .unconfigured ∧ s.OthersInForce) := fun hu => by
      rcases hd with hd | hd | hd
      · simp [hd] at hu
      · simp [hd] at hu
      · exact hd.2 hu.2
    have hidle : s.seq.drive.running = false := by
      rcases hd with hd | hd | hd
      · rw [hd]; rfl
      · rw [hd]; rfl
      · rw [hd.1]; rfl
    have hloaded := h.loaded (hexec hidle h) (.inl hstay)
    rw [h.stays hstay] at hloaded
    obtain ⟨tmeas, tposition, treg, tcounts, tsource, tlatched, tcalm, tinputs⟩ := h.field
    generalize u.finish k .ok [0] = t at *
    refine ⟨t, hloaded, fun x => ?_, ?_, ?_, ?_, ?_, ?_, fun x hx => ?_, fun x hx => ?_, fun x hl he => ?_, tlatched,
      fun hcounts hr hbreak hhealthy => ?_⟩
    · rw [tmeas]
      exact s.meas.adopt_get s.cfg new x
    · rw [tmeas, MeasUnit.adopt_n, MeasUnit.rescaled_formN]
    · rw [tmeas, MeasUnit.adopt_shell, MeasUnit.rescaled_inUse, MeasUnit.rescaled_shell]
    · rw [tposition, Shell.invalidCond, Bool.and_comm]
    · rw [tmeas, (s.meas.adopt_keeps s.cfg new).1]
    · rw [tmeas, (s.meas.adopt_keeps s.cfg new).2]
    · have hleft := treg x
      rw [if_pos hx] at hleft
      have hc := tcounts x
      rw [if_neg (by simp [hx.1, hx.2])] at hc
      have hsource := tsource x hx.1 hx.2
      rw [hleft, hc]
      exact ⟨rfl, rfl, rfl, rfl, rfl, rfl, rfl, fun f hf => hsource _ _ (State.motor_left x f hf),
        hsource _ _ (State.sourceOf_left x).1, hsource _ _ (State.sourceOf_left x).2⟩
    · have henter := treg x
      rw [if_neg (by simp [hx.1]), if_pos hx] at henter
      have hc := tcounts x
      rw [if_neg (by simp [hx.1, hx.2])] at hc
      exact ⟨henter, hc⟩
    · have hsame : s.cfg.pinion.has x = new.pinion.has x := by
        cases hold : s.cfg.pinion.has x <;> cases hnew : new.pinion.has x <;> simp_all
      have hr := treg x
      have hc := tcounts x
      rw [if_neg hl, if_neg he] at hr
      rw [if_pos hsame] at hc
      exact ⟨hr, hc⟩
    · refine State.first_update_zero (by rw [tcalm, hr]) (by rw [tinputs, hbreak]) fun x => ?_
      rw [tmeas, MeasUnit.adopt_get]
      exact ⟨(hhealthy x).2, (hhealthy x).1, by simp [hcounts]⟩
  · obtain ⟨w, hw, ho⟩ := hfault x hx hact habs (.inl hready.2.2.2)
    exact hw.trips ho (hresult (by rw [hd]; rfl)) hready
  · have hlatch : s.RiseLatches := hd.imp (·.1) id
    obtain ⟨w, hw, ho⟩ := hfault x hx hact habs (.inr hlatch)
    refine hw.latching ho (hresult ?_) hlatch fun hu => ?_
    · rcases hd with hd | hd
      · rw [hd.1]; rfl
      · rw [hd.1]; rfl
    · rcases hd with hd | hd
      · exact hd.2 hu.2
      · simp [hd.1] at hu

end Sys2Proof.Machine
end

section
/-! LOAD SETTINGS of the ENVELOPE, VIBRATION and RECORD groups (R20, R63, R103, R125, R143, R172). -/

namespace Sys2Proof.Machine

/-! ### What the departure keeps of the record unit and of an absent store -/

theorem RecordUnit.followOn_settings (u : RecordUnit) (f : FollowOn) : (u.followOn f).settings = u.settings := by
  unfold RecordUnit.followOn
  split
  · split <;> rfl
  · rfl

theorem RecordUnit.trigger_settings (u : RecordUnit) (id : Option Nat) : (u.trigger id).settings = u.settings := by
  rw [RecordUnit.trigger_eq]

namespace State
variable {s : State}

theorem openTrip_settings (s : State) (k : FaultKind) (d : Option Nat) : (s.openTrip k d).record.settings = s.record.settings := by
  unfold State.openTrip
  split
  · exact s.record.trigger_settings none
  · exact s.record.trigger_settings _

theorem closeRecord_none (ho : s.record.openRecord = none) : s.closeRecord = s := by rw [State.closeRecord, ho]

theorem closeRecord_settings (s : State) : s.closeRecord.record.settings = s.record.settings := by
  cases ho : s.record.openRecord with
  | none => rw [State.closeRecord_none ho]
  | some o =>
    rw [State.closeRecord_eq ho, State.setRecord_record, State.postRecord_record]
    dsimp only
    split <;> rfl

theorem closeIfZero_settings (s : State) : s.closeIfZero.record.settings = s.record.settings := by
  unfold State.closeIfZero State.closeWindow
  split
  · exact State.closeRecord_settings _
  · rfl

/-- A fold of the latched kinds, with no restart pending, keeps the RECORD group and the store unit. -/
theorem takeLatched_fold_keeps (ks : List FaultKind) (s : State) (hr : s.seq.restartPending = false) :
    (ks.foldl State.takeLatched s).record.settings = s.record.settings ∧ (ks.foldl State.takeLatched s).store = s.store := by
  refine (foldl_holds (fun v : State => v.seq.restartPending = false ∧ v.record.settings = s.record.settings ∧ v.store = s.store)
    State.takeLatched (fun v k hv => ?_) ks s ⟨hr, rfl, rfl⟩).2
  obtain ⟨hcalm, hsettings, hstore⟩ := hv
  obtain ⟨hcalm', -, -, -, -, hstore'⟩ := v.takeLatched_calm k hcalm
  refine ⟨hcalm', ?_, hstore'.trans hstore⟩
  unfold State.takeLatched
  dsimp only
  split
  · unfold State.followOnCause
    split
    · exact (v.record.followOn_settings _).trans hsettings
    · exact hsettings
  · rw [(v.firstCause_calm_eqs k _ hcalm).2.2.2.2.1]
    exact (v.openTrip_settings k _).trans hsettings

theorem departureTest_settings (hr : s.seq.restartPending = false) : s.departureTest.record.settings = s.record.settings := by
  have hstopped : s.enterStopped.seq.restartPending = false := by simp [hr]
  have hrecord := (State.enterStopped_calm_eqs s hr).2.2.2.1
  unfold State.departureTest
  split
  · split
    · rw [hrecord]
    · rw [State.closeIfZero_settings, (State.takeLatched_fold_keeps _ _ hstopped).1, hrecord]
  · rfl

theorem closeIfZero_store_absent (h : s.store.state = .absent) : s.closeIfZero.store = s.store := by
  unfold State.closeIfZero
  split
  · cases ho : s.record.openRecord with
    | none =>
      rw [State.closeWindow, State.closeRecord_none (s := s.setFaults { s.faults with windowOpen := false }) ho, State.setFaults_store]
    | some o =>
      have hanswer : s.store.answer = .none := by simp [StoreUnit.answer_eq, h]
      rw [State.closeWindow_store ho, hanswer]
      rfl
  · rfl

/-- A store that is ABSENT is handed nothing. -/
theorem departureTest_store (hr : s.seq.restartPending = false) (h : s.store.state = .absent) : s.departureTest.store = s.store := by
  have hstopped : s.enterStopped.seq.restartPending = false := by simp [hr]
  have hstore := (State.enterStopped_calm_eqs s hr).2.2.2.2.1
  unfold State.departureTest
  split
  · split
    · exact hstore
    · have hfold := (State.takeLatched_fold_keeps s.faults.latchedKinds _ hstopped).2.trans hstore
      rw [State.closeIfZero_store_absent (by rw [hfold]; exact h), hfold]
  · rfl

end State

/-! ### Groups that await force (R63, R103) -/

section
variable {s : State} {k : Fin 8} {rest : List (Fin 8)}

theorem activated_of_awaiting {u : State} (h : exec .loadSettings s = .next ((u.takeSlot k rest).activate k)) :
    ∃ t, exec .loadSettings s = .next t ∧ State.Activated u t k rest := ⟨_, h, u.take_activate_activated k rest⟩

theorem loading_envelope (ws : List Word) : (s.loading k rest).loadGroup k 1 ws =
    State.activate (State.takeSlot { s with
      gov := { s.gov with awaiting := some (envelopeOf ws, k) }, req := { s.req with chain := .broken } } k rest) k := rfl

theorem loading_vibration (ws : List Word) : (s.loading k rest).loadGroup k 2 ws =
    State.activate (State.takeSlot { s with
      watch := { s.watch with awaiting := some (VibSettings.ofImage ws, k) }, req := { s.req with chain := .broken } } k rest) k := rfl

end

/-! ### The RECORD group (R125, R143) -/

/-- The record unit with a new RECORD group in force. -/
def RecordUnit.adopt (r : RecordUnit) (new : RecordSettings) : RecordUnit :=
  let u := { r with settings := some new }
  if u.activeBank.isSome then u else u.goLiveFirst allBanks

namespace RecordUnit
variable (r : RecordUnit) (new : RecordSettings)

theorem adopt_eq : r.adopt new = { r with settings := some new, banks := (r.adopt new).banks } := by
  unfold adopt goLiveFirst
  dsimp only
  split
  · rfl
  · split <;> rfl

theorem adopt_active (h : r.activeBanks ≠ 0) : (r.adopt new).banks = r.banks := by
  have hsome : ({ r with settings := some new } : RecordUnit).activeBank.isSome = true := by
    cases hb : ({ r with settings := some new } : RecordUnit).activeBank with
    | some i => rfl
    | none =>
      refine absurd ?_ h
      have hnone : ∀ i, (r.bank i).active = false := RecordUnit.activeBank_none hb
      rw [activeBanks, List.length_eq_zero_iff, List.filter_eq_nil_iff]
      exact fun i _ => by simp [hnone i]
  unfold adopt
  dsimp only
  rw [if_pos hsome]

theorem adopt_free (h : r.activeBanks = 0) {i : Fin 4} (hi : (r.bank i).state = .free) (hfirst : ∀ j, j < i → (r.bank j).state ≠ .free) :
    r.adopt new = ({ r with settings := some new } : RecordUnit).goLive i := by
  have hnone : ({ r with settings := some new } : RecordUnit).activeBank = none := RecordUnit.activeBank_of_zero (r := { r with settings := some new }) h
  have hfind : allBanks.find? (fun j => decide ((r.bank j).state = .free)) = some i := by
    have hfirst' : ∀ j, j < i → ¬(vget r.banks j).state = .free := hfirst
    have hi' : (vget r.banks i).state = .free := hi
    fin_cases i <;> simp_all [allBanks, RecordUnit.bank]
  unfold adopt
  dsimp only
  rw [hnone]
  exact State.goLiveFirst_some hfind

end RecordUnit

end Sys2Proof.Machine
end

section
/-! LOAD SETTINGS of a RECORD or STORE group, and the departure that it may bring (R20, R107, R125, R143, R150, R151). -/

namespace Sys2Proof.Machine

namespace State
variable {s f : State} {k : Fin 8} {rest : List (Fin 8)}

/-- Some trip kind is latched. -/
def TripLatched (s : State) : Prop := ∃ f ∈ FaultKind.tripKinds, (s.faults.entry f).latched = true

/-- The outcomes of a departure from UNCONFIGURED. -/
theorem departure_outcomes (hd : f.seq.drive = .unconfigured) (hc : f.configured = true) (hr : f.seq.restartPending = false) :
    f.departureTest.gov.atRest ∧
    (¬f.TripLatched → f.departureTest.seq = { f.seq with gate := ⟨false, false⟩, drive := .stopped } ∧
      f.departureTest.faults.lock = f.faults.lock ∧ f.departureTest.record = f.record ∧ f.departureTest.store = f.store) ∧
    (f.TripLatched → f.faults.lock = false → f.departureTest.seq = f.seq.afterTrip ∧ f.departureTest.faults.lock = true) := by
  refine ⟨State.departureTest_atRest hd hc hr, fun hlatched => ?_, fun hlatched hl => State.departureTest_trips hd hc hr hl hlatched⟩
  have hnone : ∀ j ∈ FaultKind.tripKinds, (f.faults.entry j).latched = false := fun j hj => by
    rw [← Bool.not_eq_true]
    exact fun h => hlatched ⟨j, hj, h⟩
  obtain ⟨hseq, -, -, hrecord, hstore, -, hlock, -⟩ := State.enterStopped_calm_eqs f hr
  rw [State.departureTest_stopped hd hc hnone]
  exact ⟨hseq, hlock, hrecord, hstore⟩

/-! ### The RECORD group -/

theorem imageBad_record {ws : List Word} (h0 : ws.getD 0 0 ≤ 250) (h1 : ws.getD 1 0 ≤ 2047) : imageBad 3 ws = none := by
  have h0' : natAt ws 0 ≤ 250 := BitVec.le_def.mp h0
  have h1' : natAt ws 1 ≤ 2047 := BitVec.le_def.mp h1
  show firstBad recordFields ws = none
  simp [firstBad, recordFields, Field.inRange, h0', h1']

theorem loadBusy_record (hholder : s.req.holder = none) : s.loadBusy 3 = false := by
  rw [← Bool.not_eq_true, State.loadBusy_iff s (by decide)]
  simp [hholder]

/-- A RECORD group in force and its request answered, before the departure test. -/
def recordLoaded (s : State) (k : Fin 8) (rest : List (Fin 8)) (new : RecordSettings) : State :=
  ((s.loading k rest).setRecord (s.record.adopt new)).finish k .ok [3]

theorem loading_record (ws : List Word) :
    (s.loading k rest).loadGroup k 3 ws = (s.recordLoaded k rest (RecordSettings.ofImage ws)).departureTest := rfl

/-- The other four groups are in force and the store is settled. -/
def OthersThanRecord (s : State) : Prop :=
  s.drive.isSome = true ∧ s.gov.envelope.isSome = true ∧ s.watch.settings.isSome = true ∧ s.store.settings.isSome = true ∧
  s.store.state ≠ .scanning

theorem recordLoaded_blocks (s : State) (k : Fin 8) (rest : List (Fin 8)) (new : RecordSettings) :
    let f := s.recordLoaded k rest new
    f.pending = s.pending ∧ f.inputs = s.inputs ∧ f.drive = s.drive ∧ f.meas = s.meas ∧ f.seq = s.seq ∧ f.gov = s.gov ∧
      f.regs = s.regs ∧ f.watch = s.watch ∧ f.faults = s.faults ∧ f.level = s.level ∧ f.record = s.record.adopt new ∧
      f.store = s.store :=
  ((s.loading k rest).setRecord (s.record.adopt new)).finish_frame k .ok [3]

theorem recordLoaded_answer (s : State) (k : Fin 8) (rest : List (Fin 8)) (new : RecordSettings) :
    State.Completed (s.recordLoaded k rest new) k .done .ok [3] ∧ (s.recordLoaded k rest new).req.chain = .broken ∧
      ∀ a, ¬inAnswer k a → (s.recordLoaded k rest new).mem.read a = s.mem.read a :=
  ⟨State.finish_completed _ k .ok [3], rfl, fun _ ha => State.finish_read _ k .ok [3] ha⟩

theorem adopt_settings (r : RecordUnit) (new : RecordSettings) : (r.adopt new).settings = some new := by rw [r.adopt_eq new]

theorem recordLoaded_configured {new : RecordSettings} : (s.recordLoaded k rest new).configured = true ↔ s.OthersThanRecord := by
  obtain ⟨-, -, hdrive, -, -, hgov, -, hwatch, -, -, hrecord, hstore⟩ := s.recordLoaded_blocks k rest new
  rw [State.configured_iff, hdrive, hgov, hwatch, hrecord, hstore, adopt_settings]
  simp [State.OthersThanRecord]

/-! ### The STORE group -/

/-- The store unit cleared by the acceptance of a STORE group (R151). -/
theorem cleared_fields (u : StoreUnit) : u.cleared = { u with
    job := .idle, transfer := none, sectors := [], badCount := 0, openSector := none, nextSlot := 1, toOpen := none, erase := .none
    eraseSector := none, eraseElapsed := 0, readPtr := none, hostOp := none } := rfl

theorem changeStore_eq (s : State) (u : StoreUnit) :
    s.changeStore u = { s with store := u, req := { s.req with notice := (s.changeStore u).req.notice } } := by
  unfold State.changeStore
  split <;> rfl

theorem changeStore_notice {u : StoreUnit} (h : u.state ≠ s.store.state) : (s.changeStore u).req.notice.getLsbD noticeStore = true := by
  rw [State.changeStore, if_neg h]
  exact raised_notice _ (by decide)

/-- A STORE group accepted, before the answer: the store unit `u`, the STORE notice, and STORE FAULT absent (R150, R151). -/
def storeAccepted (s : State) (k : Fin 8) (rest : List (Fin 8)) (u : StoreUnit) : State :=
  ((s.loading k rest).changeStore u).fall .storeFault .first

theorem storeAccepted_reported (s : State) (k : Fin 8) (rest : List (Fin 8)) (u : StoreUnit) :
    State.Reported { s.loading k rest with store := u } (s.storeAccepted k rest u) := by
  have hchange : State.Reported { s.loading k rest with store := u } ((s.loading k rest).changeStore u) := by
    unfold State.changeStore
    split <;> rfl
  exact hchange.trans (State.fall_reported _ _ _)

/-- The store unit of a group with a store that is fitted: SCANNING. -/
def storeScanning (u : StoreUnit) (c : StoreSettings) (k : Fin 8) : StoreUnit :=
  { u.cleared with state := .scanning, awaiting := some (c, k), job := .scanPoll, transfer := none, pollElapsed := 0 }

/-- The store unit of a group without a store. -/
def storeAbsent (u : StoreUnit) (c : StoreSettings) : StoreUnit := { u.cleared with state := .absent, settings := some c }

theorem loading_store (ws : List Word) : (s.loading k rest).loadGroup k 4 ws =
    if (StoreSettings.ofImage ws).present = true then
      (s.storeAccepted k rest (storeScanning s.store (StoreSettings.ofImage ws) k)).activate k
    else ((s.storeAccepted k rest (storeAbsent s.store (StoreSettings.ofImage ws))).finish k .ok [4]).departureTest := by
  have hgroup : (s.loading k rest).loadGroup k 4 ws = (s.loading k rest).loadStore k ws := rfl
  have hstore : (s.loading k rest).store = s.store := rfl
  rw [hgroup, State.loadStore, State.adoptStore, hstore]
  by_cases h : (StoreSettings.ofImage ws).present = true
  · rw [if_pos h, if_pos h, if_pos h]
    rfl
  · rw [if_neg h, if_neg h, if_neg h]
    rfl

section
variable (s k rest) (u : StoreUnit)

theorem storeAccepted_blocks : let t := s.storeAccepted k rest u
    t.pending = s.pending ∧ t.inputs = s.inputs ∧ t.drive = s.drive ∧ t.meas = s.meas ∧ t.seq = s.seq ∧ t.gov = s.gov ∧
      t.regs = s.regs ∧ t.watch = s.watch ∧ t.level = s.level ∧ t.record = s.record ∧ t.store = u ∧ t.mem = s.mem ∧
      t.req.chain = .broken := by
  have h := s.storeAccepted_reported k rest u
  rw [State.Reported] at h
  intro t
  change t = _ at h
  refine ⟨?_, ?_, ?_, ?_, ?_, ?_, ?_, ?_, ?_, ?_, ?_, ?_, ?_⟩ <;> rw [h] <;> rfl

theorem storeAccepted_fault : (s.storeAccepted k rest u).sourcePresent .storeFault .first = false := State.fall_source _ _ _

theorem storeAccepted_rises : s.RisesKept (s.storeAccepted k rest u) ∧ s.WindowKept (s.storeAccepted k rest u) := by
  have hrises : s.RisesKept ((s.loading k rest).changeStore u) := .of_faults (by rw [State.changeStore_eq]; rfl)
  have hwindow : s.WindowKept ((s.loading k rest).changeStore u) := by
    rw [State.changeStore_eq]
    rfl
  exact ⟨hrises.trans (State.fall_risesKept _ _ _), hwindow.trans (State.fall_windowKept _ _ _)⟩

theorem storeAccepted_notice (h : u.state ≠ s.store.state) :
    (s.storeAccepted k rest u).req.notice.getLsbD noticeStore = true :=
  (State.fall_aside _ _ _).notice _ (State.changeStore_notice (s := s.loading k rest) h)

end

/-- The four groups other than STORE are in force. -/
def OthersThanStore (s : State) : Prop :=
  s.drive.isSome = true ∧ s.gov.envelope.isSome = true ∧ s.watch.settings.isSome = true ∧ s.record.settings.isSome = true

/-- A STORE group without a store in force and its request answered, before the departure test. -/
def absentLoaded (s : State) (k : Fin 8) (rest : List (Fin 8)) (c : StoreSettings) : State :=
  (s.storeAccepted k rest (storeAbsent s.store c)).finish k .ok [4]

theorem absentLoaded_configured {c : StoreSettings} : (s.absentLoaded k rest c).configured = true ↔ s.OthersThanStore := by
  obtain ⟨-, -, hdrive, -, -, hgov, -, hwatch, -, hrecord, hstore, -⟩ := s.storeAccepted_blocks k rest (storeAbsent s.store c)
  rw [State.absentLoaded, State.finish_configured, State.configured_iff, hdrive, hgov, hwatch, hrecord, hstore]
  simp [State.OthersThanStore, storeAbsent]

theorem loadBusy_store (hholder : s.req.holder = none) (hawait : s.store.awaiting = none)
    (hfree : s.store.state = .absent ∨ s.store.state = .outOfService ∨
      (s.store.state = .ready ∧ s.store.queue = [] ∧ s.store.job = .idle ∧ s.store.erase = .none)) : s.loadBusy 4 = false := by
  have hengaged : s.store.engaged = false := by
    rcases hfree with h | h | ⟨h, hq, hj, he⟩
    · simp [StoreUnit.engaged, h]
    · simp [StoreUnit.engaged, h]
    · simp [StoreUnit.engaged, h, hq, hj, he]
  rw [← Bool.not_eq_true, State.loadBusy_iff s (by decide)]
  simp [hholder, hawait, hengaged]

theorem activate_read (t : State) (k : Fin 8) {a : Nat} (ha : ¬(slotAddr k ≤ a ∧ a < slotAddr k + 2)) :
    (t.activate k).mem.read a = t.mem.read a :=
  Memory.read_writeWords_outside _ _ _ _ (by simp only [List.length_singleton]; omega)

theorem activate_slot (t : State) (k : Fin 8) : ((t.activate k).slot k).state = .active := by
  show (vget (vset t.req.slots k { t.slot k with state := .active }) k).state = .active
  rw [vget_vset_same]

end State
end Sys2Proof.Machine
end

section
/-! The outcomes of LOAD SETTINGS for a RECORD or STORE group (R20, R107, R125, R143, R150, R151). -/

namespace Sys2Proof.Machine

namespace State
variable {s : State} {k : Fin 8} {rest : List (Fin 8)}

/-! ### The RECORD group -/

section
variable {new : RecordSettings} (hexec : exec .loadSettings s = .next ((s.recordLoaded k rest new).departureTest))
include hexec

theorem recordLoaded_stays (hstay : s.seq.drive ≠ .unconfigured ∨ ¬s.OthersThanRecord) :
    ∃ t, exec .loadSettings s = .next t ∧ t.record.settings = some new ∧
      t.record = { s.record with settings := t.record.settings, banks := t.record.banks } ∧
      (s.record.activeBanks ≠ 0 → t.record.banks = s.record.banks) ∧
      (s.record.activeBanks = 0 → ∀ i, (s.record.bank i).state = .free → (∀ j, j < i → (s.record.bank j).state ≠ .free) →
        (∀ j, j ≠ i → t.record.bank j = s.record.bank j) ∧
        t.record.bank i = { s.record.bank i with
          state := .live, generation := (s.record.bank i).generation + 1, writeIndex := 0, valid := 0, postWritten := 0
          trigId := none, pre := new.pre }) ∧
      t.req.chain = .broken ∧ State.Completed t k .done .ok [3] ∧ t.seq = s.seq ∧ t.gov = s.gov ∧ t.faults = s.faults ∧
      t.regs = s.regs ∧ t.store = s.store ∧ s.sameField t ∧ ∀ a, ¬inAnswer k a → t.mem.read a = s.mem.read a := by
  obtain ⟨hpending, hinputs, hdrive, hmeas, hseq, hgov, hregs, hwatch, hfaults, -, hrecord, hstore⟩ := s.recordLoaded_blocks k rest new
  obtain ⟨hcompleted, hchain, hread⟩ := s.recordLoaded_answer k rest new
  have hnone : (s.recordLoaded k rest new).departureTest = s.recordLoaded k rest new := by
    refine State.departureTest_none fun h => ?_
    rw [hseq, State.recordLoaded_configured] at h
    rcases hstay with hd | ho
    · exact hd h.1
    · exact ho h.2
  rw [hnone] at hexec
  generalize s.recordLoaded k rest new = t at *
  refine ⟨t, hexec, ?_, ?_, fun hactive => ?_, fun hzero i hi hfirst => ?_, hchain, hcompleted, hseq, hgov, hfaults, hregs, hstore,
    ⟨hpending, hinputs, hdrive, hmeas, hwatch⟩, hread⟩
  · rw [hrecord, State.adopt_settings]
  · rw [hrecord, State.adopt_settings]
    exact s.record.adopt_eq new
  · rw [hrecord, s.record.adopt_active new hactive]
  · rw [hrecord, s.record.adopt_free new hzero hi hfirst]
    refine ⟨fun j hj => ?_, ?_⟩
    · rw [State.goLive_bank, if_neg hj]
      rfl
    · rw [State.goLive_bank, if_pos rfl]
      rfl

theorem recordLoaded_departs (hd : s.seq.drive = .unconfigured) (hothers : s.OthersThanRecord) (hr : s.seq.restartPending = false) :
    ∃ t, exec .loadSettings s = .next t ∧ t.record.settings = some new ∧ State.Completed t k .done .ok [3] ∧ t.gov.atRest ∧
      (¬s.TripLatched → t.seq = { s.seq with gate := ⟨false, false⟩, drive := .stopped } ∧
        t.faults.lock = s.faults.lock ∧ t.record.openRecord = s.record.openRecord ∧ t.record.idCounter = s.record.idCounter ∧
        (s.record.activeBanks = 0 → (s.record.bank 0).state = .free → (t.record.bank 0).state = .live ∧
          (t.record.bank 0).pre = new.pre)) ∧
      (s.TripLatched → s.faults.lock = false → t.seq = s.seq.afterTrip ∧ t.faults.lock = true) := by
  obtain ⟨-, -, -, -, hseq, -, -, -, hfaults, -, hrecord, -⟩ := s.recordLoaded_blocks k rest new
  obtain ⟨hcompleted, -⟩ := s.recordLoaded_answer k rest new
  have hconf := State.recordLoaded_configured (k := k) (rest := rest) (new := new).mpr hothers
  generalize s.recordLoaded k rest new = f at *
  have hfr : f.seq.restartPending = false := by rw [hseq]; exact hr
  have hlatched : f.TripLatched ↔ s.TripLatched := by rw [State.TripLatched, hfaults]; rfl
  obtain ⟨hrest, hstopped, htripped⟩ := State.departure_outcomes (by rw [hseq]; exact hd) hconf hfr
  rw [hlatched, hseq, hfaults] at hstopped htripped
  refine ⟨_, hexec, ?_, hcompleted.of_aside (State.departureTest_aside hfr), hrest, fun hl => ?_, htripped⟩
  · rw [State.departureTest_settings hfr, hrecord, State.adopt_settings]
  · obtain ⟨tseq, tlock, trecord, -⟩ := hstopped hl
    refine ⟨tseq, tlock, ?_, ?_, fun hzero hfree => ?_⟩
    · rw [trecord, hrecord, s.record.adopt_eq new]
    · rw [trecord, hrecord, s.record.adopt_eq new]
    · rw [trecord, hrecord, s.record.adopt_free new hzero hfree (fun j hj => absurd hj (by simp)), State.goLive_bank, if_pos rfl]
      exact ⟨rfl, rfl⟩

end

/-! ### The STORE group -/

/-- What the acceptance of a STORE group has cleared, and what it leaves (R151). -/
def StoreCleared (s t : State) : Prop :=
  t.store.sectors = [] ∧ t.store.badCount = 0 ∧ t.store.openSector = none ∧
  t.store.toOpen = none ∧ t.store.erase = .none ∧ t.store.eraseSector = none ∧ t.store.readPtr = none ∧
  t.store.dropped = s.store.dropped ∧ t.store.failed = s.store.failed ∧ t.store.hostOp = none ∧
  t.store.queue = s.store.queue ∧ t.sourcePresent .storeFault .first = false ∧ t.gov = s.gov ∧ s.sameField t

theorem storeScans {c : StoreSettings}
    (hexec : exec .loadSettings s = .next ((s.storeAccepted k rest (storeScanning s.store c k)).activate k))
    (hstate : s.store.state ≠ .scanning) :
    ∃ t, exec .loadSettings s = .next t ∧ s.StoreCleared t ∧ t.store.state = .scanning ∧ t.store.awaiting = some (c, k) ∧
      t.store.settings = s.store.settings ∧ t.store.job = .scanPoll ∧ t.store.transfer = none ∧ t.store.pollElapsed = 0 ∧
      (t.slot k).state = .active ∧ t.req.notice.getLsbD noticeStore = true ∧ t.seq = s.seq ∧ t.regs = s.regs ∧
      t.record = s.record ∧ ∀ a, ¬(slotAddr k ≤ a ∧ a < slotAddr k + 2) → t.mem.read a = s.mem.read a := by
  obtain ⟨hpending, hinputs, hdrive, hmeas, hseq, hgov, hregs, hwatch, -, hrecord, hstore, hmem, -⟩ :=
    s.storeAccepted_blocks k rest (storeScanning s.store c k)
  have hfault := s.storeAccepted_fault k rest (storeScanning s.store c k)
  have hnotice := s.storeAccepted_notice k rest (storeScanning s.store c k) (fun h => hstate h.symm)
  generalize s.storeAccepted k rest (storeScanning s.store c k) = f at *
  have astore : (f.activate k).store = storeScanning s.store c k := hstore
  have aread := fun a => f.activate_read k (a := a)
  have aslot := f.activate_slot k
  have ablocks : (f.activate k).pending = f.pending ∧ (f.activate k).inputs = f.inputs ∧ (f.activate k).drive = f.drive ∧
      (f.activate k).meas = f.meas ∧ (f.activate k).seq = f.seq ∧ (f.activate k).gov = f.gov ∧ (f.activate k).regs = f.regs ∧
      (f.activate k).watch = f.watch ∧ (f.activate k).record = f.record ∧ (f.activate k).faults = f.faults := by simp
  have anotice : (f.activate k).req.notice = f.req.notice := rfl
  obtain ⟨apending, ainputs, adrive, ameas, aseq, agov, aregs, awatch, arecord, afaults⟩ := ablocks
  generalize f.activate k = t at *
  have hfield : s.sameField t := ⟨apending.trans hpending, ainputs.trans hinputs, adrive.trans hdrive, ameas.trans hmeas, awatch.trans hwatch⟩
  have hcleared : s.StoreCleared t := by
    rw [State.StoreCleared, astore, State.sourcePresent, afaults, agov, hgov]
    exact ⟨rfl, rfl, rfl, rfl, rfl, rfl, rfl, rfl, rfl, rfl, rfl, hfault, rfl, hfield⟩
  refine ⟨t, hexec, hcleared, ?_, ?_, ?_, ?_, ?_, ?_, aslot, by rw [anotice]; exact hnotice, aseq.trans hseq, aregs.trans hregs,
    arecord.trans hrecord, fun a ha => (aread a ha).trans (by rw [hmem])⟩ <;> rw [astore] <;> rfl

section
variable {c : StoreSettings} (hexec : exec .loadSettings s = .next ((s.absentLoaded k rest c).departureTest))
include hexec

theorem absentLoaded_departs (hd : s.seq.drive = .unconfigured) (hothers : s.OthersThanStore) (hr : s.seq.restartPending = false) :
    ∃ t, exec .loadSettings s = .next t ∧ t.store.state = .absent ∧ t.store.settings = some c ∧ State.Completed t k .done .ok [4] ∧
      t.gov.atRest ∧
      (¬s.TripLatched → t.seq = { s.seq with gate := ⟨false, false⟩, drive := .stopped } ∧
        t.faults.lock = s.faults.lock ∧ t.record = s.record) ∧
      (s.TripLatched → s.faults.lock = false → t.seq = s.seq.afterTrip ∧ t.faults.lock = true) := by
  obtain ⟨-, -, -, -, hseq, -, -, -, -, hrecord, hstore, -⟩ := s.storeAccepted_blocks k rest (storeAbsent s.store c)
  obtain ⟨hrises, hwindow⟩ := s.storeAccepted_rises k rest (storeAbsent s.store c)
  have hconf := State.absentLoaded_configured (k := k) (rest := rest) (c := c).mpr hothers
  have hcompleted := (s.storeAccepted k rest (storeAbsent s.store c)).finish_completed k .ok [4]
  obtain ⟨-, -, -, -, fseq, -, -, -, ffaults, -, frecord, fstore⟩ :=
    (s.storeAccepted k rest (storeAbsent s.store c)).finish_frame k .ok [4]
  rw [← State.absentLoaded] at hcompleted fseq ffaults frecord fstore
  generalize s.storeAccepted k rest (storeAbsent s.store c) = v at *
  generalize s.absentLoaded k rest c = f at *
  have hfseq := fseq.trans hseq
  have hfr : f.seq.restartPending = false := by rw [hfseq]; exact hr
  have hfstore := fstore.trans hstore
  have hlock : f.faults.lock = s.faults.lock := by rw [ffaults, hwindow]
  have hlatched : f.TripLatched ↔ s.TripLatched := by
    simp only [State.TripLatched, ffaults, hrises.latched]
  obtain ⟨hrest, hstopped, htripped⟩ := State.departure_outcomes (by rw [hfseq]; exact hd) hconf hfr
  rw [hlatched, hfseq, hlock] at hstopped htripped
  have tstore : f.departureTest.store = storeAbsent s.store c :=
    (State.departureTest_store hfr (by rw [hfstore]; rfl)).trans hfstore
  refine ⟨_, hexec, by rw [tstore]; rfl, by rw [tstore]; rfl, hcompleted.of_aside (State.departureTest_aside hfr), hrest,
    fun hl => ?_, htripped⟩
  obtain ⟨tseq, tlock, trecord, -⟩ := hstopped hl
  exact ⟨tseq, tlock, trecord.trans (frecord.trans hrecord)⟩

theorem absentLoaded_stays (hstay : s.seq.drive ≠ .unconfigured ∨ ¬s.OthersThanStore) (hawait : s.store.awaiting = none) :
    ∃ t, exec .loadSettings s = .next t ∧ s.StoreCleared t ∧ t.store.state = .absent ∧ t.store.settings = some c ∧
      t.store.awaiting = none ∧ t.req.chain = .broken ∧ State.Completed t k .done .ok [4] ∧
      (s.store.state ≠ .absent → t.req.notice.getLsbD noticeStore = true) ∧
      t.seq = s.seq ∧ t.regs = s.regs ∧ t.record = s.record ∧ ∀ a, ¬inAnswer k a → t.mem.read a = s.mem.read a := by
  obtain ⟨hpending, hinputs, hdrive, hmeas, hseq, hgov, hregs, hwatch, -, hrecord, hstore, hmem, hchain⟩ :=
    s.storeAccepted_blocks k rest (storeAbsent s.store c)
  have hfault := s.storeAccepted_fault k rest (storeAbsent s.store c)
  have hnotice := fun h => s.storeAccepted_notice k rest (storeAbsent s.store c) h
  have hconf := State.absentLoaded_configured (s := s) (k := k) (rest := rest) (c := c)
  have hcompleted := (s.storeAccepted k rest (storeAbsent s.store c)).finish_completed k .ok [4]
  have hread : ∀ a, ¬inAnswer k a → (s.absentLoaded k rest c).mem.read a = (s.storeAccepted k rest (storeAbsent s.store c)).mem.read a :=
    fun a ha => State.finish_read _ k .ok [4] ha
  have fchain := (s.storeAccepted k rest (storeAbsent s.store c)).finish_chain k .ok [4]
  have fnotice : ∀ i, (s.storeAccepted k rest (storeAbsent s.store c)).req.notice.getLsbD i = true →
      (s.absentLoaded k rest c).req.notice.getLsbD i = true := fun i h => finish_notice k .ok [4] h
  obtain ⟨fpending, finputs, fdrive, fmeas, fseq, fgov, fregs, fwatch, ffaults, -, frecord, fstore⟩ :=
    (s.storeAccepted k rest (storeAbsent s.store c)).finish_frame k .ok [4]
  rw [← State.absentLoaded] at hcompleted fchain fpending finputs fdrive fmeas fseq fgov fregs fwatch ffaults frecord fstore
  generalize s.storeAccepted k rest (storeAbsent s.store c) = v at *
  generalize s.absentLoaded k rest c = t at *
  have hnone : t.departureTest = t := by
    refine State.departureTest_none fun h => ?_
    rw [fseq, hseq, hconf] at h
    rcases hstay with hd | ho
    · exact hd h.1
    · exact ho h.2
  rw [hnone] at hexec
  have tstore := fstore.trans hstore
  have hfield : s.sameField t := ⟨fpending.trans hpending, finputs.trans hinputs, fdrive.trans hdrive, fmeas.trans hmeas, fwatch.trans hwatch⟩
  have hcleared : s.StoreCleared t := by
    rw [State.StoreCleared, tstore, State.sourcePresent, ffaults, fgov, hgov]
    exact ⟨rfl, rfl, rfl, rfl, rfl, rfl, rfl, rfl, rfl, rfl, rfl, hfault, rfl, hfield⟩
  refine ⟨t, hexec, hcleared, by rw [tstore]; rfl, by rw [tstore]; rfl, by rw [tstore]; exact hawait, fchain.trans hchain, hcompleted,
    fun hstate => ?_, fseq.trans hseq, fregs.trans hregs, frecord.trans hrecord, fun a ha => (hread a ha).trans (by rw [hmem])⟩
  exact fnotice _ (hnotice fun h => hstate h.symm)

end
end State
end Sys2Proof.Machine
end

section
/-! What the work of the vibration watch leaves: the RECORD group, the latched flags, and the memory beside the record list (R83 to
R104, R129). -/

namespace Sys2Proof.Machine

namespace State
variable {s t u : State}

theorem postRecord_settings (s : State) (o : Record) : (s.postRecord o).record.settings = s.record.settings := by
  rw [State.postRecord_record]
  split <;> rfl

theorem fire_settings (s : State) (p : Program) (d : Option Nat) : (s.fire p d).record.settings = s.record.settings := by
  rcases Nat.lt_or_ge s.record.idCounter 0xFFFFFFFF with h | h
  · rw [State.fire_ids p d h]
    exact s.firing.postRecord_settings _
  · rw [State.fire_noIds p d h]
    rfl

theorem takeCond_settings (s : State) (c : TrigCond) (d : Option Nat) : (s.takeCond c d).record.settings = s.record.settings := by
  unfold State.takeCond
  split
  · split
    · split
      · exact s.fire_settings _ d
      · rfl
    · rfl
  · split
    · exact s.fire_settings _ d
    · rfl
  · rfl

/-- Work of the watch leads from `s` to `t`. -/
structure WatchWork (s t : State) : Prop where
  settings : t.record.settings = s.record.settings
  latched : ∀ j, (t.faults.entry j).latched = (s.faults.entry j).latched
  aside : s.Aside t

theorem WatchWork.refl (s : State) : s.WatchWork s := ⟨rfl, fun _ => rfl, .refl s⟩

theorem WatchWork.trans (h : s.WatchWork t) (h' : t.WatchWork u) : s.WatchWork u :=
  ⟨h'.settings.trans h.settings, fun j => (h'.latched j).trans (h.latched j), h.aside.trans h'.aside⟩

theorem WatchWork.ite {b : Prop} [Decidable b] (ht : s.WatchWork t) (hu : s.WatchWork u) : s.WatchWork (if b then t else u) := by
  split <;> assumption

theorem setWatch_work (s : State) (w : Watch) : s.WatchWork (s.setWatch w) := ⟨rfl, fun _ => rfl, .of_same rfl rfl⟩

theorem setChannel_work (s : State) (c : Channel) (w : ChannelWatch) : s.WatchWork (s.setChannel c w) := s.setWatch_work _

theorem setGroup_work (s : State) (g : Side) (w : GroupWatch) : s.WatchWork (s.setGroup g w) := s.setWatch_work _

theorem takeCond_work (s : State) (c : TrigCond) (d : Option Nat) : s.WatchWork (s.takeCond c d) := by
  refine ⟨s.takeCond_settings c d, fun j => ?_, s.takeCond_aside c d⟩
  rw [s.takeCond_eq]

theorem alarmLevel_work (s : State) (k : FaultKind) (src : Source) (d : Option Nat) (now : Bool) :
    s.WatchWork (s.alarmLevel k src d now) := by
  refine ⟨?_, fun j => s.alarmLevel_latched k src d now j.num, ?_⟩
  · rw [s.alarmLevel_reported]
  · unfold State.alarmLevel
    split
    · exact s.alarmRise_aside k src d
    · exact s.fall_aside k src

theorem formSuspect_work (s : State) (c : Channel) : s.WatchWork (s.formSuspect c) := (s.setWatch_work _).trans (State.alarmLevel_work _ _ _ _ _)

theorem formLost_work (s : State) (c : Channel) : s.WatchWork (s.formLost c) := (s.setWatch_work _).trans (State.alarmLevel_work _ _ _ _ _)

theorem formDemand_work (s : State) (g : Side) : s.WatchWork (s.formDemand g) := s.setGroup_work _ _

theorem formAlert_work (s : State) (g : Side) : s.WatchWork (s.formAlert g) := (s.setGroup_work _ _).trans (State.alarmLevel_work _ _ _ _ _)

theorem formDwell_work (s : State) (g : Side) : s.WatchWork (s.formDwell g) := .ite (.refl s) (s.setGroup_work _ _)

theorem formGroup_work (s : State) (g : Side) : s.WatchWork (s.formGroup g) :=
  ((s.formDemand_work g).trans (State.formAlert_work _ g)).trans (State.formDwell_work _ g)

theorem healthChanged_work (s : State) (c : Channel) : s.WatchWork (s.healthChanged c) :=
  (((s.takeCond_work _ _).trans (State.formSuspect_work _ c)).trans (State.formLost_work _ c)).trans (State.formGroup_work _ _)

theorem heldLost_work (s : State) (c : Channel) : s.WatchWork (s.heldLost c) :=
  .ite (s.setChannel_work _ _) ((s.setChannel_work _ _).trans (State.healthChanged_work _ c))

theorem formSectors_work (s : State) (c : Channel) : s.WatchWork (s.formSectors c) :=
  .ite (s.setChannel_work _ _) (((s.setChannel_work _ _).trans (.ite (State.takeCond_work _ _ _) (.refl _))).trans
    ((State.formDemand_work _ _).trans (State.formAlert_work _ _)))

theorem visitWork_work (s : State) (c : Channel) (t : Tag) (y : Int) : s.WatchWork (s.visitWork c t y) :=
  .ite (.ite ((s.setChannel_work _ _).trans (State.formSectors_work _ c)) (s.setChannel_work _ _)) (s.setChannel_work _ _)

theorem sampleWork_work (s : State) (c : Channel) (r : Receiver) : s.WatchWork (s.sampleWork c r) :=
  ((s.setChannel_work _ _).trans (.ite (State.heldLost_work _ c) (.refl _))).trans (State.visitWork_work _ c _ _)

theorem vibEntry_work (s : State) (c : Channel) (v0 : VibState) : s.WatchWork (s.vibEntry c v0) := by
  unfold State.vibEntry
  split
  · exact .ite (.refl s) (s.takeCond_work _ _)
  · exact s.takeCond_work _ _
  · exact .refl s

theorem evaluateChannel_work (s : State) (c : Channel) : s.WatchWork (s.evaluateChannel c) :=
  .ite (.ite (s.setChannel_work _ _) (((s.setChannel_work _ _).trans (State.vibEntry_work _ c _)).trans (State.formGroup_work _ _)))
    (.refl s)

theorem testMemory_work (s : State) (c : Channel) (e : Bool) : s.WatchWork (s.testMemory c e) :=
  .ite (((s.setChannel_work _ _).trans (State.formDemand_work _ _)).trans (State.formAlert_work _ _)) (.refl s)

theorem blockEndChannel_work (s : State) (c : Channel) : s.WatchWork (s.blockEndChannel c) :=
  (((s.setChannel_work _ _).trans (.ite (.refl _) (State.healthChanged_work _ c))).trans (State.evaluateChannel_work _ c)).trans
    (State.testMemory_work _ c _)

theorem foldl_work {α : Type} {step : State → α → State} (hstep : ∀ (u : State) a, u.WatchWork (step u a)) (l : List α) (s : State) :
    s.WatchWork (l.foldl step s) :=
  foldl_holds s.WatchWork step (fun u a h => h.trans (hstep u a)) l s (.refl s)

theorem takeSamples_work (s : State) : s.WatchWork s.takeSamples := by
  have hreceivers : s.WatchWork s.takeReceivers := ⟨rfl, fun _ => rfl, .of_same rfl rfl⟩
  exact hreceivers.trans (foldl_work (fun u c => u.sampleWork_work c (s.receiver c)) _ _)

theorem blockSwept_work (s : State) : s.WatchWork s.blockSwept := foldl_work (fun u c => u.blockEndChannel_work c) _ _

theorem formAll_work (s : State) (c : Channel) : s.WatchWork (s.formAll c) :=
  ((((((s.formSuspect_work c).trans (State.formLost_work _ c)).trans (State.formAlert_work _ .a)).trans (State.formAlert_work _ .b)).trans
    (State.formDemand_work _ .a)).trans (State.formDemand_work _ .b)).trans ((State.formDwell_work _ .a).trans (State.formDwell_work _ .b))

theorem formAll_formed (s : State) (c : Channel) : s.Formed (s.formAll c) :=
  ((((((s.formSuspect_formed c).trans (State.formLost_formed _ c)).trans (State.formAlert_formed _ .a)).trans (State.formAlert_formed _ .b)).trans
    (State.formDemand_formed _ .a)).trans (State.formDemand_formed _ .b)).trans ((State.formDwell_formed _ .a).trans (State.formDwell_formed _ .b))

/-! ### The watch millisecond -/

theorem tripPulse_aside (k : FaultKind) (hr : s.seq.restartPending = false) : s.Aside (s.tripPulse k) :=
  (State.tripRise_aside k .first hr).trans (State.fall_aside _ _ _)

theorem dwellStep_aside (g : Side) (hr : s.seq.restartPending = false) : s.Aside (s.dwellStep g) := by
  unfold State.dwellStep
  split
  · exact (s.setGroup_work g _).aside.trans (State.tripPulse_aside _ hr)
  · exact (WatchWork.ite (s.setGroup_work g _) (s.formDwell_work g)).aside

theorem advanceQuarter_aside (hr : s.seq.restartPending = false) : s.Aside s.advanceQuarter := by
  have hquarter : s.Aside s.quartered := .of_same rfl rfl
  unfold State.advanceQuarter
  dsimp only
  split
  · have ha := dwellStep_dwelt (s := s.quartered) .a hr
    have hkept : s.unlessReset (fun s => s.dwellStep .b) (s.quartered.dwellStep .a) = (s.quartered.dwellStep .a).dwellStep .b :=
      State.unlessReset_kept _ ha.resets
    rw [← State.quartered, hkept]
    exact (hquarter.trans (State.dwellStep_aside .a hr)).trans (State.dwellStep_aside .b ha.calm)
  · exact hquarter

/-- No dwell counts where the drive is not governed. -/
theorem dwellStep_seq (g : Side) (h : s.seq.drive.governed = false) : (s.dwellStep g).seq = s.seq := by
  obtain ⟨n, hn⟩ := State.dwellStep_below (s := s) (g := g) (.inr h)
  rw [hn]
  rfl

theorem advanceQuarter_seq (h : s.seq.drive.governed = false) (hr : s.seq.restartPending = false) : s.advanceQuarter.seq = s.seq := by
  unfold State.advanceQuarter
  dsimp only
  split
  · have ha := dwellStep_dwelt (s := s.quartered) .a hr
    have hkept : s.unlessReset (fun s => s.dwellStep .b) (s.quartered.dwellStep .a) = (s.quartered.dwellStep .a).dwellStep .b :=
      State.unlessReset_kept _ ha.resets
    have hseq : (s.quartered.dwellStep .a).seq = s.seq := State.dwellStep_seq .a h
    rw [← State.quartered, hkept, State.dwellStep_seq .b (by rw [hseq]; exact h), hseq]
  · rfl

end State
end Sys2Proof.Machine
end

section
/-! A VIBRATION group comes into force, channel by channel (R18, R97, R104). -/

namespace Sys2Proof.Machine

namespace State
variable {s t u : State}

/-- What the steps of R104 over the channels leave. -/
structure AdoptKept (s t : State) : Prop where
  eq : t = { s with
    meas := { s.meas with receivers := t.meas.receivers }
    watch := { s.watch with
      channels := t.watch.channels, groups := t.watch.groups, suspect := t.watch.suspect, lost := t.watch.lost }
    faults := t.faults, record := t.record, req := { s.req with notice := t.req.notice }, mem := t.mem }
  settings : t.record.settings = s.record.settings
  latched : ∀ j, (t.faults.entry j).latched = (s.faults.entry j).latched

theorem AdoptKept.refl (s : State) : s.AdoptKept s := ⟨rfl, rfl, fun _ => rfl⟩

theorem AdoptKept.trans (h : s.AdoptKept t) (h' : t.AdoptKept u) : s.AdoptKept u := by
  refine ⟨?_, h'.settings.trans h.settings, fun j => (h'.latched j).trans (h.latched j)⟩
  have heq := h'.eq
  rw [h.eq] at heq
  exact heq

theorem AdoptKept.of_swept (h : s.Swept t) (h' : s.WatchWork t) : s.AdoptKept t := by
  refine ⟨?_, h'.settings, h'.latched⟩
  have hmeas := h.meas
  have heq := h.eq
  rw [hmeas]
  exact heq

theorem AdoptKept.group (h : s.AdoptKept t) : t.watch.settings = s.watch.settings := by rw [h.eq]
theorem AdoptKept.cfg (h : s.AdoptKept t) : t.watch.cfg = s.watch.cfg := by rw [Watch.cfg, h.group, Watch.cfg]
theorem AdoptKept.fitted (h : s.AdoptKept t) : t.watch.fitted = s.watch.fitted := by
  funext c
  unfold Watch.fitted
  rw [h.group]

/-- A channel, its receiver and its clear word. -/
def channelView (s : State) (c : Channel) : ChannelWatch × Receiver × Word :=
  (s.channel c, s.receiver c, s.mem.readWord (stickyClearAddr c))

theorem clearWord_aside (h : s.Aside t) (c : Channel) : t.mem.readWord (stickyClearAddr c) = s.mem.readWord (stickyClearAddr c) := by
  rw [Memory.readWord_of_read fun x _ hx => h.mem x (by
    simp only [stickyClearAddr] at hx
    omega)]

theorem formSectors_view (s : State) {c d : Channel} (h : c ≠ d) : (s.formSectors d).channelView c = s.channelView c := by
  have hwork := s.formSectors_worked d
  have hreceiver : (s.formSectors d).receiver c = s.receiver c := by rw [State.receiver, hwork.swept.meas, State.receiver]
  rw [State.channelView, hwork.others c h, hreceiver, State.clearWord_aside (s.formSectors_work d).aside]
  rfl

theorem resetChannel_kept (s : State) (d : Channel) (now : Bool) : s.AdoptKept (s.resetChannel d now) := by
  unfold State.resetChannel
  dsimp only
  split <;> exact ⟨rfl, rfl, fun _ => rfl⟩

theorem resetChannel_channel (s : State) (d c : Channel) (now : Bool) :
    (s.resetChannel d now).channel c = if c = d then .reset else s.channel c := by
  have hset : (s.resetChannel d now).channel c = (s.setChannel d .reset).channel c := by
    unfold State.resetChannel
    dsimp only
    split <;> rfl
  rw [hset]
  exact vget_vset _ _ _ _

theorem resetChannel_receiver (s : State) (d c : Channel) (now : Bool) :
    (s.resetChannel d now).receiver c = if c = d then { Receiver.reset with waitIdle := now } else s.receiver c := by
  have hset : (s.resetChannel d now).receiver c = (s.setReceiver d { Receiver.reset with waitIdle := now }).receiver c := by
    unfold State.resetChannel
    dsimp only
    split <;> rfl
  rw [hset]
  exact vget_vset _ _ _ _

theorem resetChannel_word (s : State) (d c : Channel) (now : Bool) :
    (s.resetChannel d now).mem.readWord (stickyClearAddr c) =
      if c = d ∧ now = false then 0 else s.mem.readWord (stickyClearAddr c) := by
  unfold State.resetChannel
  dsimp only
  cases now with
  | true => rw [if_pos rfl, if_neg (by simp)]; rfl
  | false =>
    rw [if_neg (by simp)]
    by_cases hc : c = d
    · subst hc
      rw [if_pos ⟨rfl, rfl⟩]
      exact Memory.readWord_writeWord_same _ _ _
    · rw [if_neg (fun h => hc h.1)]
      have hne : c.val ≠ d.val := fun h => hc (Fin.ext h)
      refine Memory.readWord_of_read fun x hlo hx => ?_
      refine Memory.read_writeWords_outside _ _ _ _ ?_
      simp only [stickyClearAddr, List.length_singleton] at hlo hx ⊢
      omega

theorem adoptChannel_kept (old : Channel → Bool) (s : State) (d : Channel) : s.AdoptKept (State.adoptChannel old s d) := by
  unfold State.adoptChannel
  split
  · exact .of_swept (s.formSectors_worked d).swept (s.formSectors_work d)
  · exact .refl s
  · exact s.resetChannel_kept d _

theorem adoptChannel_other (old : Channel → Bool) (s : State) {c d : Channel} (h : c ≠ d) :
    (State.adoptChannel old s d).channelView c = s.channelView c := by
  unfold State.adoptChannel
  split
  · exact s.formSectors_view h
  · rfl
  · rw [State.channelView, resetChannel_channel, resetChannel_receiver, resetChannel_word, if_neg h, if_neg h, if_neg (fun h' => h h'.1)]
    rfl

/-- A channel after the steps of R104: fitted as before, or changed. -/
theorem adoptChannel_both {old : Channel → Bool} {s : State} {c : Channel} (hold : old c = true) (hnow : s.watch.fitted c = true) :
    (State.adoptChannel old s c).channel c = (s.channel c).formMap (vget s.watch.cfg.sector c) := by
  have hstep : State.adoptChannel old s c = s.formSectors c := by
    unfold State.adoptChannel
    rw [hold, hnow]
  rw [hstep, (s.formSectors_worked c).here]

theorem adoptChannel_changed {old : Channel → Bool} {s : State} {c : Channel} (h : old c ≠ s.watch.fitted c) :
    State.adoptChannel old s c = s.resetChannel c (s.watch.fitted c) := by
  unfold State.adoptChannel
  cases hold : old c <;> cases hnow : s.watch.fitted c <;> simp_all

/-- In the sweep over all channels each is left as its own step leaves it. -/
theorem adopt_fold (old : Channel → Bool) (c : Channel) : ∀ (l : List Channel) (s : State), l.Nodup →
    s.AdoptKept (l.foldl (State.adoptChannel old) s) ∧
    (c ∉ l → (l.foldl (State.adoptChannel old) s).channelView c = s.channelView c) ∧
    (c ∈ l → ∃ u, s.AdoptKept u ∧ u.channelView c = s.channelView c ∧
      (l.foldl (State.adoptChannel old) s).channelView c = (State.adoptChannel old u c).channelView c) := by
  intro l
  induction l with
  | nil => exact fun s _ => ⟨.refl s, fun _ => rfl, fun h => by simp at h⟩
  | cons d l ih =>
    intro s hnodup
    obtain ⟨hd, hl⟩ := List.nodup_cons.mp hnodup
    have hkept := State.adoptChannel_kept old s d
    obtain ⟨hrest, hout, hin⟩ := ih (State.adoptChannel old s d) hl
    refine ⟨hkept.trans hrest, fun hc => ?_, fun hc => ?_⟩
    · rw [List.mem_cons, not_or] at hc
      exact (hout hc.2).trans (State.adoptChannel_other old s hc.1)
    · by_cases hcd : c = d
      · subst hcd
        exact ⟨s, .refl s, rfl, hout hd⟩
      · obtain ⟨u, hu, hview, hlast⟩ := hin ((List.mem_cons.mp hc).resolve_left hcd)
        exact ⟨u, hkept.trans hu, hview.trans (State.adoptChannel_other old s hcd), hlast⟩

/-- All channels of `s` adopted, where `old` tells which were fitted. -/
def channelsAdopted (s : State) (old : Channel → Bool) : State := allChannels.foldl (State.adoptChannel old) s

theorem allChannels_nodup : allChannels.Nodup := by decide

theorem mem_allChannels (c : Channel) : c ∈ allChannels := by
  revert c
  decide

theorem channelsAdopted_kept (s : State) (old : Channel → Bool) : s.AdoptKept (s.channelsAdopted old) :=
  (State.adopt_fold old 0 allChannels s allChannels_nodup).1

theorem channelsAdopted_view (s : State) (old : Channel → Bool) (c : Channel) :
    ∃ u, s.AdoptKept u ∧ u.channelView c = s.channelView c ∧
      (s.channelsAdopted old).channelView c = (State.adoptChannel old u c).channelView c :=
  (State.adopt_fold old c allChannels s allChannels_nodup).2.2 (mem_allChannels c)

theorem channelsAdopted_changed (s : State) {old : Channel → Bool} {c : Channel} (h : old c ≠ s.watch.fitted c) :
    (s.channelsAdopted old).channel c = .reset ∧
    (s.channelsAdopted old).receiver c = { Receiver.reset with waitIdle := s.watch.fitted c } ∧
    (s.watch.fitted c = false → (s.channelsAdopted old).mem.readWord (stickyClearAddr c) = 0) := by
  obtain ⟨u, hu, -, hlast⟩ := s.channelsAdopted_view old c
  rw [← hu.fitted] at h ⊢
  rw [State.adoptChannel_changed h, State.channelView, State.channelView, resetChannel_channel, resetChannel_receiver, resetChannel_word,
    if_pos rfl, if_pos rfl, Prod.mk.injEq, Prod.mk.injEq] at hlast
  obtain ⟨hchannel, hreceiver, hword⟩ := hlast
  exact ⟨hchannel, hreceiver, fun hnow => hword.trans (if_pos ⟨rfl, hnow⟩)⟩

theorem channelsAdopted_both (s : State) {old : Channel → Bool} {c : Channel} (hold : old c = true) (hnow : s.watch.fitted c = true) :
    (s.channelsAdopted old).channel c = (s.channel c).formMap (vget s.watch.cfg.sector c) := by
  obtain ⟨u, hu, hview, hlast⟩ := s.channelsAdopted_view old c
  have hchannel : u.channel c = s.channel c := congrArg Prod.fst hview
  have hlast' : (s.channelsAdopted old).channel c = (State.adoptChannel old u c).channel c := congrArg Prod.fst hlast
  rw [hlast', State.adoptChannel_both hold (by rw [hu.fitted]; exact hnow), hchannel, hu.cfg]

/-- The sector alert formed from the map (R97). -/
theorem formMap_alert (w : ChannelWatch) (level : Nat) : (w.formMap level).sectorAlert = true ↔ ∃ e ∈ (w.formMap level).map, level ≤ e := by
  show (w.map.any fun x => decide (level ≤ x)) = true ↔ ∃ e ∈ w.map, level ≤ e
  simp

end State
end Sys2Proof.Machine
end

section
/-! The block end at which a VIBRATION group comes into force (R18, R20, R83, R104). -/

namespace Sys2Proof.Machine

namespace State
variable {s : State} {v : VibSettings} {k : Fin 8}

/-- The state at the block end with the awaiting group's settings in force, before the channels follow. -/
def vibrationTaken (s : State) (v : VibSettings) : State :=
  s.atBlockEnd.blockSwept.setWatch { s.atBlockEnd.blockSwept.watch with settings := some v, awaiting := none }

/-- The awaiting group in force, all formed anew and the map image rewritten. -/
def vibrationAdopted (s : State) (v : VibSettings) : State :=
  (((s.vibrationTaken v).channelsAdopted s.watch.fitted).formAll (newlyFitted s.watch.fitted (s.vibrationTaken v).watch.fitted)).rewriteMap

/-- What has led to the state in which the settings come into force. -/
theorem vibrationTaken_eqs (s : State) (v : VibSettings) :
    (s.vibrationTaken v).watch.settings = some v ∧ (s.vibrationTaken v).watch.awaiting = none ∧
    (s.vibrationTaken v).watch.imageCount = s.watch.imageCount ∧ (s.vibrationTaken v).seq = s.seq ∧
    (s.vibrationTaken v).gov = s.gov ∧ (s.vibrationTaken v).drive = s.drive ∧ (s.vibrationTaken v).store = s.store ∧
    (s.vibrationTaken v).record.settings = s.record.settings ∧
    ∀ j, ((s.vibrationTaken v).faults.entry j).latched = (s.faults.entry j).latched := by
  have hsamples := s.takeSamples_swept
  have hsettings := s.takeSamples_work.settings
  have hlatched := s.takeSamples_work.latched
  have hswept := s.atBlockEnd.blockSwept_swept
  have hwork := s.atBlockEnd.blockSwept_work
  obtain ⟨hseq, hgov, -, hdrive, -⟩ := hsamples.units
  obtain ⟨hseq', hgov', -, hdrive', -⟩ := hswept.units
  have hstore : s.takeSamples.store = s.store := by rw [hsamples.eq]; rfl
  have hstore' : s.atBlockEnd.blockSwept.store = s.atBlockEnd.store := by rw [hswept.eq]
  have hcount : s.takeSamples.watch.imageCount = s.watch.imageCount := by rw [hsamples.eq]; rfl
  have hcount' : s.atBlockEnd.blockSwept.watch.imageCount = s.atBlockEnd.watch.imageCount := by rw [hswept.eq]
  exact ⟨rfl, rfl, hcount'.trans hcount, hseq'.trans hseq, hgov'.trans hgov, hdrive'.trans hdrive, hstore'.trans hstore,
    hwork.settings.trans hsettings, fun j => (hwork.latched j).trans (hlatched j)⟩

theorem vibrationTaken_fitted (s : State) (v : VibSettings) : (s.vibrationTaken v).watch.fitted = fun c => vget v.fitted c := rfl

/-- The block end with a group awaiting force. -/
theorem advanceBlock_taken (hpos : s.watch.blockPos = 255) (hawait : s.watch.awaiting = some (v, k)) :
    s.takeSamples.advanceBlock = ((s.vibrationAdopted v).finish k .ok [2]).departureTest := by
  have hswept := s.atBlockEnd.blockSwept_swept
  have hpos' : s.takeSamples.watch.blockPos = 255 := by rw [s.takeSamples_blockPos.1, hpos]
  have hawait' : s.atBlockEnd.blockSwept.watch.awaiting = some (v, k) := by
    rw [hswept.eq]
    show s.takeSamples.watch.awaiting = some (v, k)
    rw [s.takeSamples_swept.eq]
    exact hawait
  have hfitted : s.atBlockEnd.blockSwept.watch.fitted = s.watch.fitted := by rw [hswept.fitted, State.atBlockEnd_fitted]
  have hend : s.atBlockEnd.blockEnd = s.atBlockEnd.blockSwept.vibrationInForce := rfl
  rw [State.advanceBlock_end hpos', ← State.atBlockEnd, hend, State.vibrationInForce, hawait']
  dsimp only
  rw [hfitted]
  rfl

/-- What has come of the group in force. -/
theorem vibrationAdopted_eqs (s : State) (v : VibSettings) :
    let t := s.vibrationAdopted v
    t.watch.settings = some v ∧ t.watch.awaiting = none ∧ t.watch.imageCount = s.watch.imageCount + 2 ∧
      t.mem.readWord mapImageAddr = s.watch.imageCount + 2 ∧ t.vibrationLaw ∧ t.seq = s.seq ∧
      t.gov = s.gov ∧ t.drive = s.drive ∧ t.store = s.store ∧ t.record.settings = s.record.settings ∧
      (∀ j, (t.faults.entry j).latched = (s.faults.entry j).latched) ∧
      (∀ c, t.channel c = ((s.vibrationTaken v).channelsAdopted s.watch.fitted).channel c) ∧
      (∀ c, t.receiver c = ((s.vibrationTaken v).channelsAdopted s.watch.fitted).receiver c) ∧
      ∀ c, t.mem.readWord (stickyClearAddr c) = ((s.vibrationTaken v).channelsAdopted s.watch.fitted).mem.readWord (stickyClearAddr c) := by
  obtain ⟨hgroup, hawait, hcount, hseq, hgov, hdrive, hstore, hsettings, hlatched⟩ := s.vibrationTaken_eqs v
  have hkept := (s.vibrationTaken v).channelsAdopted_kept s.watch.fitted
  unfold State.vibrationAdopted
  generalize newlyFitted s.watch.fitted (s.vibrationTaken v).watch.fitted = n
  generalize hu : (s.vibrationTaken v).channelsAdopted s.watch.fitted = u at *
  generalize s.vibrationTaken v = x at *
  have hformed := u.formAll_formed n
  have hwork := u.formAll_work n
  have hlaw := u.formAll_law n
  generalize u.formAll n = f at *
  have hcountf : f.watch.imageCount = s.watch.imageCount := by
    rw [hformed.swept.eq]
    show u.watch.imageCount = _
    rw [hkept.eq]
    exact hcount
  obtain ⟨fseq, fgov, -, fdrive, fmeas⟩ := hformed.swept.units
  have hmap := f.rewriteMap_count
  have hread := fun a => f.rewriteMap_read (a := a)
  have hlaw' := f.rewriteMap_lawKept.law hlaw
  have heq := f.rewriteMap_eq
  generalize f.rewriteMap = t at *
  refine ⟨?_, ?_, ?_, ?_, hlaw', ?_, ?_, ?_, ?_, ?_, fun j => ?_, fun c => ?_, fun c => ?_, fun c => ?_⟩
  · rw [heq]
    show f.watch.settings = some v
    rw [hformed.swept.settings, hkept.group, hgroup]
  · rw [heq]
    show f.watch.awaiting = none
    rw [hformed.swept.eq]
    show u.watch.awaiting = none
    rw [hkept.eq]
    exact hawait
  · rw [heq]
    show f.watch.imageCount + 2 = _
    rw [hcountf]
  · rw [hmap, hcountf]
  · rw [heq]
    show f.seq = s.seq
    rw [fseq, hkept.eq]
    exact hseq
  · rw [heq]
    show f.gov = s.gov
    rw [fgov, hkept.eq]
    exact hgov
  · rw [heq]
    show f.drive = s.drive
    rw [fdrive, hkept.eq]
    exact hdrive
  · rw [heq]
    show f.store = s.store
    rw [hformed.swept.eq]
    show u.store = s.store
    rw [hkept.eq]
    exact hstore
  · rw [heq]
    show f.record.settings = s.record.settings
    rw [hwork.settings, hkept.settings, hsettings]
  · rw [heq]
    show (f.faults.entry j).latched = _
    rw [hwork.latched, hkept.latched, hlatched]
  · rw [heq]
    exact hformed.channel c
  · rw [heq]
    show f.receiver c = u.receiver c
    rw [State.receiver, fmeas, State.receiver]
  · have hword : t.mem.readWord (stickyClearAddr c) = f.mem.readWord (stickyClearAddr c) :=
      Memory.readWord_of_read fun a hlo hhi => hread a (by
        simp only [stickyClearAddr, mapImageAddr] at hlo hhi ⊢
        omega)
    rw [hword, State.clearWord_aside hwork.aside]

/-- The block end from the group in force on: its request answered, the departure tested, the quarter advanced. -/
theorem samplePeriod_taken (hr : s.seq.restartPending = false) (hpos : s.watch.blockPos = 255)
    (hawait : s.watch.awaiting = some (v, k)) :
    let f := (s.vibrationAdopted v).finish k .ok [2]
    s.samplePeriod = f.departureTest.advanceQuarter.requestSamples ∧ f.seq.restartPending = false ∧
      f.Aside s.samplePeriod ∧ s.samplePeriod.meas = f.meas ∧ s.samplePeriod.vibrationLaw ∧
      s.samplePeriod.watch = { f.watch with
        groups := s.samplePeriod.watch.groups, quarter := s.samplePeriod.watch.quarter, sampleRequest := true } := by
  have hperiod := State.samplePeriod_calm_eq hr
  rw [State.advanceBlock_taken hpos hawait] at hperiod
  have hlaw : ((s.vibrationAdopted v).finish k .ok [2]).vibrationLaw :=
    ((s.vibrationAdopted v).finish_lawKept k _ _).law (s.vibrationAdopted_eqs v).2.2.2.2.1
  have hcalm : ((s.vibrationAdopted v).finish k .ok [2]).seq.restartPending = false := by
    rw [((s.vibrationAdopted v).finish_frame k .ok [2]).2.2.2.2.1, (s.vibrationAdopted_eqs v).2.2.2.2.2.1]
    exact hr
  dsimp only
  rw [hperiod]
  generalize (s.vibrationAdopted v).finish k .ok [2] = f at *
  obtain ⟨hcalm', -, -, hmeas, hwatch⟩ := f.departureTest_calm hcalm
  have haside := State.departureTest_aside hcalm
  have hlaw' := departureTest_law hlaw
  generalize f.departureTest = d at *
  have hdwelt := advanceQuarter_dwelt hcalm'
  have haside' := State.advanceQuarter_aside hcalm'
  have hlaw'' := advanceQuarter_law hlaw'
  generalize d.advanceQuarter = q at *
  have hrequest : q.LawKept q.requestSamples := .of_view rfl rfl rfl rfl rfl fun _ _ => rfl
  have hquarter : q.watch = { d.watch with groups := q.watch.groups, quarter := q.watch.quarter } := by
    rw [hdwelt.watch]
    rfl
  refine ⟨rfl, hcalm, (haside.trans haside').trans (.of_same rfl rfl), hdwelt.meas.trans hmeas, hrequest.law hlaw'', ?_⟩
  rw [← hwatch]
  show { q.watch with sampleRequest := true } = _
  rw [hquarter]
  rfl

end State
end Sys2Proof.Machine
end

section
/-! What BLOCK_END leaves with a VIBRATION group awaiting force (R18, R20, R97, R104). -/

namespace Sys2Proof.Machine

namespace State
variable {s : State} {v : VibSettings} {k : Fin 8}

/-- The groups other than VIBRATION are in force and the store is settled (R20). -/
def OthersThanVibration (s : State) : Prop :=
  s.drive.isSome = true ∧ s.gov.envelope.isSome = true ∧ s.record.settings.isSome = true ∧ s.store.settings.isSome = true ∧
  s.store.state ≠ .scanning

/-- The group in force with its request answered, before the departure test. -/
def vibrationAnswered (s : State) (v : VibSettings) (k : Fin 8) : State := (s.vibrationAdopted v).finish k .ok [2]

theorem vibrationAnswered_configured : (s.vibrationAnswered v k).configured = true ↔ s.OthersThanVibration := by
  obtain ⟨hgroup, -, -, -, -, -, hgov, hdrive, hstore, hsettings, -⟩ := s.vibrationAdopted_eqs v
  rw [State.vibrationAnswered, State.finish_configured, State.configured_iff, hgroup, hgov, hdrive, hstore, hsettings]
  simp [State.OthersThanVibration]

/-- Where no departure follows the sequencer stays (R20). -/
theorem vibration_stays (hr : s.seq.restartPending = false) (hpos : s.watch.blockPos = 255) (hawait : s.watch.awaiting = some (v, k))
    (hd : s.seq.drive = .unconfigured) (hothers : ¬s.OthersThanVibration) : s.samplePeriod.seq = s.seq := by
  have hconf := State.vibrationAnswered_configured (s := s) (v := v) (k := k)
  have hperiod := (State.samplePeriod_taken hr hpos hawait).1
  have hseq : (s.vibrationAnswered v k).seq = s.seq :=
    ((s.vibrationAdopted v).finish_frame k .ok [2]).2.2.2.2.1.trans (s.vibrationAdopted_eqs v).2.2.2.2.2.1
  rw [← State.vibrationAnswered] at hperiod
  generalize s.vibrationAnswered v k = f at *
  have hnone : f.departureTest = f := State.departureTest_none fun h => hothers (hconf.mp h.2)
  rw [hnone] at hperiod
  rw [hperiod]
  show f.advanceQuarter.seq = s.seq
  rw [State.advanceQuarter_seq (by rw [hseq, hd]; rfl) (by rw [hseq]; exact hr), hseq]

/-- The departure to STOPPED (R20). -/
theorem vibration_departs (hr : s.seq.restartPending = false) (hpos : s.watch.blockPos = 255) (hawait : s.watch.awaiting = some (v, k))
    (hd : s.seq.drive = .unconfigured) (hothers : s.OthersThanVibration)
    (hlatched : ∀ f ∈ FaultKind.tripKinds, (s.faults.entry f).latched = false) : s.samplePeriod.seq.drive = .stopped := by
  have hconf := (State.vibrationAnswered_configured (v := v) (k := k)).mpr hothers
  have hperiod := (State.samplePeriod_taken hr hpos hawait).1
  have hframe := (s.vibrationAdopted v).finish_frame k .ok [2]
  have hseq : (s.vibrationAnswered v k).seq = s.seq := hframe.2.2.2.2.1.trans (s.vibrationAdopted_eqs v).2.2.2.2.2.1
  have hentries : ∀ j, ((s.vibrationAnswered v k).faults.entry j).latched = (s.faults.entry j).latched := fun j => by
    have hfaults : (s.vibrationAnswered v k).faults = (s.vibrationAdopted v).faults := hframe.2.2.2.2.2.2.2.2.1
    rw [hfaults]
    exact (s.vibrationAdopted_eqs v).2.2.2.2.2.2.2.2.2.2.1 j
  rw [← State.vibrationAnswered] at hperiod
  generalize s.vibrationAnswered v k = f at *
  have hfr : f.seq.restartPending = false := by rw [hseq]; exact hr
  have hstopped : f.departureTest = f.enterStopped :=
    State.departureTest_stopped (by rw [hseq]; exact hd) hconf fun j hj => (hentries j).trans (hlatched j hj)
  have heseq := (State.enterStopped_calm_eqs f hfr).1
  rw [hstopped] at hperiod
  generalize f.enterStopped = e at *
  have hdrive : e.seq.drive = .stopped := by rw [heseq]
  rw [hperiod]
  show e.advanceQuarter.seq.drive = .stopped
  rw [State.advanceQuarter_seq (by rw [hdrive]; rfl) (by rw [heseq]; exact hfr), hdrive]

/-- BLOCK_END with a group awaiting force. -/
theorem vibration_blockEnd (hpos : s.watch.blockPos = 255) (hawait : s.watch.awaiting = some (v, k))
    (hr : s.seq.restartPending = false) : ∃ t, exec .blockEnd s = .next t ∧ t.watch.settings = some v ∧ t.watch.awaiting = none ∧
      State.Completed t k .done .ok [2] ∧ t.watch.imageCount = s.watch.imageCount + 2 ∧
      t.mem.readWord mapImageAddr = s.watch.imageCount + 2 ∧ t.vibrationLaw ∧
      (∀ c, s.watch.fitted c ≠ vget v.fitted c → t.channel c = ChannelWatch.reset ∧
        t.receiver c = { Receiver.reset with waitIdle := vget v.fitted c }) ∧
      (∀ c, s.watch.fitted c = true → vget v.fitted c = false → t.mem.readWord (stickyClearAddr c) = 0) ∧
      (∀ c, s.watch.fitted c = true → vget v.fitted c = true →
        ((t.channel c).sectorAlert = true ↔ ∃ e ∈ (t.channel c).map, vget v.sector c ≤ e)) ∧
      (s.seq.drive = .unconfigured → ¬s.OthersThanVibration → t.seq = s.seq) ∧
      (s.seq.drive = .unconfigured → s.OthersThanVibration → (∀ f ∈ FaultKind.tripKinds, (s.faults.entry f).latched = false) →
        t.seq.drive = .stopped) := by
  have hexec : exec .blockEnd s = .next s.samplePeriod := congrArg Host.Outcome.next (if_pos hpos)
  have hstays := fun hd ho => State.vibration_stays hr hpos hawait hd ho
  have hdeparts := fun hd ho hl => State.vibration_departs hr hpos hawait hd ho hl
  obtain ⟨-, -, haside, hmeas, hlaw, hwatch⟩ := State.samplePeriod_taken hr hpos hawait
  obtain ⟨hgroup, hnone, hcount, hword, -, -, -, -, -, -, -, hchannel, hreceiver, hclear⟩ := s.vibrationAdopted_eqs v
  have hchanged := fun c h => (s.vibrationTaken v).channelsAdopted_changed (old := s.watch.fitted) (c := c) h
  have hboth := fun c h h' => (s.vibrationTaken v).channelsAdopted_both (old := s.watch.fitted) (c := c) h h'
  have hcfg : (s.vibrationTaken v).watch.cfg = v := rfl
  rw [s.vibrationTaken_fitted v] at hchanged hboth
  rw [hcfg] at hboth
  generalize (s.vibrationTaken v).channelsAdopted s.watch.fitted = u at *
  have hcompleted := (s.vibrationAdopted v).finish_completed k .ok [2]
  obtain ⟨-, -, -, fmeas, -, -, -, fwatch, -⟩ := (s.vibrationAdopted v).finish_frame k .ok [2]
  have fread := fun a => (s.vibrationAdopted v).finish_read k .ok [2] (a := a)
  generalize (s.vibrationAdopted v).finish k .ok [2] = f at *
  generalize s.vibrationAdopted v = a at *
  generalize s.samplePeriod = t at *
  have tchannel : ∀ c, t.channel c = u.channel c := fun c => by
    rw [State.channel, hwatch]
    show vget f.watch.channels c = _
    rw [fwatch]
    exact hchannel c
  have treceiver : ∀ c, t.receiver c = u.receiver c := fun c => by
    rw [State.receiver, hmeas, fmeas]
    exact hreceiver c
  have tword : ∀ b, 0x0500 ≤ b → b < 0x0510 ∨ b = mapImageAddr → t.mem.readWord b = a.mem.readWord b := fun b hlo hb => by
    refine Memory.readWord_of_read fun x hx hx' => ?_
    simp only [mapImageAddr] at hb
    rw [haside.mem x (by omega), fread x]
    have hslot : slotAddr k < 0x0200 := by
      simp only [slotAddr]
      omega
    simp only [inAnswer]
    omega
  refine ⟨t, hexec, ?_, ?_, hcompleted.of_aside haside, ?_, ?_, hlaw, fun c hc => ?_, fun c hold hnew => ?_, fun c hold hnew => ?_,
    hstays, hdeparts⟩
  · rw [hwatch]
    exact (congrArg Watch.settings fwatch).trans hgroup
  · rw [hwatch]
    exact (congrArg Watch.awaiting fwatch).trans hnone
  · rw [hwatch]
    exact (congrArg Watch.imageCount fwatch).trans hcount
  · rw [tword mapImageAddr (by decide) (.inr rfl), hword]
  · rw [tchannel, treceiver]
    exact ⟨(hchanged c hc).1, (hchanged c hc).2.1⟩
  · have hc := (hchanged c (by simp [hold, hnew])).2.2 hnew
    rw [tword _ (by simp [stickyClearAddr]) (.inl (by simp only [stickyClearAddr]; omega)), hclear, hc]
  · rw [tchannel, hboth c hold hnew]
    exact State.formMap_alert _ _

end State
end Sys2Proof.Machine
end

section
/-! What the store unit reads off its sector table, and the work that it starts when its port is free (R145, R154 to R158). -/

namespace Sys2Proof.Machine

namespace StoreUnit
variable {u : StoreUnit} {i n o p : Nat} {e : Sector}

/-! ### The sector table -/

theorem sectorState_of_getElem (h : u.sectors[i]? = some e) : u.sectorState i = e.state := by rw [sectorState, h]; rfl

theorem sectorState_outside (h : u.sectors.length ≤ i) : u.sectorState i = .bad := by
  rw [sectorState, List.getElem?_eq_none h]
  rfl

theorem lt_of_sectorState (h : u.sectorState i ≠ .bad) : i < u.sectors.length := by
  by_contra hlt
  exact h (sectorState_outside (Nat.not_lt.mp hlt))

theorem sectorSeq_of_getElem (h : u.sectors[i]? = some e) : u.sectorSeq i = e.seq.getD 0 := by rw [sectorSeq, h]; rfl

/-- The entry of a sector modified, written as the entry set. -/
theorem modSector_of_getElem (f : Sector → Sector) (h : u.sectors[i]? = some e) :
    u.modSector i f = { u with sectors := u.sectors.set i (f e) } := by
  rw [modSector, List.modify_eq_set_getElem?, h]
  rfl

theorem lt_of_getElem (h : u.sectors[i]? = some e) : i < u.sectors.length := (List.getElem?_eq_some_iff.mp h).1

/-- The sector at the next place of the ring, where it is not BAD (R145). -/
theorem nextSector_next (hn : n = (i + 1) % u.sectors.length) (h : u.sectorState n ≠ .bad) : u.nextSector i = some n := by
  have hpos : 0 < u.sectors.length := Nat.zero_lt_of_lt (lt_of_sectorState h)
  obtain ⟨m, hm⟩ := Nat.exists_eq_succ_of_ne_zero (Nat.pos_iff_ne_zero.mp hpos)
  rw [nextSector, hm, List.range_succ_eq_map, List.map_cons, List.find?_cons_of_pos]
  · rw [hn, hm]
  · have : (i + 1 + 0) % (m + 1) = n := by rw [hn, hm]
    simpa [hm, this] using h

/-- The first sector from `i` on that is not BAD. -/
theorem goodFrom_first (hin : i ≤ n) (hgood : u.sectorState n ≠ .bad) (hbad : ∀ m, i ≤ m → m < n → u.sectorState m = .bad) :
    u.goodFrom i = some n := by
  rw [goodFrom, List.find?_range_eq_some]
  refine ⟨by simp [hin, hgood], List.mem_range.mpr (lt_of_sectorState hgood), fun m hm => ?_⟩
  by_cases him : i ≤ m
  · simp [hbad m him hm]
  · simp [him]

theorem goodFrom_none (h : u.sectors.length ≤ i) : u.goodFrom i = none := by
  rw [goodFrom, List.find?_range_eq_none]
  intro m hm
  simp [show ¬i ≤ m by omega]

/-- The next valid sector from `i` on (R153). -/
theorem validFrom_first (hin : i ≤ n) (hfull : u.sectorState n = .full) (hother : ∀ m, i ≤ m → m < n → u.sectorState m ≠ .full) :
    u.validFrom i = some n := by
  rw [validFrom, List.find?_range_eq_some]
  refine ⟨by simp [hin, hfull], List.mem_range.mpr (lt_of_sectorState (by rw [hfull]; decide)), fun m hm => ?_⟩
  by_cases him : i ≤ m
  · simp [hother m him hm]
  · simp [him]

theorem validFrom_none (h : ∀ m, i ≤ m → u.sectorState m ≠ .full) : u.validFrom i = none := by
  rw [validFrom, List.find?_range_eq_none]
  intro m _
  by_cases him : i ≤ m
  · simp [h m him]
  · simp [him]

/-! ### The slots of the open sector -/

theorem blankSlot_none (h : u.openSector = none) : u.blankSlot = none := by rw [blankSlot, h]; rfl

theorem blankSlot_of_open (ho : u.openSector = some o) (he : u.sectors[o]? = some e) : u.blankSlot = firstBlank e.slots := by
  rw [blankSlot, ho]
  show (u.sectors[o]?).bind _ = _
  rw [he]
  rfl

theorem slotUsed_blank (ho : u.openSector = some o) (he : u.sectors[o]? = some e) (hp : firstBlank e.slots = some p) :
    u.slotUsed = { u with nextSlot := p } := by
  rw [slotUsed, blankSlot_of_open ho he, hp, ho]

/-- The last slot used, the sector is FULL and the next one is to be opened (R156, R158). -/
theorem slotUsed_full {q : Nat} (ho : u.openSector = some o) (he : u.sectors[o]? = some e) (hp : firstBlank e.slots = none)
    (hq : e.seq = some q) (hn : n = (o + 1) % u.sectors.length) (hgood : u.sectorState n ≠ .bad) :
    u.slotUsed = { u with
      sectors := u.sectors.set o { e with state := .full }, openSector := none, toOpen := some (n, q + 1) } := by
  rw [slotUsed, blankSlot_of_open ho he, hp, ho]
  dsimp only
  rw [nextSector_next hn hgood, sectorSeq_of_getElem he, modSector_of_getElem _ he, hq]
  rfl

theorem slotUsed_closed (ho : u.openSector = none) : u.slotUsed = u := by rw [slotUsed, ho]

theorem sequenceOut_none (h : u.toOpen = none) : u.sequenceOut = false := by rw [sequenceOut, h]

theorem sequenceOut_some {t q : Nat} (h : u.toOpen = some (t, q)) (hq : q < 0xFFFFFFFF) : u.sequenceOut = false := by
  rw [sequenceOut, h]
  exact decide_eq_false (Nat.not_le.mpr hq)

/-! ### What can be started -/

theorem canProgram_iff : u.canProgram = true ↔ u.queue ≠ [] ∧ u.blankSlot.isSome = true := by simp [canProgram]

theorem canProgram_false (h : u.queue = [] ∨ u.blankSlot = none) : u.canProgram = false := by
  rcases h with h | h <;> simp [canProgram, h]

theorem openable_none (h : u.toOpen = none) : u.openable = false := by rw [openable, h]

theorem openable_some {t q : Nat} (h : u.toOpen = some (t, q)) : u.openable = decide (u.sectorState t = .erased) := by
  rw [openable, h]

theorem eraseTarget_toOpen {t q : Nat} (h : u.toOpen = some (t, q)) (ht : u.sectorState t ≠ .erased) : u.eraseTarget = some t := by
  rw [eraseTarget, h]
  exact if_neg ht

theorem eraseTarget_ahead (h : u.toOpen = none) (ho : u.openSector = some o) (hn : u.nextSector o = some n) (hno : n ≠ o) :
    u.eraseTarget = if u.sectorState n = .erased then none else some n := by
  rw [eraseTarget, h, ho]
  show (match u.nextSector o with | some n => _ | none => _) = _
  rw [hn]
  simp [hno]

/-- The sector that is open is not erased ahead (R155). -/
theorem eraseTarget_ne_open {t : Nat} (h : u.toOpen = none) (ho : u.openSector = some o) (ht : u.eraseTarget = some t) : t ≠ o := by
  rw [eraseTarget, h, ho] at ht
  dsimp only at ht
  split at ht
  · split_ifs at ht with hno
    rintro rfl
    simp [Option.some.inj ht] at hno
  · exact absurd ht (by simp)

theorem startErase_of_getElem (h : u.sectors[i]? = some e) : u.startErase i = u.erasing i e := by
  rw [startErase, modSector_of_getElem _ h]
  rfl

/-! ### The work that is due -/

theorem serve_working (h : u.job ≠ .idle) : u.serve = u := if_pos h

theorem serve_idleState (h : u.state ≠ .ready) (hb : u.state ≠ .busy) : u.serve = u := by
  unfold serve
  split_ifs with hjob
  · rfl
  · split
    · next hs => exact absurd hs h
    · next hs _ => exact absurd hs hb
    · next hs _ => exact absurd hs hb
    · rfl

theorem serve_read {k : Fin 8} {id sector page : Nat} (hstate : u.state = .busy) (hop : u.hostOp = some (.read k id sector page))
    (hjob : u.job = .idle) : u.serve = u.serveRead sector page := by
  unfold serve
  rw [if_neg (by simp [hjob]), hstate, hop]

theorem serve_eraseAll {k : Fin 8} {phase : ErasePhase} (hstate : u.state = .busy) (hop : u.hostOp = some (.eraseAll k phase))
    (hjob : u.job = .idle) : u.serve = u.serveEraseAll k phase := by
  unfold serve
  rw [if_neg (by simp [hjob]), hstate, hop]

theorem serveReady_opens (herase : u.erase ≠ .running) (hprogram : u.canProgram = false) (hopen : u.openable = true) :
    u.serveReady = u.startOpen := by
  unfold serveReady serveSuspended
  cases he : u.erase with
  | none => simp [hprogram, hopen]
  | suspended => simp [hprogram, hopen]
  | running => exact absurd he herase

theorem serveReady_erases {t : Nat} (herase : u.erase = .none) (hprogram : u.canProgram = false) (hopen : u.openable = false)
    (ht : u.eraseTarget = some t) : u.serveReady = u.startErase t := by
  unfold serveReady
  simp [herase, hprogram, hopen, ht]

theorem serveReady_rests (herase : u.erase = .none) (hprogram : u.canProgram = false) (hopen : u.openable = false)
    (ht : u.eraseTarget = none) : u.serveReady = u := by
  unfold serveReady
  simp [herase, hprogram, hopen, ht]

theorem serveReady_resumes (herase : u.erase = .suspended) (hprogram : u.canProgram = false) (hopen : u.openable = false) :
    u.serveReady = u.startResume := by
  unfold serveReady serveSuspended
  simp [herase, hprogram, hopen]

theorem serveReady_running (herase : u.erase = .running) :
    u.serveReady = if u.canProgram && u.cfg.suspendSupported then u.startSuspend else u := by
  unfold serveReady
  rw [herase]

/-- In READY the store unit starts a transfer, or the erase of its target, or nothing (R154, R155, R157, R158). -/
theorem serveReady_cases (u : StoreUnit) : u.serveReady = u ∨ (∃ j tx rx, u.serveReady = u.sending j tx rx) ∨
    ∃ t, u.eraseTarget = some t ∧ u.serveReady = u.startErase t := by
  have hsent : ∀ j tx rx, u.send j tx rx = u.sending j tx rx := fun _ _ _ => rfl
  unfold serveReady
  split
  · split_ifs
    · exact .inr (.inl ⟨_, _, _, hsent _ _ _⟩)
    · exact .inr (.inl ⟨_, _, _, hsent _ _ _⟩)
    · split
      · next t ht => exact .inr (.inr ⟨t, ht, rfl⟩)
      · exact .inl rfl
  · split_ifs
    · exact .inr (.inl ⟨_, _, _, hsent _ _ _⟩)
    · exact .inl rfl
  · unfold serveSuspended
    split_ifs
    · exact .inr (.inl ⟨_, _, _, hsent _ _ _⟩)
    · exact .inr (.inl ⟨_, _, _, hsent _ _ _⟩)
    · exact .inr (.inl ⟨_, _, _, hsent _ _ _⟩)

/-- The work that READY starts leaves the open sector with its slots. -/
theorem serveReady_open (htoOpen : u.toOpen = none) (ho : u.openSector = some o) :
    u.serveReady.sectors[o]? = u.sectors[o]? ∧ u.serveReady.nextSlot = u.nextSlot ∧ u.serveReady.openSector = some o ∧
      u.serveReady.toOpen = none := by
  rcases u.serveReady_cases with h | ⟨j, tx, rx, h⟩ | ⟨t, ht, h⟩
  · rw [h]
    exact ⟨rfl, rfl, ho, htoOpen⟩
  · rw [h]
    exact ⟨rfl, rfl, ho, htoOpen⟩
  · rw [h]
    exact ⟨List.getElem?_modify_ne _ _ (eraseTarget_ne_open htoOpen ho ht), rfl, ho, htoOpen⟩

/-! ### The work that a free port starts -/

section
variable (hstate : u.state = .ready) (hjob : u.job = .idle)
include hstate hjob

theorem serve_programs (herase : u.erase ≠ .running) (hqueue : u.queue ≠ []) (hblank : u.blankSlot.isSome = true) :
    u.serve = u.sending .bodyEnable [u.cfg.opWriteEnable] 0 := by
  rw [serve_ready hstate hjob, (serveReady_program (canProgram_iff.mpr ⟨hqueue, hblank⟩)).1 herase]
  rfl

theorem serve_suspends (herase : u.erase = .running) (hqueue : u.queue ≠ []) (hblank : u.blankSlot.isSome = true)
    (hsuspend : u.cfg.suspendSupported = true) : u.serve = u.sending .suspendSend [u.cfg.opSuspend] 0 := by
  rw [serve_ready hstate hjob, (serveReady_program (canProgram_iff.mpr ⟨hqueue, hblank⟩)).2 herase, if_pos hsuspend]
  rfl

/-- An erase that runs in READY, with no record that suspends it (R157). -/
theorem serve_waits (herase : u.erase = .running) (h : u.queue = [] ∨ u.blankSlot = none ∨ u.cfg.suspendSupported = false) :
    u.serve = u := by
  rw [serve_ready hstate hjob, serveReady_running herase, if_neg]
  rcases h with h | h | h
  · simp [canProgram_false (.inl h)]
  · simp [canProgram_false (.inr h)]
  · simp [h]

variable (hprogram : u.queue = [] ∨ u.blankSlot = none)
include hprogram

theorem serve_opens {t q : Nat} (herase : u.erase ≠ .running) (ht : u.toOpen = some (t, q)) (hstatus : u.sectorState t = .erased) :
    u.serve = u.sending .openEnable [u.cfg.opWriteEnable] 0 := by
  rw [serve_ready hstate hjob,
    serveReady_opens herase (canProgram_false hprogram) (by rw [openable_some ht, hstatus]; rfl)]
  rfl

theorem serve_erases {t : Nat} (herase : u.erase = .none) (hopen : u.openable = false) (ht : u.eraseTarget = some t)
    (he : u.sectors[t]? = some e) : u.serve = u.erasing t e := by
  rw [serve_ready hstate hjob, serveReady_erases herase (canProgram_false hprogram) hopen ht, startErase_of_getElem he]

theorem serve_rests (herase : u.erase = .none) (hopen : u.openable = false) (ht : u.eraseTarget = none) : u.serve = u := by
  rw [serve_ready hstate hjob, serveReady_rests herase (canProgram_false hprogram) hopen ht]

theorem serve_resumes (herase : u.erase = .suspended) (hopen : u.openable = false) :
    u.serve = u.sending .resumeSend [u.cfg.opResume] 0 := by
  rw [serve_ready hstate hjob, serveReady_resumes herase (canProgram_false hprogram) hopen]
  rfl

end

/-! A store read waits for the port (R157, R162). -/

section
variable {k : Fin 8} {id sector page : Nat} (hstate : u.state = .busy) (hop : u.hostOp = some (.read k id sector page))
  (hjob : u.job = .idle)
include hstate hop hjob

theorem serve_readsPage (herase : u.erase = .none ∨ (u.erase = .suspended ∧ (u.queue = [] ∨ u.blankSlot = none))) :
    u.serve = u.sending .pageRead (addressed u.cfg.opRead (u.cfg.base + sector * 4096 + page * 256)) 256 := by
  rw [serve_read hstate hop hjob, serveRead]
  rcases herase with h | ⟨h, hprogram⟩
  · rw [h]
    rfl
  · rw [h, canProgram_false hprogram]
    rfl

theorem serve_programsFirst (herase : u.erase = .suspended) (hqueue : u.queue ≠ []) (hblank : u.blankSlot.isSome = true) :
    u.serve = u.sending .bodyEnable [u.cfg.opWriteEnable] 0 := by
  rw [serve_read hstate hop hjob, serveRead, herase, canProgram_iff.mpr ⟨hqueue, hblank⟩]
  rfl

theorem serve_suspendsErase (herase : u.erase = .running) :
    u.serve = if u.cfg.suspendSupported then u.sending .suspendSend [u.cfg.opSuspend] 0 else u := by
  rw [serve_read hstate hop hjob, serveRead, herase]
  rfl

end

end StoreUnit

end Sys2Proof.Machine
end

section
/-! The contents of a flash page: the 32-bit quantities, the classes of a slot and of a header (R148, R149, R187). -/

namespace Sys2Proof.Machine

theorem received_full {n : Nat} {rx : List Byte} (h : rx.length = n) : received n rx = rx := by
  rw [received, List.take_left' h]

theorem received_none (rx : List Byte) : received 0 rx = [] := by simp [received]

theorem byteAt_drop (bs : List Byte) (i j : Nat) : byteAt (bs.drop i) j = byteAt bs (i + j) := by
  simp [byteAt, List.getD_eq_getElem?_getD]

theorem byteAt_take (bs : List Byte) {j n : Nat} (h : j < n) : byteAt (bs.take n) j = byteAt bs j := by
  simp [byteAt, List.getD_eq_getElem?_getD, h]

/-- A quantity is read from its four bytes alone. -/
theorem nat32Bytes_four (bs : List Byte) (i : Nat) : nat32Bytes ((bs.drop i).take 4) 0 = nat32Bytes bs i := by
  simp only [nat32Bytes, byteAt_take _ (show 0 < 4 by decide), byteAt_take _ (show 0 + 1 < 4 by decide),
    byteAt_take _ (show 0 + 2 < 4 by decide), byteAt_take _ (show 0 + 3 < 4 by decide), byteAt_drop, Nat.zero_add, Nat.add_zero]

theorem toNat_append_add {v w : Nat} (hi : BitVec v) (lo : BitVec w) : (hi ++ lo).toNat = hi.toNat * 2 ^ w + lo.toNat := by
  rw [BitVec.toNat_append, Nat.shiftLeft_eq, Nat.mul_comm, Nat.two_pow_add_eq_or_of_lt lo.isLt]

/-- The bytes of a quantity spell it, and no other four bytes do. -/
theorem nat32Bytes_iff {x : List Byte} (hx : x.length = 4) {n : Nat} (hn : n < 4294967296) : nat32Bytes x 0 = n ↔ x = bytes32 n := by
  match x, hx with
  | [a, b, c, d], _ =>
    have hbytes : bytes32 n = [BitVec.ofNat 8 n, BitVec.ofNat 8 (n / 256), BitVec.ofNat 8 (n / 65536), BitVec.ofNat 8 (n / 16777216)] := by
      rw [bytes32, nat32Words_eq]
      simp only [List.flatMap_cons, List.flatMap_nil, wordBytes, natWord, List.cons_append, List.nil_append, List.cons.injEq, and_true]
      refine ⟨?_, ?_, ?_, ?_⟩ <;> apply BitVec.eq_of_toNat_eq <;>
        simp only [BitVec.extractLsb'_toNat, BitVec.toNat_ofNat, Nat.shiftRight_eq_div_pow] <;> omega
    have hvalue : nat32Bytes [a, b, c, d] 0 = a.toNat + 256 * b.toNat + 65536 * c.toNat + 16777216 * d.toNat := by
      show (joinWords (joinBytes a b) (joinBytes c d)).toNat = _
      simp only [joinWords, joinBytes, toNat_append_add]
      omega
    rw [hbytes, hvalue]
    simp only [List.cons.injEq, and_true, ← BitVec.toNat_inj, BitVec.toNat_ofNat]
    have := a.isLt
    have := b.isLt
    have := c.isLt
    have := d.isLt
    omega

theorem idInRange_iff (n : Nat) : idInRange n = true ↔ 1 ≤ n ∧ n ≤ 0xFFFFFFFE := by simp [idInRange]

theorem pageBlank_iff {bs : List Byte} (h : bs.length = 256) : pageBlank bs = true ↔ bs = List.replicate 256 0xFF := by
  rw [pageBlank, List.all_eq_true, List.eq_replicate_iff]
  simp [h]

section
variable {bs : List Byte} (hlen : bs.length = 256)
include hlen

/-- The quantity at byte `i` of a page. -/
theorem nat32Bytes_page {i n : Nat} (hi : i + 4 ≤ 256) (hn : n < 4294967296) :
    nat32Bytes bs i = n ↔ (bs.drop i).take 4 = bytes32 n := by
  rw [← nat32Bytes_four, nat32Bytes_iff (by simp only [List.length_take, List.length_drop, hlen]; omega) hn]

/-- A page that holds a quantity in range at its start is not BLANK. -/
theorem pageBlank_of_quantity {i n : Nat} (hi : i + 4 ≤ 256) (hn : n < 0xFFFFFFFF) (h : (bs.drop i).take 4 = bytes32 n) :
    pageBlank bs = false := by
  rw [Bool.eq_false_iff, Ne, pageBlank_iff hlen]
  rintro rfl
  have hblank : nat32Bytes (List.replicate 256 0xFF) i = 0xFFFFFFFF := by
    rw [nat32Bytes_page hlen hi (by decide), List.drop_replicate, List.take_replicate, Nat.min_eq_left (by omega)]
    decide
  rw [(nat32Bytes_page hlen hi (by omega)).mpr h] at hblank
  omega

/-- A VALID slot holds its id at its two ends (R149). -/
theorem classifySlot_valid_iff (id : Nat) : classifySlot bs = .valid id ↔
    1 ≤ id ∧ id ≤ 0xFFFFFFFE ∧ bs.take 4 = bytes32 id ∧ bs.drop 252 = bytes32 id := by
  have htail : (bs.drop 252).take 4 = bs.drop 252 := List.take_of_length_le (by simp [hlen])
  unfold classifySlot
  constructor
  · intro h
    split_ifs at h with hb hv
    rw [Bool.and_eq_true, decide_eq_true_eq, idInRange_iff] at hv
    obtain ⟨htwo, hlo, hhi⟩ := hv
    obtain rfl := FlashSlot.valid.inj h
    exact ⟨hlo, hhi, (nat32Bytes_page hlen (i := 0) (by decide) (by omega)).mp rfl,
      htail ▸ (nat32Bytes_page hlen (by decide) (by omega)).mp htwo⟩
  · rintro ⟨hlo, hhi, hfront, hback⟩
    have h0 : nat32Bytes bs 0 = id := (nat32Bytes_page hlen (by decide) (by omega)).mpr hfront
    have h252 : nat32Bytes bs 252 = id := (nat32Bytes_page hlen (by decide) (by omega)).mpr (by rw [htail, hback])
    rw [if_neg (by rw [pageBlank_of_quantity hlen (i := 0) (by decide) (by omega) hfront]; decide), h0, h252,
      if_pos (by simp [idInRange, hlo]; omega)]

theorem classifySlot_blank (h : bs = List.replicate 256 0xFF) : classifySlot bs = .blank := if_pos ((pageBlank_iff hlen).mpr h)

theorem classifySlot_spoiled (hblank : bs ≠ List.replicate 256 0xFF) (h : bs.take 4 ≠ bs.drop 252) : classifySlot bs = .spoiled := by
  have hne : nat32Bytes bs 252 ≠ nat32Bytes bs 0 := by
    intro he
    have hlt : nat32Bytes bs 0 < 4294967296 := BitVec.isLt _
    have hfront := (nat32Bytes_page hlen (i := 0) (by decide) hlt).mp rfl
    have hback := (nat32Bytes_page hlen (by decide) hlt).mp he
    rw [List.take_of_length_le (by simp [hlen])] at hback
    exact h (hfront.trans hback.symm)
  unfold classifySlot
  rw [if_neg (by rwa [pageBlank_iff hlen]), if_neg (by simp [hne])]

end

/-! ### Headers -/

theorem joinBytes_inj {a b c d : Byte} : joinBytes a b = joinBytes c d ↔ a = c ∧ b = d := by
  constructor
  · intro h
    have := congrArg BitVec.toNat h
    simp only [joinBytes, toNat_append_add] at this
    have := a.isLt
    have := c.isLt
    exact ⟨BitVec.eq_of_toNat_eq (by omega), BitVec.eq_of_toNat_eq (by omega)⟩
  · rintro ⟨rfl, rfl⟩
    rfl

theorem take_two {bs : List Byte} (h : 2 ≤ bs.length) : bs.take 2 = [byteAt bs 0, byteAt bs 1] := by
  match bs, h with
  | a :: b :: bs, _ => rfl

/-- A word read from a page by its two bytes. -/
theorem joinBytes_page {bs : List Byte} {i : Nat} (h : i + 2 ≤ bs.length) (w : Word) :
    joinBytes (byteAt bs i) (byteAt bs (i + 1)) = w ↔ (bs.drop i).take 2 = wordBytes w := by
  have hw : w = joinBytes (w.extractLsb' 0 8) (w.extractLsb' 8 8) := (joinBytes_wordBytes w).symm
  rw [take_two (by rw [List.length_drop]; omega), byteAt_drop, byteAt_drop, wordBytes]
  conv_lhs => rw [hw, joinBytes_inj]
  simp

section
variable {bs : List Byte} (hlen : bs.length = 256)
include hlen

theorem headerSeq_some {q : Nat} (hlo : 1 ≤ q) (hhi : q ≤ 0xFFFFFFFE) (h : bs.take 8 = wordBytes 0x5A3C ++ bytes32 q ++ wordBytes 0xC35A) :
    headerSeq bs = some q ∧ pageBlank bs = false := by
  have hfront : (bs.drop 0).take 2 = wordBytes 0x5A3C := by
    have := congrArg (List.take 2) h
    rwa [List.take_take] at this
  have hseq : (bs.drop 2).take 4 = bytes32 q := by
    have := congrArg (fun l => (l.take 6).drop 2) h
    simp only [List.take_take, List.drop_take] at this
    exact this
  have hback : (bs.drop 6).take 2 = wordBytes 0xC35A := by
    have := congrArg (List.drop 6) h
    rw [List.drop_take] at this
    exact this
  have hq : nat32Bytes bs 2 = q := (nat32Bytes_page hlen (by decide) (by omega)).mpr hseq
  refine ⟨?_, pageBlank_of_quantity hlen (by decide) (by omega) hseq⟩
  rw [headerSeq, (joinBytes_page (by omega) _).mpr hfront, (joinBytes_page (by omega) _).mpr hback, hq]
  simp [idInRange, hlo]
  omega

theorem headerSeq_none (h : bs.take 2 ≠ wordBytes 0x5A3C ∨ (bs.drop 6).take 2 ≠ wordBytes 0xC35A) : headerSeq bs = none := by
  have hfront := joinBytes_page (bs := bs) (i := 0) (by omega) 0x5A3C
  have hback := joinBytes_page (bs := bs) (i := 6) (by omega) 0xC35A
  rw [List.drop_zero] at hfront
  unfold headerSeq
  rw [if_neg]
  rw [Bool.and_eq_true, Bool.and_eq_true, decide_eq_true_eq, decide_eq_true_eq]
  rintro ⟨⟨h1, h2⟩, -⟩
  rcases h with h | h
  · exact h (hfront.mp h1)
  · exact h (hback.mp h2)

end

end Sys2Proof.Machine
end

section
/-! The ends of records, and the entry into OUT OF SERVICE (R142, R150, R154, R161). -/

namespace Sys2Proof.Machine

namespace State
variable {s t : State}

/-! ### The end of a record -/

/-- The store status of a record is noted in the memory alone. -/
theorem noteStoreEnd_setMem (s : State) (id : Nat) (st : StoreStatus) : s.noteStoreEnd id st = s.setMem (s.noteStoreEnd id st).mem := by
  refine foldl_holds (fun u => u = s.setMem u.mem) _ (fun u k hu => ?_) allEntries s rfl
  unfold State.noteStoreEntry
  split
  · rw [hu]
    rfl
  · exact hu

/-- A record that has been STORED: the store status in its list entry, and the notice (R154). -/
theorem endRecord_stored (s : State) (id : Nat) :
    s.endRecord id .stored = (s.setMem (s.noteStoreEnd id .stored).mem).raiseNotice noticeStore := by
  have hcount : s.countEnd .stored = s := rfl
  rw [State.endRecord, hcount]
  exact congrArg (fun u : State => u.raiseNotice noticeStore) (s.noteStoreEnd_setMem id .stored)

theorem recordEnded_stored {v w : StoreUnit} (id : Nat) :
    State.RecordEnded s (((s.setStore v).endRecord id .stored).setStore w) id .stored := by
  have hstatus : ∀ k, (s.record.listEntry k).state ≠ .empty → (s.record.listEntry k).id = some id →
      ((s.setStore v).noteStoreEnd id .stored).mem.readWord (storeStatusAddr k) = natWord StoreStatus.stored.code :=
    fun k hheld hid => State.noteStoreEnd_status (s := s.setStore v) .stored hheld hid
  rw [endRecord_stored]
  generalize ((s.setStore v).noteStoreEnd id .stored).mem = m at hstatus ⊢
  exact ⟨rfl, raised_notice _ (by decide), hstatus⟩

theorem countFailed_aside (s : State) : s.Aside s.countFailed :=
  .trans (t := s.setStore { s.store with failed := countTo 65535 s.store.failed }) (.of_same rfl rfl) (State.alarmPulse_aside _ _ _ _)

theorem countEnd_aside (s : State) (st : StoreStatus) : s.Aside (s.countEnd st) := by
  unfold State.countEnd
  split
  · exact s.countDropped_aside
  · exact s.countFailed_aside
  · exact .refl s

theorem endRecord_aside (s : State) (id : Nat) (st : StoreStatus) : s.Aside (s.endRecord id st) :=
  ((s.countEnd_aside st).trans (State.noteStoreEnd_aside _ _ _)).trans (State.raiseNotice_aside _ _)

theorem endHead_aside (st : StoreStatus) (s : State) (r : QueuedRecord) : s.Aside (State.endHead st s r) :=
  .trans (t := s.setStore { s.store with queue := s.store.queue.tail }) (.of_same rfl rfl) (State.endRecord_aside _ _ _)

theorem endQueue_aside (s : State) (st : StoreStatus) : s.Aside (s.endQueue st) :=
  foldl_holds (fun u => s.Aside u) _ (fun u r hu => hu.trans (State.endHead_aside st u r)) s.store.queue s (.refl s)

/-! ### The counts of the ends -/

/-- How an end counts a record as dropped and as failed (R154). -/
theorem endRecord_counts (s : State) (id : Nat) : (s.endRecord id .dropped).store = { s.store with dropped := countTo 65535 s.store.dropped } ∧
    (s.endRecord id .failed).store = { s.store with failed := countTo 65535 s.store.failed } := by
  refine ⟨?_, ?_⟩
  · rw [State.endRecord_store]
    simp [State.countEnd, State.countDropped]
  · rw [State.endRecord_store]
    simp [State.countEnd, State.countFailed]

theorem countTo_step {n m : Nat} (h : n + (m + 1) ≤ 65535) : countTo 65535 n = n + 1 := by
  rw [countTo_eq, if_pos (by omega)]

/-- The records of a list end DROPPED. -/
theorem endRecords_dropped (l : List QueuedRecord) : ∀ s : State,
    let t := l.foldl (fun u r => u.endRecord r.id .dropped) s
    t.store = { s.store with dropped := t.store.dropped } ∧
      (s.store.dropped + l.length ≤ 65535 → t.store.dropped = s.store.dropped + l.length) := by
  induction l with
  | nil => exact fun s => ⟨rfl, fun _ => rfl⟩
  | cons r l ih =>
    intro s
    obtain ⟨hstore, hcount⟩ := ih (s.endRecord r.id .dropped)
    have hstep := (s.endRecord_counts r.id).1
    refine ⟨?_, fun h => ?_⟩
    · rw [List.foldl_cons, hstore, hstep]
    · rw [List.length_cons] at h
      rw [hstep] at hcount
      simp only [countTo_step h] at hcount
      rw [List.foldl_cons, hcount (by omega), List.length_cons]
      omega

theorem endHead_counts (s : State) (r : QueuedRecord) :
    (State.endHead .dropped s r).store = { s.store with queue := s.store.queue.tail, dropped := countTo 65535 s.store.dropped } ∧
    (State.endHead .failed s r).store = { s.store with queue := s.store.queue.tail, failed := countTo 65535 s.store.failed } :=
  endRecord_counts (s.setStore { s.store with queue := s.store.queue.tail }) r.id

/-- The heads of the queue end DROPPED, one after the other (R154). -/
theorem endHeads_dropped (l : List QueuedRecord) : ∀ s : State,
    let t := l.foldl (State.endHead .dropped) s
    t.store = { s.store with queue := s.store.queue.drop l.length, dropped := t.store.dropped } ∧
      (s.store.dropped + l.length ≤ 65535 → t.store.dropped = s.store.dropped + l.length) := by
  induction l with
  | nil => exact fun s => ⟨rfl, fun _ => rfl⟩
  | cons r l ih =>
    intro s
    obtain ⟨hstore, hcount⟩ := ih (State.endHead .dropped s r)
    rw [(s.endHead_counts r).1] at hstore hcount
    rw [List.foldl_cons]
    refine ⟨?_, fun h => ?_⟩
    · rw [hstore]
      simp [List.drop_tail]
    · rw [List.length_cons] at h ⊢
      simp only [countTo_step h] at hcount
      rw [hcount (by omega)]
      omega

/-- The heads of the queue end FAILED, one after the other (R154). -/
theorem endHeads_failed (l : List QueuedRecord) : ∀ s : State,
    let t := l.foldl (State.endHead .failed) s
    t.store = { s.store with queue := s.store.queue.drop l.length, failed := t.store.failed } ∧
      (s.store.failed + l.length ≤ 65535 → t.store.failed = s.store.failed + l.length) := by
  induction l with
  | nil => exact fun s => ⟨rfl, fun _ => rfl⟩
  | cons r l ih =>
    intro s
    obtain ⟨hstore, hcount⟩ := ih (State.endHead .failed s r)
    rw [(s.endHead_counts r).2] at hstore hcount
    rw [List.foldl_cons]
    refine ⟨?_, fun h => ?_⟩
    · rw [hstore]
      simp [List.drop_tail]
    · rw [List.length_cons] at h ⊢
      simp only [countTo_step h] at hcount
      rw [hcount (by omega)]
      omega

theorem endQueue_dropped (s : State) : (s.endQueue .dropped).store = { s.store with queue := [], dropped := (s.endQueue .dropped).store.dropped } ∧
    (s.store.dropped + s.store.queue.length ≤ 65535 → (s.endQueue .dropped).store.dropped = s.store.dropped + s.store.queue.length) := by
  have h := endHeads_dropped s.store.queue s
  rwa [List.drop_length] at h

theorem endQueue_failed (s : State) : (s.endQueue .failed).store = { s.store with queue := [], failed := (s.endQueue .failed).store.failed } ∧
    (s.store.failed + s.store.queue.length ≤ 65535 → (s.endQueue .failed).store.failed = s.store.failed + s.store.queue.length) := by
  have h := endHeads_failed s.store.queue s
  rwa [List.drop_length] at h

end State

end Sys2Proof.Machine
end

section
/-! The entry into OUT OF SERVICE, and how an event of the store port leaves the scan (R20, R150, R151, R153, R161). -/

namespace Sys2Proof.Machine

namespace State
variable {s s0 t : State}

/-- The state at the entry into OUT OF SERVICE before the host operation and the group that awaits force end (R161). -/
def outEntered (s : State) : State :=
  ((s.changeStore { s.store.rest with state := .outOfService, hostOp := none }).endQueue .failed).alarmRise .storeFault .first
    (some stateDetailOutOfService)

theorem storeOut_eq (s : State) : s.storeOut = (s.outEntered.endHostOp s.store.hostOp).storeInForce .store := rfl

theorem alarmRise_store (s : State) (k : FaultKind) (src : Source) (d : Option Nat) : (s.alarmRise k src d).store = s.store := by simp

theorem outEntered_store (s : State) : s.outEntered.store = { s.store with
      state := .outOfService, hostOp := none, job := .idle, transfer := none, queue := [], failed := s.outEntered.store.failed } ∧
    (s.store.failed + s.store.queue.length ≤ 65535 → s.outEntered.store.failed = s.store.failed + s.store.queue.length) := by
  have hchange : (s.changeStore { s.store.rest with state := .outOfService, hostOp := none }).store =
      { s.store.rest with state := .outOfService, hostOp := none } := by
    unfold State.changeStore
    split <;> rfl
  obtain ⟨hstore, hcount⟩ := (s.changeStore { s.store.rest with state := .outOfService, hostOp := none }).endQueue_failed
  rw [hchange] at hstore hcount
  unfold outEntered
  rw [alarmRise_store]
  exact ⟨hstore, hcount⟩

theorem outEntered_fault (s : State) : s.outEntered.sourcePresent .storeFault .first = true := State.alarmRise_source _ _ _ _

theorem outEntered_frame (s : State) : s.outEntered.seq = s.seq ∧ s.outEntered.gov = s.gov ∧ s.outEntered.regs = s.regs ∧
    s.outEntered.record = s.record ∧ s.sameField s.outEntered := by
  simp [outEntered, State.sameField]

theorem outEntered_notice (h : s.store.state ≠ .outOfService) : s.outEntered.req.notice.getLsbD noticeStore = true :=
  ((State.endQueue_aside _ _).trans (State.alarmRise_aside _ _ _ _)).notice _ (State.changeStore_notice (Ne.symm h))

theorem complete_notice (s : State) (k : Fin 8) (st : SlotState) (rc : ResultCode) (ws : List Word) {i : Nat}
    (h : s.req.notice.getLsbD i = true) : (s.complete k st rc ws).req.notice.getLsbD i = true := by
  rw [State.complete_req]
  show (s.req.notice ||| noticeBit k.val).getLsbD i = true
  rw [BitVec.getLsbD_or, h, Bool.true_or]

theorem setChain_notice (s : State) (c : Chain) : (s.setChain c).req.notice = s.req.notice := rfl

theorem breakStoreChain_notice (s : State) : s.breakStoreChain.req.notice = s.req.notice := by
  unfold State.breakStoreChain
  split <;> rfl

theorem endHostOp_notice (s : State) (op : Option HostOp) {i : Nat} (h : s.req.notice.getLsbD i = true) :
    (s.endHostOp op).req.notice.getLsbD i = true := by
  match op with
  | none => exact h
  | some (.read k _ _ _) =>
    rw [State.endHostOp, setChain_notice, State.refuse]
    exact s.complete_notice k _ _ _ h
  | some (.eraseAll k _) =>
    rw [State.endHostOp, breakStoreChain_notice, State.refuse]
    exact s.complete_notice k _ _ _ h

theorem storeInForce_none (rc : ResultCode) (h : s.store.awaiting = none) : s.storeInForce rc = s := by rw [State.storeInForce, h]

theorem storeInForce_some {c : StoreSettings} {k : Fin 8} (rc : ResultCode) (h : s.store.awaiting = some (c, k)) :
    s.storeInForce rc = (s.setStore { s.store with settings := some c, awaiting := none }).finish k rc [4] := by
  rw [State.storeInForce, h]

theorem storeInForce_notice (rc : ResultCode) {i : Nat} (h : s.req.notice.getLsbD i = true) :
    (s.storeInForce rc).req.notice.getLsbD i = true := by
  rcases ha : s.store.awaiting with - | ⟨c, k⟩
  · rwa [storeInForce_none rc ha]
  · rw [storeInForce_some rc ha]
    exact State.complete_notice _ k _ _ _ h

/-- The chain state is not part of an answer. -/
theorem completed_setReq {k : Fin 8} {st : SlotState} {rc : ResultCode} {ws : List Word} {q : RequestUnit}
    (h : State.Completed s k st rc ws) (hslots : q.slots = s.req.slots) (hnotice : q.notice = s.req.notice) :
    State.Completed (s.setReq q) k st rc ws := by
  refine ⟨?_, h.stateWord, h.codeWord, h.resultWords, ?_⟩
  · rw [State.slot_setReq, hslots]
    exact h.slot
  · exact (congrArg (fun w : Word => w.getLsbD k.val) hnotice).trans h.notice

theorem completed_breakStoreChain {k : Fin 8} {st : SlotState} {rc : ResultCode} {ws : List Word}
    (h : State.Completed s k st rc ws) : State.Completed s.breakStoreChain k st rc ws := by
  unfold State.breakStoreChain
  split
  · exact completed_setReq h rfl rfl
  · exact h

/-- The settings in force and those that await it, after a group has come into force. -/
theorem storeInForce_store (s : State) (rc : ResultCode) : (s.storeInForce rc).store = { s.store with
    settings := (s.storeInForce rc).store.settings, awaiting := (s.storeInForce rc).store.awaiting } := by
  rcases ha : s.store.awaiting with - | ⟨c, k⟩
  · rw [storeInForce_none rc ha]
  · rw [storeInForce_some rc ha]
    simp

/-- The entry into OUT OF SERVICE (R150, R161). -/
theorem storeOut_outOfService (h : s.store.state ≠ .outOfService) : State.OutOfService s s.storeOut := by
  obtain ⟨hstore, hfailed⟩ := s.outEntered_store
  obtain ⟨hseq, hgov, hregs, hrecord, hpending, hinputs, hdrive, hmeas, hwatch⟩ := s.outEntered_frame
  have hfault := s.outEntered_fault
  have hnotice := outEntered_notice h
  have heq := s.storeOut_eq
  have hawait : s.outEntered.store.awaiting = s.store.awaiting := by rw [hstore]
  generalize s.outEntered = e at *
  have hkept : s.storeOut.store = { (e.endHostOp s.store.hostOp).store with
      settings := s.storeOut.store.settings, awaiting := s.storeOut.store.awaiting } := by
    rw [heq]
    exact storeInForce_store _ _
  rw [State.endHostOp_frame e s.store.hostOp |>.2.2.2.2.2.2.2.2.2.2.2, hstore] at hkept
  refine ⟨?_, ?_, fun hle => ?_, ?_, ?_, fun k id sector page ha hop => ?_, fun k phase ha hop => ?_, fun c k hop ha => ?_, ?_⟩
  · rw [hkept]
  · rw [hkept]
    exact ⟨rfl, rfl, rfl, rfl⟩
  · rw [hkept]
    exact hfailed hle
  · rw [State.sourcePresent, heq]
    simpa [State.sourcePresent] using hfault
  · rw [heq]
    exact storeInForce_notice _ (e.endHostOp_notice _ hnotice)
  · rw [heq, hop, storeInForce_none]
    · exact ⟨completed_setReq (State.complete_completed e k .refused .store []) rfl rfl, rfl⟩
    · rw [(State.endHostOp_frame e _).2.2.2.2.2.2.2.2.2.2.2, hawait, ha]
  · rw [heq, hop, storeInForce_none]
    · exact completed_breakStoreChain (State.complete_completed e k .refused .store [])
    · rw [(State.endHostOp_frame e _).2.2.2.2.2.2.2.2.2.2.2, hawait, ha]
  · have hforce : s.storeOut = (e.setStore { e.store with settings := some c, awaiting := none }).finish k .store [4] := by
      rw [heq, hop]
      exact storeInForce_some _ (hawait.trans ha)
    rw [hforce]
    exact ⟨by simp, by simp, State.finish_completed _ _ _ _⟩
  · refine ⟨?_, ?_, ?_, ?_, ?_, ?_, ?_, ?_, ?_⟩ <;> rw [heq] <;> simp [*]

/-- The entry, seen from a state before the work that led to it. -/
theorem OutOfService.since (h : State.OutOfService s t) (hop : s.store.hostOp = s0.store.hostOp)
    (hawait : s.store.awaiting = s0.store.awaiting)
    (hfailed : s0.store.failed + s0.store.queue.length ≤ 65535 →
      s.store.failed + s.store.queue.length = s0.store.failed + s0.store.queue.length)
    (hothers : s.seq = s0.seq ∧ s.gov = s0.gov ∧ s.regs = s0.regs ∧ s.record = s0.record ∧ s0.sameField s) :
    State.OutOfService s0 t := by
  obtain ⟨hseq, hgov, hregs, hrecord, hpending, hinputs, hdrive, hmeas, hwatch⟩ := hothers
  obtain ⟨tseq, tgov, tregs, trecord, tpending, tinputs, tdrive, tmeas, twatch⟩ := h.others
  refine ⟨h.state, h.idle, fun hle => ?_, h.fault, h.notice, fun k id sector page ha ho => ?_, fun k phase ha ho => ?_,
    fun c k ho ha => ?_, ?_⟩
  · have hsum := hfailed hle
    rw [h.failed (by omega), hsum]
  · exact h.read k id sector page (hawait.trans ha) (hop.trans ho)
  · exact h.eraseAll k phase (hawait.trans ha) (hop.trans ho)
  · exact h.scan c k (hop.trans ho) (hawait.trans ha)
  · exact ⟨tseq.trans hseq, tgov.trans hgov, tregs.trans hregs, trecord.trans hrecord, tpending.trans hpending,
      tinputs.trans hinputs, tdrive.trans hdrive, tmeas.trans hmeas, twatch.trans hwatch⟩

/-- OUT OF SERVICE entered after work of the store unit alone that has ended no record. -/
theorem storeOut_since {u : StoreUnit} (hstate : u.state ≠ .outOfService) (hop : u.hostOp = s.store.hostOp)
    (hawait : u.awaiting = s.store.awaiting) (hfailed : u.failed = s.store.failed) (hqueue : u.queue = s.store.queue) :
    State.OutOfService s (s.setStore u).storeOut := by
  refine (storeOut_outOfService (s := s.setStore u) hstate).since hop hawait (fun _ => ?_) ⟨rfl, rfl, rfl, rfl, rfl, rfl, rfl, rfl, rfl⟩
  rw [State.setStore_store, hfailed, hqueue]

/-! ### Leaving the scan -/

theorem scanLeft_stays (h : s.store.state ≠ .scanning ∨ t.store.state = .scanning) : s.scanLeft t = t :=
  if_neg (by rcases h with h | h <;> simp [h])

/-- A scan that ends while the drive is configured, or that leaves no work to do (R153). -/
theorem scanLeft_idle (hd : t.seq.drive ≠ .unconfigured) (hserve : t.store.serve = t.store) : s.scanLeft t = t := by
  unfold State.scanLeft
  split
  · rw [State.departureTest_none fun h => hd h.1, State.serveStore, hserve]
    rfl
  · rfl

end State

end Sys2Proof.Machine
end

section
/-! The events of the store port, one equation for each step of the store unit's work (R146, R147, R152 to R160). -/

namespace Sys2Proof.Machine

namespace State
variable {s : State} {rx bs tx : List Byte} {n : Nat}

/-- The transfer in progress has ended. -/
def transferEnded (s : State) : State := s.setStore { s.store with transfer := none }

theorem exec_transferEnd (ht : s.store.transfer = some ⟨tx, n⟩) (hbs : received n rx = bs) :
    exec (.flashTransferEnd rx) s = .next (s.scanLeft (s.transferEnded.transferDone bs)) := by
  show Host.Outcome.next (match s.store.transfer with | some t => _ | none => s) = _
  rw [ht, ← hbs]
  rfl

theorem exec_transferEnd_none (ht : s.store.transfer = none) : exec (.flashTransferEnd rx) s = .next s := by
  show Host.Outcome.next (match s.store.transfer with | some t => _ | none => s) = _
  rw [ht]

/-- An event of the port that leads to work of the store unit alone, in the state that it is in. -/
theorem exec_transferEnd_store {v : StoreUnit} (ht : s.store.transfer = some ⟨tx, n⟩) (hbs : received n rx = bs)
    (hdone : s.transferEnded.transferDone bs = s.setStore v) (hstate : v.state = s.store.state) :
    exec (.flashTransferEnd rx) s = .next { s with store := v } := by
  rw [exec_transferEnd ht hbs, hdone, scanLeft_stays]
  · rfl
  · by_cases h : s.store.state = .scanning
    · exact .inr (hstate.trans h)
    · exact .inl h

theorem exec_timeLimit (h : s.store.limitPassed = true) : exec .flashTimeLimit s = .next (s.scanLeft s.pollFailed) := by
  show Host.Outcome.next (if s.store.limitPassed then s.scanLeft s.pollFailed else s) = _
  rw [h]
  rfl

theorem exec_timeLimit_none (h : s.store.limitPassed = false) : exec .flashTimeLimit s = .next s := by
  show Host.Outcome.next (if s.store.limitPassed then s.scanLeft s.pollFailed else s) = _
  rw [h]
  rfl

theorem exec_timeLimit_store {v : StoreUnit} (h : s.store.limitPassed = true) (hfailed : s.pollFailed = s.setStore v)
    (hstate : v.state = s.store.state) : exec .flashTimeLimit s = .next { s with store := v } := by
  rw [exec_timeLimit h, hfailed, scanLeft_stays]
  · rfl
  · by_cases h : s.store.state = .scanning
    · exact .inr (hstate.trans h)
    · exact .inl h

/-! ### The step of the work that a transfer ends -/

section
variable {i p : Nat}

theorem transferDone_scanIdent (h : s.store.job = .scanIdent) : s.transferDone bs = s.scanIdentDone bs := by
  simp only [State.transferDone, h]

theorem transferDone_scanHeader (h : s.store.job = .scanHeader i) : s.transferDone bs = s.scanHeaderDone bs i := by
  simp only [State.transferDone, h]

theorem transferDone_scanSlot (h : s.store.job = .scanSlot i p) : s.transferDone bs = s.scanSlotDone bs i p := by
  simp only [State.transferDone, h]

theorem transferDone_bodyEnable (h : s.store.job = .bodyEnable) :
    s.transferDone bs = s.setStore (s.store.sendProgram .bodyProgram s.store.useAddr s.store.bodyBytes) := by
  simp only [State.transferDone, h]

theorem transferDone_markEnable (h : s.store.job = .markEnable) :
    s.transferDone bs = s.setStore (s.store.sendProgram .markProgram (s.store.useAddr + 252) (bytes32 s.store.head.id)) := by
  simp only [State.transferDone, h]

theorem transferDone_openEnable {q : Nat} (h : s.store.job = .openEnable) (ho : s.store.toOpen = some (i, q)) :
    s.transferDone bs = s.setStore (s.store.sendProgram .openProgram (s.store.pageAddr i 0) (headerBytes q)) := by
  simp only [State.transferDone, h, ho]

theorem transferDone_eraseEnable (h : s.store.job = .eraseEnable) (hi : s.store.eraseSector = some i) : s.transferDone bs =
    s.setStore (s.store.send .eraseSend (s.store.cfg.opErase :: addressBytes (s.store.pageAddr i 0)) 0) := by
  simp only [State.transferDone, h, hi, Option.getD_some]

theorem transferDone_eraseSend (h : s.store.job = .eraseSend) : s.transferDone bs = s.setStore s.store.rest.serve := by
  simp only [State.transferDone, h]

theorem transferDone_resumeSend (h : s.store.job = .resumeSend) :
    s.transferDone bs = s.setStore { s.store.rest with erase := .running }.serve := by
  simp only [State.transferDone, h]

/-- A program or a suspension has been sent: its poll begins (R147). -/
theorem transferDone_polled {j j' : Job} (h : s.store.job = j) (hj : (j, j') ∈ [(Job.bodyProgram, Job.bodyPoll),
    (.markProgram, .markPoll), (.openProgram, .openPoll), (.suspendSend, .suspendPoll)]) :
    s.transferDone bs = s.setStore (s.store.poll j') := by
  simp only [List.mem_cons, List.not_mem_nil, or_false, Prod.mk.injEq] at hj
  rcases hj with ⟨rfl, rfl⟩ | ⟨rfl, rfl⟩ | ⟨rfl, rfl⟩ | ⟨rfl, rfl⟩ <;> simp only [State.transferDone, h]

theorem transferDone_bodyRead (h : s.store.job = .bodyRead) : s.transferDone bs =
    if bs = s.store.bodyBytes then s.setStore (s.store.sendEnable .markEnable) else s.storeFailed := by
  simp only [State.transferDone, h]

theorem transferDone_markRead (h : s.store.job = .markRead) : s.transferDone bs =
    if bs = bytes32 s.store.head.id then s.storeDone else s.storeFailed := by
  simp only [State.transferDone, h]

theorem transferDone_openRead {q : Nat} (h : s.store.job = .openRead) (ho : s.store.toOpen = some (i, q)) : s.transferDone bs =
    if bs = headerBytes q then s.openDone else s.openFailed := by
  simp only [State.transferDone, h, ho]

theorem transferDone_eraseCheck (h : s.store.job = .eraseCheck) : s.transferDone bs =
    if pageBlank bs then s.eraseDone else s.eraseFailed := by
  simp only [State.transferDone, h]

theorem transferDone_pageRead {k : Fin 8} {id : Nat} (h : s.store.job = .pageRead) (ho : s.store.hostOp = some (.read k id i p)) :
    s.transferDone bs = s.pageReadDone bs k id i p := by
  simp only [State.transferDone, h, ho]

end

/-! ### Storing and its failures (R156, R159) -/

theorem storeGoOn_serve {u : StoreUnit} (h : u.sequenceOut = false) : s.storeGoOn u = s.setStore u.serve := by
  rw [State.storeGoOn, h]
  rfl

theorem storeGoOn_used {u v : StoreUnit} (h : u = v) (hv : v.sequenceOut = false) : s.storeGoOn u = s.setStore v.serve := by
  rw [h, storeGoOn_serve hv]

/-- The store unit after the record `q` at the head of its queue has been stored in the open sector `o` (R156). -/
def storedIn (u : StoreUnit) (o : Nat) (e : Sector) (q : QueuedRecord) (rest : List QueuedRecord) : StoreUnit :=
  { { u with
      sectors := u.sectors.set o { e with slots := e.slots.set (u.nextSlot - 1) (.valid q.id) } }.drained.rest with queue := rest }

section
variable {o : Nat} {e : Sector} {q : QueuedRecord} {rest : List QueuedRecord}

theorem markSlot_open (x : FlashSlot) (ho : s.store.openSector = some o) (he : s.store.sectors[o]? = some e) :
    s.store.markSlot x = { s.store with
      sectors := s.store.sectors.set o { e with slots := e.slots.set (s.store.nextSlot - 1) x } } := by
  rw [StoreUnit.markSlot, ho]
  exact StoreUnit.modSector_of_getElem _ he

variable (hqueue : s.store.queue = q :: rest)
include hqueue

/-- The second attempt has failed: the record ends FAILED and the store unit goes OUT OF SERVICE (R159). -/
theorem storeFailed_second (hq : q.attempts = 1) : ∃ u : StoreUnit,
    s.storeFailed = ((s.setStore { u with queue := rest }).endRecord q.id .failed).storeOut ∧ u.state = s.store.state ∧
      u.hostOp = s.store.hostOp ∧ u.awaiting = s.store.awaiting ∧ u.failed = s.store.failed := by
  refine ⟨((s.store.markSlot .spoiled).rest).slotUsed, ?_, by simp, by simp, by simp, by simp⟩
  unfold State.storeFailed
  show (match s.store.queue with | r :: rs => _ | [] => _) = _
  rw [hqueue]
  show (if q.attempts = 0 then _ else _) = _
  rw [if_neg (by rw [hq]; decide)]

theorem storeFailed_out (hq : q.attempts = 1) (hstate : s.store.state ≠ .outOfService) : State.OutOfService s s.storeFailed := by
  obtain ⟨u, heq, ustate, uop, uawait, ufailed⟩ := storeFailed_second hqueue hq
  rw [heq]
  obtain ⟨-, hstore⟩ := (s.setStore { u with queue := rest }).endRecord_counts q.id
  obtain ⟨hpending, hinputs, hdrive, hmeas, hseq, hgov, hregs, hwatch, -, hrecord⟩ :=
    (s.setStore { u with queue := rest }).endRecord_frame q.id .failed
  generalize (s.setStore { u with queue := rest }).endRecord q.id .failed = w at *
  rw [State.setStore_store] at hstore
  refine (storeOut_outOfService (s := w) ?_).since ?_ ?_ (fun hle => ?_)
    ⟨hseq, hgov, hregs, hrecord, hpending, hinputs, hdrive, hmeas, hwatch⟩
  · rw [hstore]
    exact ustate ▸ hstate
  · rw [hstore]
    exact uop
  · rw [hstore]
    exact uawait
  · rw [hqueue, List.length_cons] at hle ⊢
    rw [hstore]
    simp only [ufailed, countTo_step hle]
    omega

variable (ho : s.store.openSector = some o) (he : s.store.sectors[o]? = some e)
include ho he

/-- The first attempt of the record at the head has failed (R159). -/
theorem storeFailed_first (hq : q.attempts = 0) : s.storeFailed = s.storeGoOn { s.store.quiet with
    queue := { q with attempts := 1 } :: rest
    sectors := s.store.sectors.set o { e with slots := e.slots.set (s.store.nextSlot - 1) .spoiled } }.slotUsed := by
  unfold State.storeFailed
  rw [markSlot_open .spoiled ho he]
  show (match s.store.queue with | r :: rs => _ | [] => _) = _
  rw [hqueue]
  show (if q.attempts = 0 then _ else _) = _
  rw [if_pos hq]
  rfl

/-- All four steps of storing have succeeded (R156). -/
theorem storeDone_eq : s.storeDone = ((s.setStore (storedIn s.store o e q rest)).endRecord q.id .stored).storeGoOn
    (storedIn s.store o e q rest).slotUsed := by
  have hhead : s.store.head = q := by rw [StoreUnit.head, hqueue]; rfl
  have hnext : { (s.store.markSlot (.valid s.store.head.id)).drained.rest with queue := s.store.queue.tail } =
      storedIn s.store o e q rest := by
    rw [hhead, hqueue, markSlot_open _ ho he]
    rfl
  have hkept : ((s.setStore (storedIn s.store o e q rest)).endRecord q.id .stored).store = storedIn s.store o e q rest := by
    rw [State.endRecord_store]
    rfl
  unfold State.storeDone
  dsimp only
  rw [hnext, hhead, hkept]

end

/-! ### Erasing and opening (R155, R158, R160) -/

section
variable {i : Nat} {e : Sector}

theorem eraseDone_eq (hi : s.store.eraseSector = some i) (he : s.store.sectors[i]? = some e) : s.eraseDone =
    s.storeGoOn { s.store.quiet with
      sectors := s.store.sectors.set i { e with state := .erased, seq := none }, erase := .none, eraseSector := none } := by
  simp only [State.eraseDone, hi, Option.getD_some, StoreUnit.modSector_of_getElem _ he]
  rfl

/-- The store unit after a failed erase of sector `i`, which is BAD (R160). -/
def eraseLost (u : StoreUnit) (i : Nat) (e : Sector) : StoreUnit := { u.quiet with
  sectors := u.sectors.set i { e with state := .bad }, badCount := u.badCount + 1, erase := .none, eraseSector := none }

theorem eraseLost_eq (he : s.store.sectors[i]? = some e) : { (s.store.markBad i).rest with erase := .none, eraseSector := none } = eraseLost s.store i e := by
  rw [StoreUnit.markBad, StoreUnit.modSector_of_getElem _ he]
  rfl

variable (hi : s.store.eraseSector = some i) (he : s.store.sectors[i]? = some e)
include hi he

theorem eraseFailed_out (h : 2 ≤ s.store.badCount) : s.eraseFailed = (s.setStore (eraseLost s.store i e)).storeOut := by
  simp only [State.eraseFailed, hi, Option.getD_some, eraseLost_eq he]
  exact if_pos (show 3 ≤ s.store.badCount + 1 by omega)

theorem eraseFailed_all (h : s.store.badCount < 2) (hall : s.store.erasingAll = true) :
    s.eraseFailed = s.setStore (eraseLost s.store i e).serve := by
  simp only [State.eraseFailed, hi, Option.getD_some, eraseLost_eq he]
  exact (if_neg (show ¬3 ≤ s.store.badCount + 1 by omega)).trans (if_pos hall)

/-- The following sector is erased at once (R160). -/
theorem eraseFailed_next {n : Nat} (h : s.store.badCount < 2) (hall : s.store.erasingAll = false)
    (hn : (eraseLost s.store i e).nextSector i = some n) :
    s.eraseFailed = ((s.setStore (eraseLost s.store i e)).dropBadRead i).setStore
      (((((s.setStore (eraseLost s.store i e)).dropBadRead i).store).replaceToOpen i n).startErase n) := by
  have hnall : (eraseLost s.store i e).erasingAll = false := hall
  simp only [State.eraseFailed, hi, Option.getD_some, eraseLost_eq he, hnall, hn]
  exact if_neg (show ¬3 ≤ s.store.badCount + 1 by omega)

end

theorem dropBadRead_none {i : Nat} (h : ∀ k id page, s.store.hostOp ≠ some (.read k id i page)) : s.dropBadRead i = s := by
  unfold State.dropBadRead
  split
  · next k id sector page hop =>
    split_ifs with hsector
    · subst hsector
      exact absurd hop (h k id page)
    · rfl
  · rfl

theorem dropBadRead_some {i id page : Nat} {k : Fin 8} (h : s.store.hostOp = some (.read k id i page)) :
    s.dropBadRead i = s.endWaitingRead k .gone := by
  rw [State.dropBadRead, h]
  exact if_pos rfl

theorem openDone_eq {i q : Nat} {e : Sector} (ho : s.store.toOpen = some (i, q)) (he : s.store.sectors[i]? = some e) :
    let u := { s.store.quiet with
      sectors := s.store.sectors.set i ⟨.opened, some q, List.replicate 15 .blank⟩, openSector := some i, nextSlot := 1, toOpen := none }
    s.openDone = match s.store.hostOp with
      | some (.eraseAll k .reopen) => (s.setStore u).eraseAllDone k
      | _ => s.setStore u.serve := by
  unfold State.openDone
  rw [ho]
  dsimp only
  rw [StoreUnit.modSector_of_getElem _ he]
  rfl

/-- The store unit after a failed opening of sector `i`, which is BAD (R158). -/
def openLost (u : StoreUnit) (i q : Nat) (e : Sector) : StoreUnit :=
  let v := { u.quiet with sectors := u.sectors.set i { e with state := .bad }, badCount := u.badCount + 1 }
  { v with toOpen := (v.nextSector i).map fun n => (n, q) }

theorem openFailed_out {i q : Nat} {e : Sector} (ho : s.store.toOpen = some (i, q)) (he : s.store.sectors[i]? = some e)
    (h : 2 ≤ s.store.badCount) : s.openFailed = (s.setStore { s.store.quiet with
      sectors := s.store.sectors.set i { e with state := .bad }, badCount := s.store.badCount + 1 }).storeOut := by
  unfold State.openFailed
  rw [ho]
  dsimp only
  rw [StoreUnit.markBad, StoreUnit.modSector_of_getElem _ he]
  exact if_pos (show 3 ≤ s.store.badCount + 1 by omega)

theorem openFailed_next {i q : Nat} {e : Sector} (ho : s.store.toOpen = some (i, q)) (he : s.store.sectors[i]? = some e)
    (h : s.store.badCount < 2) : s.openFailed = ((s.setStore (openLost s.store i q e)).dropBadRead i).storeGoOn
      ((s.setStore (openLost s.store i q e)).dropBadRead i).store := by
  unfold State.openFailed
  rw [ho]
  dsimp only
  rw [StoreUnit.markBad, StoreUnit.modSector_of_getElem _ he]
  exact if_neg (show ¬3 ≤ s.store.badCount + 1 by omega)

end State

end Sys2Proof.Machine
end

section
/-! The store port between two answers of the flash: transfers that receive nothing, and polls (R146, R147, R156 to R158). -/

namespace Sys2Proof.Machine

namespace State
variable {s : State}

theorem transferEnded_store (s : State) : s.transferEnded.store = { s.store with transfer := none } := rfl

theorem transferEnded_eq (v : StoreUnit) : s.transferEnded.setStore v = s.setStore v := rfl

/-- An event that leaves the state of the store as it is, for a transfer with any answer. -/
theorem exec_transferEnd_sent {v : StoreUnit} (rx : List Byte) (ht : s.store.transfer.isSome = true)
    (hdone : ∀ bs, s.transferEnded.transferDone bs = s.setStore v) (hstate : v.state = s.store.state) :
    exec (.flashTransferEnd rx) s = .next (s.setStore v) := by
  obtain ⟨⟨tx, n⟩, ht⟩ := Option.isSome_iff_exists.mp ht
  exact exec_transferEnd_store ht rfl (hdone _) hstate

end State

section
variable {s : State} (rx : List Byte) (ht : s.store.transfer.isSome = true)
include ht

theorem bodyEnable_ends (hj : s.store.job = .bodyEnable) :
    exec (.flashTransferEnd rx) s = .next (s.setStore (s.store.sending .bodyProgram
      (addressed s.store.cfg.opProgram (s.store.cfg.base + s.store.openSector.getD 0 * 4096 + s.store.nextSlot * 256) ++
        s.store.head.image.flatMap wordBytes) 0)) :=
  State.exec_transferEnd_sent rx ht (fun _ => State.transferDone_bodyEnable hj) rfl

theorem markEnable_ends (hj : s.store.job = .markEnable) :
    exec (.flashTransferEnd rx) s = .next (s.setStore (s.store.sending .markProgram
      (addressed s.store.cfg.opProgram (s.store.cfg.base + s.store.openSector.getD 0 * 4096 + s.store.nextSlot * 256 + 252) ++
        bytes32 s.store.head.id) 0)) :=
  State.exec_transferEnd_sent rx ht (fun _ => State.transferDone_markEnable hj) rfl

theorem program_ends {j j' : Job} (hj : s.store.job = j) (hpoll : (j, j') ∈ [(Job.bodyProgram, Job.bodyPoll),
    (.markProgram, .markPoll), (.openProgram, .openPoll), (.suspendSend, .suspendPoll)]) :
    exec (.flashTransferEnd rx) s = .next (s.setStore { s.store with job := j', transfer := none, pollElapsed := 0 }) :=
  State.exec_transferEnd_sent rx ht (fun _ => State.transferDone_polled hj hpoll) rfl

theorem openEnable_ends {i q : Nat} (hj : s.store.job = .openEnable) (ho : s.store.toOpen = some (i, q)) :
    exec (.flashTransferEnd rx) s = .next (s.setStore (s.store.sending .openProgram
      (addressed s.store.cfg.opProgram (s.store.cfg.base + i * 4096 + 0 * 256) ++
        (wordBytes 0x5A3C ++ bytes32 q ++ wordBytes 0xC35A)) 0)) :=
  State.exec_transferEnd_sent rx ht (fun _ => State.transferDone_openEnable hj ho) rfl

theorem eraseEnable_ends {i : Nat} (hj : s.store.job = .eraseEnable) (hi : s.store.eraseSector = some i) :
    exec (.flashTransferEnd rx) s = .next (s.setStore (s.store.sending .eraseSend
      (addressed s.store.cfg.opErase (s.store.cfg.base + i * 4096 + 0 * 256)) 0)) :=
  State.exec_transferEnd_sent rx ht (fun _ => State.transferDone_eraseEnable (s := s.transferEnded) hj hi) rfl

section
variable (hj : s.store.job = .eraseSend) (hready : s.store.state = .ready) (herase : s.store.erase = .running)
include hj hready herase

/-- The erase has been sent and runs in the background (R155). -/
theorem eraseSend_ends (h : s.store.queue = [] ∨ s.store.blankSlot = none ∨ s.store.cfg.suspendSupported = false) :
    exec (.flashTransferEnd rx) s = .next (s.setStore s.store.quiet) := by
  refine State.exec_transferEnd_sent rx ht (fun _ => (State.transferDone_eraseSend (s := s.transferEnded) hj).trans ?_) rfl
  have hserve : s.store.quiet.serve = s.store.quiet :=
    StoreUnit.serve_waits (u := s.store.quiet) hready rfl herase h
  rw [State.transferEnded_eq]
  exact congrArg s.setStore hserve

theorem eraseSend_suspends (hqueue : s.store.queue ≠ []) (hblank : s.store.blankSlot.isSome = true)
    (hsuspend : s.store.cfg.suspendSupported = true) :
    exec (.flashTransferEnd rx) s = .next (s.setStore (s.store.sending .suspendSend [s.store.cfg.opSuspend] 0)) := by
  refine State.exec_transferEnd_sent rx ht (fun _ => (State.transferDone_eraseSend (s := s.transferEnded) hj).trans ?_) rfl
  have hserve := StoreUnit.serve_suspends (u := s.store.quiet) hready rfl herase hqueue hblank hsuspend
  rw [State.transferEnded_eq]
  exact congrArg s.setStore hserve

end

theorem resumeSend_ends (hj : s.store.job = .resumeSend) (hready : s.store.state = .ready)
    (h : s.store.queue = [] ∨ s.store.blankSlot = none ∨ s.store.cfg.suspendSupported = false) :
    exec (.flashTransferEnd rx) s = .next (s.setStore { s.store.quiet with erase := .running }) := by
  refine State.exec_transferEnd_sent rx ht (fun _ => (State.transferDone_resumeSend (s := s.transferEnded) hj).trans ?_) rfl
  have hserve : { s.store.quiet with erase := .running }.serve = { s.store.quiet with erase := .running } :=
    StoreUnit.serve_waits (u := { s.store.quiet with erase := .running }) hready rfl rfl h
  rw [State.transferEnded_eq]
  exact congrArg s.setStore hserve

end

/-! ### Polls (R147) -/

namespace StoreUnit
variable {u : StoreUnit}

theorem erasePolled_iff : u.erasePolled = true ↔ u.erase = .running ∧ (u.state = .ready ∨ u.state = .busy) := by simp [erasePolled]

theorem polling_iff : u.polling = true ↔ u.polls := by
  unfold polling pollLimit polls
  cases hj : u.job <;> simp [erasePolled_iff]

/-- A poll has a limit, and its operation ends as failed where the limit has passed; with no poll there is none (R147). -/
theorem limitPassed_unpolled (h : ¬u.polls) : u.limitPassed = false := by
  have hpolling : u.polling = false := Bool.eq_false_iff.mpr fun hp => h (polling_iff.mp hp)
  rw [polling, Bool.or_eq_false_iff] at hpolling
  obtain ⟨hlimit, hidle⟩ := hpolling
  have hnone : u.pollLimit = none := by simpa using hlimit
  rw [limitPassed, hnone]
  simp only [hidle, Bool.false_and]

theorem limitPassed_of_limit {l : Nat} (hl : u.pollLimit = some l) (h : l ≤ u.pollElapsed) : u.limitPassed = true := by
  rw [limitPassed, hl]
  exact decide_eq_true h

theorem limitPassed_erase (hj : u.job = .idle) (hpolled : u.erasePolled = true) (h : 1000 * u.cfg.eraseLimit ≤ u.eraseElapsed) :
    u.limitPassed = true := by
  have hl : u.pollLimit = none := by rw [pollLimit, hj]
  have he : u.eraseLimit ≤ u.eraseElapsed := h
  rw [limitPassed, hl]
  simp [hj, hpolled, he]

end StoreUnit

section
variable {s : State} {st : Byte}

theorem readStatus_polls (h : s.store.polls) :
    s.readStatus = s.setStore { s.store with lastTransfer := some ⟨[s.store.cfg.opStatus], 1⟩ } :=
  if_pos (StoreUnit.polling_iff.mpr h)

theorem readStatus_unpolled (h : ¬s.store.polls) : s.readStatus = s := if_neg fun hp => h (StoreUnit.polling_iff.mp hp)

theorem pollClear_unpolled (h : ¬s.store.polls) : s.pollClear = s := by
  unfold State.pollClear
  dsimp only
  split
  · next hj => exact absurd (.inl hj) h
  · next hj => exact absurd (.inr (.inl hj)) h
  · next hj => exact absurd (.inr (.inr (.inl hj))) h
  · next hj => exact absurd (.inr (.inr (.inr (.inl hj)))) h
  · next hj => exact absurd (.inr (.inr (.inr (.inr (.inl hj))))) h
  · next hj =>
    rw [if_neg]
    intro hp
    exact h (.inr (.inr (.inr (.inr (.inr ⟨hj, StoreUnit.erasePolled_iff.mp hp⟩)))))
  · rfl

/-- A STATUS READ has been made. -/
def State.statusHad (s : State) : State := s.setStore { s.store with lastTransfer := some ⟨[s.store.cfg.opStatus], 1⟩ }

/-- A poll that reads the flash as busy (R147). -/
theorem statusPoll_busy (h : s.store.polls) (hst : st.getLsbD 0 = true) : exec (.flashStatusPoll st) s = .next s.statusHad := by
  show Host.Outcome.next (if st.getLsbD 0 then s.readStatus else s.readStatus.pollClear) = _
  rw [hst, if_pos rfl, readStatus_polls h]
  rfl

theorem statusPoll_none (h : ¬s.store.polls) : exec (.flashStatusPoll st) s = .next s := by
  show Host.Outcome.next (if st.getLsbD 0 then s.readStatus else s.readStatus.pollClear) = _
  rw [readStatus_unpolled h, pollClear_unpolled h, ite_self]

/-- A poll that reads the flash as free: the operation has ended (R147). -/
theorem statusPoll_clear (hst : st.getLsbD 0 = false) (h : s.store.polls) {v : StoreUnit}
    (hclear : s.statusHad.pollClear = s.setStore v) : exec (.flashStatusPoll st) s = .next (s.setStore v) := by
  show Host.Outcome.next (if st.getLsbD 0 then s.readStatus else s.readStatus.pollClear) = _
  rw [hst, if_neg (by decide), readStatus_polls h]
  exact congrArg Host.Outcome.next hclear

/-! The step of the work that the end of each polled operation brings. -/

namespace State
variable {i q : Nat}

theorem pollClear_scan (h : s.store.job = .scanPoll) : s.pollClear = s.setStore s.store.sendIdent := by
  simp only [State.pollClear, h]

theorem pollClear_body (h : s.store.job = .bodyPoll) : s.pollClear = s.setStore (s.store.sendRead .bodyRead s.store.useAddr 256) := by
  simp only [State.pollClear, h]

theorem pollClear_mark (h : s.store.job = .markPoll) :
    s.pollClear = s.setStore (s.store.sendRead .markRead (s.store.useAddr + 252) 4) := by
  simp only [State.pollClear, h]

theorem pollClear_open (h : s.store.job = .openPoll) (ho : s.store.toOpen = some (i, q)) :
    s.pollClear = s.setStore (s.store.sendRead .openRead (s.store.pageAddr i 0) 8) := by
  simp only [State.pollClear, h, ho]

theorem pollClear_suspend (h : s.store.job = .suspendPoll) : s.pollClear = s.setStore { s.store.rest with erase := .suspended }.serve := by
  simp only [State.pollClear, h]

theorem pollClear_erase (h : s.store.job = .idle) (hpolled : s.store.erasePolled = true) :
    s.pollClear = s.setStore (s.store.sendRead .eraseCheck (s.store.pageAddr (s.store.eraseSector.getD 0) 0) 256) := by
  simp only [State.pollClear, h, hpolled, if_true]

end State

variable (hst : st.getLsbD 0 = false)
include hst

theorem bodyPoll_clear (hj : s.store.job = .bodyPoll) : exec (.flashStatusPoll st) s = .next (s.setStore
    (s.store.sending .bodyRead
      (addressed s.store.cfg.opRead (s.store.cfg.base + s.store.openSector.getD 0 * 4096 + s.store.nextSlot * 256)) 256)) :=
  statusPoll_clear hst (.inr (.inl hj)) (State.pollClear_body (s := s.statusHad) hj)

theorem markPoll_clear (hj : s.store.job = .markPoll) : exec (.flashStatusPoll st) s = .next (s.setStore
    (s.store.sending .markRead
      (addressed s.store.cfg.opRead (s.store.cfg.base + s.store.openSector.getD 0 * 4096 + s.store.nextSlot * 256 + 252)) 4)) :=
  statusPoll_clear hst (.inr (.inr (.inl hj))) (State.pollClear_mark (s := s.statusHad) hj)

theorem openPoll_clear {i q : Nat} (hj : s.store.job = .openPoll) (ho : s.store.toOpen = some (i, q)) :
    exec (.flashStatusPoll st) s = .next (s.setStore
      (s.store.sending .openRead (addressed s.store.cfg.opRead (s.store.cfg.base + i * 4096 + 0 * 256)) 8)) :=
  statusPoll_clear hst (.inr (.inr (.inr (.inl hj)))) (State.pollClear_open (s := s.statusHad) hj ho)

theorem erasePoll_clear {i : Nat} (hj : s.store.job = .idle) (herase : s.store.erase = .running)
    (hstate : s.store.state = .ready ∨ s.store.state = .busy) (hi : s.store.eraseSector = some i) :
    exec (.flashStatusPoll st) s = .next (s.setStore
      (s.store.sending .eraseCheck (addressed s.store.cfg.opRead (s.store.cfg.base + i * 4096 + 0 * 256)) 256)) := by
  refine statusPoll_clear hst (.inr (.inr (.inr (.inr (.inr ⟨hj, herase, hstate⟩))))) ?_
  have hi' : s.statusHad.store.eraseSector = some i := hi
  rw [State.pollClear_erase (s := s.statusHad) hj (StoreUnit.erasePolled_iff.mpr ⟨herase, hstate⟩), hi']
  rfl

theorem scanPoll_clear (hj : s.store.job = .scanPoll) :
    exec (.flashStatusPoll st) s = .next (s.setStore (s.store.sending .scanIdent [s.store.cfg.opIdent] 3)) :=
  statusPoll_clear hst (.inl hj) (State.pollClear_scan (s := s.statusHad) hj)

/-- The erase has been suspended: a record that can be programmed is programmed (R157). -/
theorem suspendPoll_programs (hj : s.store.job = .suspendPoll) (hready : s.store.state = .ready) (hqueue : s.store.queue ≠ [])
    (hblank : s.store.blankSlot.isSome = true) : exec (.flashStatusPoll st) s = .next (s.setStore
      ({ s.store with erase := .suspended }.sending .bodyEnable [s.store.cfg.opWriteEnable] 0)) := by
  refine statusPoll_clear hst (.inr (.inr (.inr (.inr (.inl hj)))))
    ((State.pollClear_suspend (s := s.statusHad) hj).trans ?_)
  have hserve := StoreUnit.serve_programs (u := { s.statusHad.store.rest with erase := .suspended }) hready rfl
    (fun h => EraseState.noConfusion h) hqueue hblank
  exact congrArg s.statusHad.setStore hserve

/-- The erase has been suspended: the page of a store read is read (R157, R162). -/
theorem suspendPoll_reads {k : Fin 8} {id sector page : Nat} (hj : s.store.job = .suspendPoll) (hbusy : s.store.state = .busy)
    (hop : s.store.hostOp = some (.read k id sector page)) (hqueue : s.store.queue = []) :
    exec (.flashStatusPoll st) s = .next (s.setStore
      ({ s.store with erase := .suspended }.sending .pageRead
        (addressed s.store.cfg.opRead (s.store.cfg.base + sector * 4096 + page * 256)) 256)) := by
  refine statusPoll_clear hst (.inr (.inr (.inr (.inr (.inl hj)))))
    ((State.pollClear_suspend (s := s.statusHad) hj).trans ?_)
  have hserve := StoreUnit.serve_readsPage (u := { s.statusHad.store.rest with erase := .suspended }) hbusy hop rfl
    (.inr ⟨rfl, .inl hqueue⟩)
  exact congrArg s.statusHad.setStore hserve

end

end Sys2Proof.Machine
end

section
/-! The attempts of a record (R156, R159): what follows a failed read-back, a late program, and a record that is STORED. -/

namespace Sys2Proof.Machine

/-- An entry replaced is read back. -/
theorem getElem?_set_of_some {α : Type} {l : List α} {i : Nat} {e : α} (h : l[i]? = some e) (x : α) : (l.set i x)[i]? = some x := by
  rw [List.getElem?_set_self (List.getElem?_eq_some_iff.mp h).1]

theorem StoreUnit.sectorState_set_ne {u : StoreUnit} {i n : Nat} {x : Sector} (h : n ≠ i) :
    { u with sectors := u.sectors.set i x }.sectorState n = u.sectorState n := by
  rw [StoreUnit.sectorState, StoreUnit.sectorState, List.getElem?_set_ne (Ne.symm h)]

namespace State
variable {s : State} {o p : Nat} {e : Sector} {q : QueuedRecord} {rest : List QueuedRecord}

/-- The store unit after the first attempt of the record at its head has failed: its slot is SPOILED (R159). -/
def attempted (u : StoreUnit) (o : Nat) (e : Sector) (q : QueuedRecord) (rest : List QueuedRecord) : StoreUnit := { u.quiet with
  queue := { q with attempts := 1 } :: rest
  sectors := u.sectors.set o { e with slots := e.slots.set (u.nextSlot - 1) .spoiled } }

theorem storedIn_sectors (u : StoreUnit) :
    (storedIn u o e q rest).sectors = u.sectors.set o { e with slots := e.slots.set (u.nextSlot - 1) (.valid q.id) } := by
  simp [storedIn]

section
variable (ho : s.store.openSector = some o) (he : s.store.sectors[o]? = some e)
include ho he

section
variable (hqueue : s.store.queue = q :: rest)
include hqueue

section
variable (hq : q.attempts = 0)
include hq

/-- The sector has another BLANK slot for the second attempt. -/
theorem storeFailed_used (htoOpen : s.store.toOpen = none)
    (hp : firstBlank (e.slots.set (s.store.nextSlot - 1) .spoiled) = some p) :
    s.storeFailed = s.setStore { attempted s.store o e q rest with nextSlot := p }.serve := by
  have hused := StoreUnit.slotUsed_blank (u := attempted s.store o e q rest) ho (getElem?_set_of_some he _) hp
  rw [storeFailed_first hqueue ho he hq]
  exact storeGoOn_used hused (StoreUnit.sequenceOut_none htoOpen)

/-- The sector is full: the next one is to be opened. -/
theorem storeFailed_full {n q0 : Nat} {e' : Sector} (hp : firstBlank (e.slots.set (s.store.nextSlot - 1) .spoiled) = none)
    (hseq : e.seq = some q0) (hlast : q0 + 1 < 0xFFFFFFFF) (hn : n = (o + 1) % s.store.sectors.length) (hno : n ≠ o)
    (he' : s.store.sectors[n]? = some e') (hgood : e'.state ≠ .bad) :
    s.storeFailed = s.setStore { attempted s.store o e q rest with
      sectors := s.store.sectors.set o { e with state := .full, slots := e.slots.set (s.store.nextSlot - 1) .spoiled }
      openSector := none, toOpen := some (n, q0 + 1) }.serve := by
  have hlen : (attempted s.store o e q rest).sectors.length = s.store.sectors.length := List.length_set
  have hstate : (attempted s.store o e q rest).sectorState n = e'.state :=
    (StoreUnit.sectorState_set_ne (u := s.store) hno).trans (StoreUnit.sectorState_of_getElem he')
  have hused := StoreUnit.slotUsed_full (u := attempted s.store o e q rest) ho (getElem?_set_of_some he _) hp hseq
    (hlen.symm ▸ hn) (hstate ▸ hgood)
  rw [storeFailed_first hqueue ho he hq]
  refine (storeGoOn_used hused (StoreUnit.sequenceOut_some rfl hlast)).trans ?_
  simp only [attempted, List.set_set]

end

/-- The record has been stored and the sector has another BLANK slot (R156). -/
theorem storeDone_used (htoOpen : s.store.toOpen = none)
    (hp : firstBlank (e.slots.set (s.store.nextSlot - 1) (.valid q.id)) = some p) :
    s.storeDone = ((s.setStore (storedIn s.store o e q rest)).endRecord q.id .stored).setStore
      { storedIn s.store o e q rest with nextSlot := p }.serve := by
  have hopen : (storedIn s.store o e q rest).openSector = some o := by simp [storedIn, ho]
  have hsectors : (storedIn s.store o e q rest).sectors[o]? =
      some { e with slots := e.slots.set (s.store.nextSlot - 1) (.valid q.id) } := by
    rw [storedIn_sectors, getElem?_set_of_some he]
  have htoOpen' : (storedIn s.store o e q rest).toOpen = none := by simp [storedIn, htoOpen]
  rw [storeDone_eq hqueue ho he]
  exact storeGoOn_used (StoreUnit.slotUsed_blank hopen hsectors hp) (StoreUnit.sequenceOut_none htoOpen')

/-- The record has been stored in the last slot of the sector (R156, R158). -/
theorem storeDone_full {n q0 : Nat} {e' : Sector} (hp : firstBlank (e.slots.set (s.store.nextSlot - 1) (.valid q.id)) = none)
    (hseq : e.seq = some q0) (hlast : q0 + 1 < 0xFFFFFFFF) (hn : n = (o + 1) % s.store.sectors.length) (hno : n ≠ o)
    (he' : s.store.sectors[n]? = some e') (hgood : e'.state ≠ .bad) :
    s.storeDone = ((s.setStore (storedIn s.store o e q rest)).endRecord q.id .stored).setStore
      { storedIn s.store o e q rest with
        sectors := s.store.sectors.set o { e with state := .full, slots := e.slots.set (s.store.nextSlot - 1) (.valid q.id) }
        openSector := none, toOpen := some (n, q0 + 1) }.serve := by
  have hopen : (storedIn s.store o e q rest).openSector = some o := by simp [storedIn, ho]
  have hset : (storedIn s.store o e q rest).sectors =
      s.store.sectors.set o { e with slots := e.slots.set (s.store.nextSlot - 1) (.valid q.id) } := storedIn_sectors _
  have hsectors : (storedIn s.store o e q rest).sectors[o]? =
      some { e with slots := e.slots.set (s.store.nextSlot - 1) (.valid q.id) } := by
    rw [hset, getElem?_set_of_some he]
  have hlen : (storedIn s.store o e q rest).sectors.length = s.store.sectors.length := by rw [hset, List.length_set]
  have hstate : (storedIn s.store o e q rest).sectorState n = e'.state := by
    rw [StoreUnit.sectorState, hset, List.getElem?_set_ne (Ne.symm hno), he']
    rfl
  rw [storeDone_eq hqueue ho he]
  refine (storeGoOn_used (StoreUnit.slotUsed_full hopen hsectors hp hseq (hlen.symm ▸ hn) (hstate ▸ hgood))
    (StoreUnit.sequenceOut_some rfl hlast)).trans ?_
  simp only [hset, List.set_set]

end

end

theorem drained_ready {u : StoreUnit} (hop : u.hostOp = none) : u.drained = u := by rw [StoreUnit.drained, hop]

theorem drained_drain {u : StoreUnit} {k : Fin 8} {n : Nat} (hop : u.hostOp = some (.eraseAll k (.drain (n + 1)))) :
    u.drained = { u with hostOp := some (.eraseAll k (.drain n)) } := by
  rw [StoreUnit.drained, hop]
  rfl

theorem storedIn_ready (u : StoreUnit) (hop : u.hostOp = none) : storedIn u o e q rest = { u.quiet with
    sectors := u.sectors.set o { e with slots := e.slots.set (u.nextSlot - 1) (.valid q.id) }, queue := rest } := by
  rw [storedIn, drained_ready]
  · rfl
  · exact hop

theorem storedIn_drain (u : StoreUnit) {k : Fin 8} {n : Nat} (hop : u.hostOp = some (.eraseAll k (.drain (n + 1)))) :
    storedIn u o e q rest = { u.quiet with
      sectors := u.sectors.set o { e with slots := e.slots.set (u.nextSlot - 1) (.valid q.id) }, queue := rest
      hostOp := some (.eraseAll k (.drain n)) } := by
  rw [storedIn, drained_drain]
  · rfl
  · exact hop

end State

end Sys2Proof.Machine
end

section
/-! The read-backs of a record in READY, as events of the store port (R156, R158, R159). -/

namespace Sys2Proof.Machine

namespace State
variable {s : State} {tx rx : List Byte}

/-! ### The events that end an attempt -/

theorem bodyRead_ends (hj : s.store.job = .bodyRead) (ht : s.store.transfer = some ⟨tx, 256⟩) (hlen : rx.length = 256)
    (hrx : rx = s.store.bodyBytes) :
    exec (.flashTransferEnd rx) s = .next (s.setStore (s.store.sending .markEnable [s.store.cfg.opWriteEnable] 0)) :=
  exec_transferEnd_store ht (received_full hlen) ((transferDone_bodyRead (s := s.transferEnded) hj).trans (if_pos hrx)) rfl

theorem bodyRead_fails (hj : s.store.job = .bodyRead) (ht : s.store.transfer = some ⟨tx, 256⟩) (hlen : rx.length = 256)
    (hrx : rx ≠ s.store.bodyBytes) : exec (.flashTransferEnd rx) s = .next (s.scanLeft s.transferEnded.storeFailed) := by
  rw [exec_transferEnd ht (received_full hlen), transferDone_bodyRead (s := s.transferEnded) hj]
  exact congrArg (fun t => Host.Outcome.next (s.scanLeft t)) (if_neg hrx)

theorem bytes32_length (n : Nat) : (bytes32 n).length = 4 := rfl

theorem markRead_fails (hj : s.store.job = .markRead) (ht : s.store.transfer = some ⟨tx, 4⟩) (hlen : rx.length = 4)
    (hrx : rx ≠ bytes32 s.store.head.id) : exec (.flashTransferEnd rx) s = .next (s.scanLeft s.transferEnded.storeFailed) := by
  rw [exec_transferEnd ht (received_full hlen), transferDone_markRead (s := s.transferEnded) hj]
  exact congrArg (fun t => Host.Outcome.next (s.scanLeft t)) (if_neg hrx)

theorem markRead_ends (hj : s.store.job = .markRead) (ht : s.store.transfer = some ⟨tx, 4⟩)
    (hrx : rx = bytes32 s.store.head.id) : exec (.flashTransferEnd rx) s = .next (s.scanLeft s.transferEnded.storeDone) := by
  rw [exec_transferEnd ht (received_full (hrx ▸ bytes32_length _)), transferDone_markRead (s := s.transferEnded) hj]
  exact congrArg (fun t => Host.Outcome.next (s.scanLeft t)) (if_pos hrx)

theorem program_late (hj : s.store.job = .bodyPoll ∨ s.store.job = .markPoll)
    (hlate : 1000 * s.store.cfg.programLimit ≤ s.store.pollElapsed) :
    exec .flashTimeLimit s = .next (s.scanLeft s.storeFailed) := by
  rcases hj with hj | hj
  · rw [exec_timeLimit (StoreUnit.limitPassed_of_limit (by rw [StoreUnit.pollLimit, hj]) hlate), State.pollFailed, hj]
  · rw [exec_timeLimit (StoreUnit.limitPassed_of_limit (by rw [StoreUnit.pollLimit, hj]) hlate), State.pollFailed, hj]

section
variable {o p : Nat} {e : Sector} {q : QueuedRecord} {rest : List QueuedRecord}
variable (ho : s.store.openSector = some o) (he : s.store.sectors[o]? = some e) (hqueue : s.store.queue = q :: rest)
variable (hready : s.store.state = .ready) (herase : s.store.erase ≠ .running)
include ho he hqueue hready herase

/-- The record is attempted again in another slot of its sector. -/
theorem storeFailed_again (htoOpen : s.store.toOpen = none) (hq : q.attempts = 0)
    (hp : firstBlank (e.slots.set (s.store.nextSlot - 1) .spoiled) = some p) :
    s.storeFailed = s.setStore ({ s.store with
      queue := { q with attempts := 1 } :: rest
      sectors := s.store.sectors.set o { e with slots := e.slots.set (s.store.nextSlot - 1) .spoiled }
      nextSlot := p }.sending .bodyEnable [s.store.cfg.opWriteEnable] 0) := by
  have hblank : { attempted s.store o e q rest with nextSlot := p }.blankSlot.isSome = true := by
    rw [StoreUnit.blankSlot_of_open (u := { attempted s.store o e q rest with nextSlot := p }) ho (getElem?_set_of_some he _), hp]
    rfl
  have hserve := StoreUnit.serve_programs (u := { attempted s.store o e q rest with nextSlot := p }) hready rfl herase
    (List.cons_ne_nil _ _) hblank
  rw [storeFailed_used ho he hqueue hq htoOpen hp]
  exact congrArg s.setStore hserve

/-- The sector is full and the next one is ERASED: it is opened for the second attempt. -/
theorem storeFailed_opens {n q0 : Nat} {e' : Sector} (hq : q.attempts = 0)
    (hp : firstBlank (e.slots.set (s.store.nextSlot - 1) .spoiled) = none) (hseq : e.seq = some q0) (hlast : q0 + 1 < 0xFFFFFFFF)
    (hn : n = (o + 1) % s.store.sectors.length) (hno : n ≠ o) (he' : s.store.sectors[n]? = some e') (herased : e'.state = .erased) :
    s.storeFailed = s.setStore ({ s.store with
      queue := { q with attempts := 1 } :: rest
      sectors := s.store.sectors.set o { e with state := .full, slots := e.slots.set (s.store.nextSlot - 1) .spoiled }
      openSector := none, toOpen := some (n, q0 + 1) }.sending .openEnable [s.store.cfg.opWriteEnable] 0) := by
  rw [storeFailed_full ho he hqueue hq hp hseq hlast hn hno he' (by rw [herased]; decide)]
  generalize hv : { attempted s.store o e q rest with
    sectors := s.store.sectors.set o { e with state := .full, slots := e.slots.set (s.store.nextSlot - 1) .spoiled }
    openSector := none, toOpen := some (n, q0 + 1) } = v
  have hstate : v.sectorState n = .erased := by
    rw [← hv]
    exact (StoreUnit.sectorState_set_ne (u := s.store) hno).trans ((StoreUnit.sectorState_of_getElem he').trans herased)
  have hserve : v.serve = v.sending .openEnable [v.cfg.opWriteEnable] 0 :=
    StoreUnit.serve_opens (by rw [← hv]; exact hready) (by rw [← hv]; rfl)
      (.inr (StoreUnit.blankSlot_none (by rw [← hv]))) (by rw [← hv]; exact herase) (t := n) (q := q0 + 1) (by rw [← hv]) hstate
  rw [hserve, ← hv]
  rfl

section
variable (hop : s.store.hostOp = none)
include hop

/-- The record has been stored and the sector has another BLANK slot: the next record is programmed, or a suspended erase goes
on (R156, R157). -/
theorem storeDone_next (htoOpen : s.store.toOpen = none)
    (hp : firstBlank (e.slots.set (s.store.nextSlot - 1) (.valid q.id)) = some p) :
    ∃ v : StoreUnit, s.storeDone = ((s.setStore (storedIn s.store o e q rest)).endRecord q.id .stored).setStore v ∧
      v.queue = rest ∧ v.dropped = s.store.dropped ∧ v.failed = s.store.failed ∧ v.nextSlot = p ∧
      v.sectors[o]? = some { e with slots := e.slots.set (s.store.nextSlot - 1) (.valid q.id) } ∧
      (rest ≠ [] → v.job = .bodyEnable ∧ v.transfer = some ⟨[s.store.cfg.opWriteEnable], 0⟩) ∧
      (rest = [] → s.store.erase = .suspended → v.job = .resumeSend ∧ v.transfer = some ⟨[s.store.cfg.opResume], 0⟩) := by
  refine ⟨_, storeDone_used ho he hqueue htoOpen hp, ?_⟩
  have hsectors := getElem?_set_of_some he { e with slots := e.slots.set (s.store.nextSlot - 1) (.valid q.id) }
  rw [storedIn_ready s.store hop]
  generalize hv : ({ s.store.quiet with
    sectors := s.store.sectors.set o { e with slots := e.slots.set (s.store.nextSlot - 1) (.valid q.id) }
    queue := rest, nextSlot := p } : StoreUnit) = v
  have hfields : v.state = .ready ∧ v.job = .idle ∧ v.erase = s.store.erase ∧ v.queue = rest ∧ v.openSector = some o ∧
      v.toOpen = none ∧ v.nextSlot = p ∧ v.dropped = s.store.dropped ∧ v.failed = s.store.failed ∧ v.cfg = s.store.cfg := by
    rw [← hv]
    exact ⟨hready, rfl, rfl, rfl, ho, htoOpen, rfl, rfl, rfl, rfl⟩
  obtain ⟨vready, vjob, verase, vqueue, vopen, vtoOpen, vnext, vdropped, vfailed, vcfg⟩ := hfields
  have vsectors : v.sectors[o]? = some { e with slots := e.slots.set (s.store.nextSlot - 1) (.valid q.id) } := by
    rw [← hv]
    exact hsectors
  have vblank : v.blankSlot = some p := (StoreUnit.blankSlot_of_open vopen vsectors).trans hp
  have vserve := StoreUnit.serve_ready vready vjob
  obtain ⟨ksectors, knext, -, -⟩ := StoreUnit.serveReady_open vtoOpen vopen
  rw [← vserve] at ksectors knext
  refine ⟨by simpa using vqueue, by simpa using vdropped, by simpa using vfailed, knext.trans vnext, ksectors.trans vsectors,
    fun hrest => ?_, fun hrest hsuspended => ?_⟩
  · rw [StoreUnit.serve_programs vready vjob (by rwa [verase]) (by rwa [vqueue]) (by rw [vblank]; rfl), vcfg]
    exact ⟨rfl, rfl⟩
  · rw [StoreUnit.serve_resumes vready vjob (.inl (vqueue.trans hrest)) (verase.trans hsuspended)
      (StoreUnit.openable_none vtoOpen), vcfg]
    exact ⟨rfl, rfl⟩

/-- The record has been stored in the last slot of its sector: the next sector is opened, or erased first (R156, R158). -/
theorem storeDone_last {n q0 : Nat} {e' : Sector} (hp : firstBlank (e.slots.set (s.store.nextSlot - 1) (.valid q.id)) = none)
    (hseq : e.seq = some q0) (hlast : q0 + 1 < 0xFFFFFFFF) (hn : n = (o + 1) % s.store.sectors.length) (hno : n ≠ o)
    (he' : s.store.sectors[n]? = some e') (hgood : e'.state ≠ .bad) :
    ∃ v : StoreUnit, s.storeDone = ((s.setStore (storedIn s.store o e q rest)).endRecord q.id .stored).setStore v ∧
      v.queue = rest ∧ v.dropped = s.store.dropped ∧ v.failed = s.store.failed ∧ v.openSector = none ∧
      v.toOpen = some (n, q0 + 1) ∧
      v.sectors[o]? = some { e with state := .full, slots := e.slots.set (s.store.nextSlot - 1) (.valid q.id) } ∧
      (e'.state = .erased → v.job = .openEnable ∧ v.transfer = some ⟨[s.store.cfg.opWriteEnable], 0⟩) ∧
      (e'.state ≠ .erased → s.store.erase = .none → v.job = .eraseEnable ∧ v.eraseSector = some n) := by
  refine ⟨_, storeDone_full ho he hqueue hp hseq hlast hn hno he' hgood, ?_⟩
  have hsectors := getElem?_set_of_some he { e with state := .full, slots := e.slots.set (s.store.nextSlot - 1) (.valid q.id) }
  have hother : (s.store.sectors.set o { e with state := .full, slots := e.slots.set (s.store.nextSlot - 1) (.valid q.id) })[n]? =
      some e' := by rw [List.getElem?_set_ne (Ne.symm hno), he']
  rw [storedIn_ready s.store hop]
  generalize hv : ({ s.store.quiet with
    sectors := s.store.sectors.set o { e with state := .full, slots := e.slots.set (s.store.nextSlot - 1) (.valid q.id) }
    queue := rest, openSector := none, toOpen := some (n, q0 + 1) } : StoreUnit) = v
  have hfields : v.state = .ready ∧ v.job = .idle ∧ v.erase = s.store.erase ∧ v.queue = rest ∧ v.openSector = none ∧
      v.toOpen = some (n, q0 + 1) ∧ v.dropped = s.store.dropped ∧ v.failed = s.store.failed ∧ v.cfg = s.store.cfg := by
    rw [← hv]
    exact ⟨hready, rfl, rfl, rfl, rfl, rfl, rfl, rfl, rfl⟩
  obtain ⟨vready, vjob, verase, vqueue, vopen, vtoOpen, vdropped, vfailed, vcfg⟩ := hfields
  have vsectors : v.sectors[o]? = some { e with state := .full, slots := e.slots.set (s.store.nextSlot - 1) (.valid q.id) } := by
    rw [← hv]
    exact hsectors
  have vother : v.sectors[n]? = some e' := by
    rw [← hv]
    exact hother
  have vstate : v.sectorState n = e'.state := StoreUnit.sectorState_of_getElem vother
  have hprogram : v.queue = [] ∨ v.blankSlot = none := .inr (StoreUnit.blankSlot_none vopen)
  by_cases herased : e'.state = .erased
  · rw [StoreUnit.serve_opens vready vjob hprogram (by rwa [verase]) vtoOpen (vstate.trans herased), vcfg]
    exact ⟨vqueue, vdropped, vfailed, vopen, vtoOpen, vsectors, fun _ => ⟨rfl, rfl⟩, fun h => absurd herased h⟩
  · have hclosed : v.openable = false := by rw [StoreUnit.openable_some vtoOpen, vstate, decide_eq_false herased]
    have htarget := StoreUnit.eraseTarget_toOpen vtoOpen (show v.sectorState n ≠ .erased by rwa [vstate])
    have hserve := StoreUnit.serve_ready vready vjob
    have hkept : v.serve.sectors[o]? = v.sectors[o]? ∧ v.serve.openSector = v.openSector ∧ v.serve.toOpen = v.toOpen := by
      rw [hserve]
      rcases v.serveReady_cases with h | ⟨j, tx, rx, h⟩ | ⟨t, ht, h⟩
      · rw [h]
        exact ⟨rfl, rfl, rfl⟩
      · rw [h]
        exact ⟨rfl, rfl, rfl⟩
      · obtain rfl : n = t := Option.some.inj (htarget.symm.trans ht)
        rw [h]
        exact ⟨List.getElem?_modify_ne _ _ hno, rfl, rfl⟩
    obtain ⟨ksectors, kopen, ktoOpen⟩ := hkept
    refine ⟨by simpa using vqueue, by simpa using vdropped, by simpa using vfailed, kopen.trans vopen, ktoOpen.trans vtoOpen,
      ksectors.trans vsectors, fun h => absurd h herased, fun _ hnone => ?_⟩
    rw [StoreUnit.serve_erases vready vjob hprogram (verase.trans hnone) hclosed htarget vother]
    exact ⟨rfl, rfl⟩

end

end

end State

end Sys2Proof.Machine
end

section
/-! The opening of a sector and the end of an erase, as events of the store port (R155, R158, R160). -/

namespace Sys2Proof.Machine

/-- The next sector of the ring, seen past the entry of sector `i` that has changed. -/
theorem StoreUnit.ringNext {u : StoreUnit} {l : List Sector} {i n : Nat} {x e' : Sector} (hu : u.sectors = l.set i x)
    (hn : n = (i + 1) % l.length) (hni : n ≠ i) (he' : l[n]? = some e') (hgood : e'.state ≠ .bad) :
    u.sectors[n]? = some e' ∧ u.sectorState n = e'.state ∧ u.nextSector i = some n := by
  have hlook : u.sectors[n]? = some e' := by rw [hu, List.getElem?_set_ne (Ne.symm hni), he']
  have hstate := StoreUnit.sectorState_of_getElem hlook
  exact ⟨hlook, hstate, StoreUnit.nextSector_next (by rw [hu, List.length_set]; exact hn) (by rwa [hstate])⟩

namespace State
variable {s : State} {tx rx : List Byte} {i n q : Nat} {e e' : Sector}

/-! ### Opening (R158) -/

theorem open_late (hj : s.store.job = .openPoll) (hlate : 1000 * s.store.cfg.programLimit ≤ s.store.pollElapsed) :
    exec .flashTimeLimit s = .next (s.scanLeft s.openFailed) := by
  rw [exec_timeLimit (StoreUnit.limitPassed_of_limit (by rw [StoreUnit.pollLimit, hj]) hlate), State.pollFailed, hj]

/-- The store unit with sector `i` opened (R158). -/
def openedIn (u : StoreUnit) (i q : Nat) : StoreUnit := { u with
  sectors := u.sectors.set i ⟨.opened, some q, List.replicate 15 .blank⟩, openSector := some i, nextSlot := 1, toOpen := none }

theorem openedIn_blankSlot (u : StoreUnit) (q : Nat) (he : u.sectors[i]? = some e) : (openedIn u i q).blankSlot = some 1 :=
  (StoreUnit.blankSlot_of_open (u := openedIn u i q) rfl (getElem?_set_of_some he _)).trans rfl

section
variable (hto : s.store.toOpen = some (i, q))
include hto

theorem openRead_ends (hj : s.store.job = .openRead) (ht : s.store.transfer = some ⟨tx, 8⟩) (hrx : rx = headerBytes q) :
    exec (.flashTransferEnd rx) s = .next (s.scanLeft s.transferEnded.openDone) := by
  rw [exec_transferEnd ht (received_full (hrx ▸ rfl)), transferDone_openRead (s := s.transferEnded) hj hto]
  exact congrArg (fun t => Host.Outcome.next (s.scanLeft t)) (if_pos hrx)

theorem openRead_fails (hj : s.store.job = .openRead) (ht : s.store.transfer = some ⟨tx, 8⟩) (hlen : rx.length = 8)
    (hrx : rx ≠ headerBytes q) : exec (.flashTransferEnd rx) s = .next (s.scanLeft s.transferEnded.openFailed) := by
  rw [exec_transferEnd ht (received_full hlen), transferDone_openRead (s := s.transferEnded) hj hto]
  exact congrArg (fun t => Host.Outcome.next (s.scanLeft t)) (if_neg hrx)

variable (he : s.store.sectors[i]? = some e) (hop : s.store.hostOp = none)
include he hop

theorem openDone_served : s.openDone = s.setStore (openedIn s.store i q).quiet.serve := by
  rw [openDone_eq hto he, hop]
  rfl

theorem openDone_programs (hready : s.store.state = .ready) (herase : s.store.erase ≠ .running) (hqueue : s.store.queue ≠ []) :
    s.openDone = s.setStore ((openedIn s.store i q).sending .bodyEnable [s.store.cfg.opWriteEnable] 0) := by
  have hblank := openedIn_blankSlot s.store q he
  have hserve := StoreUnit.serve_programs (u := (openedIn s.store i q).quiet) hready rfl herase hqueue
    (show (openedIn s.store i q).blankSlot.isSome = true by rw [hblank]; rfl)
  rw [openDone_served hto he hop]
  exact congrArg s.setStore hserve

/-- With no record to store, the sector after the open one is erased ahead where it is not ERASED (R155). -/
theorem openDone_ahead (hready : s.store.state = .ready) (herase : s.store.erase = .none) (hqueue : s.store.queue = [])
    (hn : n = (i + 1) % s.store.sectors.length) (hni : n ≠ i) (he' : s.store.sectors[n]? = some e') (hgood : e'.state ≠ .bad) :
    (e'.state = .erased → s.openDone = s.setStore (openedIn s.store i q).quiet) ∧
    (e'.state ≠ .erased → s.openDone = s.setStore ((openedIn s.store i q).erasing n e')) := by
  generalize hv : (openedIn s.store i q).quiet = v
  obtain ⟨hlook, hstate, hnext⟩ := StoreUnit.ringNext (u := v) (by rw [← hv]; rfl) hn hni he' hgood
  have hfields : v.state = .ready ∧ v.job = .idle ∧ v.erase = .none ∧ v.queue = [] ∧ v.openSector = some i ∧ v.toOpen = none := by
    rw [← hv]
    exact ⟨hready, rfl, herase, hqueue, rfl, rfl⟩
  obtain ⟨vready, vjob, verase, vqueue, vopen, vtoOpen⟩ := hfields
  have htarget := StoreUnit.eraseTarget_ahead vtoOpen vopen hnext hni
  have hclosed := StoreUnit.openable_none vtoOpen
  rw [hstate] at htarget
  rw [openDone_served hto he hop, hv]
  refine ⟨fun herased => ?_, fun herased => ?_⟩
  · rw [StoreUnit.serve_rests vready vjob (.inl vqueue) verase hclosed (by rw [htarget, if_pos herased])]
  · rw [StoreUnit.serve_erases vready vjob (.inl vqueue) verase hclosed (by rw [htarget, if_neg herased]) hlook, ← hv]
    rfl

section
variable (hbad : s.store.badCount < 2) (hq : q < 0xFFFFFFFF)
variable (hn : n = (i + 1) % s.store.sectors.length) (hni : n ≠ i) (he' : s.store.sectors[n]? = some e')
include hbad hq hn hni he'

/-- The store unit after a failed opening of sector `i`: the next sector is to be opened (R158). -/
def openMissed (u : StoreUnit) (i n q : Nat) (e : Sector) : StoreUnit := { u with
  sectors := u.sectors.set i { e with state := .bad }, badCount := u.badCount + 1, toOpen := some (n, q) }

theorem openFailed_served (hgood : e'.state ≠ .bad) : s.openFailed = s.setStore (openMissed s.store i n q e).quiet.serve := by
  have hnext := (StoreUnit.ringNext (u := { s.store.quiet with
    sectors := s.store.sectors.set i { e with state := .bad }, badCount := s.store.badCount + 1 }) rfl hn hni he' hgood).2.2
  have hlost : openLost s.store i q e = (openMissed s.store i n q e).quiet := by
    rw [openLost]
    dsimp only
    rw [hnext]
    rfl
  have hdrop : (s.setStore (openLost s.store i q e)).dropBadRead i = s.setStore (openLost s.store i q e) :=
    dropBadRead_none fun k id page h => by
      have hnone : (s.setStore (openLost s.store i q e)).store.hostOp = none := hop
      rw [hnone] at h
      exact absurd h (by simp)
  rw [openFailed_next hto he hbad, hdrop, hlost]
  exact storeGoOn_used rfl (StoreUnit.sequenceOut_some rfl hq)

variable (hready : s.store.state = .ready) (hopen : s.store.openSector = none)
include hready hopen

theorem openFailed_opens (herase : s.store.erase ≠ .running) (herased : e'.state = .erased) :
    s.openFailed = s.setStore ((openMissed s.store i n q e).sending .openEnable [s.store.cfg.opWriteEnable] 0) := by
  have hgood : e'.state ≠ .bad := by rw [herased]; decide
  have hstate := (StoreUnit.ringNext (u := (openMissed s.store i n q e).quiet) rfl hn hni he' hgood).2.1
  have hserve := StoreUnit.serve_opens (u := (openMissed s.store i n q e).quiet) hready rfl
    (.inr (StoreUnit.blankSlot_none hopen)) (q := q) herase rfl (hstate.trans herased)
  rw [openFailed_served hto he hop hbad hq hn hni he' hgood]
  exact congrArg s.setStore hserve

theorem openFailed_erases (herase : s.store.erase = .none) (herased : e'.state ≠ .erased) (hgood : e'.state ≠ .bad) :
    s.openFailed = s.setStore ((openMissed s.store i n q e).erasing n e') := by
  rw [openFailed_served hto he hop hbad hq hn hni he' hgood]
  generalize hv : (openMissed s.store i n q e).quiet = v
  obtain ⟨hlook, hstate, -⟩ := StoreUnit.ringNext (u := v) (by rw [← hv]; rfl) hn hni he' hgood
  have hfields : v.state = .ready ∧ v.job = .idle ∧ v.erase = .none ∧ v.openSector = none ∧ v.toOpen = some (n, q) := by
    rw [← hv]
    exact ⟨hready, rfl, herase, hopen, rfl⟩
  obtain ⟨vready, vjob, verase, vopen, vtoOpen⟩ := hfields
  rw [StoreUnit.serve_erases vready vjob (.inr (StoreUnit.blankSlot_none vopen)) verase
    (by rw [StoreUnit.openable_some vtoOpen, hstate, decide_eq_false herased])
    (StoreUnit.eraseTarget_toOpen vtoOpen (by rwa [hstate])) hlook, ← hv]
  rfl

end

end

theorem openFailed_leaves (hto : s.store.toOpen = some (i, q)) (he : s.store.sectors[i]? = some e) (hbad : 2 ≤ s.store.badCount)
    (hstate : s.store.state ≠ .outOfService) : State.OutOfService s s.openFailed := by
  rw [openFailed_out hto he hbad]
  exact storeOut_since hstate rfl rfl rfl rfl

/-! ### The end of an erase (R155, R160) -/

theorem eraseCheck_ends (hj : s.store.job = .eraseCheck) (ht : s.store.transfer = some ⟨tx, 256⟩) (hlen : rx.length = 256) :
    exec (.flashTransferEnd rx) s =
      .next (s.scanLeft (if rx = List.replicate 256 0xFF then s.transferEnded.eraseDone else s.transferEnded.eraseFailed)) := by
  rw [exec_transferEnd ht (received_full hlen), transferDone_eraseCheck (s := s.transferEnded) hj]
  simp only [pageBlank_iff hlen]

theorem erase_late (hj : s.store.job = .idle) (hrun : s.store.erase = .running)
    (hstate : s.store.state = .ready ∨ s.store.state = .busy) (hlate : 1000 * s.store.cfg.eraseLimit ≤ s.store.eraseElapsed) :
    exec .flashTimeLimit s = .next (s.scanLeft s.eraseFailed) := by
  rw [exec_timeLimit (StoreUnit.limitPassed_erase hj (StoreUnit.erasePolled_iff.mpr ⟨hrun, hstate⟩) hlate), State.pollFailed, hj]

/-- The store unit after the erase of sector `i` has ended as done (R155). -/
def erasedIn (u : StoreUnit) (i : Nat) (e : Sector) : StoreUnit := { u with
  sectors := u.sectors.set i { e with state := .erased, seq := none }, erase := .none, eraseSector := none }

/-- The store unit after the erase of sector `i` has ended as failed: the sector is BAD, and where it was to be opened the next one
takes its place (R160). -/
def erasedBad (u : StoreUnit) (i n : Nat) (e : Sector) : StoreUnit := { u with
  sectors := u.sectors.set i { e with state := .bad }, badCount := u.badCount + 1, erase := .none, eraseSector := none
  toOpen := u.toOpen.map fun x : Nat × Nat => if x.1 = i then (n, x.2) else x }

theorem replaceToOpen_eq (u : StoreUnit) (i n : Nat) :
    u.replaceToOpen i n = { u with toOpen := u.toOpen.map fun x : Nat × Nat => if x.1 = i then (n, x.2) else x } := by
  obtain ⟨state, sectors, badCount, openSector, nextSlot, toOpen, erase, eraseSector, eraseElapsed, queue, readPtr, hostOp, dropped,
    failed, settings, awaiting, job, transfer, lastTransfer, pollElapsed⟩ := u
  rcases toOpen with - | ⟨t, q⟩
  · rfl
  · by_cases h : t = i <;> simp [StoreUnit.replaceToOpen, h]

theorem erasedIn_blankSlot (u : StoreUnit) (he : u.sectors[i]? = some e) : (erasedIn u i e).blankSlot = u.blankSlot := by
  rw [StoreUnit.blankSlot, StoreUnit.blankSlot]
  show u.openSector.bind _ = _
  congr 1
  funext o
  by_cases h : i = o
  · subst h
    rw [he]
    show ((u.sectors.set i _)[i]?).bind _ = _
    rw [getElem?_set_of_some he]
    rfl
  · show ((u.sectors.set i _)[o]?).bind _ = _
    rw [List.getElem?_set_ne h]

theorem erasedIn_state (u : StoreUnit) (he : u.sectors[i]? = some e) : (erasedIn u i e).quiet.sectorState i = .erased := by
  have hset : (erasedIn u i e).quiet.sectors = u.sectors.set i { e with state := .erased, seq := none } := rfl
  rw [StoreUnit.sectorState, hset, getElem?_set_of_some he]
  rfl

section
variable (hi : s.store.eraseSector = some i) (he : s.store.sectors[i]? = some e)
include hi he

theorem eraseDone_served (hout : s.store.sequenceOut = false) : s.eraseDone = s.setStore (erasedIn s.store i e).quiet.serve := by
  rw [eraseDone_eq hi he]
  exact storeGoOn_used rfl hout

section
variable (hready : s.store.state = .ready)
include hready

theorem eraseDone_opens (hprogram : s.store.queue = [] ∨ s.store.blankSlot = none) (hto : s.store.toOpen = some (i, q))
    (hq : q < 0xFFFFFFFF) :
    s.eraseDone = s.setStore ((erasedIn s.store i e).sending .openEnable [s.store.cfg.opWriteEnable] 0) := by
  have hblank := erasedIn_blankSlot s.store he
  have hserve := StoreUnit.serve_opens (u := (erasedIn s.store i e).quiet) hready rfl
    (hprogram.imp id fun h => (show (erasedIn s.store i e).blankSlot = none by rw [hblank, h])) (q := q)
    (fun h => EraseState.noConfusion h) hto (erasedIn_state s.store he)
  rw [eraseDone_served hi he (StoreUnit.sequenceOut_some hto hq)]
  exact congrArg s.setStore hserve

/-- The sector after the open one has been erased ahead, and no work is due (R155). -/
theorem eraseDone_rests {o : Nat} (hprogram : s.store.queue = [] ∨ s.store.blankSlot = none) (hto : s.store.toOpen = none)
    (ho : s.store.openSector = some o) (hio : (o + 1) % s.store.sectors.length = i) (hne : o ≠ i) :
    s.eraseDone = s.setStore (erasedIn s.store i e).quiet := by
  have hblank := erasedIn_blankSlot s.store he
  have hstate := erasedIn_state s.store he
  have hnext := StoreUnit.nextSector_next (u := (erasedIn s.store i e).quiet) (i := o) (n := i)
    (hio.symm.trans (congrArg _ List.length_set.symm)) (by rw [hstate]; decide)
  have htarget := StoreUnit.eraseTarget_ahead (u := (erasedIn s.store i e).quiet) hto ho hnext (Ne.symm hne)
  rw [hstate, if_pos rfl] at htarget
  have hserve := StoreUnit.serve_rests (u := (erasedIn s.store i e).quiet) hready rfl
    (hprogram.imp id fun h => (show (erasedIn s.store i e).blankSlot = none by rw [hblank, h])) rfl
    (StoreUnit.openable_none hto) htarget
  rw [eraseDone_served hi he (StoreUnit.sequenceOut_none hto)]
  exact congrArg s.setStore hserve

theorem eraseDone_programs (hqueue : s.store.queue ≠ []) (hsome : s.store.blankSlot.isSome = true) (hto : s.store.toOpen = none) :
    s.eraseDone = s.setStore ((erasedIn s.store i e).sending .bodyEnable [s.store.cfg.opWriteEnable] 0) := by
  have hblank := erasedIn_blankSlot s.store he
  have hserve := StoreUnit.serve_programs (u := (erasedIn s.store i e).quiet) hready rfl (fun h => EraseState.noConfusion h) hqueue
    (show (erasedIn s.store i e).blankSlot.isSome = true by rw [hblank]; exact hsome)
  rw [eraseDone_served hi he (StoreUnit.sequenceOut_none hto)]
  exact congrArg s.setStore hserve

end

theorem eraseFailed_leaves (hbad : 2 ≤ s.store.badCount) (hstate : s.store.state ≠ .outOfService) :
    State.OutOfService s s.eraseFailed := by
  rw [eraseFailed_out hi he hbad]
  exact storeOut_since hstate rfl rfl rfl rfl

/-- The following sector is erased at once (R160). -/
theorem eraseFailed_follows (hall : s.store.erasingAll = false) (hread : ∀ k id page, s.store.hostOp ≠ some (.read k id i page))
    (hbad : s.store.badCount < 2) (hn : n = (i + 1) % s.store.sectors.length) (hni : n ≠ i) (he' : s.store.sectors[n]? = some e')
    (hgood : e'.state ≠ .bad) : s.eraseFailed = s.setStore ((erasedBad s.store i n e).erasing n e') := by
  obtain ⟨hlook, -, hnext⟩ := StoreUnit.ringNext (u := eraseLost s.store i e) rfl hn hni he' hgood
  have hdrop : (s.setStore (eraseLost s.store i e)).dropBadRead i = s.setStore (eraseLost s.store i e) := dropBadRead_none hread
  have hreplaced : (eraseLost s.store i e).replaceToOpen i n = (erasedBad s.store i n e).quiet := replaceToOpen_eq _ _ _
  rw [eraseFailed_next hi he hbad hall hnext, hdrop, State.setStore_store, hreplaced,
    StoreUnit.startErase_of_getElem (u := (erasedBad s.store i n e).quiet) hlook]
  rfl

end

end State

end Sys2Proof.Machine
end

section
/-! The scan of the store and the time limits, as events of the store port (R147, R151 to R153). -/

namespace Sys2Proof.Machine

namespace State
variable {s t : State} {tx rx : List Byte} {i n : Nat} {e : Sector}

/-- OUT OF SERVICE starts no work, and no departure while the drive is configured. -/
theorem scanLeft_out (h : State.OutOfService s t) (hstay : s.store.state ≠ .scanning ∨ s.seq.drive ≠ .unconfigured) :
    s.scanLeft t = t := by
  rcases hstay with hstate | hd
  · exact scanLeft_stays (.inl hstate)
  · refine scanLeft_idle ?_ (StoreUnit.serve_idleState (by rw [h.state]; decide) (by rw [h.state]; decide))
    rw [h.others.1]
    exact hd

theorem exec_out {c : Instr} {t : State} (hexec : exec c s = .next (s.scanLeft t)) (h : State.OutOfService s t)
    (hstay : s.store.state ≠ .scanning ∨ s.seq.drive ≠ .unconfigured) : ∃ t, exec c s = .next t ∧ State.OutOfService s t :=
  ⟨t, by rw [hexec, scanLeft_out h hstay], h⟩

/-- What the entry into OUT OF SERVICE leaves is the same whether the transfer in progress has been marked as ended. -/
theorem OutOfService.of_ended (h : State.OutOfService s.transferEnded t) : State.OutOfService s t :=
  h.since rfl rfl (fun _ => rfl) ⟨rfl, rfl, rfl, rfl, rfl, rfl, rfl, rfl, rfl⟩

/-! ### Time limits (R147) -/

theorem poll_leaves {l : Nat} (hj : s.store.job = .scanPoll ∨ s.store.job = .suspendPoll) (hl : s.store.pollLimit = some l)
    (hlate : l ≤ s.store.pollElapsed) (hstate : s.store.state ≠ .outOfService)
    (hstay : s.store.state ≠ .scanning ∨ s.seq.drive ≠ .unconfigured) :
    ∃ t, exec .flashTimeLimit s = .next t ∧ State.OutOfService s t := by
  have hfailed : s.pollFailed = s.storeOut := by
    rcases hj with hj | hj <;> simp only [State.pollFailed, hj]
  exact exec_out ((exec_timeLimit (StoreUnit.limitPassed_of_limit hl hlate)).trans (by rw [hfailed]))
    (storeOut_outOfService hstate) hstay

/-! ### Identity (R152) -/

theorem scanIdent_ends (hj : s.store.job = .scanIdent) (ht : s.store.transfer = some ⟨tx, 3⟩) (hlen : s.store.cfg.ident.length = 3)
    (hrx : rx = s.store.cfg.ident) : exec (.flashTransferEnd rx) s = .next (s.setStore
      ({ s.store with sectors := [], badCount := 0 }.sending (.scanHeader 0)
        (addressed s.store.cfg.opRead (s.store.cfg.base + 0 * 4096 + 0 * 256)) 256)) :=
  exec_transferEnd_store ht (received_full (hrx ▸ hlen))
    ((transferDone_scanIdent (s := s.transferEnded) hj).trans (if_pos hrx)) rfl

/-- The scan that ends ABSENT (R152). -/
theorem scanAbsent_done {d : StoreSettings} {k : Fin 8} (hawait : s.store.awaiting = some (d, k)) (hstate : s.store.state ≠ .absent) :
    s.scanAbsent.store = { s.store.quiet with
      state := .absent, settings := some d, awaiting := none, queue := [], dropped := s.scanAbsent.store.dropped } ∧
      (s.store.dropped + s.store.queue.length ≤ 65535 → s.scanAbsent.store.dropped = s.store.dropped + s.store.queue.length) ∧
      State.Completed s.scanAbsent k .done .store [4] ∧ s.scanAbsent.req.notice.getLsbD noticeStore = true ∧
      s.scanAbsent.seq = s.seq := by
  have hchange : (s.changeStore { s.store.rest with state := .absent }).store = { s.store.rest with state := .absent } := by
    unfold State.changeStore
    split <;> rfl
  obtain ⟨hstore, hcount⟩ := (s.changeStore { s.store.rest with state := .absent }).endQueue_dropped
  have hnotice := (State.endQueue_aside (s.changeStore { s.store.rest with state := .absent }) .dropped).notice _
    (State.changeStore_notice (Ne.symm hstate))
  have hseq : ((s.changeStore { s.store.rest with state := .absent }).endQueue .dropped).seq = s.seq := by simp
  have heq : s.scanAbsent = ((s.changeStore { s.store.rest with state := .absent }).endQueue .dropped).storeInForce .store := rfl
  rw [hchange] at hstore hcount
  generalize (s.changeStore { s.store.rest with state := .absent }).endQueue .dropped = w at *
  have hw : w.store.awaiting = some (d, k) := by rw [hstore]; exact hawait
  rw [storeInForce_some .store hw] at heq
  have hkept : s.scanAbsent.store = { w.store with settings := some d, awaiting := none } := by rw [heq]; simp
  rw [hstore] at hkept
  refine ⟨?_, fun hle => ?_, ?_, ?_, ?_⟩
  · rw [hkept]
    rfl
  · rw [hkept]
    exact hcount hle
  · rw [heq]
    exact State.finish_completed _ _ _ _
  · rw [heq]
    exact State.complete_notice _ _ _ _ _ hnotice
  · rw [heq]
    simp [hseq]

theorem scanIdent_fails (hj : s.store.job = .scanIdent) (ht : s.store.transfer = some ⟨tx, 3⟩) (hlen : rx.length = 3)
    (hrx : rx ≠ s.store.cfg.ident) : exec (.flashTransferEnd rx) s = .next (s.scanLeft s.transferEnded.scanAbsent) := by
  rw [exec_transferEnd ht (received_full hlen), transferDone_scanIdent (s := s.transferEnded) hj]
  exact congrArg (fun t => Host.Outcome.next (s.scanLeft t)) (if_neg hrx)

/-! ### Headers (R152) -/

theorem addSector_eq (u : StoreUnit) (e : Sector) : u.addSector e = { u with
    sectors := u.sectors ++ [e], badCount := u.badCount + if e.state = SectorState.bad then 1 else 0 } := by
  unfold StoreUnit.addSector
  split_ifs <;> rfl

/-- A sector by the content of its header page (R152). -/
theorem headerSector_eq (u : StoreUnit) (hlen : rx.length = 256)
    (h : (rx = List.replicate 256 0xFF ∧ e = ⟨.erased, none, List.replicate 15 .blank⟩) ∨
      (∃ q, 1 ≤ q ∧ q ≤ 0xFFFFFFFE ∧ rx.take 8 = wordBytes 0x5A3C ++ bytes32 q ++ wordBytes 0xC35A ∧
        ((∀ e' ∈ u.sectors, e'.state = .bad ∨ e'.seq ≠ some q) ∧ e = ⟨.full, some q, List.replicate 15 .blank⟩ ∨
          (∃ e' ∈ u.sectors, e'.state ≠ .bad ∧ e'.seq = some q) ∧ e = ⟨.bad, none, []⟩)) ∨
      (rx ≠ List.replicate 256 0xFF ∧ (rx.take 2 ≠ wordBytes 0x5A3C ∨ (rx.drop 6).take 2 ≠ wordBytes 0xC35A) ∧
        e = ⟨.bad, none, []⟩)) : u.headerSector rx = e := by
  unfold StoreUnit.headerSector
  rcases h with ⟨hblank, rfl⟩ | ⟨q, hlo, hhi, hq, h⟩ | ⟨hblank, hno, rfl⟩
  · exact if_pos ((pageBlank_iff hlen).mpr hblank)
  · obtain ⟨hseq, hnot⟩ := headerSeq_some hlen hlo hhi hq
    rw [hnot, if_neg (by decide), hseq]
    rcases h with ⟨hnew, rfl⟩ | ⟨⟨e', hmem, hgood, hsame⟩, rfl⟩
    · refine if_neg ?_
      rw [List.any_eq_true]
      rintro ⟨e', hmem, he'⟩
      rw [Bool.and_eq_true, decide_eq_true_eq, beq_iff_eq] at he'
      exact (hnew e' hmem).elim he'.1 fun hne => hne he'.2
    · refine if_pos ?_
      rw [List.any_eq_true]
      exact ⟨e', hmem, by rw [Bool.and_eq_true, decide_eq_true_eq, beq_iff_eq]; exact ⟨hgood, hsame⟩⟩
  · rw [if_neg (by rwa [pageBlank_iff hlen]), headerSeq_none hlen hno]

section
variable {v : StoreUnit} (hj : s.store.job = .scanHeader i) (ht : s.store.transfer = some ⟨tx, 256⟩) (hlen : rx.length = 256)
variable (he : s.store.headerSector rx = e)
variable (hv : v = { s.store with
  sectors := s.store.sectors ++ [e], badCount := s.store.badCount + if e.state = SectorState.bad then 1 else 0 })
include hj ht hlen he hv

/-- The store unit after a header page of the scan has been read. -/
theorem scanHeader_exec : exec (.flashTransferEnd rx) s = .next (s.scanLeft
    (if i + 1 < s.store.cfg.ns then s.setStore (v.sending (.scanHeader (i + 1))
        (addressed s.store.cfg.opRead (s.store.cfg.base + (i + 1) * 4096 + 0 * 256)) 256)
      else if 3 ≤ v.badCount then (s.setStore { v with transfer := none }).storeOut
      else s.transferEnded.scanSector { v with transfer := none } 0)) := by
  have hadd : s.transferEnded.store.addSector (s.transferEnded.store.headerSector rx) = { v with transfer := none } := by
    rw [addSector_eq, hv, ← he]
    rfl
  rw [exec_transferEnd ht (received_full hlen), transferDone_scanHeader (s := s.transferEnded) hj, State.scanHeaderDone]
  rw [hadd, hv]
  rfl

theorem scanHeader_next (hi : i + 1 < s.store.cfg.ns) : exec (.flashTransferEnd rx) s = .next (s.setStore
    (v.sending (.scanHeader (i + 1)) (addressed s.store.cfg.opRead (s.store.cfg.base + (i + 1) * 4096 + 0 * 256)) 256)) := by
  have hstate : v.state = s.store.state := by rw [hv]
  rw [scanHeader_exec hj ht hlen he hv, if_pos hi, scanLeft_stays]
  by_cases h : s.store.state = .scanning
  · exact .inr (hstate.trans h)
  · exact .inl h

theorem scanHeader_slots (hi : s.store.cfg.ns ≤ i + 1) (hbad : v.badCount < 3) {j : Nat} (hfull : v.sectorState j = .full)
    (hfirst : ∀ m, m < j → v.sectorState m ≠ .full) : exec (.flashTransferEnd rx) s = .next (s.setStore
    (v.sending (.scanSlot j 1) (addressed s.store.cfg.opRead (s.store.cfg.base + j * 4096 + 1 * 256)) 256)) := by
  have hvalid : StoreUnit.validFrom { v with transfer := none } 0 = some j :=
    StoreUnit.validFrom_first (u := { v with transfer := none }) (Nat.zero_le _) hfull fun m _ hm => hfirst m hm
  have hscan : s.transferEnded.scanSector { v with transfer := none } 0 = s.setStore
      (v.sending (.scanSlot j 1) (addressed v.cfg.opRead (v.cfg.base + j * 4096 + 1 * 256)) 256) := by
    rw [State.scanSector, hvalid]
    rfl
  have hcfg : v.cfg = s.store.cfg := by rw [hv]; rfl
  have hstate : v.state = s.store.state := by rw [hv]
  rw [scanHeader_exec hj ht hlen he hv, if_neg (Nat.not_lt.mpr hi), if_neg (Nat.not_le.mpr hbad), hscan, hcfg, scanLeft_stays]
  by_cases h : s.store.state = .scanning
  · exact .inr (hstate.trans h)
  · exact .inl h

theorem scanHeader_out (hi : s.store.cfg.ns ≤ i + 1) (hbad : 3 ≤ v.badCount) (hstate : s.store.state = .scanning)
    (hd : s.seq.drive ≠ .unconfigured) : ∃ t, exec (.flashTransferEnd rx) s = .next t ∧ State.OutOfService s t := by
  refine exec_out (t := (s.setStore { v with transfer := none }).storeOut) ?_ ?_ (.inr hd)
  · rw [scanHeader_exec hj ht hlen he hv, if_neg (Nat.not_lt.mpr hi), if_pos hbad]
  · rw [hv]
    exact storeOut_since (by rw [hstate]; decide) rfl rfl rfl rfl

end

/-! ### Slots (R153) -/

section
variable {number : Nat} {x : FlashSlot} {v : StoreUnit} (hj : s.store.job = .scanSlot i number)
  (ht : s.store.transfer = some ⟨tx, 256⟩) (hlen : rx.length = 256) (hx : classifySlot rx = x)
  (hv : v = { s.store with sectors := s.store.sectors.modify i fun e => { e with slots := e.slots.set (number - 1) x } })
include hj ht hlen hx hv

theorem scanSlot_exec : exec (.flashTransferEnd rx) s = .next (s.scanLeft
    (if number < 15 then s.setStore (v.sending (.scanSlot i (number + 1))
        (addressed s.store.cfg.opRead (s.store.cfg.base + i * 4096 + (number + 1) * 256)) 256)
      else s.transferEnded.scanSector { v with transfer := none } (i + 1))) := by
  rw [exec_transferEnd ht (received_full hlen), transferDone_scanSlot (s := s.transferEnded) hj, State.scanSlotDone, hx, hv]
  rfl

theorem scanSlot_next (hnumber : number < 15) : exec (.flashTransferEnd rx) s = .next (s.setStore
    (v.sending (.scanSlot i (number + 1))
      (addressed s.store.cfg.opRead (s.store.cfg.base + i * 4096 + (number + 1) * 256)) 256)) := by
  have hstate : v.state = s.store.state := by rw [hv]
  rw [scanSlot_exec hj ht hlen hx hv, if_pos hnumber, scanLeft_stays]
  by_cases h : s.store.state = .scanning
  · exact .inr (hstate.trans h)
  · exact .inl h

theorem scanSlot_sector (hnumber : 15 ≤ number) {j : Nat} (hij : i < j) (hfull : v.sectorState j = .full)
    (hfirst : ∀ m, m < j → i < m → v.sectorState m ≠ .full) : exec (.flashTransferEnd rx) s = .next (s.setStore
    (v.sending (.scanSlot j 1) (addressed s.store.cfg.opRead (s.store.cfg.base + j * 4096 + 1 * 256)) 256)) := by
  have hvalid : StoreUnit.validFrom { v with transfer := none } (i + 1) = some j :=
    StoreUnit.validFrom_first (u := { v with transfer := none }) hij hfull fun m him hm => hfirst m hm him
  have hscan : s.transferEnded.scanSector { v with transfer := none } (i + 1) = s.setStore
      (v.sending (.scanSlot j 1) (addressed v.cfg.opRead (v.cfg.base + j * 4096 + 1 * 256)) 256) := by
    rw [State.scanSector, hvalid]
    rfl
  have hcfg : v.cfg = s.store.cfg := by rw [hv]; rfl
  have hstate : v.state = s.store.state := by rw [hv]
  rw [scanSlot_exec hj ht hlen hx hv, if_neg (Nat.not_lt.mpr hnumber), hscan, hcfg, scanLeft_stays]
  by_cases h : s.store.state = .scanning
  · exact .inr (hstate.trans h)
  · exact .inl h

end

end State

end Sys2Proof.Machine
end

section
/-! O60: the events of the store port. -/

namespace Sys2Proof.Machine

namespace State
variable {s : State} {tx rx : List Byte}

/-- An event of the port in READY that leaves the store unit in READY. -/
theorem exec_ready {c : Instr} {t : State} (hexec : exec c s = .next (s.scanLeft t)) (hready : s.store.state = .ready) :
    exec c s = .next t := by rw [hexec, scanLeft_stays (.inl (by rw [hready]; decide))]

theorem exec_ready_eq {c : Instr} {t t' : State} (hexec : exec c s = .next (s.scanLeft t)) (hready : s.store.state = .ready)
    (h : t = t') : exec c s = .next t' := by rw [exec_ready hexec hready, h]

theorem RecordEnded.of_ended {t : State} {id : Nat} {st : StoreStatus} (h : State.RecordEnded s.transferEnded t id st) :
    State.RecordEnded s t id st := ⟨h.others, h.notice, h.status⟩

/-- The read-backs of a record and the ends of its attempts. -/
theorem attempt_events {q : QueuedRecord} {rest : List QueuedRecord} {o : Nat} {e : Sector} (hqueue : s.store.queue = q :: rest)
    (ho : s.store.openSector = some o) (he : s.store.sectors[o]? = some e) (hto : s.store.toOpen = none)
    (hready : s.store.state = .ready) (hop : s.store.hostOp = none) (herase : s.store.erase ≠ .running) :
    (∀ {p : Nat} {c : Instr} {w : State}, exec c s = .next (s.scanLeft w.storeFailed) → w = s ∨ w = s.transferEnded →
      q.attempts = 0 → firstBlank (e.slots.set (s.store.nextSlot - 1) .spoiled) = some p →
      exec c s = .next (s.setStore ({ s.store with
        queue := { q with attempts := 1 } :: rest
        sectors := s.store.sectors.set o { e with slots := e.slots.set (s.store.nextSlot - 1) .spoiled }
        nextSlot := p }.sending .bodyEnable [s.store.cfg.opWriteEnable] 0))) ∧
    (∀ {c : Instr} {w : State}, exec c s = .next (s.scanLeft w.storeFailed) → w = s ∨ w = s.transferEnded →
      q.attempts = 1 → ∃ t, exec c s = .next t ∧ State.OutOfService s t) := by
  have hstate : s.store.state ≠ .scanning := by rw [hready]; decide
  have hservice : s.store.state ≠ .outOfService := by rw [hready]; decide
  refine ⟨fun hexec hw hq hp => ?_, fun hexec hw hq => ?_⟩
  · rw [exec_ready hexec hready]
    rcases hw with rfl | rfl
    · rw [storeFailed_again ho he hqueue hready herase hto hq hp]
    · exact congrArg Host.Outcome.next (storeFailed_again (s := s.transferEnded) ho he hqueue hready herase hto hq hp)
  · refine exec_out hexec ?_ (.inl hstate)
    rcases hw with rfl | rfl
    · exact storeFailed_out hqueue hq hservice
    · exact (storeFailed_out (s := s.transferEnded) hqueue hq hservice).of_ended

end State

/-- Settles O60. -/
theorem storePortEvents : Obligations.StorePortEvents := by
  unfold Obligations.StorePortEvents
  intro s u c page used body mark header enable ends ready
  refine ⟨fun rx ht => State.exec_transferEnd_none ht, fun rx ht => ⟨bodyEnable_ends rx ht, markEnable_ends rx ht,
    fun hj => program_ends rx ht hj (by simp), fun hj => program_ends rx ht hj (by simp), fun hj => program_ends rx ht hj (by simp),
    fun hj => program_ends rx ht hj (by simp), fun i q hj ho => openEnable_ends rx ht hj ho,
    fun i hj hi => eraseEnable_ends rx ht hj hi, fun hj hr he h => eraseSend_ends rx ht hj hr.1 he h,
    fun hj hr he hq hb hs => eraseSend_suspends rx ht hj hr.1 he hq hb hs, fun hj hr h => resumeSend_ends rx ht hj hr.1 h⟩,
    fun st => ⟨fun h hst => statusPoll_busy h hst, fun h => statusPoll_none h, fun hst hj => bodyPoll_clear hst hj,
      fun hst hj => markPoll_clear hst hj, fun i q hst hj ho => openPoll_clear hst hj ho,
      fun i hst hj he hs hi => erasePoll_clear hst hj he hs hi, fun hst hj hr hq hb => suspendPoll_programs hst hj hr.1 hq hb,
      fun k id sector number hst hj hb ho hq => suspendPoll_reads hst hj hb ho hq, fun hst hj => scanPoll_clear hst hj⟩,
    ?attempts, ?opening, ?erase, fun h => State.exec_timeLimit_none h,
    fun h => State.exec_timeLimit_none (StoreUnit.limitPassed_unpolled h), ?suspendLate, ?scanLate, ?scan⟩
  case attempts =>
    intro tx rx q rest o e hqueue ho he hto hr herase
    obtain ⟨hready, hop⟩ := hr
    have hhead : s.store.head = q := by rw [StoreUnit.head, show s.store.queue = _ from hqueue]; rfl
    have hstate : s.store.state ≠ .scanning := by rw [hready]; decide
    obtain ⟨hagain, hout⟩ := State.attempt_events hqueue ho he hto hready hop herase
    refine ⟨fun hj ht hlen hrx => State.bodyRead_ends hj ht (hrx ▸ hlen) hrx, fun p hq hp => ⟨fun hj ht hlen hrx => ?_,
      fun hj ht hlen hrx => ?_, fun hj hlate => ?_⟩, fun n q0 e' hq hp hseq hlast hn hno he' herased hj ht hlen hrx => ?_,
      fun hj ht hrx => ?_, fun hq => ⟨fun hj ht hlen hrx => ?_, fun hj ht hlen hrx => ?_, fun hj hlate => ?_⟩⟩
    · exact hagain (State.bodyRead_fails hj ht hlen hrx) (.inr rfl) hq hp
    · exact hagain (State.markRead_fails hj ht hlen hrx) (.inr rfl) hq hp
    · exact hagain (State.program_late hj hlate) (.inl rfl) hq hp
    · exact State.exec_ready_eq (State.bodyRead_fails hj ht hlen hrx) hready
        (State.storeFailed_opens (s := s.transferEnded) ho he hqueue hready herase hq hp hseq
        hlast hn hno he' herased)
    · have hmark : rx = bytes32 s.store.head.id := by rw [hhead]; exact hrx
      have hexec := State.exec_ready (State.markRead_ends hj ht hmark) hready
      refine ⟨fun p hp => ?_, fun n q0 e' hp hseq hlast hn hno he' hgood => ?_⟩
      · obtain ⟨v, hdone, vqueue, vdropped, vfailed, vnext, vsectors, vprograms, vresumes⟩ :=
          State.storeDone_next (s := s.transferEnded) ho he hqueue hready herase hop hto hp
        exact ⟨_, ⟨hexec.trans (congrArg Host.Outcome.next hdone), (State.recordEnded_stored q.id).of_ended, vqueue, vdropped, vfailed⟩, vnext, vsectors, vprograms,
          vresumes⟩
      · obtain ⟨v, hdone, vqueue, vdropped, vfailed, vopen, vtoOpen, vsectors, vopens, verases⟩ :=
          State.storeDone_last (s := s.transferEnded) ho he hqueue hready herase hop hp hseq hlast hn hno he' hgood
        exact ⟨_, ⟨hexec.trans (congrArg Host.Outcome.next hdone), (State.recordEnded_stored q.id).of_ended, vqueue, vdropped, vfailed⟩, vopen, vtoOpen, vsectors,
          vopens, verases⟩
    · exact hout (State.bodyRead_fails hj ht hlen hrx) (.inr rfl) hq
    · exact hout (State.markRead_fails hj ht hlen hrx) (.inr rfl) hq
    · exact hout (State.program_late hj hlate) (.inl rfl) hq
  case opening =>
    intro tx rx i q e hto he hopen hr herase hq
    obtain ⟨hready, hop⟩ := hr
    have hservice : s.store.state ≠ .outOfService := by rw [hready]; decide
    have hstate : s.store.state ≠ .scanning := by rw [hready]; decide
    refine ⟨fun hj ht hrx hqueue => ?_, fun e' hj ht hrx hqueue hnone hni he' hgood => ⟨fun herased => ?_, fun herased => ?_⟩,
      fun e' hbad hni he' herased => ⟨fun hfailing => ?_, fun hlate => ?_⟩, fun e' hbad hni he' herased hgood hnone hfailing => ?_,
      fun hbad => ⟨fun hfailing => ?_, fun hlate => ?_⟩⟩
    · exact State.exec_ready_eq (State.openRead_ends hto hj ht hrx) hready
        (State.openDone_programs (s := s.transferEnded) hto he hop hready herase hqueue)
    · exact State.exec_ready_eq (State.openRead_ends hto hj ht hrx) hready
        ((State.openDone_ahead (s := s.transferEnded) hto he hop hready hnone hqueue rfl hni he' hgood).1 herased)
    · exact State.exec_ready_eq (State.openRead_ends hto hj ht hrx) hready
        ((State.openDone_ahead (s := s.transferEnded) hto he hop hready hnone hqueue rfl hni he' hgood).2 herased)
    · obtain ⟨hj, ht, hlen, hrx⟩ := hfailing
      exact State.exec_ready_eq (State.openRead_fails hto hj ht hlen hrx) hready
        (State.openFailed_opens (s := s.transferEnded) hto he hop hbad hq rfl hni he' hready hopen herase herased)
    · obtain ⟨hj, hlate⟩ := hlate
      exact State.exec_ready_eq (State.open_late hj hlate) hready
        (State.openFailed_opens hto he hop hbad hq rfl hni he' hready hopen herase herased)
    · obtain ⟨hj, ht, hlen, hrx⟩ := hfailing
      exact State.exec_ready_eq (State.openRead_fails hto hj ht hlen hrx) hready
        (State.openFailed_erases (s := s.transferEnded) hto he hop hbad hq rfl hni he' hready hopen hnone herased hgood)
    · obtain ⟨hj, ht, hlen, hrx⟩ := hfailing
      exact State.exec_out (State.openRead_fails hto hj ht hlen hrx)
        (State.openFailed_leaves (s := s.transferEnded) hto he hbad hservice).of_ended (.inl hstate)
    · obtain ⟨hj, hlate⟩ := hlate
      exact State.exec_out (State.open_late hj hlate) (State.openFailed_leaves hto he hbad hservice) (.inl hstate)
  case erase =>
    intro tx rx i e hi he hr hrun
    obtain ⟨hready, hop⟩ := hr
    have hservice : s.store.state ≠ .outOfService := by rw [hready]; decide
    have hstate : s.store.state ≠ .scanning := by rw [hready]; decide
    have hall : s.store.erasingAll = false := by rw [StoreUnit.erasingAll, hop]
    have hread : ∀ k id page, s.store.hostOp ≠ some (.read k id i page) := fun k id page h => by
      rw [hop] at h
      exact absurd h (by simp)
    have hdone : ∀ {t' : State}, (s.store.job = .eraseCheck ∧ s.store.transfer = some ⟨tx, 256⟩ ∧ rx.length = 256) →
        rx = List.replicate 256 0xFF → s.transferEnded.eraseDone = t' → exec (.flashTransferEnd rx) s = .next t' := by
      rintro t' ⟨hj, ht, hlen⟩ hblank rfl
      exact State.exec_ready_eq (State.eraseCheck_ends hj ht hlen) hready (if_pos hblank)
    have hfailed : (s.store.job = .eraseCheck ∧ s.store.transfer = some ⟨tx, 256⟩ ∧ rx.length = 256) →
        rx ≠ List.replicate 256 0xFF → exec (.flashTransferEnd rx) s = .next (s.scanLeft s.transferEnded.eraseFailed) := by
      rintro ⟨hj, ht, hlen⟩ hblank
      rw [State.eraseCheck_ends hj ht hlen, if_neg hblank]
    refine ⟨fun hchecked hblank hprogram => ⟨fun q hto hq => ?_, fun o hto ho hio _ hne => ?_⟩,
      fun hchecked hblank hqueue hsome _ hto => ?_, fun e' hbad hni he' hgood => ⟨fun hchecked hblank => ?_, fun hlate => ?_⟩,
      fun hbad => ⟨fun hchecked hblank => ?_, fun hlate => ?_⟩⟩
    · exact hdone hchecked hblank (State.eraseDone_opens (s := s.transferEnded) hi he hready hprogram hto hq)
    · exact hdone hchecked hblank (State.eraseDone_rests (s := s.transferEnded) hi he hready hprogram hto ho hio hne)
    · exact hdone hchecked hblank (State.eraseDone_programs (s := s.transferEnded) hi he hready hqueue hsome hto)
    · exact State.exec_ready_eq (hfailed hchecked hblank) hready
        (State.eraseFailed_follows (s := s.transferEnded) hi he hall hread hbad rfl hni he' hgood)
    · obtain ⟨hj, hlate⟩ := hlate
      exact State.exec_ready_eq (State.erase_late hj hrun (.inl hready) hlate) hready
        (State.eraseFailed_follows hi he hall hread hbad rfl hni he' hgood)
    · exact State.exec_out (hfailed hchecked hblank) (State.eraseFailed_leaves (s := s.transferEnded) hi he hbad hservice).of_ended
        (.inl hstate)
    · obtain ⟨hj, hlate⟩ := hlate
      exact State.exec_out (State.erase_late hj hrun (.inl hready) hlate) (State.eraseFailed_leaves hi he hbad hservice) (.inl hstate)
  case suspendLate =>
    intro hj hs hlate
    refine State.poll_leaves (.inr hj) (by rw [StoreUnit.pollLimit, show s.store.job = _ from hj]) hlate ?_ (.inl ?_)
    · rcases hs with hs | hs <;> rw [show s.store.state = _ from hs] <;> decide
    · rcases hs with hs | hs <;> rw [show s.store.state = _ from hs] <;> decide
  case scanLate =>
    intro hs hj hd _ hlate
    exact State.poll_leaves (.inl hj) (by rw [StoreUnit.pollLimit, show s.store.job = _ from hj]) hlate
      (by rw [show s.store.state = _ from hs]; decide) (.inr hd)
  case scan =>
    intro tx rx hs
    refine ⟨fun hj ht hlen hrx => State.scanIdent_ends hj ht hlen hrx, fun d k hj ht hlen hrx ha hd => ?_,
      fun i e hj ht hlen he => ?_, fun i number x hj ht hlen hx => ?_⟩
    · obtain ⟨hstore, hcount, hcompleted, hnotice, hseq⟩ := State.scanAbsent_done (s := s.transferEnded) ha
        (show s.store.state ≠ .absent by rw [show s.store.state = _ from hs]; decide)
      refine ⟨s.transferEnded.scanAbsent, ?_, by rw [hstore], by rw [hstore], by rw [hstore], by rw [hstore], by rw [hstore]; rfl,
        by rw [hstore]; rfl, hcount, hcompleted, hnotice, hseq⟩
      rw [State.scanIdent_fails hj ht hlen hrx, State.scanLeft_idle]
      · rw [hseq]
        exact hd
      · exact StoreUnit.serve_idleState (by rw [hstore]; exact fun h => StoreState.noConfusion h)
          (by rw [hstore]; exact fun h => StoreState.noConfusion h)
    · have hsector := State.headerSector_eq s.store hlen he
      exact ⟨fun hi => State.scanHeader_next hj ht hlen hsector rfl hi,
        fun hi hbad j _ hfull hfirst => State.scanHeader_slots hj ht hlen hsector rfl hi hbad hfull hfirst,
        fun hi hbad hd _ => State.scanHeader_out hj ht hlen hsector rfl hi hbad hs hd⟩
    · have hslot : classifySlot rx = x := by
        rcases hx with ⟨hblank, rfl⟩ | ⟨id, hlo, hhi, hfront, hback, rfl⟩ | ⟨hblank, hne, rfl⟩
        · exact classifySlot_blank hlen hblank
        · exact (classifySlot_valid_iff hlen id).mpr ⟨hlo, hhi, hfront, hback⟩
        · exact classifySlot_spoiled hlen hblank hne
      exact ⟨fun hnumber => State.scanSlot_next hj ht hlen hslot rfl hnumber,
        fun hnumber j _ hij hfull hfirst => State.scanSlot_sector hj ht hlen hslot rfl hnumber hij hfull hfirst⟩

end Sys2Proof.Machine
end

section
/-! The takes of the store reads (R157, R162, R168, R169). -/

namespace Sys2Proof.Machine

/-! ### The greatest and the least of the slots by id -/

theorem newestOf_none_iff (l : List (Nat × Nat × Nat)) : newestOf l = none ↔ l = [] := by
  cases l with
  | nil => simp [newestOf]
  | cons x l =>
    simp only [newestOf, reduceCtorEq, iff_false]
    split
    · split_ifs <;> simp
    · simp

theorem newestOf_some (l : List (Nat × Nat × Nat)) : ∀ {x}, newestOf l = some x → x ∈ l ∧ ∀ y ∈ l, y.1 ≤ x.1 := by
  induction l with
  | nil => simp [newestOf]
  | cons z l ih =>
    intro x h
    rw [newestOf] at h
    split at h
    · next y hy =>
      obtain ⟨hmem, hle⟩ := ih hy
      split_ifs at h with hlt
      · obtain rfl := Option.some.inj h
        exact ⟨List.mem_cons_of_mem _ hmem, List.forall_mem_cons.mpr ⟨Nat.le_of_lt hlt, hle⟩⟩
      · obtain rfl := Option.some.inj h
        exact ⟨List.mem_cons_self, List.forall_mem_cons.mpr ⟨Nat.le_refl _, fun w hw => (hle w hw).trans (Nat.not_lt.mp hlt)⟩⟩
    · next hnone =>
      obtain rfl := Option.some.inj h
      rw [(newestOf_none_iff l).mp hnone]
      simp

theorem oldestOf_none_iff (l : List (Nat × Nat × Nat)) : oldestOf l = none ↔ l = [] := by
  cases l with
  | nil => simp [oldestOf]
  | cons x l =>
    simp only [oldestOf, reduceCtorEq, iff_false]
    split
    · split_ifs <;> simp
    · simp

theorem oldestOf_some (l : List (Nat × Nat × Nat)) : ∀ {x}, oldestOf l = some x → x ∈ l ∧ ∀ y ∈ l, x.1 ≤ y.1 := by
  induction l with
  | nil => simp [oldestOf]
  | cons z l ih =>
    intro x h
    rw [oldestOf] at h
    split at h
    · next y hy =>
      obtain ⟨hmem, hle⟩ := ih hy
      split_ifs at h with hlt
      · obtain rfl := Option.some.inj h
        exact ⟨List.mem_cons_of_mem _ hmem, List.forall_mem_cons.mpr ⟨Nat.le_of_lt hlt, hle⟩⟩
      · obtain rfl := Option.some.inj h
        exact ⟨List.mem_cons_self, List.forall_mem_cons.mpr ⟨Nat.le_refl _, fun w hw => (Nat.not_lt.mp hlt).trans (hle w hw)⟩⟩
    · next hnone =>
      obtain rfl := Option.some.inj h
      rw [(oldestOf_none_iff l).mp hnone]
      simp

theorem exists_newestOf {l : List (Nat × Nat × Nat)} (h : l ≠ []) : ∃ x, newestOf l = some x :=
  Option.ne_none_iff_exists'.mp fun hnone => h ((newestOf_none_iff l).mp hnone)

theorem exists_oldestOf {l : List (Nat × Nat × Nat)} (h : l ≠ []) : ∃ x, oldestOf l = some x :=
  Option.ne_none_iff_exists'.mp fun hnone => h ((oldestOf_none_iff l).mp hnone)

/-! ### The start of a store read -/

/-- Of the sector table and the host operation a store read that waits for the port changes nothing. -/
theorem StoreUnit.serve_read_kept {u : StoreUnit} {k : Fin 8} {id sector page : Nat} (hstate : u.state = .busy)
    (hop : u.hostOp = some (.read k id sector page)) : u.serve.hostOp = u.hostOp ∧ u.serve.sectors = u.sectors := by
  by_cases hjob : u.job = .idle
  · rw [StoreUnit.serve_read hstate hop hjob]
    unfold StoreUnit.serveRead
    split
    · exact ⟨rfl, rfl⟩
    · split_ifs <;> exact ⟨rfl, rfl⟩
    · split_ifs <;> exact ⟨rfl, rfl⟩
  · rw [StoreUnit.serve_working hjob]
    exact ⟨rfl, rfl⟩

namespace State
variable {s : State} {k : Fin 8} {rest : List (Fin 8)} {x : Nat × Nat × Nat}

/-- The store unit at the take of a store read (R162). -/
def readTaken (u : StoreUnit) (k : Fin 8) (x : Nat × Nat × Nat) : StoreUnit :=
  { u with state := .busy, hostOp := some (.read k x.1 x.2.1 x.2.2) }

theorem startRead_begun (hready : s.store.state = .ready) : State.ReadBegun s ((s.takeSlot k rest).startRead k x) k rest x := by
  have hstate : (readTaken s.store k x).state = .busy := rfl
  have hop : (readTaken s.store k x).hostOp = some (.read k x.1 x.2.1 x.2.2) := rfl
  have hcfg : (readTaken s.store k x).cfg = s.store.cfg := by
    rw [readTaken, StoreUnit.cfg, StoreUnit.cfg, hready]
  obtain ⟨khop, ksectors⟩ := StoreUnit.serve_read_kept hstate hop
  obtain ⟨kstate, -, -, kqueue, kreadPtr, -⟩ := (readTaken s.store k x).serve_frame
  have hstore : ((s.takeSlot k rest).startRead k x).store = (readTaken s.store k x).serve := rfl
  have hslot := State.activate_slot ((s.takeSlot k rest).setReq { (s.takeSlot k rest).req with holder := some k }) k
  refine ⟨hslot, ⟨rfl, rfl, rfl⟩, ?_, ?_, by simp [State.sameField], fun a ha => ?_,
    fun hj herase => ?_, fun hj herase hsuspend => ?_, fun hj herase hsuspend => ?_, fun hj => ?_⟩
  · rw [hstore]
    exact ⟨kstate, khop⟩
  · rw [hstore]
    exact ⟨kqueue, ksectors, kreadPtr⟩
  · exact State.activate_read (s.takeSlot k rest) k ha
  · rw [hstore, StoreUnit.serve_readsPage hstate hop hj (.inl herase), hcfg]
    exact ⟨rfl, rfl⟩
  · rw [hstore, StoreUnit.serve_suspendsErase hstate hop hj herase, hcfg, if_pos hsuspend]
    exact ⟨rfl, rfl⟩
  · rw [hstore, StoreUnit.serve_suspendsErase hstate hop hj herase, hcfg, hsuspend]
    exact ⟨hj, rfl⟩
  · rw [hstore, StoreUnit.serve_working (u := readTaken s.store k x) hj]
    exact ⟨rfl, rfl⟩

theorem readBusy_iff (s : State) : s.readBusy = true ↔ s.req.holder.isSome = true ∨ s.store.state = .busy := by
  simp [State.readBusy, State.areaHeld]

theorem readBusy_false (hholder : s.req.holder = none) (hstate : s.store.state ≠ .busy) : s.readBusy = false := by
  simp [State.readBusy, State.areaHeld, hholder, hstate]

section
variable {c : Instr} {r : Option (Nat × Nat × Nat)} (hexec : exec c s = .next ((s.takeSlot k rest).readFrom k r))
include hexec

theorem readFrom_store (hstate : s.store.state ≠ .ready) :
    ∃ t, exec c s = .next t ∧ State.Answered s t k rest .refused .store [] :=
  answered_of_exec (hexec.trans (congrArg Host.Outcome.next (if_pos hstate)))

theorem readFrom_gone (hready : s.store.state = .ready) (hr : r = none) :
    ∃ t, exec c s = .next t ∧ State.Answered s t k rest .refused .gone [] := by
  subst hr
  exact answered_of_exec (hexec.trans (congrArg Host.Outcome.next (if_neg (not_not.mpr hready))))

theorem readFrom_begins (hready : s.store.state = .ready) (hr : r = some x) :
    ∃ t, exec c s = .next t ∧ State.ReadBegun s t k rest x := by
  subst hr
  exact ⟨_, hexec.trans (congrArg Host.Outcome.next (if_neg (not_not.mpr hready))), startRead_begun hready⟩

end

/-! ### READ STORED (R162) -/

section
variable (hhead : s.atHead (some .readStored) k rest)
include hhead

theorem exec_readStored : exec .readStored s = .next
    (if 2 < (s.param k 0).toNat then (s.takeSlot k rest).refuseInvalid k 0 false
     else if s.readBusy then (s.takeSlot k rest).refuse k .busy
     else (s.takeSlot k rest).readFrom k (s.store.chosen (s.param k 0).toNat (joinWords (s.param k 1) (s.param k 2)).toNat)) := by
  rw [exec_take (kind := some .readStored) rfl hhead, natAt_slotParams s k (by decide), nat32At,
    s.wordAt_slotParams k 1 (by decide), s.wordAt_slotParams k 2 (by decide)]
  rfl

theorem exec_readStored_from (hle : (s.param k 0).toNat ≤ 2) (hholder : s.req.holder = none) (hstate : s.store.state ≠ .busy) :
    exec .readStored s = .next ((s.takeSlot k rest).readFrom k
      (s.store.chosen (s.param k 0).toNat (joinWords (s.param k 1) (s.param k 2)).toNat)) := by
  rw [exec_readStored hhead, if_neg (Nat.not_lt.mpr hle), readBusy_false hholder hstate]
  rfl

end

/-! ### READ STORED NEXT (R162, R169) -/

section
variable (hhead : s.atHead (some .readStoredNext) k rest)
include hhead

theorem exec_readStoredNext : exec .readStoredNext s = .next
    (if 1 < (s.param k 0).toNat then (s.takeSlot k rest).refuseInvalid k 0 false
     else if s.readBusy then (s.takeSlot k rest).refuse k .busy
     else if s.req.chain ≠ .storeRead then (s.takeSlot k rest).refuse k .order
     else (s.takeSlot k rest).readFrom k (s.store.neighbour (s.param k 0).toNat)) := by
  rw [exec_take (kind := some .readStoredNext) rfl hhead, natAt_slotParams s k (by decide)]
  rfl

theorem exec_readStoredNext_from (hle : (s.param k 0).toNat ≤ 1) (hholder : s.req.holder = none) (hstate : s.store.state ≠ .busy)
    (hchain : s.req.chain = .storeRead) :
    exec .readStoredNext s = .next ((s.takeSlot k rest).readFrom k (s.store.neighbour (s.param k 0).toNat)) := by
  rw [exec_readStoredNext hhead, if_neg (Nat.not_lt.mpr hle), readBusy_false hholder hstate, if_neg (not_not.mpr hchain)]
  rfl

end

end State

end Sys2Proof.Machine
end

section
/-! ERASE STORE: its take, and its phases as the work that a free port starts (R163). -/

namespace Sys2Proof.Machine

namespace StoreUnit
variable {u : StoreUnit} {k : Fin 8} {i n : Nat} {e : Sector}

/-- An ERASE STORE in progress stays one while its work is started. -/
theorem serve_eraseAll_kept {p : ErasePhase} (hop : u.hostOp = some (.eraseAll k p)) :
    ∃ phase, u.serve.hostOp = some (.eraseAll k phase) := by
  have hsame := u.serve_sameHost
  have hslot := hsame.slot
  have hread := hsame.readSlot
  rw [hop] at hslot hread
  rcases hv : u.serve.hostOp with - | ⟨k', id, sector, page⟩ | ⟨k', phase⟩
  · rw [hv] at hslot
    exact absurd hslot (by simp)
  · rw [hv] at hread
    exact absurd hread (by simp [HostOp.readSlot])
  · rw [hv] at hslot
    simp only [Option.map_some, HostOp.slot, Option.some.injEq] at hslot
    exact ⟨phase, by rw [hslot]⟩

theorem serveReopen_opens (herase : u.erase = .none) (hopen : u.openable = true) :
    u.serveReopen = u.sending .openEnable [u.cfg.opWriteEnable] 0 := by
  rw [serveReopen, herase, hopen]
  rfl

section
variable (hstate : u.state = .busy) (hjob : u.job = .idle)
include hstate hjob

/-- Phase 1: the records that were queued at the take are stored first. -/
theorem serve_drains {m : Nat} (hop : u.hostOp = some (.eraseAll k (.drain (m + 1)))) : u.serve = u.serveReady :=
  serve_eraseAll hstate hop hjob

/-- Phase 2 with an erase in progress: it is let end. -/
theorem serve_settling {p : ErasePhase} (hop : u.hostOp = some (.eraseAll k p)) (hp : p = .drain 0 ∨ p = .settle)
    (herase : u.erase = .running) : u.serve = { u with hostOp := some (.eraseAll k .settle) } := by
  have hsettle : u.serveSettle k = u.setPhase k .settle := by rw [serveSettle, herase]
  have hserve : u.serve = u.serveSettle k := by
    rw [serve_eraseAll hstate hop hjob]
    rcases hp with rfl | rfl <;> rfl
  exact hserve.trans hsettle

section
variable (herase : u.erase = .none)
include herase

/-- Phase 2 with no erase: the log has no open sector any more and the first good sector is erased. -/
theorem serve_settled {p : ErasePhase} (hop : u.hostOp = some (.eraseAll k p)) (hp : p = .drain 0 ∨ p = .settle)
    (he : u.sectors[n]? = some e) (hgood : e.state ≠ .bad) (hbad : ∀ m, m < n → u.sectorState m = .bad) :
    u.serve = { u with hostOp := some (.eraseAll k (.erase (n + 1))), openSector := none, toOpen := none }.erasing n e := by
  let v : StoreUnit := { u with hostOp := some (.eraseAll k (.erase 0)), openSector := none, toOpen := none }
  have hsettle : u.serveSettle k = v.serveErase k 0 := by rw [serveSettle, herase]; rfl
  have hfirst : v.goodFrom 0 = some n := by
    refine goodFrom_first (u := v) (Nat.zero_le _) ?_ fun m _ hm => hbad m hm
    rw [sectorState_of_getElem (u := v) he]
    exact hgood
  have hserve : u.serve = u.serveSettle k := by
    rw [serve_eraseAll hstate hop hjob]
    rcases hp with rfl | rfl <;> rfl
  have herase' : v.erase = .none := herase
  rw [hserve, hsettle, serveErase, herase', hfirst]
  exact startErase_of_getElem (u := v.setPhase k (.erase (n + 1))) he

/-- Phase 3: the next good sector is erased. -/
theorem serve_erasesNext (hop : u.hostOp = some (.eraseAll k (.erase i))) (hin : i ≤ n) (he : u.sectors[n]? = some e)
    (hgood : e.state ≠ .bad) (hbad : ∀ m, i ≤ m → m < n → u.sectorState m = .bad) :
    u.serve = { u with hostOp := some (.eraseAll k (.erase (n + 1))) }.erasing n e := by
  have hfirst : u.goodFrom i = some n := goodFrom_first hin (by rwa [sectorState_of_getElem he]) hbad
  rw [serve_eraseAll hstate hop hjob, serveEraseAll, serveErase, herase, hfirst]
  exact startErase_of_getElem (u := u.setPhase k (.erase (n + 1))) he

/-- Phase 4: after the last sector the first good one is opened with sequence number 1. -/
theorem serve_reopens (hop : u.hostOp = some (.eraseAll k (.erase i))) (hlast : u.sectors.length ≤ i)
    (herased : u.sectorState n = .erased) (hbad : ∀ m, m < n → u.sectorState m = .bad) :
    u.serve = { u with hostOp := some (.eraseAll k .reopen), toOpen := some (n, 1) }.sending .openEnable [u.cfg.opWriteEnable] 0 := by
  have hfirst : u.goodFrom 0 = some n :=
    goodFrom_first (Nat.zero_le _) (by rw [herased]; decide) fun m _ hm => hbad m hm
  let v : StoreUnit := { u with hostOp := some (.eraseAll k .reopen), toOpen := some (n, 1) }
  have hreopen : u.serveErase k i = v.serveReopen := by
    rw [serveErase, herase, goodFrom_none hlast, hfirst]
    rfl
  exact (serve_eraseAll hstate hop hjob).trans (hreopen.trans
    (serveReopen_opens (u := v) herase ((openable_some (u := v) rfl).trans (decide_eq_true herased))))

end

end

end StoreUnit

namespace State
variable {s : State} {k : Fin 8} {rest : List (Fin 8)}

/-- The store unit at the take of ERASE STORE (R163). -/
def eraseAllTaken (u : StoreUnit) (k : Fin 8) : StoreUnit :=
  { u with state := .busy, hostOp := some (.eraseAll k (.drain u.queue.length)) }

/-- What the take of ERASE STORE has done, but for the work that it starts (R163). -/
structure EraseBegun (s t : State) (k : Fin 8) : Prop where
  exec : Machine.exec .eraseStore s = .next t
  slot : (t.slot k).state = .active
  state : t.store.state = .busy
  queue : t.store.queue = s.store.queue
  holder : t.req.holder = s.req.holder
  others : t.seq = s.seq ∧ t.faults = s.faults ∧ t.record = s.record ∧ s.sameField t
  memory : ∀ a, ¬(slotAddr k ≤ a ∧ a < slotAddr k + 2) → t.mem.read a = s.mem.read a
  work : t.store = (eraseAllTaken s.store k).serve

section
variable (hhead : s.atHead (some .eraseStore) k rest)
include hhead

theorem exec_eraseStore : exec .eraseStore s = .next
    (if s.seq.drive.running then (s.takeSlot k rest).refuse k .state
     else if s.store.state = .busy then (s.takeSlot k rest).refuse k .busy
     else if s.store.state ≠ .ready then (s.takeSlot k rest).refuse k .store
     else (s.takeSlot k rest).startEraseAll k) := by
  rw [exec_take (kind := some .eraseStore) rfl hhead]
  rw [idleClass_eq, Bool.not_not]
  rfl

theorem eraseStore_begun (hd : s.seq.drive.running = false) (hready : s.store.state = .ready) : ∃ t, s.EraseBegun t k := by
  have hslot := State.activate_slot ((s.takeSlot k rest).setStore (eraseAllTaken s.store k)) k
  refine ⟨(s.takeSlot k rest).startEraseAll k, ?_, hslot, ?_, ?_, rfl, by simp [State.sameField], fun a ha => ?_, rfl⟩
  · rw [exec_eraseStore hhead, hd, if_neg (by decide), if_neg (by rw [hready]; decide), if_neg (not_not.mpr hready)]
  · exact (eraseAllTaken s.store k).serve_frame.1
  · exact (eraseAllTaken s.store k).serve_frame.2.2.2.1
  · exact State.activate_read (s.takeSlot k rest) k ha

end

end State

end Sys2Proof.Machine
end

section
/-! The end of a store read, and the ends of erases and openings while a host operation holds the port (R160, R162, R163). -/

namespace Sys2Proof.Machine

namespace State
variable {s : State} {k : Fin 8}

/-! ### The end of a store read (R162) -/

theorem serveStore_aside (s : State) : s.Aside s.serveStore := .of_same rfl rfl

theorem setStore_aside (s : State) (u : StoreUnit) : s.Aside (s.setStore u) := .of_same rfl rfl

theorem completed_setChain {st : SlotState} {rc : ResultCode} {ws : List Word} (h : State.Completed s k st rc ws) (c : Chain) :
    State.Completed (s.setChain c) k st rc ws := completed_setReq h rfl rfl

/-- What the end of a store read leaves, and the work that it starts. -/
structure ReadEnded (s t : State) (k : Fin 8) (st : SlotState) (rc : ResultCode) (ws : List Word) (c : Chain) : Prop where
  completed : State.Completed t k st rc ws
  chain : t.req.chain = c
  holder : s.req.holder = some k → t.req.holder = none
  store : t.store = { s.store.quiet with state := .ready, hostOp := none }.serve
  others : t.seq = s.seq ∧ t.faults = s.faults ∧ t.record = s.record ∧ s.sameField t
  memory : ∀ a, ¬inAnswer k a → t.mem.read a = s.mem.read a

theorem readEnded_complete (st : SlotState) (rc : ResultCode) (ws : List Word) (c : Chain) :
    State.ReadEnded s ((((s.setStore { s.store.rest with state := .ready, hostOp := none }).complete k st rc ws).setChain c).serveStore)
      k st rc ws c := by
  refine ⟨?_, rfl, fun h => ?_, rfl, by simp [State.sameField], fun a ha => ?_⟩
  · exact (completed_setChain (State.complete_completed _ k st rc ws) c).of_aside (State.serveStore_aside _)
  · exact if_pos h
  · exact State.complete_read (s.setStore { s.store.rest with state := .ready, hostOp := none }) k st rc ws ha

theorem endRead_ok (ws : List Word) : State.ReadEnded s (s.endRead k .ok ws) k .done .ok ws .storeRead :=
  readEnded_complete .done .ok ws .storeRead

theorem endRead_refused (rc : ResultCode) (h : rc = .cancelled ∨ rc = .gone) :
    State.ReadEnded s (s.endRead k rc []) k .refused rc [] .broken := by
  rcases h with rfl | rfl
  · exact readEnded_complete .refused .cancelled [] .broken
  · exact readEnded_complete .refused .gone [] .broken

/-- The page as it stands in the transfer area while a request is answered (R168). -/
theorem pageHeld {t : State} {bs : List Byte} (hlen : bs.length = 256)
    (h : ∀ a, ¬inAnswer k a → t.mem.read a = (s.mem.blit transferAddr bs).read a) :
    (List.range 256).map (fun i => t.mem.read (transferAddr + i)) = bs := by
  refine List.ext_getElem (by simp [hlen]) fun i hi hb => ?_
  have hout : ¬inAnswer k (transferAddr + i) := by
    have := slotAddr_range k
    simp only [inAnswer, transferAddr, List.length_map, List.length_range] at hi ⊢
    omega
  rw [List.getElem_map, List.getElem_range, h _ hout, Memory.read_blit_inside _ _ _ _ hb]

section
variable {tx rx : List Byte} {id sector page : Nat} (hj : s.store.job = .pageRead)
  (hop : s.store.hostOp = some (.read k id sector page)) (hbusy : s.store.state = .busy)
  (ht : s.store.transfer = some ⟨tx, 256⟩) (hlen : rx.length = 256)
include hj hop hbusy ht hlen

/-- A page has been read into the transfer area. -/
def pageHad (s : State) (rx : List Byte) : State := s.transferEnded.setMem (s.mem.blit transferAddr rx)

theorem pageRead_exec : exec (.flashTransferEnd rx) s = .next
    (if (s.slot k).cancel then (s.pageHad rx).endRead k .cancelled []
     else if classifySlot rx = .valid id then
      ((s.pageHad rx).setStore { (s.pageHad rx).store with readPtr := some id }).endRead k .ok
        (nat32Words id ++ [natWord sector, natWord page] ++ nat32Words (s.store.sectorSeq sector))
     else ((s.pageHad rx).setStore ((s.pageHad rx).store.setFlashSlot sector page .spoiled)).endRead k .gone []) := by
  rw [exec_transferEnd ht (received_full hlen), transferDone_pageRead (s := s.transferEnded) hj hop,
    scanLeft_stays (.inl (by rw [hbusy]; decide))]
  rfl

end

/-! ### An erase that fails while a store read waits for a page of its sector (R160) -/

section
variable {i n id page : Nat} {e e' : Sector}

theorem eraseFailed_gone (hi : s.store.eraseSector = some i) (he : s.store.sectors[i]? = some e)
    (hop : s.store.hostOp = some (.read k id i page)) (hbusy : s.store.state = .busy) (hbad : s.store.badCount < 2)
    (hn : n = (i + 1) % s.store.sectors.length) (hni : n ≠ i) (he' : s.store.sectors[n]? = some e') (hgood : e'.state ≠ .bad)
    (hholder : s.req.holder = some k) :
    s.eraseFailed.store = { erasedBad s.store i n e with state := .ready, hostOp := none }.erasing n e' ∧
      State.Completed s.eraseFailed k .refused .gone [] ∧ s.eraseFailed.req.chain = .broken ∧ s.eraseFailed.req.holder = none ∧
      (s.eraseFailed.seq = s.seq ∧ s.eraseFailed.gov = s.gov ∧ s.eraseFailed.regs = s.regs ∧ s.eraseFailed.faults = s.faults ∧
        s.eraseFailed.record = s.record ∧ s.sameField s.eraseFailed) ∧
      ∀ a, ¬inAnswer k a → s.eraseFailed.mem.read a = s.mem.read a := by
  obtain ⟨hlook, -, hnext⟩ := StoreUnit.ringNext (u := eraseLost s.store i e) rfl hn hni he' hgood
  have hall : s.store.erasingAll = false := by rw [StoreUnit.erasingAll, hop]
  have hdrop : (s.setStore (eraseLost s.store i e)).dropBadRead i = (s.setStore (eraseLost s.store i e)).endWaitingRead k .gone :=
    dropBadRead_some hop
  obtain ⟨hcompleted, hreq, -, hmem⟩ := (s.setStore (eraseLost s.store i e)).endWaitingRead_answer k .gone
  have hframe : (let w := (s.setStore (eraseLost s.store i e)).endWaitingRead k .gone
      w.store = { eraseLost s.store i e with state := .ready, hostOp := none } ∧ w.seq = s.seq ∧ w.gov = s.gov ∧ w.regs = s.regs ∧
      w.faults = s.faults ∧ w.record = s.record ∧ s.sameField w) := by simp [State.endWaitingRead, State.sameField]
  have heq := eraseFailed_next hi he hbad hall hnext
  rw [hdrop] at heq
  rw [heq]
  generalize (s.setStore (eraseLost s.store i e)).endWaitingRead k .gone = w at *
  obtain ⟨wstore, wothers⟩ := hframe
  have hreplaced : w.store.replaceToOpen i n = { (erasedBad s.store i n e).quiet with state := .ready, hostOp := none } := by
    rw [wstore]
    exact replaceToOpen_eq _ _ _
  have hcfg : StoreUnit.cfg { erasedBad s.store i n e with state := .ready, hostOp := none } = s.store.cfg := by
    simp only [StoreUnit.cfg, hbusy]
    rfl
  rw [hreplaced, StoreUnit.startErase_of_getElem (u := { (erasedBad s.store i n e).quiet with state := .ready, hostOp := none }) hlook]
  refine ⟨rfl, hcompleted.of_aside (setStore_aside _ _), ?_, ?_, wothers, hmem⟩
  · show w.req.chain = .broken
    rw [hreq]
  · show w.req.holder = none
    rw [hreq]
    exact if_pos hholder

end

/-! ### The end of ERASE STORE (R163) -/

theorem eraseAllDone_ends (hslot : s.store.toOpen = none) {o : Nat} (ho : s.store.openSector = some o) (hjob : s.store.job = .idle) :
    let t := s.eraseAllDone k
    t.store.state = .ready ∧ t.store.hostOp = none ∧ t.store.readPtr = none ∧ t.store.openSector = some o ∧
      t.store.nextSlot = s.store.nextSlot ∧ t.store.toOpen = none ∧ t.store.sectors[o]? = s.store.sectors[o]? ∧
      t.store.queue = s.store.queue ∧ State.Completed t k .done .ok [] ∧ t.record = s.record ∧ t.seq = s.seq ∧
      t.faults = s.faults ∧ (s.req.chain = .storeRead → t.req.chain = .broken) ∧
      (s.req.chain ≠ .storeRead → t.req.chain = s.req.chain) ∧
      (s.store.queue ≠ [] → s.store.blankSlot.isSome = true → s.store.erase = .none → t.store.job = .bodyEnable) := by
  intro t
  let v : StoreUnit := { s.store with state := .ready, hostOp := none, readPtr := none }
  have hserve : v.serve = v.serveReady := StoreUnit.serve_ready rfl hjob
  obtain ⟨ksectors, knext, kopen, ktoOpen⟩ := StoreUnit.serveReady_open (u := v) hslot ho
  obtain ⟨kstate, -, -, kqueue, kreadPtr, -⟩ := v.serve_frame
  rw [← hserve] at ksectors knext kopen ktoOpen
  have hstore : t.store = v.serve := by simp [t, State.eraseAllDone, State.serveStore, v]
  have hdone := State.finish_completed (s.setStore v) k .ok []
  have hchain : ∀ w : State, (w.req.chain = .storeRead → w.breakStoreChain.req.chain = .broken) ∧
      (w.req.chain ≠ .storeRead → w.breakStoreChain.req.chain = w.req.chain) := fun w => by
    refine ⟨fun h => ?_, fun h => ?_⟩
    · rw [State.breakStoreChain, if_pos h]
      rfl
    · rw [State.breakStoreChain, if_neg h]
  obtain ⟨cbroken, ckept⟩ := hchain ((s.setStore v).finish k .ok [])
  refine ⟨by rw [hstore, kstate], by rw [hstore]; exact serve_hostOp_none rfl, by rw [hstore, kreadPtr],
    by rw [hstore, kopen], by rw [hstore, knext], by rw [hstore, ktoOpen], by rw [hstore, ksectors], by rw [hstore, kqueue],
    (completed_breakStoreChain hdone).of_aside (State.serveStore_aside _), by simp [t, State.eraseAllDone], by simp [t, State.eraseAllDone],
    by simp [t, State.eraseAllDone], cbroken, ckept, fun hqueue hblank herase => ?_⟩
  rw [hstore, StoreUnit.serve_programs (u := v) rfl hjob (by rw [show v.erase = _ from herase]; decide) hqueue hblank]
  rfl

end State

end Sys2Proof.Machine
end

section
/-! O38: the takes of the store requests, and the events of the store port that end them (R157, R160, R162, R163). -/

namespace Sys2Proof.Machine

namespace State
variable {s : State} {k : Fin 8} {rest : List (Fin 8)} {tx rx : List Byte}

/-- An event of the port in BUSY. -/
theorem exec_busy {c : Instr} {t t' : State} (hexec : exec c s = .next (s.scanLeft t)) (hbusy : s.store.state = .busy)
    (h : t = t') : exec c s = .next t' := by rw [hexec, scanLeft_stays (.inl (by rw [hbusy]; decide)), h]

theorem toNat_of_eq {w : Word} {n : Nat} (h : w = BitVec.ofNat 16 n) (hn : n < 65536) : w.toNat = n := by
  rw [h, BitVec.toNat_ofNat, Nat.mod_eq_of_lt hn]

theorem readStored_takes (hhead : s.atHead (some .readStored) k rest) :
    let id := joinWords (s.param k 1) (s.param k 2)
    let all := s.store.validSlots
    let free := s.req.holder = none ∧ s.store.state = .ready
    (2 < (s.param k 0).toNat →
      ∃ t, exec .readStored s = .next t ∧ State.Answered s t k rest .refused .invalid [0, 0]) ∧
    ((s.param k 0).toNat ≤ 2 → (s.req.holder.isSome = true ∨ s.store.state = .busy) →
      ∃ t, exec .readStored s = .next t ∧ State.Answered s t k rest .refused .busy []) ∧
    ((s.param k 0).toNat ≤ 2 → s.req.holder = none → s.store.state ≠ .busy → s.store.state ≠ .ready →
      ∃ t, exec .readStored s = .next t ∧ State.Answered s t k rest .refused .store []) ∧
    ((s.param k 0).toNat ≤ 1 → free → all = [] →
      ∃ t, exec .readStored s = .next t ∧ State.Answered s t k rest .refused .gone []) ∧
    (s.param k 0 = 2 → free → (∀ x ∈ all, x.1 ≠ id.toNat) →
      ∃ t, exec .readStored s = .next t ∧ State.Answered s t k rest .refused .gone []) ∧
    let begins := fun x : Nat × Nat × Nat => ∃ t, exec .readStored s = .next t ∧ State.ReadBegun s t k rest x
    (s.param k 0 = 0 → free → all ≠ [] → ∃ x ∈ all, (∀ y ∈ all, y.1 ≤ x.1) ∧ begins x) ∧
    (s.param k 0 = 1 → free → all ≠ [] → ∃ x ∈ all, (∀ y ∈ all, x.1 ≤ y.1) ∧ begins x) ∧
    (s.param k 0 = 2 → free → (∃ x ∈ all, x.1 = id.toNat) → ∃ x ∈ all, x.1 = id.toNat ∧ begins x) := by
  intro id all free
  have hexec := exec_readStored hhead
  have hfrom : (s.param k 0).toNat ≤ 2 → s.req.holder = none → s.store.state ≠ .busy →
      exec .readStored s = .next ((s.takeSlot k rest).readFrom k (s.store.chosen (s.param k 0).toNat id.toNat)) :=
    exec_readStored_from hhead
  have hready : free → s.store.state ≠ .busy := fun h => by rw [h.2]; decide
  refine ⟨fun h => answered_of_exec ?_, fun hle hbusy => answered_of_exec ?_,
    fun hle hholder hb hr => readFrom_store (hfrom hle hholder hb) hr, fun hle hfree hall => ?_, fun hp hfree hall => ?_,
    fun hp hfree hall => ?_, fun hp hfree hall => ?_, fun hp hfree hex => ?_⟩
  · rw [hexec, if_pos h]
    rfl
  · rw [hexec, if_neg (Nat.not_lt.mpr hle), if_pos ((readBusy_iff s).mpr hbusy)]
    rfl
  · refine readFrom_gone (hfrom (by omega) hfree.1 (hready hfree)) hfree.2 ?_
    have hall' : s.store.validSlots = [] := hall
    rcases Nat.le_one_iff_eq_zero_or_eq_one.mp hle with h | h
    · rw [h, StoreUnit.chosen, hall']
      rfl
    · rw [h, StoreUnit.chosen, hall']
      rfl
  · have hp' := toNat_of_eq (n := 2) hp (by decide)
    refine readFrom_gone (hfrom (by omega) hfree.1 (hready hfree)) hfree.2 ?_
    rw [hp']
    exact List.find?_eq_none.mpr fun x hx => by simpa using hall x hx
  · have hp' := toNat_of_eq (n := 0) hp (by decide)
    obtain ⟨x, hx⟩ := exists_newestOf hall
    obtain ⟨hmem, hle⟩ := newestOf_some _ hx
    exact ⟨x, hmem, hle, readFrom_begins (hfrom (by omega) hfree.1 (hready hfree)) hfree.2 (by rw [hp']; exact hx)⟩
  · have hp' := toNat_of_eq (n := 1) hp (by decide)
    obtain ⟨x, hx⟩ := exists_oldestOf hall
    obtain ⟨hmem, hle⟩ := oldestOf_some _ hx
    exact ⟨x, hmem, hle, readFrom_begins (hfrom (by omega) hfree.1 (hready hfree)) hfree.2 (by rw [hp']; exact hx)⟩
  · have hp' := toNat_of_eq (n := 2) hp (by decide)
    obtain ⟨z, hz, hid⟩ := hex
    obtain ⟨x, hx⟩ := Option.isSome_iff_exists.mp
      (List.find?_isSome.mpr ⟨z, hz, by simpa using hid⟩ : (all.find? fun x => x.1 == id.toNat).isSome)
    exact ⟨x, List.mem_of_find?_eq_some hx, by simpa using List.find?_some hx,
      readFrom_begins (hfrom (by omega) hfree.1 (hready hfree)) hfree.2 (by rw [hp']; exact hx)⟩

theorem readStoredNext_takes (hhead : s.atHead (some .readStoredNext) k rest) :
    let all := s.store.validSlots
    let free := s.req.holder = none ∧ s.store.state = .ready ∧ s.req.chain = .storeRead
    (1 < (s.param k 0).toNat →
      ∃ t, exec .readStoredNext s = .next t ∧ State.Answered s t k rest .refused .invalid [0, 0]) ∧
    ((s.param k 0).toNat ≤ 1 → (s.req.holder.isSome = true ∨ s.store.state = .busy) →
      ∃ t, exec .readStoredNext s = .next t ∧ State.Answered s t k rest .refused .busy []) ∧
    ((s.param k 0).toNat ≤ 1 → s.req.holder = none → s.store.state ≠ .busy → s.req.chain ≠ .storeRead →
      ∃ t, exec .readStoredNext s = .next t ∧ State.Answered s t k rest .refused .order []) ∧
    (∀ p : Nat, free → s.store.readPtr = some p →
      (s.param k 0 = 0 ∧ ∀ y ∈ all, p ≤ y.1) ∨ (s.param k 0 = 1 ∧ ∀ y ∈ all, y.1 ≤ p) →
      ∃ t, exec .readStoredNext s = .next t ∧ State.Answered s t k rest .refused .gone []) ∧
    ∀ p : Nat, free → s.store.readPtr = some p →
      let begins := fun x : Nat × Nat × Nat => ∃ t, exec .readStoredNext s = .next t ∧ State.ReadBegun s t k rest x
      (s.param k 0 = 0 → (∃ x ∈ all, x.1 < p) → ∃ x ∈ all, x.1 < p ∧ (∀ y ∈ all, y.1 < p → y.1 ≤ x.1) ∧ begins x) ∧
      (s.param k 0 = 1 → (∃ x ∈ all, p < x.1) → ∃ x ∈ all, p < x.1 ∧ (∀ y ∈ all, p < y.1 → x.1 ≤ y.1) ∧ begins x) := by
  intro all free
  have hexec := exec_readStoredNext hhead
  have hfrom : free → (s.param k 0).toNat ≤ 1 → exec .readStoredNext s =
      .next ((s.takeSlot k rest).readFrom k (s.store.neighbour (s.param k 0).toNat)) := fun ⟨hholder, hready, hchain⟩ hle =>
    exec_readStoredNext_from hhead hle hholder (by rw [hready]; decide) hchain
  have hbefore : ∀ {p}, s.store.readPtr = some p → s.param k 0 = 0 →
      s.store.neighbour (s.param k 0).toNat = newestOf (all.filter fun x => decide (x.1 < p)) := fun hp h0 => by
    rw [toNat_of_eq (n := 0) h0 (by decide), StoreUnit.neighbour, hp]
    rfl
  have hafter : ∀ {p}, s.store.readPtr = some p → s.param k 0 = 1 →
      s.store.neighbour (s.param k 0).toNat = oldestOf (all.filter fun x => decide (p < x.1)) := fun hp h1 => by
    rw [toNat_of_eq (n := 1) h1 (by decide), StoreUnit.neighbour, hp]
    rfl
  refine ⟨fun h => answered_of_exec ?_, fun hle hbusy => answered_of_exec ?_, fun hle hholder hb hchain => answered_of_exec ?_,
    fun p hfree hp h => ?_, fun p hfree hp => ⟨fun h0 hex => ?_, fun h1 hex => ?_⟩⟩
  · rw [hexec, if_pos h]
    rfl
  · rw [hexec, if_neg (Nat.not_lt.mpr hle), if_pos ((readBusy_iff s).mpr hbusy)]
    rfl
  · rw [hexec, if_neg (Nat.not_lt.mpr hle), readBusy_false hholder hb, if_neg (by decide), if_pos hchain]
    rfl
  · rcases h with ⟨h0, hall⟩ | ⟨h1, hall⟩
    · refine readFrom_gone (hfrom hfree (by have := toNat_of_eq (n := 0) h0 (by decide); omega)) hfree.2.1 ?_
      rw [hbefore hp h0, newestOf_none_iff, List.filter_eq_nil_iff]
      exact fun y hy => by simpa using hall y hy
    · refine readFrom_gone (hfrom hfree (by have := toNat_of_eq (n := 1) h1 (by decide); omega)) hfree.2.1 ?_
      rw [hafter hp h1, oldestOf_none_iff, List.filter_eq_nil_iff]
      exact fun y hy => by simpa using hall y hy
  · obtain ⟨z, hz, hlt⟩ := hex
    obtain ⟨x, hx⟩ := exists_newestOf
      (List.ne_nil_of_mem (List.mem_filter.mpr ⟨hz, by simpa using hlt⟩) : (all.filter fun x => decide (x.1 < p)) ≠ [])
    obtain ⟨hmem, hle⟩ := newestOf_some _ hx
    obtain ⟨hall, hxp⟩ := List.mem_filter.mp hmem
    exact ⟨x, hall, by simpa using hxp, fun y hy hyp => hle y (List.mem_filter.mpr ⟨hy, by simpa using hyp⟩),
      readFrom_begins (hfrom hfree (by have := toNat_of_eq (n := 0) h0 (by decide); omega)) hfree.2.1 ((hbefore hp h0).trans hx)⟩
  · obtain ⟨z, hz, hlt⟩ := hex
    obtain ⟨x, hx⟩ := exists_oldestOf
      (List.ne_nil_of_mem (List.mem_filter.mpr ⟨hz, by simpa using hlt⟩) : (all.filter fun x => decide (p < x.1)) ≠ [])
    obtain ⟨hmem, hle⟩ := oldestOf_some _ hx
    obtain ⟨hall, hxp⟩ := List.mem_filter.mp hmem
    exact ⟨x, hall, by simpa using hxp, fun y hy hyp => hle y (List.mem_filter.mpr ⟨hy, by simpa using hyp⟩),
      readFrom_begins (hfrom hfree (by have := toNat_of_eq (n := 1) h1 (by decide); omega)) hfree.2.1 ((hafter hp h1).trans hx)⟩

end State

end Sys2Proof.Machine
end

section
/-! O38: ERASE STORE and the events that end store reads and its phases (R160, R162, R163). -/

namespace Sys2Proof.Machine

namespace State
variable {s : State} {k : Fin 8} {rest : List (Fin 8)} {tx rx : List Byte}

theorem eraseStore_takes (hhead : s.atHead (some .eraseStore) k rest) :
    let begun := fun t : State => exec .eraseStore s = .next t ∧ (t.slot k).state = .active ∧ t.store.state = .busy ∧
      t.store.queue = s.store.queue ∧ t.req.holder = s.req.holder ∧ t.seq = s.seq ∧ t.faults = s.faults ∧
      t.record = s.record ∧ s.sameField t ∧ ∀ a, ¬(slotAddr k ≤ a ∧ a < slotAddr k + 2) → t.mem.read a = s.mem.read a
    (s.seq.drive.running = true →
      ∃ t, exec .eraseStore s = .next t ∧ State.Answered s t k rest .refused .state []) ∧
    (s.seq.drive.running = false → s.store.state = .busy →
      ∃ t, exec .eraseStore s = .next t ∧ State.Answered s t k rest .refused .busy []) ∧
    (s.seq.drive.running = false → s.store.state ≠ .busy → s.store.state ≠ .ready →
      ∃ t, exec .eraseStore s = .next t ∧ State.Answered s t k rest .refused .store []) ∧
    (s.seq.drive.running = false → s.store.state = .ready →
      ∃ t, begun t ∧ ∃ phase, t.store.hostOp = some (.eraseAll k phase)) ∧
    (s.seq.drive.running = false → s.store.state = .ready → s.store.queue ≠ [] →
      ∃ t, begun t ∧ t.store.hostOp = some (.eraseAll k (.drain s.store.queue.length))) ∧
    (s.seq.drive.running = false → s.store.state = .ready → s.store.queue = [] → s.store.job = .idle →
      s.store.erase = .running → ∃ t, begun t ∧ t.store.hostOp = some (.eraseAll k .settle) ∧ t.store.job = .idle) ∧
    ∀ (i : Nat) (e : Sector), s.seq.drive.running = false → s.store.state = .ready → s.store.queue = [] →
      s.store.job = .idle → s.store.erase = .none → s.store.sectors[i]? = some e → e.state ≠ .bad →
      (∀ m, m < i → s.store.sectorState m = .bad) →
      ∃ t, begun t ∧ t.store =
        { s.store with
          state := .busy, hostOp := some (.eraseAll k (.erase (i + 1))), openSector := none, toOpen := none }.erasing i e := by
  intro begun
  have hexec := exec_eraseStore hhead
  have hbegun : ∀ {t}, s.EraseBegun t k → begun t := fun h => ⟨h.exec, h.slot, h.state, h.queue, h.holder, h.others.1,
    h.others.2.1, h.others.2.2.1, h.others.2.2.2, h.memory⟩
  have hop : (eraseAllTaken s.store k).hostOp = some (.eraseAll k (.drain s.store.queue.length)) := rfl
  refine ⟨fun hd => answered_of_exec ?_, fun hd hb => answered_of_exec ?_, fun hd hb hr => answered_of_exec ?_,
    fun hd hready => ?_, fun hd hready hqueue => ?_, fun hd hready hqueue hj herase => ?_,
    fun i e hd hready hqueue hj herase he hgood hbad => ?_⟩
  · rw [hexec, if_pos hd]
    rfl
  · rw [hexec, hd, if_neg (by decide), if_pos hb]
    rfl
  · rw [hexec, hd, if_neg (by decide), if_neg hb, if_pos hr]
    rfl
  · obtain ⟨t, ht⟩ := eraseStore_begun hhead hd hready
    exact ⟨t, hbegun ht, by rw [ht.work]; exact StoreUnit.serve_eraseAll_kept hop⟩
  · obtain ⟨t, ht⟩ := eraseStore_begun hhead hd hready
    refine ⟨t, hbegun ht, ?_⟩
    rw [ht.work]
    by_cases hj : s.store.job = .idle
    · obtain ⟨m, hm⟩ := Nat.exists_eq_succ_of_ne_zero (fun h => hqueue (List.length_eq_zero_iff.mp h))
      have hserve := StoreUnit.serve_drains (u := eraseAllTaken s.store k) rfl hj (hop.trans (by rw [hm]))
      rw [hserve]
      rcases (eraseAllTaken s.store k).serveReady_cases with h | ⟨j, tx, rx, h⟩ | ⟨t, -, h⟩ <;> rw [h] <;> exact hop
    · rw [StoreUnit.serve_working (u := eraseAllTaken s.store k) hj]
      exact hop
  · obtain ⟨t, ht⟩ := eraseStore_begun hhead hd hready
    rw [hqueue] at hop
    have hserve := StoreUnit.serve_settling (u := eraseAllTaken s.store k) rfl hj hop (.inl rfl) herase
    refine ⟨t, hbegun ht, ?_, ?_⟩
    · rw [ht.work, hserve]
    · rw [ht.work, hserve]
      exact hj
  · obtain ⟨t, ht⟩ := eraseStore_begun hhead hd hready
    rw [hqueue] at hop
    have hserve := StoreUnit.serve_settled (u := eraseAllTaken s.store k) rfl hj herase hop (.inl rfl) he hgood hbad
    exact ⟨t, hbegun ht, ht.work.trans hserve⟩

/-! ### The page of a store read has come (R162) -/

section
variable {id sector page : Nat} {e : Sector} (hbusy : s.store.state = .busy) (hop : s.store.hostOp = some (.read k id sector page))
  (hj : s.store.job = .pageRead) (ht : s.store.transfer = some ⟨tx, 256⟩) (hlen : rx.length = 256) (hholder : s.req.holder = some k)
include hbusy hop hj ht hlen hholder

/-- What every end of a page transfer leaves. -/
def PageEnded (s t : State) (rx : List Byte) : Prop :=
  exec (.flashTransferEnd rx) s = .next t ∧ t.store.state = .ready ∧ t.store.hostOp = none ∧ t.req.holder = none ∧
  t.store.queue = s.store.queue ∧ (List.range 256).map (fun i => t.mem.read (transferAddr + i)) = rx ∧ t.seq = s.seq ∧
  t.faults = s.faults ∧ t.record = s.record ∧ s.sameField t

omit hbusy hop hj ht in
theorem pageEnded_of_read {u : StoreUnit} {t : State} {st : SlotState} {rc : ResultCode} {ws : List Word} {c : Chain}
    (hexec : exec (.flashTransferEnd rx) s = .next t) (h : State.ReadEnded ((s.pageHad rx).setStore u) t k st rc ws c)
    (hqueue : u.queue = s.store.queue) : PageEnded s t rx := by
  obtain ⟨hseq, hfaults, hrecord, hsame⟩ := h.others
  refine ⟨hexec, ?_, ?_, h.holder hholder, ?_, pageHeld (s := s) hlen h.memory, hseq, hfaults, hrecord, hsame⟩
  · rw [h.store, StoreUnit.serve_frame _ |>.1]
  · rw [h.store]
    exact serve_hostOp_none rfl
  · rw [h.store, StoreUnit.serve_frame _ |>.2.2.2.1]
    exact hqueue

theorem pageRead_cancelled (hcancel : (s.slot k).cancel = true) : ∃ t, PageEnded s t rx ∧
    State.Completed t k .refused .cancelled [] ∧ t.req.chain = .broken ∧ t.store.readPtr = s.store.readPtr := by
  have hexec := pageRead_exec hj hop hbusy ht hlen
  rw [if_pos hcancel] at hexec
  have hended := State.endRead_refused (s := s.pageHad rx) (k := k) .cancelled (.inl rfl)
  refine ⟨_, pageEnded_of_read hlen hholder (u := (s.pageHad rx).store) hexec hended rfl, hended.completed, hended.chain, ?_⟩
  rw [hended.store, StoreUnit.serve_frame _ |>.2.2.2.2.1]
  rfl

theorem pageRead_valid (he : s.store.sectors[sector]? = some e) (hcancel : (s.slot k).cancel = false)
    (hvalid : classifySlot rx = .valid id) : ∃ t, PageEnded s t rx ∧ State.Completed t k .done .ok
      (nat32Words id ++ [natWord sector, natWord page] ++ nat32Words (e.seq.getD 0)) ∧
    t.req.chain = .storeRead ∧ t.store.readPtr = some id := by
  have hexec := pageRead_exec hj hop hbusy ht hlen
  rw [hcancel, if_neg (by decide), if_pos hvalid, StoreUnit.sectorSeq_of_getElem he] at hexec
  have hended := State.endRead_ok (s := (s.pageHad rx).setStore { (s.pageHad rx).store with readPtr := some id }) (k := k)
    (nat32Words id ++ [natWord sector, natWord page] ++ nat32Words (e.seq.getD 0))
  refine ⟨_, pageEnded_of_read hlen hholder hexec hended rfl, hended.completed, hended.chain, ?_⟩
  rw [hended.store, StoreUnit.serve_frame _ |>.2.2.2.2.1]
  rfl

theorem pageRead_gone (he : s.store.sectors[sector]? = some e) (hcancel : (s.slot k).cancel = false)
    (hvalid : classifySlot rx ≠ .valid id) : ∃ t, PageEnded s t rx ∧ State.Completed t k .refused .gone [] ∧
    t.req.chain = .broken ∧ t.store.readPtr = s.store.readPtr ∧
    (t.store.eraseSector ≠ some sector →
      t.store.sectors[sector]? = some { e with slots := e.slots.set (page - 1) .spoiled }) := by
  have hexec := pageRead_exec hj hop hbusy ht hlen
  rw [hcancel, if_neg (by decide), if_neg hvalid] at hexec
  have hended := State.endRead_refused (s := (s.pageHad rx).setStore ((s.pageHad rx).store.setFlashSlot sector page .spoiled))
    (k := k) .gone (.inr rfl)
  refine ⟨_, pageEnded_of_read hlen hholder hexec hended rfl, hended.completed, hended.chain, ?_, fun herase => ?_⟩
  · rw [hended.store, StoreUnit.serve_frame _ |>.2.2.2.2.1]
    rfl
  · rw [hended.store] at herase ⊢
    have hsectors : ((s.pageHad rx).setStore ((s.pageHad rx).store.setFlashSlot sector page .spoiled)).store.sectors[sector]? =
        some { e with slots := e.slots.set (page - 1) .spoiled } := by
      show (s.store.sectors.modify sector _)[sector]? = _
      rw [List.getElem?_modify_eq, he]
      rfl
    generalize ((s.pageHad rx).setStore ((s.pageHad rx).store.setFlashSlot sector page .spoiled)).store = v at *
    rw [StoreUnit.serve_ready (u := { v.quiet with state := .ready, hostOp := none }) rfl rfl] at herase ⊢
    rcases StoreUnit.serveReady_cases { v.quiet with state := .ready, hostOp := none } with h | ⟨j, tx, rx, h⟩ | ⟨t, -, h⟩
    · rw [h]
      exact hsectors
    · rw [h]
      exact hsectors
    · rw [h] at herase ⊢
      have hne : t ≠ sector := fun heq => herase (by rw [heq]; rfl)
      exact (List.getElem?_modify_ne _ _ hne).trans hsectors

end

end State

end Sys2Proof.Machine
end

section
/-! O38: the statement. -/

namespace Sys2Proof.Machine

namespace State
variable {s : State} {k : Fin 8} {rest : List (Fin 8)} {tx rx : List Byte} {i n : Nat} {e : Sector}

/-- The sectors beside sector `i` are as before its erase. -/
theorem beside_erased {u : StoreUnit} {m : Nat} (h : i < m) :
    (erasedIn u i e).quiet.sectors[m]? = u.sectors[m]? ∧ (eraseLost u i e).sectors[m]? = u.sectors[m]? ∧
      (erasedIn u i e).quiet.sectorState m = u.sectorState m ∧ (eraseLost u i e).sectorState m = u.sectorState m :=
  ⟨List.getElem?_set_ne (Nat.ne_of_lt h), List.getElem?_set_ne (Nat.ne_of_lt h),
    StoreUnit.sectorState_set_ne (u := u) (Ne.symm (Nat.ne_of_lt h)), StoreUnit.sectorState_set_ne (u := u) (Ne.symm (Nat.ne_of_lt h))⟩

/-! ### ERASE STORE goes on at the end of an erase (R163) -/

section
variable (hbusy : s.store.state = .busy) (he : s.store.sectors[i]? = some e)
include hbusy he

theorem eraseChecked_ends {v : StoreUnit} (hj : s.store.job = .eraseCheck) (ht : s.store.transfer = some ⟨tx, 256⟩)
    (hrx : rx = List.replicate 256 0xFF) (hi : s.store.eraseSector = some i) (hto : s.store.toOpen = none)
    (hserve : (erasedIn s.store i e).quiet.serve = v) : exec (.flashTransferEnd rx) s = .next (s.setStore v) := by
  refine exec_busy (eraseCheck_ends hj ht (by rw [hrx, List.length_replicate])) hbusy ?_
  rw [if_pos hrx, eraseDone_served (s := s.transferEnded) hi he (StoreUnit.sequenceOut_none hto)]
  exact congrArg s.setStore hserve

theorem eraseFailed_goesOn {v : StoreUnit} {next : Nat} (hj : s.store.job = .eraseCheck) (ht : s.store.transfer = some ⟨tx, 256⟩)
    (hlen : rx.length = 256) (hrx : rx ≠ List.replicate 256 0xFF) (hi : s.store.eraseSector = some i)
    (hop : s.store.hostOp = some (.eraseAll k (.erase next))) (hbad : s.store.badCount < 2)
    (hserve : (eraseLost s.store i e).serve = v) : exec (.flashTransferEnd rx) s = .next (s.setStore v) := by
  have hall : s.store.erasingAll = true := by rw [StoreUnit.erasingAll, hop]
  refine exec_busy (eraseCheck_ends hj ht hlen) hbusy ?_
  rw [if_neg hrx, eraseFailed_all (s := s.transferEnded) hi he hbad hall]
  exact congrArg s.setStore hserve

end

end State

/-- Settles O38. -/
theorem storeRequestTakes : Obligations.StoreRequestTakes := by
  unfold Obligations.StoreRequestTakes
  refine ⟨fun s k rest hhead => State.readStored_takes hhead, fun s k rest hhead => State.readStoredNext_takes hhead,
    fun s k rest hhead => State.eraseStore_takes hhead, fun s k id sector page tx rx e => ?page,
    fun s k id sector page i tx rx e => ?waiting, fun s k id sector page o p q rest e => ?attempt, fun s k i e tx rx => ?eraseAll⟩
  case page =>
    intro u hbusy hop hj ht hlen hholder he expected ended
    refine ⟨fun hcancel => State.pageRead_cancelled hbusy hop hj ht hlen hholder hcancel, fun hcancel hexp => ?_,
      fun hcancel hexp => ?_⟩
    · exact State.pageRead_valid hbusy hop hj ht hlen hholder he hcancel ((classifySlot_valid_iff hlen id).mpr hexp)
    · exact State.pageRead_gone hbusy hop hj ht hlen hholder he hcancel fun h => hexp ((classifySlot_valid_iff hlen id).mp h)
  case waiting =>
    intro u hbusy hop hholder hi hrun he n failed late bad
    have hservice : s.store.state ≠ .outOfService := by rw [hbusy]; decide
    have hstate : s.store.state ≠ .scanning := by rw [hbusy]; decide
    have hall : s.store.erasingAll = false := by rw [StoreUnit.erasingAll, hop]
    have hchecked : failed → exec (.flashTransferEnd rx) s = .next (s.scanLeft s.transferEnded.eraseFailed) := by
      rintro ⟨hj, ht, hlen, hrx⟩
      rw [State.eraseCheck_ends hj ht hlen, if_neg hrx]
    have hlate : late → exec .flashTimeLimit s = .next (s.scanLeft s.eraseFailed) := fun ⟨hj, hl⟩ =>
      State.erase_late hj hrun (.inr hbusy) hl
    refine ⟨fun e' hbad hni he' hgood hsector => ?_, fun e' hbad hni he' hgood hsector => ?_, fun hbad =>
      ⟨fun h => State.exec_out (hchecked h) (State.eraseFailed_leaves (s := s.transferEnded) hi he hbad hservice).of_ended
        (.inl hstate), fun h => State.exec_out (hlate h) (State.eraseFailed_leaves hi he hbad hservice) (.inl hstate)⟩⟩
    · have hread : ∀ k' id' page', s.store.hostOp ≠ some (.read k' id' i page') := fun k' id' page' h => by
        rw [hop] at h
        simp only [Option.some.injEq, HostOp.read.injEq] at h
        exact hsector h.2.2.1
      exact ⟨fun h => State.exec_busy (hchecked h) hbusy
          (State.eraseFailed_follows (s := s.transferEnded) hi he hall hread hbad rfl hni he' hgood),
        fun h => State.exec_busy (hlate h) hbusy (State.eraseFailed_follows hi he hall hread hbad rfl hni he' hgood)⟩
    · subst hsector
      refine ⟨fun h => ⟨s.transferEnded.eraseFailed, State.exec_busy (hchecked h) hbusy rfl, ?_⟩,
        fun h => ⟨s.eraseFailed, State.exec_busy (hlate h) hbusy rfl, ?_⟩⟩
      · obtain ⟨hstore, hcompleted, hchain, hhold, ⟨hseq, hgov, hregs, hfaults, hrecord, hsame⟩, hmem⟩ :=
          State.eraseFailed_gone (s := s.transferEnded) hi he hop hbusy hbad rfl hni he' hgood hholder
        exact ⟨hstore, hcompleted, hchain, hhold, hseq, hgov, hregs, hfaults, hrecord, hsame, hmem⟩
      · obtain ⟨hstore, hcompleted, hchain, hhold, ⟨hseq, hgov, hregs, hfaults, hrecord, hsame⟩, hmem⟩ :=
          State.eraseFailed_gone hi he hop hbusy hbad rfl hni he' hgood hholder
        exact ⟨hstore, hcompleted, hchain, hhold, hseq, hgov, hregs, hfaults, hrecord, hsame, hmem⟩
  case attempt =>
    intro u hbusy hop hqueue hq ho he hto hp hj hlate again reads programs
    have hblank : { State.attempted s.store o e q rest with nextSlot := p }.blankSlot.isSome = true := by
      rw [StoreUnit.blankSlot_of_open (u := { State.attempted s.store o e q rest with nextSlot := p }) ho
        (getElem?_set_of_some he _), hp]
      rfl
    have hused := State.storeFailed_used ho he hqueue hq hto hp
    refine ⟨fun herase => State.exec_busy (State.program_late hj hlate) hbusy (hused.trans (congrArg s.setStore ?_)),
      fun herase => State.exec_busy (State.program_late hj hlate) hbusy (hused.trans (congrArg s.setStore ?_))⟩
    · exact StoreUnit.serve_readsPage (u := { State.attempted s.store o e q rest with nextSlot := p }) hbusy hop rfl (.inl herase)
    · exact StoreUnit.serve_programsFirst (u := { State.attempted s.store o e q rest with nextSlot := p }) hbusy hop rfl herase
        (List.cons_ne_nil _ _) hblank
  case eraseAll =>
    intro u hbusy he erased failed done bad ends
    refine ⟨fun n e' hop herased hto he' hgood hbads => ?_, fun n e' hop hto hin he' hgood hbads => ⟨fun herased => ?_,
      fun hfailed hbad => ?_⟩, fun next j hop herased hlast hto hj hstate hbads => ?_, fun hop hto hj ht hrx => ?_,
      fun left q rest p hop hj ht hqueue hrx ho hto herase hrest hp => ?_⟩
    · obtain ⟨hj, ht, hrx, hi⟩ := herased
      have hserve := StoreUnit.serve_settled (u := (State.erasedIn s.store i e).quiet) hbusy rfl rfl hop (.inr rfl) he' hgood hbads
      refine (State.eraseChecked_ends hbusy he hj ht hrx hi hto hserve).trans ?_
      exact congrArg (fun x => Host.Outcome.next (s.setStore ({ State.erasedIn s.store i e with
        hostOp := some (.eraseAll k (.erase (n + 1))), openSector := none, toOpen := x }.erasing n e'))) hto.symm
    · obtain ⟨hj, ht, hrx, hi⟩ := herased
      have hserve := StoreUnit.serve_erasesNext (u := (State.erasedIn s.store i e).quiet) hbusy rfl rfl hop hin
        ((State.beside_erased hin).1.trans he') hgood fun m him hm => (State.beside_erased him).2.2.1.trans (hbads m hm him)
      exact State.eraseChecked_ends hbusy he hj ht hrx hi hto hserve
    · obtain ⟨hj, ht, hlen, hrx, hi⟩ := hfailed
      have hserve := StoreUnit.serve_erasesNext (u := State.eraseLost s.store i e) hbusy rfl rfl hop hin
        ((State.beside_erased hin).2.1.trans he') hgood fun m him hm => (State.beside_erased him).2.2.2.trans (hbads m hm him)
      exact State.eraseFailed_goesOn hbusy he hj ht hlen hrx hi hop hbad hserve
    · obtain ⟨hjob, ht, hrx, hi⟩ := herased
      have hserve := StoreUnit.serve_reopens (u := (State.erasedIn s.store i e).quiet) hbusy rfl rfl hop
        (by rw [show (State.erasedIn s.store i e).quiet.sectors.length = s.store.sectors.length from List.length_set]; exact hlast)
        hstate hbads
      exact State.eraseChecked_ends hbusy he hjob ht hrx hi hto hserve
    · have hopened : s.transferEnded.openDone = (s.setStore (State.openedIn s.store i 1).quiet).eraseAllDone k := by
        have heq := State.openDone_eq (s := s.transferEnded) hto he
        dsimp only at heq
        rw [show s.transferEnded.store.hostOp = _ from hop] at heq
        exact heq
      obtain ⟨hstate, hnone, hptr, hopen, hnext, htoOpen, hsectors, hqueue, hcompleted, hrecord, hseq, hfaults, hbroken, hkept, hprogram⟩ :=
        State.eraseAllDone_ends (s := s.setStore (State.openedIn s.store i 1).quiet) (k := k) rfl (o := i) rfl rfl
      have hblank := State.openedIn_blankSlot s.store 1 he
      exact ⟨_, State.exec_busy (State.openRead_ends hto hj ht hrx) hbusy hopened, hstate, hnone, hptr, hopen, hnext, htoOpen,
        hsectors.trans (getElem?_set_of_some he _), hqueue, hcompleted, hrecord, hseq, hfaults, hbroken, hkept,
        fun hq herase => hprogram hq (show (State.openedIn s.store i 1).blankSlot.isSome = true by rw [hblank]; rfl) herase⟩
    · have hhead : s.store.head = q := by rw [StoreUnit.head, show s.store.queue = _ from hqueue]; rfl
      have hmark : rx = bytes32 s.store.head.id := by rw [hhead]; exact hrx
      have hdone := State.storeDone_used (s := s.transferEnded) ho he hqueue hto hp
      have hstored := State.storedIn_drain (o := i) (e := e) (q := q) (rest := rest) s.transferEnded.store (n := left + 1) hop
      generalize hv : ({ State.storedIn s.transferEnded.store i e q rest with nextSlot := p } : StoreUnit) = v at hdone
      have hfields : v.state = .busy ∧ v.job = .idle ∧ v.erase = .none ∧ v.queue = rest ∧ v.openSector = some i ∧
          v.hostOp = some (.eraseAll k (.drain (left + 1))) ∧
          v.sectors[i]? = some { e with slots := e.slots.set (s.store.nextSlot - 1) (.valid q.id) } := by
        rw [← hv, hstored]
        exact ⟨hbusy, rfl, herase, rfl, ho, rfl, getElem?_set_of_some he _⟩
      obtain ⟨vbusy, vjob, verase, vqueue, vopen, vop, vsectors⟩ := hfields
      have hprogram : v.canProgram = true := StoreUnit.canProgram_iff.mpr
        ⟨by rwa [vqueue], by rw [StoreUnit.blankSlot_of_open vopen vsectors, hp]; rfl⟩
      have hserve : v.serve = v.startBody := by
        rw [StoreUnit.serve_drains vbusy vjob vop, (StoreUnit.serveReady_program hprogram).1 (by rw [verase]; decide)]
      rw [hserve] at hdone
      exact ⟨_, State.exec_busy (State.markRead_ends hj ht hmark) hbusy hdone, (State.recordEnded_stored q.id).of_ended, vqueue,
        vop, rfl⟩

end Sys2Proof.Machine
end

section
/-! The end of a scan in service (R20, R135, R153). -/

namespace Sys2Proof.Machine

/-! ### The open sector and the greatest id (R153) -/

theorem highestSeq_mem (l : List (Sector × Nat)) : ∀ {o q}, highestSeq l = some (o, q) → ∃ e, (e, o) ∈ l ∧ e.state = .full ∧ e.seq = some q := by
  induction l with
  | nil => intro o q h; simp [highestSeq] at h
  | cons x l ih =>
    intro o q h
    obtain ⟨e, i⟩ := x
    have hrest : highestSeq l = some (o, q) → ∃ e', (e', o) ∈ (e, i) :: l ∧ e'.state = .full ∧ e'.seq = some q := fun h => by
      obtain ⟨e', hmem, hfull, hseq⟩ := ih h
      exact ⟨e', List.mem_cons_of_mem _ hmem, hfull, hseq⟩
    rw [highestSeq] at h
    split at h
    · next q1 i2 q2 hfull hseq hr =>
      split_ifs at h with hlt
      · exact hrest (hr.trans h)
      · obtain ⟨rfl, rfl⟩ : i = o ∧ q1 = q := by simpa using h
        exact ⟨e, List.mem_cons_self, hfull, hseq⟩
    · next q1 hfull hseq hr =>
      obtain ⟨rfl, rfl⟩ : i = o ∧ q1 = q := by simpa using h
      exact ⟨e, List.mem_cons_self, hfull, hseq⟩
    · exact hrest h

theorem highestSeq_none {l : List (Sector × Nat)} (h : ∀ x ∈ l, x.1.state ≠ .full) : highestSeq l = none := by
  rw [← Option.not_isSome_iff_eq_none, Option.isSome_iff_exists]
  rintro ⟨⟨o, q⟩, hx⟩
  obtain ⟨e, hmem, hfull, -⟩ := highestSeq_mem l hx
  exact h _ hmem hfull

/-- The valid sector whose sequence number is above that of every other one. -/
theorem highestSeq_zipIdx (l : List Sector) : ∀ (m : Nat) {o q : Nat} {e : Sector}, l[o]? = some e → e.state = .full → e.seq = some q →
    (∀ x ∈ l.eraseIdx o, x.state = .full → x.seq.getD 0 < q) → highestSeq (l.zipIdx m) = some (m + o, q) := by
  induction l with
  | nil => intro m o q e h; simp at h
  | cons x l ih =>
    intro m o q e he hfull hseq hlow
    rw [List.zipIdx_cons, highestSeq]
    cases o with
    | zero =>
      obtain rfl : x = e := by simpa using he
      have hrest : ∀ i' q', highestSeq (l.zipIdx (m + 1)) = some (i', q') → q' < q := fun i' q' h => by
        obtain ⟨e', hmem, hfull', hseq'⟩ := highestSeq_mem _ h
        have := hlow e' (List.fst_mem_of_mem_zipIdx hmem) hfull'
        rwa [hseq'] at this
      rw [hfull, hseq]
      rcases hr : highestSeq (l.zipIdx (m + 1)) with - | ⟨i', q'⟩
      · rfl
      · exact if_neg (Nat.not_lt.mpr (Nat.le_of_lt (hrest i' q' hr)))
    | succ o =>
      rw [List.eraseIdx_cons_succ, List.forall_mem_cons] at hlow
      rw [ih (m + 1) (by simpa using he) hfull hseq hlow.2, show m + (o + 1) = m + 1 + o by omega]
      split
      · next q1 i2 q2 hfull1 hseq1 hr =>
        obtain ⟨rfl, rfl⟩ : m + 1 + o = i2 ∧ q = q2 := by simpa using hr
        have hlt := hlow.1 hfull1
        rw [hseq1] at hlt
        exact if_pos hlt
      · next hr => exact absurd hr (by simp)
      · rfl

theorem validSlots_mem {u : StoreUnit} {id : Nat} : (∃ x ∈ u.validSlots, x.1 = id) ↔
    ∃ e ∈ u.sectors, e.state ≠ .bad ∧ ∃ y ∈ e.validIds, y.1 = id := by
  unfold StoreUnit.validSlots
  constructor
  · rintro ⟨x, hx, rfl⟩
    obtain ⟨⟨e, i⟩, hmem, hx⟩ := List.mem_flatMap.mp hx
    dsimp only at hx
    split_ifs at hx with hbad
    · exact absurd hx (by simp)
    · obtain ⟨⟨id, p⟩, hy, rfl⟩ := List.mem_map.mp hx
      exact ⟨e, List.fst_mem_of_mem_zipIdx hmem, hbad, _, hy, rfl⟩
  · rintro ⟨e, he, hbad, ⟨id, p⟩, hy, rfl⟩
    obtain ⟨i, hi, rfl⟩ := List.getElem_of_mem he
    refine ⟨(id, i, p), List.mem_flatMap.mpr ⟨(u.sectors[i], i), ?_, ?_⟩, rfl⟩
    · exact List.mk_mem_zipIdx_iff_getElem?.mpr (List.getElem?_eq_getElem hi)
    · dsimp only
      rw [if_neg hbad]
      exact List.mem_map.mpr ⟨(id, p), hy, rfl⟩

theorem greatestId_eq {u : StoreUnit} {g : Nat} (hle : ∀ x ∈ u.sectors, x.state ≠ .bad → ∀ y ∈ x.validIds, y.1 ≤ g)
    (hat : g = 0 ∨ ∃ x ∈ u.sectors, x.state ≠ .bad ∧ ∃ y ∈ x.validIds, y.1 = g) : u.greatestId = g := by
  have hbound : ∀ x ∈ u.validSlots, x.1 ≤ g := fun x hx => by
    obtain ⟨e, he, hbad, y, hy, hid⟩ := validSlots_mem.mp ⟨x, hx, rfl⟩
    exact hid ▸ hle e he hbad y hy
  have hreach : g = 0 ∨ ∃ x ∈ u.validSlots, x.1 = g := hat.imp id validSlots_mem.mpr
  rw [StoreUnit.greatestId]
  rcases hn : newestOf u.validSlots with - | x
  · rw [newestOf_none_iff] at hn
    rw [hn] at hreach
    exact (by simpa using hreach.symm : g = 0).symm
  · obtain ⟨hmem, hmax⟩ := newestOf_some _ hn
    refine Nat.le_antisymm (hbound x hmem) ?_
    rcases hreach with h | ⟨y, hy, rfl⟩
    · omega
    · exact hmax y hy

namespace State
variable {s x t : State} {c : StoreSettings} {k : Fin 8} {u : StoreUnit} {g : Nat}

/-! ### The group in force, and the departure that it may bring -/

/-- The state after a scan has been read, before the group comes into force: the records at or below the greatest stored id have
ended DROPPED (R153). -/
def scanned (x : State) (u : StoreUnit) (g : Nat) : State := ((x.setStore u).setRecord (x.record.raiseCounter g)).dropStored g

theorem scanned_store (x : State) (u : StoreUnit) (g : Nat) :
    (x.scanned u g).store = { u with
      queue := u.queue.filter fun r => decide (g < r.id), dropped := (x.scanned u g).store.dropped } ∧
    (u.dropped + (u.queue.filter fun r => decide (r.id ≤ g)).length ≤ 65535 →
      (x.scanned u g).store.dropped = u.dropped + (u.queue.filter fun r => decide (r.id ≤ g)).length) :=
  endRecords_dropped (u.queue.filter fun r => decide (r.id ≤ g))
    (((x.setStore u).setRecord (x.record.raiseCounter g)).setStore { u with queue := u.queue.filter fun r => decide (g < r.id) })

theorem scanDone_finished (hu : x.store.rest.scanOpen = u) (hg : u.greatestId = g) (hout : u.sequenceOut = false)
    (hawait : x.store.awaiting = some (c, k)) (hstate : x.store.state = .scanning) :
    x.scanDone.store = { u with
      state := .ready, settings := some c, awaiting := none, queue := u.queue.filter fun r => decide (g < r.id)
      dropped := x.scanDone.store.dropped } ∧
    (u.dropped + (u.queue.filter fun r => decide (r.id ≤ g)).length ≤ 65535 →
      x.scanDone.store.dropped = u.dropped + (u.queue.filter fun r => decide (r.id ≤ g)).length) ∧
    State.Completed x.scanDone k .done .ok [4] ∧ x.scanDone.req.notice.getLsbD noticeStore = true ∧
    x.scanDone.seq = x.seq ∧ x.scanDone.gov = x.gov ∧ x.scanDone.record = x.record.raiseCounter g ∧ x.sameField x.scanDone ∧
    ∀ j, (x.scanDone.faults.entry j).latched = (x.faults.entry j).latched := by
  have huawait : u.awaiting = some (c, k) := by rw [← hu]; simpa using hawait
  have hustate : u.state = .scanning := by rw [← hu]; simpa using hstate
  obtain ⟨hstore, hcount⟩ := x.scanned_store u g
  obtain ⟨hpending, hinputs, hdrive, hmeas, hseq, hgov, -, hwatch, -, hrecord⟩ :=
    ((x.setStore u).setRecord (x.record.raiseCounter g)).dropStored_frame g
  have hlatched : ∀ j : FaultKind, ((x.scanned u g).faults.entry j).latched = (x.faults.entry j).latched := fun j =>
    ((x.setStore u).setRecord (x.record.raiseCounter g)).dropStored_latched g j.num
  have hdone : x.scanDone = ((x.scanned u g).changeStore { (x.scanned u g).store with state := .ready }).storeInForce .ok := by
    simp only [State.scanDone, hu, hg, hout]
    rfl
  change (x.scanned u g).pending = _ at hpending
  change (x.scanned u g).inputs = _ at hinputs
  change (x.scanned u g).drive = _ at hdrive
  change (x.scanned u g).meas = _ at hmeas
  change (x.scanned u g).seq = _ at hseq
  change (x.scanned u g).gov = _ at hgov
  change (x.scanned u g).watch = _ at hwatch
  change (x.scanned u g).record = _ at hrecord
  generalize x.scanned u g = d at *
  have hdstate : d.store.state = .scanning := by rw [hstore]; exact hustate
  have hnotice := State.changeStore_notice (s := d) (u := { d.store with state := .ready })
    (by rw [hdstate]; exact fun h => StoreState.noConfusion h)
  have hfstore : (d.changeStore { d.store with state := .ready }).store = { d.store with state := .ready } := by
    rw [State.changeStore_eq]
  obtain ⟨fpending, finputs, fdrive, fmeas, fseq, fgov, -, fwatch, ffaults, -, frecord, -⟩ :=
    d.changeStore_frame { d.store with state := .ready }
  generalize d.changeStore { d.store with state := .ready } = f at *
  have hforce := storeInForce_some (s := f) .ok (by rw [hfstore, hstore]; exact huawait)
  rw [hdone, hforce]
  refine ⟨?_, fun hle => ?_, State.finish_completed _ _ _ _, State.complete_notice _ _ _ _ _ hnotice, ?_, ?_, ?_, ?_, fun j => ?_⟩
  · simp only [State.finish_frame, State.setStore_store, hfstore]
    rw [hstore]
  · simp only [State.finish_frame, State.setStore_store, hfstore]
    exact hcount hle
  · simp only [State.finish_frame, State.setStore_seq, fseq]
    exact hseq
  · simp only [State.finish_frame, State.setStore_gov, fgov]
    exact hgov
  · simp only [State.finish_frame, State.setStore_record, frecord]
    exact hrecord
  · simp only [State.sameField, State.finish_frame, State.setStore_pending, State.setStore_inputs, State.setStore_drive,
      State.setStore_meas, State.setStore_watch, fpending, finputs, fdrive, fmeas, fwatch]
    exact ⟨hpending, hinputs, hdrive, hmeas, hwatch⟩
  · simp only [State.finish_frame, State.setStore_faults, ffaults]
    exact hlatched j

end State

end Sys2Proof.Machine
end

section
/-! What the end of a scan brings into force, by the sectors that it has found (R20, R135, R151, R153). -/

namespace Sys2Proof.Machine

namespace State
variable {s x t : State} {c : StoreSettings} {k : Fin 8} {rx : List Byte} {u : StoreUnit} {g : Nat}

/-- The scan that the event has ended has put the STORE group in force (R151, R153). -/
def InForce (s t : State) (c : StoreSettings) (k : Fin 8) (rx : List Byte) : Prop :=
  exec (.flashTransferEnd rx) s = .next t ∧ t.store.state = .ready ∧ t.store.settings = some c ∧ t.store.awaiting = none ∧
  State.Completed t k .done .ok [4] ∧ t.req.notice.getLsbD noticeStore = true ∧
  (s.seq.drive ≠ .unconfigured → t.seq = s.seq) ∧ (s.awaitsStore → t.seq.drive = .stopped)

/-- The departure that the end of a scan may bring leaves the store unit and the records (R20). -/
theorem scanLeft_departs (hscan : s.store.state = .scanning) (hready : t.store.state = .ready) (hsettings : t.store.settings.isSome = true)
    (hseq : t.seq = s.seq) (hgov : t.gov = s.gov) (hsame : s.sameField t) (hrecord : t.record.settings = s.record.settings)
    (hlatched : ∀ j : FaultKind, (t.faults.entry j).latched = (s.faults.entry j).latched)
    (hwait : s.seq.drive = .unconfigured → s.awaitsStore) :
    (s.scanLeft t).store = t.store.serve ∧ (s.scanLeft t).record = t.record ∧ t.Aside (s.scanLeft t) ∧
      (s.seq.drive ≠ .unconfigured → (s.scanLeft t).seq = s.seq) ∧ (s.awaitsStore → (s.scanLeft t).seq.drive = .stopped) := by
  have hleft : s.scanLeft t = t.departureTest.serveStore := if_pos (by simp [hscan, hready])
  obtain ⟨-, -, hdrive, -, hwatch⟩ := hsame
  rw [hleft]
  by_cases hd : s.seq.drive = .unconfigured
  · obtain ⟨-, hsdrive, hsgov, hswatch, hsrecord, hsrestart, hsnone⟩ := hwait hd
    have hconf : t.configured = true := State.configured_iff.mpr ⟨by rwa [hdrive], by rwa [hgov], by rwa [hwatch], by rwa [hrecord],
      hsettings, by rw [hready]; decide⟩
    have htd : t.seq.drive = .unconfigured := by rwa [hseq]
    have htr : t.seq.restartPending = false := by rwa [hseq]
    have hnot : ¬t.TripLatched := by
      rintro ⟨f, hf, hl⟩
      rw [hlatched, hsnone f hf] at hl
      exact Bool.noConfusion hl
    obtain ⟨hdseq, -, hdrecord, hdstore⟩ := (State.departure_outcomes htd hconf htr).2.1 hnot
    have haside := State.departureTest_aside htr
    generalize t.departureTest = d at *
    refine ⟨?_, by rw [State.serveStore_frame d |>.2.2.2.2.2.2.2.2.2.2.1, hdrecord], haside.trans (serveStore_aside d),
      fun h => absurd hd h, fun _ => ?_⟩
    · show d.store.serve = _
      rw [hdstore]
    · show d.seq.drive = _
      rw [hdseq]
  · have hstay : t.departureTest = t := State.departureTest_none fun h => hd (hseq ▸ h.1)
    rw [hstay]
    exact ⟨rfl, rfl, serveStore_aside t, fun _ => hseq, fun h => absurd h.1 hd⟩

/-- The end of a scan in service, as the event that ends it. -/
theorem scan_inForce (hexec : exec (.flashTransferEnd rx) s = .next (s.scanLeft x.scanDone)) (hx : ∃ w, x = s.setStore w)
    (hu : x.store.rest.scanOpen = u) (hg : u.greatestId = g) (hout : u.sequenceOut = false)
    (hawait : x.store.awaiting = some (c, k)) (hxstate : x.store.state = .scanning) (hscan : s.store.state = .scanning)
    (hwait : s.seq.drive = .unconfigured → s.awaitsStore) :
    ∃ (t : State) (v : StoreUnit), s.InForce t c k rx ∧ t.store = v.serve ∧
      v = { u with
        state := .ready, settings := some c, awaiting := none, queue := u.queue.filter fun r => decide (g < r.id)
        dropped := v.dropped } ∧
      (u.dropped + (u.queue.filter fun r => decide (r.id ≤ g)).length ≤ 65535 →
        v.dropped = u.dropped + (u.queue.filter fun r => decide (r.id ≤ g)).length) ∧
      t.record.idCounter = max s.record.idCounter (1 + g) := by
  obtain ⟨w, rfl⟩ := hx
  obtain ⟨hstore, hcount, hcompleted, hnotice, hseq, hgov, hrecord, hsame, hlatched⟩ := scanDone_finished hu hg hout hawait hxstate
  generalize (s.setStore w).scanDone = f at *
  have hready : f.store.state = .ready := by rw [hstore]
  have hsettings : f.store.settings = some c := by rw [hstore]
  have hnone : f.store.awaiting = none := by rw [hstore]
  obtain ⟨tstore, trecord, taside, tkept, tstopped⟩ := scanLeft_departs hscan hready (by rw [hsettings]; rfl) hseq hgov hsame
    (by rw [hrecord]; rfl) hlatched hwait
  obtain ⟨kstate, -, -, -, -, -, -, ksettings, kawaiting, -⟩ := f.store.serve_frame
  refine ⟨_, f.store, ⟨hexec, ?_, ?_, ?_, hcompleted.of_aside taside, taside.notice _ hnotice, tkept, tstopped⟩, tstore, hstore, hcount, ?_⟩
  · rw [tstore, kstate, hready]
  · rw [tstore, ksettings, hsettings]
  · rw [tstore, kawaiting, hnone]
  · rw [trecord, hrecord]
    rfl

section
variable {i : Nat} {tx : List Byte} (hscan : s.store.state = .scanning) (hawait : s.store.awaiting = some (c, k))
  (ht : s.store.transfer = some ⟨tx, 256⟩) (hlen : rx.length = 256) (herase : s.store.erase = .none)
  (hwait : s.seq.drive = .unconfigured → s.awaitsStore)
include hscan hawait ht hlen herase hwait

/-- The scan has found a valid sector: the one of the highest sequence number is the open one (R153). -/
theorem scan_opened {table : List Sector} {o q p : Nat} {e : Sector} (hto : s.store.toOpen = none)
    (htable : table = s.store.sectors.modify i fun e => { e with slots := e.slots.set 14 (classifySlot rx) })
    (hj : s.store.job = .scanSlot i 15) (hrest : ∀ x ∈ table.drop (i + 1), x.state ≠ .full) (he : table[o]? = some e)
    (hfull : e.state = .full) (hseq : e.seq = some q) (hlow : ∀ x ∈ table.eraseIdx o, x.state = .full → x.seq.getD 0 < q)
    (hp : firstBlank e.slots = some p) (hle : ∀ x ∈ table, x.state ≠ .bad → ∀ y ∈ x.validIds, y.1 ≤ g)
    (hat : g = 0 ∨ ∃ x ∈ table, x.state ≠ .bad ∧ ∃ y ∈ x.validIds, y.1 = g) :
    ∃ t, s.InForce t c k rx ∧ t.store.openSector = some o ∧ t.store.nextSlot = p ∧
      t.store.sectors[o]? = some { e with state := .opened } ∧
      t.record.idCounter = max s.record.idCounter (1 + g) ∧
      t.store.queue = (s.store.queue.filter fun r => decide (g < r.id)) ∧
      (s.store.dropped + (s.store.queue.filter fun r => decide (r.id ≤ g)).length ≤ 65535 →
        t.store.dropped = s.store.dropped + (s.store.queue.filter fun r => decide (r.id ≤ g)).length) ∧
      (t.store.queue ≠ [] → t.store.job = .bodyEnable ∧ t.store.transfer = some ⟨[c.opWriteEnable], 0⟩) := by
  let w : StoreUnit := { s.store with sectors := table, transfer := none }
  have hnone : w.validFrom (i + 1) = none := StoreUnit.validFrom_none fun m hm => by
    rcases hx : table[m]? with - | y
    · rw [StoreUnit.sectorState, hx]
      decide
    · rw [StoreUnit.sectorState_of_getElem (u := w) hx]
      refine hrest y (List.mem_iff_getElem?.mpr ⟨m - (i + 1), ?_⟩)
      rw [List.getElem?_drop, Nat.add_sub_cancel' hm, hx]
  have hexec : exec (.flashTransferEnd rx) s = .next (s.scanLeft (s.setStore w).scanDone) := by
    have hslot := scanSlot_exec (s := s) (v := { s.store with sectors := table }) hj ht hlen rfl (by rw [htable])
    rw [hslot, if_neg (by decide), State.scanSector]
    show Host.Outcome.next (s.scanLeft (match w.validFrom (i + 1) with | some j => _ | none => _)) = _
    rw [hnone]
    rfl
  have hhigh : highestSeq table.zipIdx = some (o, q) := by
    have := highestSeq_zipIdx table 0 he hfull hseq hlow
    rwa [Nat.zero_add] at this
  let u : StoreUnit := { w.quiet with sectors := table.set o { e with state := .opened }, openSector := some o, nextSlot := p }
  have hu : (s.setStore w).store.rest.scanOpen = u := by
    show w.rest.scanOpen = u
    rw [StoreUnit.scanOpen, show w.rest.sectors.zipIdx = table.zipIdx from rfl, hhigh]
    dsimp only
    rw [StoreUnit.modSector_of_getElem (u := w.rest) _ he]
    exact StoreUnit.slotUsed_blank (e := { e with state := .opened })
      (u := { w.rest with sectors := table.set o { e with state := .opened }, openSector := some o }) rfl
      (getElem?_set_of_some he _) hp
  have hg : u.greatestId = g := by
    have hbad : e.state ≠ .bad := by rw [hfull]; decide
    refine greatestId_eq (fun x hx hxbad y hy => ?_) (hat.imp id fun ⟨x, hx, hxbad, y, hy⟩ => ?_)
    · rcases List.mem_or_eq_of_mem_set hx with hx | rfl
      · exact hle x hx hxbad y hy
      · exact hle e (List.mem_of_getElem? he) hbad y hy
    · obtain ⟨m, hm⟩ := List.mem_iff_getElem?.mp hx
      by_cases hmo : m = o
      · obtain rfl : e = x := by rw [hmo, he] at hm; exact Option.some.inj hm
        exact ⟨{ e with state := .opened }, List.mem_of_getElem? (getElem?_set_of_some he _), fun h => SectorState.noConfusion h, y, hy⟩
      · exact ⟨x, List.mem_iff_getElem?.mpr ⟨m, by rw [List.getElem?_set_ne (Ne.symm hmo), hm]⟩, hxbad, y, hy⟩
  obtain ⟨t, v, hforce, tstore, hv, hcount, hid⟩ := scan_inForce hexec ⟨w, rfl⟩ hu hg (StoreUnit.sequenceOut_none hto) hawait hscan
    hscan hwait
  have hfields : v.state = .ready ∧ v.job = .idle ∧ v.erase = .none ∧ v.openSector = some o ∧ v.toOpen = none ∧ v.nextSlot = p ∧
      v.sectors[o]? = some { e with state := .opened } ∧ v.cfg = c ∧
      v.queue = s.store.queue.filter fun r => decide (g < r.id) := by
    rw [hv]
    exact ⟨rfl, rfl, herase, rfl, hto, rfl, getElem?_set_of_some he _, rfl, rfl⟩
  obtain ⟨vready, vjob, verase, vopen, vtoOpen, vnext, vsectors, vcfg, vqueue⟩ := hfields
  obtain ⟨ksectors, knext, kopen, -⟩ := StoreUnit.serveReady_open vtoOpen vopen
  rw [← StoreUnit.serve_ready vready vjob] at ksectors knext kopen
  obtain ⟨-, -, -, kqueue, -, kdropped, -⟩ := v.serve_frame
  refine ⟨t, hforce, by rw [tstore, kopen], by rw [tstore, knext, vnext], by rw [tstore, ksectors, vsectors], hid,
    by rw [tstore, kqueue, vqueue], fun h => by rw [tstore, kdropped]; exact hcount h, fun hqueue => ?_⟩
  rw [tstore, kqueue] at hqueue
  rw [tstore, StoreUnit.serve_programs vready vjob (by rw [verase]; decide) hqueue
    (by rw [StoreUnit.blankSlot_of_open vopen vsectors, hp]; rfl), vcfg]
  exact ⟨rfl, rfl⟩

/-- The scan has found no valid sector: the first ERASED one is opened with sequence number 1 (R153). -/
theorem scan_toOpen {sectors : List Sector} {j : Nat}
    (hsectors : sectors = s.store.sectors ++ [⟨.erased, none, List.replicate 15 .blank⟩]) (hj : s.store.job = .scanHeader i)
    (hns : c.ns ≤ i + 1) (hbad : s.store.badCount < 3) (hrx : rx = List.replicate 256 0xFF)
    (hall : ∀ x ∈ sectors, x.state = .erased ∨ (x.state = .bad ∧ x.seq = none))
    (herased : (sectors[j]?).map Sector.state = some .erased)
    (hfirst : ∀ m, m < j → (sectors[m]?).map Sector.state = some .bad) (hids : ∀ x ∈ sectors, x.validIds = [])
    (hopen : s.store.openSector = none) :
    ∃ t, s.InForce t c k rx ∧ t.store.openSector = none ∧ t.store.toOpen = some (j, 1) ∧ t.store.job = .openEnable ∧
      t.store.transfer = some ⟨[c.opWriteEnable], 0⟩ ∧ t.store.queue = s.store.queue.filter fun r => decide (0 < r.id) := by
  let w : StoreUnit := { s.store with sectors := sectors, transfer := none }
  have hcfg : s.store.cfg = c := by rw [StoreUnit.cfg, hscan, hawait]
  have hnotFull : ∀ x ∈ sectors, x.state ≠ .full := fun x hx => by
    rcases hall x hx with h | ⟨h, -⟩ <;> rw [h] <;> decide
  have hnone : w.validFrom 0 = none := StoreUnit.validFrom_none fun m _ => by
    rcases hx : sectors[m]? with - | y
    · rw [StoreUnit.sectorState, hx]
      decide
    · rw [StoreUnit.sectorState_of_getElem (u := w) hx]
      exact hnotFull y (List.mem_of_getElem? hx)
  have hexec : exec (.flashTransferEnd rx) s = .next (s.scanLeft (s.setStore w).scanDone) := by
    have hheader := scanHeader_exec (s := s) (v := { s.store with sectors := sectors }) hj ht hlen
      (headerSector_eq s.store hlen (.inl ⟨hrx, rfl⟩)) (by rw [hsectors]; rfl)
    rw [hheader, hcfg, if_neg (Nat.not_lt.mpr hns), if_neg (Nat.not_le.mpr hbad), State.scanSector]
    show Host.Outcome.next (s.scanLeft (match w.validFrom 0 with | some j => _ | none => _)) = _
    rw [hnone]
    rfl
  have hhigh : highestSeq sectors.zipIdx = none := highestSeq_none fun x hx => hnotFull x.1 (List.fst_mem_of_mem_zipIdx hx)
  have hstate : w.sectorState j = .erased := by rw [StoreUnit.sectorState, herased]; rfl
  have hfind : (List.range w.sectors.length).find? (fun j => w.rest.sectorState j = .erased) = some j := by
    rw [List.find?_range_eq_some]
    have hrest : w.rest.sectorState j = .erased := hstate
    refine ⟨by simpa using hrest, List.mem_range.mpr (StoreUnit.lt_of_sectorState (by rw [hstate]; decide)), fun m hm => ?_⟩
    have hb : w.sectorState m = .bad := by rw [StoreUnit.sectorState, hfirst m hm]; rfl
    have hrest : w.rest.sectorState m = .bad := hb
    simp [hrest]
  let u : StoreUnit := { w.quiet with toOpen := some (j, 1) }
  have hu : (s.setStore w).store.rest.scanOpen = u := by
    show w.rest.scanOpen = u
    rw [StoreUnit.scanOpen, show w.rest.sectors.zipIdx = sectors.zipIdx from rfl, hhigh]
    dsimp only
    rw [show w.rest.sectors.length = w.sectors.length from rfl, hfind]
    rfl
  have hg : u.greatestId = 0 := greatestId_eq (fun x hx _ y hy => by rw [hids x hx] at hy; exact absurd hy (by simp)) (.inl rfl)
  obtain ⟨t, v, hforce, tstore, hv, -, -⟩ := scan_inForce hexec ⟨w, rfl⟩ hu hg (StoreUnit.sequenceOut_some rfl (by decide)) hawait hscan
    hscan hwait
  have hfields : v.state = .ready ∧ v.job = .idle ∧ v.erase = .none ∧ v.openSector = none ∧ v.toOpen = some (j, 1) ∧
      v.sectorState j = .erased ∧ v.cfg = c ∧ v.queue = s.store.queue.filter fun r => decide (0 < r.id) := by
    rw [hv]
    exact ⟨rfl, rfl, herase, hopen, rfl, hstate, rfl, rfl⟩
  obtain ⟨vready, vjob, verase, vopen, vtoOpen, vstate, vcfg, vqueue⟩ := hfields
  rw [StoreUnit.serve_opens vready vjob (.inr (StoreUnit.blankSlot_none vopen)) (by rw [verase]; decide) vtoOpen vstate, vcfg] at tstore
  exact ⟨t, hforce, by rw [tstore]; exact vopen, by rw [tstore]; exact vtoOpen, by rw [tstore]; rfl, by rw [tstore]; rfl,
    by rw [tstore]; exact vqueue⟩

end

end State

end Sys2Proof.Machine
end

section
/-! O26: LOAD SETTINGS of the ENVELOPE, VIBRATION, RECORD and STORE groups (R20, R75, R97, R125, R150 to R153). -/

namespace Sys2Proof.Machine

namespace State
variable {s : State}

theorem loadBusy_envelope (hholder : s.req.holder = none) (hawait : s.gov.awaiting = none) : s.loadBusy 1 = false := by
  rw [← Bool.not_eq_true, State.loadBusy_iff s (by decide)]
  simp [hholder, hawait]

theorem loadBusy_vibration (hholder : s.req.holder = none) (hawait : s.watch.awaiting = none) : s.loadBusy 2 = false := by
  rw [← Bool.not_eq_true, State.loadBusy_iff s (by decide)]
  simp [hholder, hawait]

/-- Whether a STORE image names a store. -/
theorem ofImage_present (ws : List Word) :
    (ws.getD 0 0 = 1 → (StoreSettings.ofImage ws).present = true) ∧ (ws.getD 0 0 = 0 → (StoreSettings.ofImage ws).present ≠ true) := by
  have hfield : (StoreSettings.ofImage ws).present = (natAt ws 0 != 0) := rfl
  have hword : natAt ws 0 = (ws.getD 0 0).toNat := rfl
  refine ⟨fun h => ?_, fun h => ?_⟩
  · rw [hfield, hword, h]
    decide
  · rw [hfield, hword, h]
    decide

section
variable {k : Fin 8} {rest : List (Fin 8)} (hhead : s.atHead (some .loadSettings) k rest) (hholder : s.req.holder = none)
include hhead hholder

theorem exec_loadRecord (h0 : s.param k 0 = 3) (h2 : s.param k 2 = 2) (hoff : (s.param k 1).toNat + 2 ≤ 4096) {ws : List Word}
    (hws : s.mem.readWords (transferAddr + 2 * (s.param k 1).toNat) 2 = ws) (hw0 : ws.getD 0 0 ≤ 250) (hw1 : ws.getD 1 0 ≤ 2047) :
    exec .loadSettings s = .next ((s.recordLoaded k rest (RecordSettings.ofImage ws)).departureTest) := by
  rw [exec_loadGroup hhead (toNat_of_eq (n := 3) h0 (by decide)) (toNat_of_eq (n := 2) h2 (by decide)) (by decide) rfl hoff
    (fun h => by omega) (loadBusy_record hholder) hws (imageBad_record hw0 hw1), loading_record]

theorem exec_loadStore (h0 : s.param k 0 = 4) (h2 : s.param k 2 = 19) (hoff : (s.param k 1).toNat + 19 ≤ 4096)
    (hd : s.seq.drive.running = false)
    (hfree : s.store.state = .absent ∨ s.store.state = .outOfService ∨
      (s.store.state = .ready ∧ s.store.queue = [] ∧ s.store.job = .idle ∧ s.store.erase = .none))
    (hawait : s.store.awaiting = none) {ws : List Word} (hws : s.mem.readWords (transferAddr + 2 * (s.param k 1).toNat) 19 = ws)
    (himage : imageBad 4 ws = none) :
    (ws.getD 0 0 = 1 → exec .loadSettings s =
      .next ((s.storeAccepted k rest (storeScanning s.store (StoreSettings.ofImage ws) k)).activate k)) ∧
    (ws.getD 0 0 = 0 → exec .loadSettings s = .next ((s.absentLoaded k rest (StoreSettings.ofImage ws)).departureTest)) := by
  obtain ⟨hpresent, habsent⟩ := ofImage_present ws
  rw [exec_loadGroup hhead (toNat_of_eq (n := 4) h0 (by decide)) (toNat_of_eq (n := 19) h2 (by decide)) (by decide) rfl hoff
    (fun _ => hd) (loadBusy_store hholder hawait hfree) hws himage, loading_store]
  exact ⟨fun h => congrArg Host.Outcome.next (if_pos (hpresent h)), fun h => congrArg Host.Outcome.next (if_neg (habsent h))⟩

end

end State

/-- Settles O26. -/
theorem loadOtherGroups : Obligations.LoadOtherGroups := by
  unfold Obligations.LoadOtherGroups
  refine ⟨fun s k rest hhead hholder => ?takes, fun s v k hpos hawait hr => State.vibration_blockEnd hpos hawait hr,
    fun s c k i tx rx => ?scan⟩
  case takes =>
    intro off image
    refine ⟨fun h0 h2 hoff hawait himage => activated_of_awaiting ?_, fun h0 h2 hoff hawait himage => activated_of_awaiting ?_,
      fun h0 h2 hoff hstay hw0 hw1 => ?_, fun h0 h2 hoff hd hothers hr hw0 hw1 => ?_,
      fun h0 h2 hoff hd hfree hawait himage => ⟨fun hone => ?_, fun hzero hun hothers hr => ?_, fun hzero hstay => ?_⟩⟩
    · rw [State.exec_loadGroup hhead (State.toNat_of_eq (n := 1) h0 (by decide)) (State.toNat_of_eq (n := 49) h2 (by decide)) (by decide)
        rfl hoff (fun h => by omega) (State.loadBusy_envelope hholder hawait) rfl himage, loading_envelope]
    · rw [State.exec_loadGroup hhead (State.toNat_of_eq (n := 2) h0 (by decide)) (State.toNat_of_eq (n := 32) h2 (by decide)) (by decide)
        rfl hoff (fun h => by omega) (State.loadBusy_vibration hholder hawait) rfl himage, loading_vibration]
    · exact State.recordLoaded_stays (State.exec_loadRecord hhead hholder h0 h2 hoff rfl hw0 hw1) hstay
    · exact State.recordLoaded_departs (State.exec_loadRecord hhead hholder h0 h2 hoff rfl hw0 hw1) hd hothers hr
    · refine State.storeScans ((State.exec_loadStore hhead hholder h0 h2 hoff hd hfree hawait rfl himage).1 hone) ?_
      rcases hfree with h | h | ⟨h, -⟩ <;> rw [h] <;> decide
    · exact State.absentLoaded_departs ((State.exec_loadStore hhead hholder h0 h2 hoff hd hfree hawait rfl himage).2 hzero) hun hothers hr
    · exact State.absentLoaded_stays ((State.exec_loadStore hhead hholder h0 h2 hoff hd hfree hawait rfl himage).2 hzero) hstay hawait
  case scan =>
    intro u table inForce hscan hawait ht hlen hto herase hwait
    refine ⟨fun o q p g e hj hrest he hfull hseq hlow hp hle hat => ?_,
      fun j hj hns hbad hrx hall herased hfirst hids hopen => ?_⟩
    · exact State.scan_opened hscan hawait ht hlen herase hwait hto rfl hj hrest he hfull hseq hlow hp hle hat
    · exact State.scan_toOpen hscan hawait ht hlen herase hwait rfl hj hns hbad hrx hall herased hfirst hids hopen

end Sys2Proof.Machine
end

section
/-! The grant of a governor period: the envelope at a speed, the limits of both directions, the rate step, the freeze, the clamp and
the circle of the current demands (R47 to R56). -/

namespace Sys2Proof.Machine

/-! ### The envelope at a speed (R48) -/

theorem envelopeAt_beyond {b b' : Breakpoint} {v : Int} (h : b'.speed ≤ v) (bs : List Breakpoint) :
    envelopeAt (b :: b' :: bs) v = envelopeAt (b' :: bs) v := if_neg h.not_gt

/-- The breakpoints before one that the speed has reached do not matter. -/
theorem envelopeAt_reached (before : List Breakpoint) {b : Breakpoint} {rest : List Breakpoint} {v : Int}
    (hrise : (before ++ b :: rest).Pairwise fun p q => p.speed < q.speed) (hv : b.speed ≤ v) :
    envelopeAt (before ++ b :: rest) v = envelopeAt (b :: rest) v := by
  induction before with
  | nil => rfl
  | cons p ps ih =>
    have hrest := (List.pairwise_cons.mp hrise).2
    cases ps with
    | nil => exact envelopeAt_beyond hv rest
    | cons q qs =>
      have hqb : q.speed < b.speed := (List.pairwise_cons.mp hrest).1 b (by simp)
      exact (envelopeAt_beyond (by omega) (qs ++ b :: rest)).trans (ih hrest)

theorem envelopeAt_between {before after : List Breakpoint} {b b' : Breakpoint} {v : Int}
    (h : envelopeSane (before ++ b :: b' :: after)) (hv : b.speed ≤ v) (hv' : v < b'.speed) :
    envelopeAt (before ++ b :: b' :: after) v =
      ⟨b.lm + truncDiv ((b'.lm - b.lm) * (v - b.speed)) (b'.speed - b.speed),
        b.lg + truncDiv ((b'.lg - b.lg) * (v - b.speed)) (b'.speed - b.speed)⟩ := by
  obtain ⟨-, hrise, -⟩ := h
  rw [envelopeAt_reached before hrise hv]
  exact if_pos hv'

theorem envelopeAt_last {before : List Breakpoint} {b : Breakpoint} {v : Int} (h : envelopeSane (before ++ [b]))
    (hv : b.speed ≤ v) : envelopeAt (before ++ [b]) v = ⟨b.lm, b.lg⟩ := by
  obtain ⟨-, hrise, -⟩ := h
  rw [envelopeAt_reached before hrise hv]
  rfl

/-! ### Directions, rate step and freeze (R47, R52, R53) -/

theorem directionOf_eq (torque n : Int) :
    directionOf torque n = if torque * n < 0 then LimitDir.regenerating else .motoring := by
  simp only [directionOf, mul_neg_iff]

theorem rateStep_eq {rate : Int} (h : 0 ≤ rate) (tc tp : Int) : rateStep rate tc tp =
    if |tp| < |tc| ∨ tc * tp < 0 then tp + max (-rate) (min rate (tc - tp)) else tc := by
  simp only [mul_neg_iff, ← clampAbs_eq_max h]
  rfl

/-- In a frozen expiry a torque keeps the sign of the last one and does not grow in size. -/
theorem freeze_frozen (tr tp : Int) : freeze true tr tp =
    if tp = 0 ∨ tr * tp < 0 then 0 else if |tp| < |tr| then tp else tr := by
  have hsign : ∀ {x : Int}, 0 < x → signOf x = 1 := fun hx => if_pos hx
  have hneg : ∀ {x : Int}, x < 0 → signOf x = -1 := fun hx => (if_neg hx.not_gt).trans (if_pos hx)
  simp only [mul_neg_iff]
  rcases lt_trichotomy tp 0 with hp | rfl | hp
  · rcases lt_trichotomy tr 0 with hr | rfl | hr
    · simp [freeze, hneg hp, hneg hr, hp.ne, hp.not_gt, hr.not_gt]
    · simp [freeze, hp.ne, signOf]
    · simp [freeze, hneg hp, hsign hr, hp, hr, hp.ne]
  · simp [freeze]
  · rcases lt_trichotomy tr 0 with hr | rfl | hr
    · simp [freeze, hsign hp, hneg hr, hp, hr, hp.ne']
    · simp [freeze, hp.ne', signOf]
    · simp [freeze, hsign hp, hsign hr, hp.ne', hp.not_gt, hr.not_gt]

theorem freeze_eq (frozen : Bool) (tr tp : Int) : freeze frozen tr tp =
    if frozen then (if tp = 0 ∨ tr * tp < 0 then 0 else if |tp| < |tr| then tp else tr) else tr := by
  cases frozen with
  | false => rfl
  | true => exact freeze_frozen tr tp

/-! ### The circle of the current demands (R56) -/

theorem iqDemand_circle {imax id : Int} (h0 : 0 ≤ id) (h : id < imax) (k torque : Int) :
    id ^ 2 + iqDemand imax id k torque ^ 2 ≤ imax ^ 2 := by
  have hroot := isqrt_rest_sq_le (v := id) (m := imax) (by rw [abs_of_nonneg h0]; exact h.le)
  have hq := abs_clampAbs_le (Int.natCast_nonneg (isqrt (imax * imax - id * id).toNat)) (truncDiv (torque * 1000) k)
  have hsq := sq_le_sq' (abs_le.mp hq).1 (abs_le.mp hq).2
  have hsum : id ^ 2 + clampAbs (isqrt (imax * imax - id * id).toNat : Int) (truncDiv (torque * 1000) k) ^ 2 ≤ imax ^ 2 := by
    linarith
  exact hsum

end Sys2Proof.Machine
end

section
/-! The governor period in BREAKAWAY, RUN and STOPPING: the grant it forms and the bounds that grant, torques and current demands
keep (R51 to R56). -/

namespace Sys2Proof.Machine

/-! ### The grant of an expiry, value by value (R47 to R54) -/

theorem motorLimit_get (c : DriveSettings) (l0 : DirLimit) (factor : Int) (x : Side) (d : LimitDir) :
    (motorLimit c l0 factor x).get d =
      if c.pinion.has x = true then (if d = .regenerating then l0.regenerating else l0.motoring) * factor / 1000 else 0 := by
  cases h : c.pinion.has x with
  | false => rw [motorLimit_get_of_not_has h, if_neg Bool.false_ne_true]
  | true =>
    rw [motorLimit, h, if_pos rfl, if_pos rfl]
    cases d <;> rfl

theorem baseLimit_eq (c : DriveSettings) (drive : DriveState) (kind : RunKind) (n envelope : Int) :
    baseLimit c drive kind n envelope =
      (let l := if kind = .creep then c.lc else envelope
      if drive = .breakaway ∧ |n| < c.nb then max l c.lb else l) := by
  simp [baseLimit]

theorem baseLimits_get (c : DriveSettings) (drive : DriveState) (kind : RunKind) (n : Int) (e : List Breakpoint) (d : LimitDir) :
    (if d = .regenerating then (baseLimits c drive kind n e).regenerating else (baseLimits c drive kind n e).motoring) =
      baseLimit c drive kind n (if d = .regenerating then (envelopeAt e |n|).regenerating else (envelopeAt e |n|).motoring) := by
  cases d <;> rfl

theorem clampDirectional_eq (l : Pair DirLimit) (n t : Int) : clampDirectional l n t =
    signOf t * min |t| ((l.get .a).get (if t * n < 0 then .regenerating else .motoring) +
      (l.get .b).get (if t * n < 0 then .regenerating else .motoring)) := by
  rw [← directionOf_eq]
  rfl

section grant

variable (g : Governor) (c : DriveSettings) (t : Pair Taken) (n : Int) (l0 : DirLimit)

theorem Governor.grant_circle (h0 : 0 ≤ c.idf) (h : c.idf < c.imax) (x : Side) :
    (g.grant c t n l0).idRef ^ 2 + ((g.grant c t n l0).iqRef.get x) ^ 2 ≤ c.imax ^ 2 := by
  cases x <;> exact iqDemand_circle h0 h _ _

end grant

/-! ### The period and its bounds -/

theorem Governor.takeEnvelope_none {g : Governor} (h : g.awaiting = none) : g.takeEnvelope = g := by
  simp only [Governor.takeEnvelope, h]

/-- No demands fit in any circle. -/
theorem circle_of_zero {g : Governor} (hid : g.idRef = 0) (hiq : g.iqRef = ⟨0, 0⟩) (imax : Int) (x : Side) :
    g.idRef ^ 2 + (g.iqRef.get x) ^ 2 ≤ imax ^ 2 := by
  rw [hid, hiq]
  cases x <;> exact sq_nonneg imax

section period

variable {s : State} (hg : s.seq.drive.governed = true)

include hg

/-- A governor period leaves current demands within the circle of imax. -/
theorem governorPeriod_circle (h0 : 0 ≤ s.cfg.idf) (h : s.cfg.idf < s.cfg.imax) (x : Side) :
    s.governorPeriod.gov.idRef ^ 2 + (s.governorPeriod.gov.iqRef.get x) ^ 2 ≤ s.cfg.imax ^ 2 := by
  cases s.governorPeriod_grantStep with
  | kept _ hgov =>
    rw [hgov, State.periodPublished_gov]
    show s.periodValues.idRef ^ 2 + (s.periodValues.iqRef.get x) ^ 2 ≤ s.cfg.imax ^ 2
    rw [s.periodValues_of_governed hg]
    exact Governor.grant_circle _ _ _ _ _ h0 h x
  | zeroed _ hgov =>
    rw [hgov]
    exact circle_of_zero rfl rfl _ x
  | reset _ hgov =>
    rw [hgov]
    exact circle_of_zero rfl rfl _ x

/-- A period that keeps the drive state publishes the values computed. -/
theorem governorPeriod_kept (hdrive : s.governorPeriod.seq.drive = s.seq.drive) :
    s.governorPeriod.gov = s.periodValues.supervised s.cfg s.seq.drive s.meas.n := by
  have hrest : ¬s.governorPeriod.seq.drive.governed = false := by rw [hdrive, hg]; exact Bool.noConfusion
  cases s.governorPeriod_grantStep with
  | kept _ hgov => rw [hgov, State.periodPublished_gov]
  | zeroed h _ => exact absurd h hrest
  | reset h _ => exact absurd h hrest

end period

/-- `r` publishes the grant formed from its demand: clamped, stepped from the last torque `tp`, frozen and clamped again, with the
direction and the flag that go with it (R51 to R54). -/
structure Governor.FormsGrant (r : Governor) (rate : Int) (frozen : Bool) (tp n : Int) : Prop where
  tg : r.tg = clampDirectional r.limit n (freeze frozen (rateStep rate (clampDirectional r.limit n r.td) tp) tp)
  tp : r.tp = r.tg
  limitDir : r.limitDir = directionOf r.tg n
  atLimit : r.atLimit = decide (r.tg ≠ 0 ∧ |r.tg| = totalLimit r.limit (directionOf r.tg n))

theorem Governor.grant_formsGrant (g : Governor) (c : DriveSettings) (t : Pair Taken) (n : Int) (l0 : DirLimit) :
    (g.grant c t n l0).FormsGrant c.rate (freezeActs c t) g.tp n where
  tg := rfl
  tp := rfl
  limitDir := rfl
  atLimit := (Bool.decide_and _ _).symm

theorem governorPeriod_formsGrant {s : State} (hg : s.seq.drive.governed = true) (hawait : s.gov.awaiting = none)
    (hdrive : s.governorPeriod.seq.drive = s.seq.drive) : s.governorPeriod.gov.FormsGrant s.cfg.rate
      ((s.cfg.pinion.has .a && s.regs.a.voltageLimited) || (s.cfg.pinion.has .b && s.regs.b.voltageLimited)) s.gov.tp s.meas.n := by
  have hforms := Governor.grant_formsGrant ((s.gov.common s.cfg (s.regs.map Regulator.handOver)
    (s.watch.groups.map GroupWatch.demand)).regulate s.cfg (s.seq.r - s.meas.n)) s.cfg (s.regs.map Regulator.handOver) s.meas.n
    (baseLimits s.cfg s.seq.drive s.seq.runKind s.meas.n (s.gov.envelope.getD []))
  have hvalues := s.periodValues_of_governed hg
  rw [Governor.takeEnvelope_none hawait] at hvalues
  rw [← hvalues] at hforms
  obtain ⟨htg, htp, hdir, hat⟩ := hforms
  rw [governorPeriod_kept hg hdrive]
  exact ⟨htg, htp, hdir, hat⟩

theorem governorPeriod_limit {s : State} (hg : s.seq.drive.governed = true) (hawait : s.gov.awaiting = none)
    (hdrive : s.governorPeriod.seq.drive = s.seq.drive) (x : Side) (d : LimitDir) :
    (s.governorPeriod.gov.limit.get x).get d = if s.cfg.pinion.has x = true then
      (let env := envelopeAt (s.gov.envelope.getD []) |s.meas.n|
       let l := if s.seq.runKind = .creep then s.cfg.lc else if d = .regenerating then env.regenerating else env.motoring
       if s.seq.drive = .breakaway ∧ |s.meas.n| < s.cfg.nb then max l s.cfg.lb else l) *
        min s.gov.h (s.watch.groups.get x).demand / 1000 else 0 := by
  rw [governorPeriod_kept hg hdrive]
  change (s.periodValues.limit.get x).get d = _
  rw [s.periodValues_of_governed hg, Governor.takeEnvelope_none hawait, Governor.grant_limit, motorLimit_get, baseLimits_get,
    baseLimit_eq]
  cases x <;> rfl

/-- The grant that a governor forms, read on the limits of both directions. -/
theorem Governor.FormsGrant.read {r : Governor} {rate tp n : Int} {frozen : Bool} (h : r.FormsGrant rate frozen tp n)
    (hrate : 0 ≤ rate) {limit : Side → LimitDir → Int} (hlimit : ∀ x d, (r.limit.get x).get d = limit x d) :
    let dir := fun torque : Int => if torque * n < 0 then LimitDir.regenerating else .motoring
    let total := fun torque : Int => limit .a (dir torque) + limit .b (dir torque)
    let clamped := fun torque : Int => signOf torque * min |torque| (total torque)
    let tc := clamped r.td
    let stepped := if |tp| < |tc| ∨ tc * tp < 0 then tp + max (-rate) (min rate (tc - tp)) else tc
    let tr := if frozen then (if tp = 0 ∨ stepped * tp < 0 then 0
      else if |tp| < |stepped| then tp else stepped) else stepped
    r.tg = clamped tr ∧ r.tp = clamped tr ∧ r.limitDir = dir r.tg ∧
      r.atLimit = decide (r.tg ≠ 0 ∧ |r.tg| = total r.tg) := by
  intro dir total clamped tc stepped tr
  have hclamp : ∀ q, clampDirectional r.limit n q = clamped q := fun q => by
    rw [clampDirectional_eq, hlimit, hlimit]
  have htotal : totalLimit r.limit (directionOf r.tg n) = total r.tg := by
    rw [directionOf_eq]
    exact congrArg₂ (· + ·) (hlimit .a _) (hlimit .b _)
  have htg : r.tg = clamped tr := by rw [h.tg, hclamp, hclamp, rateStep_eq hrate, freeze_eq]
  exact ⟨htg, h.tp.trans htg, h.limitDir.trans (directionOf_eq _ n),
    h.atLimit.trans (congrArg (fun l => decide (r.tg ≠ 0 ∧ |r.tg| = l)) htotal)⟩

/-- Settles O58: the bounds are the law of the split with the circle of the demands, and a period that keeps the drive state
publishes the grant of its expiry. -/
theorem grantAndDemandsWithinLimits : Obligations.GrantAndDemandsWithinLimits := by
  refine ⟨fun s hg _ hawait hc he hh hd => ⟨s.governorPeriod, exec_governorPeriod s, ?_⟩,
    fun before after b b' v h => envelopeAt_between h, fun before b v h => envelopeAt_last h⟩
  have hnone : ∀ e k, s.gov.awaiting = some (e, k) → envelopeSane e := fun e k h => by simp [hawait] at h
  obtain ⟨hsum, ha, hb⟩ := State.governorPeriod_splitLaw hc he hnone hh hd
  obtain ⟨-, -, hrate, -, -, -, -, -, h0, him, -⟩ := hc
  intro la lb
  refine ⟨(abs_nonneg _).trans ha, (abs_nonneg _).trans hb, ?_, hsum, ha, hb, governorPeriod_circle hg h0 him, fun hdrive => ?_⟩
  · rw [← hsum]
    exact (abs_add_le _ _).trans (Int.add_le_add ha hb)
  · have hforms := governorPeriod_formsGrant hg hawait hdrive
    have hlimit := governorPeriod_limit hg hawait hdrive
    intro c n env base factor limit
    exact ⟨hlimit, hforms.read (limit := limit) ((by decide : (0 : Int) ≤ 1).trans hrate) hlimit⟩

end Sys2Proof.Machine
end

section
/-! The status block: its words in the order of the table of R182, and what a rewrite of it shows (R177, R179, R182). -/

namespace Sys2Proof.Machine

/-! ### The parts of the block (R182) -/

namespace State
variable (s : State)

/-- Words 0 to 5 with the update count `count`. -/
def clockWords (count : Word) : List Word :=
  [count, loWord s.req.partTime, hiWord s.req.partTime, loWord s.req.clock, hiWord s.req.clock, flagWord s.req.clockSet]

/-- Words 6 to 14. -/
def sequencerWords : List Word :=
  [natWord s.seq.drive.code, natWord s.seq.phase.code, natWord s.seq.runKind.code, natWord s.seq.direction.code,
    intWord s.seq.hostTarget, intWord s.seq.rampTarget, intWord s.seq.r, flagWord s.seq.restartPending, natWord s.req.misuse]

/-- Words 15 to 21. -/
def torqueWords : List Word :=
  [intWord s.gov.td, intWord s.gov.tg, intWord s.gov.torque.a, intWord s.gov.torque.b, intWord s.gov.publishedP, intWord s.gov.i,
    flagWord s.gov.hold]

/-- Words 22 to 27. -/
def limitWords : List Word :=
  [intWord (s.gov.publishedLimit .a), intWord (s.gov.publishedLimit .b), natWord s.gov.limitDir.code, intWord s.gov.factor.a,
    intWord s.gov.factor.b, intWord s.gov.h]

/-- Words 28 to 33. -/
def demandWords : List Word :=
  [intWord s.gov.estimate.a, intWord s.gov.estimate.b, intWord s.gov.idRef, intWord s.gov.iqRef.a, intWord s.gov.iqRef.b,
    flagWord s.gov.atLimit]

/-- Words 34 to 39. -/
def supervisionWords : List Word :=
  [natWord s.gov.devCount.a, natWord s.gov.devCount.b, flagWord s.gov.overspeed, intWord s.seq.flux, 0, 0]

/-- Words 128 to 135. -/
def groupWords : List Word :=
  [intWord s.watch.groups.a.demand, intWord s.watch.groups.b.demand, natWord s.watch.groups.a.dwell,
    natWord s.watch.groups.b.dwell, 0, 0, 0, 0]

/-- Words 141 to 147. -/
def windowWords : List Word :=
  [flagWord s.faults.lock, flagWord s.faults.windowOpen, loWord s.faults.firstCauseTime, hiWord s.faults.firstCauseTime, 0, 0, 0]

/-- Words 275 to 283. -/
def recordWords : List Word :=
  dwordWords s.record.deadline ++ nat32Words s.record.idCounter ++
    [natWord s.record.nextIndex.val, natWord s.record.unposted, 0, 0, 0]

theorem statusWords_parts (count : Word) : s.statusWords count =
    s.clockWords count ++ (s.sequencerWords ++ (s.torqueWords ++ (s.limitWords ++ (s.demandWords ++ (s.supervisionWords ++
    (s.regs.a.statusWords ++ (s.regs.b.statusWords ++ ((s.measWords ++ zeros 6) ++ (allChannels.flatMap s.channelWords ++
    (s.groupWords ++ (s.faults.presentWords ++ (s.faults.latchedWords ++ ([s.faults.seenWord] ++ (s.windowWords ++
    (s.faults.entries.toList.flatMap FaultEntry.statusWords ++ (zeros 4 ++ (s.record.banks.toList.flatMap Bank.statusWords ++
    (s.record.triggerWords ++ (s.recordWords ++ (s.store.statusWords ++ zeros 91)))))))))))))))))))) := by
  simp [State.statusWords, clockWords, sequencerWords, torqueWords, limitWords, demandWords, supervisionWords, groupWords,
    windowWords, recordWords, State.driveWords, dwordWords, zeros, List.replicate]

end State

theorem Regulator.statusWords_length (g : Regulator) : g.statusWords.length = 12 := by
  unfold Regulator.statusWords Published.pendingWords
  dsimp only
  cases g.published.pendingDuties <;> rfl

theorem State.channelWords_length (s : State) (c : Channel) : (s.channelWords c).length = 8 := by
  unfold State.channelWords
  split <;> rfl

theorem Bank.statusWords_length (b : Bank) : b.statusWords.length = 5 := by
  unfold Bank.statusWords
  cases b.trigId <;> rfl

theorem RecordUnit.triggerWords_length (r : RecordUnit) : r.triggerWords.length = 7 := by
  unfold RecordUnit.triggerWords
  cases r.program with
  | none => rfl
  | some p => obtain ⟨first, second, window, repeats⟩ := p; cases second <;> rfl

/-- Where each part of the status block stands in a memory that holds the block. -/
structure Memory.HoldsStatus (m : Memory) (s : State) (count : Word) : Prop where
  clock : m.Holds statusAddr (s.clockWords count)
  sequencer : m.Holds (statusAddr + 12) s.sequencerWords
  torques : m.Holds (statusAddr + 30) s.torqueWords
  limits : m.Holds (statusAddr + 44) s.limitWords
  demands : m.Holds (statusAddr + 56) s.demandWords
  supervision : m.Holds (statusAddr + 68) s.supervisionWords
  regs : ∀ x, m.Holds (statusAddr + 2 * (40 + 12 * sideCode x)) (s.regs.get x).statusWords
  measurement : m.Holds (statusAddr + 128) (s.measWords ++ zeros 6)
  channels : m.Holds (statusAddr + 160) (allChannels.flatMap s.channelWords)
  groups : m.Holds (statusAddr + 256) s.groupWords
  present : m.Holds (statusAddr + 272) s.faults.presentWords
  latched : m.Holds (statusAddr + 276) s.faults.latchedWords
  seen : m.Holds (statusAddr + 280) [s.faults.seenWord]
  window : m.Holds (statusAddr + 282) s.windowWords
  details : m.Holds (statusAddr + 296) (s.faults.entries.toList.flatMap FaultEntry.statusWords)
  gap : m.Holds (statusAddr + 488) (zeros 4)
  banks : m.Holds (statusAddr + 496) (s.record.banks.toList.flatMap Bank.statusWords)
  trigger : m.Holds (statusAddr + 536) s.record.triggerWords
  record : m.Holds (statusAddr + 550) s.recordWords
  store : m.Holds (statusAddr + 568) s.store.statusWords
  rest : m.Holds (statusAddr + 586) (zeros 91)

theorem allChannels_words_length (s : State) : (allChannels.flatMap s.channelWords).length = 48 := by
  simp [allChannels, State.channelWords_length]

theorem entries_words_length (f : FaultUnit) : (f.entries.toList.flatMap FaultEntry.statusWords).length = 96 := by
  simp [List.length_flatMap, FaultEntry.statusWords, dwordWords]

theorem banks_words_length (r : RecordUnit) : (r.banks.toList.flatMap Bank.statusWords).length = 20 := by
  simp [List.length_flatMap, Bank.statusWords_length]

/-- The first `n` words and the words after them. -/
theorem Memory.Holds.cut {m : Memory} {a n : Nat} {xs ys : List Word} (h : m.Holds a (xs ++ ys)) (hn : xs.length = n) :
    m.Holds a xs ∧ m.Holds (a + 2 * n) ys := hn ▸ (Memory.holds_append xs ys).mp h

theorem Memory.holdsStatus {m : Memory} {s : State} {count : Word} (h : m.Holds statusAddr (s.statusWords count)) :
    m.HoldsStatus s count := by
  rw [State.statusWords_parts] at h
  obtain ⟨clock, h⟩ := h.cut (n := 6) rfl
  obtain ⟨sequencer, h⟩ := h.cut (n := 9) rfl
  obtain ⟨torques, h⟩ := h.cut (n := 7) rfl
  obtain ⟨limits, h⟩ := h.cut (n := 6) rfl
  obtain ⟨demands, h⟩ := h.cut (n := 6) rfl
  obtain ⟨supervision, h⟩ := h.cut (n := 6) rfl
  obtain ⟨regA, h⟩ := h.cut s.regs.a.statusWords_length
  obtain ⟨regB, h⟩ := h.cut s.regs.b.statusWords_length
  obtain ⟨measurement, h⟩ := h.cut (n := 16) rfl
  obtain ⟨channels, h⟩ := h.cut (allChannels_words_length s)
  obtain ⟨groups, h⟩ := h.cut (n := 8) rfl
  obtain ⟨present, h⟩ := h.cut (n := 2) rfl
  obtain ⟨latched, h⟩ := h.cut (n := 2) rfl
  obtain ⟨seen, h⟩ := h.cut (n := 1) rfl
  obtain ⟨window, h⟩ := h.cut (n := 7) rfl
  obtain ⟨details, h⟩ := h.cut (entries_words_length s.faults)
  obtain ⟨gap, h⟩ := h.cut (n := 4) rfl
  obtain ⟨banks, h⟩ := h.cut (banks_words_length s.record)
  obtain ⟨trigger, h⟩ := h.cut s.record.triggerWords_length
  obtain ⟨record, h⟩ := h.cut (n := 9) rfl
  obtain ⟨store, rest⟩ := h.cut (n := 9) rfl
  have regs : ∀ x, m.Holds (statusAddr + 2 * (40 + 12 * sideCode x)) (s.regs.get x).statusWords
    | .a => regA
    | .b => regB
  exact ⟨clock, sequencer, torques, limits, demands, supervision, regs, measurement, channels, groups, present, latched, seen,
    window, details, gap, banks, trigger, record, store, rest⟩

/-! ### What the block shows -/

theorem vget_toList {α : Type} {n : Nat} (v : Vector α n) (i : Fin n) : v.toList[i.val]? = some (vget v i) := by
  simp [vget]

theorem allChannels_getElem (c : Channel) : allChannels[c.val]? = some c := by
  fin_cases c <;> rfl

/-- A bit of one of the two words of flags of the 32 kinds. -/
theorem kindFlags_bit (v : Vector FaultEntry 32) (flag : FaultEntry → Bool) (i : Fin 32) :
    (if i.val / 16 = 0 then packBits ((v.toList.take 16).map flag) else packBits ((v.toList.drop 16).map flag)).getLsbD (i.val % 16) =
      flag (vget v i) := by
  have hmod : i.val % 16 < 16 := Nat.mod_lt _ (by decide)
  have hentry := vget_toList v i
  split_ifs with h
  · have hi : i.val % 16 = i.val := by omega
    rw [packBits_getLsbD _ _ hmod, List.getD_eq_getElem?_getD, List.getElem?_map, List.getElem?_take_of_lt hmod, hi, hentry]
    rfl
  · have hi : 16 + i.val % 16 = i.val := by omega
    rw [packBits_getLsbD _ _ hmod, List.getD_eq_getElem?_getD, List.getElem?_map, List.getElem?_drop, hi, hentry]
    rfl

theorem seenWord_bit (f : FaultUnit) (i : Fin 32) (h : 22 ≤ i.val) : f.seenWord.getLsbD (i.val - 22) = (vget f.entries i).seen := by
  have hi : 22 + (i.val - 22) = i.val := by omega
  rw [FaultUnit.seenWord, packBits_getLsbD _ _ (by omega), List.getD_eq_getElem?_getD, List.getElem?_map, List.getElem?_drop, hi,
    vget_toList]
  rfl

theorem seenWord_rest (f : FaultUnit) {j : Nat} (h : 10 ≤ j) : f.seenWord.getLsbD j = false := by
  by_cases hj : j < 16
  · rw [FaultUnit.seenWord, packBits_getLsbD _ _ hj, List.getD_eq_getElem?_getD, List.getElem?_eq_none (by simp; omega)]
    rfl
  · exact BitVec.getLsbD_of_ge _ _ (by omega)

theorem Governor.publishedLimit_eq (g : Governor) (x : Side) : g.publishedLimit x = g.inForce (g.limit.get x) := by
  unfold Governor.publishedLimit Governor.inForce
  cases g.limitDir <;> rfl

theorem StickyErrors.word_eq (e : StickyErrors) : e.word =
    natWord (e.framing.toNat + 2 * e.parity.toNat + 4 * e.overrun.toNat + 8 * e.missing.toNat + 16 * e.overload.toNat) := by
  obtain ⟨f, p, o, m, l⟩ := e
  revert f p o m l
  decide

theorem opt32Words_eq (x : Option Nat) : opt32Words x = [orNone x, orNone (x.map (· / 65536))] := by
  cases x with
  | none => rfl
  | some n => exact nat32Words_eq n

/-- The status block shows the state where it holds the state's words. -/
theorem State.statusShown_of_holds {s : State} (h : s.mem.HoldsStatus s s.req.updateCount) : s.StatusShown where
  clock := h.clock.words rfl rfl
  sequencer := h.sequencer.words rfl rfl
  torques := by
    refine (h.torques.words (by omega) rfl).trans ?_
    rw [State.torqueWords, Governor.publishedP, clampAbs_eq_max (by decide)]
  limits := by
    refine (h.limits.words (by omega) rfl).trans ?_
    rw [State.limitWords, Governor.publishedLimit_eq, Governor.publishedLimit_eq]
    rfl
  demands := h.demands.words rfl rfl
  supervision := h.supervision.words rfl rfl
  measurement := h.measurement.words rfl rfl
  fitted c hc := by
    have hwords := (h.channels.block s.channelWords_length c.val c (allChannels_getElem c)).words (b := statusAddr + 2 * (80 + 8 * c.val))
      (by omega) (s.channelWords_length c).symm
    refine hwords.trans ?_
    rw [State.channelWords, if_pos hc, StickyErrors.word_eq]
    rfl
  notFitted c hc := by
    have hwords := (h.channels.block s.channelWords_length c.val c (allChannels_getElem c)).words (b := statusAddr + 2 * (80 + 8 * c.val))
      (by omega) (s.channelWords_length c).symm
    refine hwords.trans ?_
    rw [State.channelWords, hc]
    rfl
  groups := h.groups.words rfl rfl
  faults f := by
    have hlt : f.num.val < 32 := f.num.isLt
    have hpresent := kindFlags_bit s.faults.entries FaultEntry.present f.num
    have hlatched := kindFlags_bit s.faults.entries FaultEntry.latched f.num
    obtain ⟨present0, present1⟩ := (Memory.holds_cons _ _).mp h.present
    obtain ⟨latched0, latched1⟩ := (Memory.holds_cons _ _).mp h.latched
    unfold State.statusBit
    by_cases hword : f.num.val / 16 = 0
    · rw [if_pos hword] at hpresent hlatched
      rw [hword, show statusAddr + 2 * (136 + 0) = statusAddr + 272 from rfl,
        show statusAddr + 2 * (138 + 0) = statusAddr + 276 from rfl, present0, latched0]
      exact ⟨hpresent, hlatched⟩
    · have hone : f.num.val / 16 = 1 := by omega
      rw [if_neg hword] at hpresent hlatched
      rw [hone, show statusAddr + 2 * (136 + 1) = statusAddr + 272 + 2 from rfl,
        show statusAddr + 2 * (138 + 1) = statusAddr + 276 + 2 from rfl, present1.word rfl, latched1.word rfl]
      exact ⟨hpresent, hlatched⟩
  seen f hf := by
    rw [State.statusBit, h.seen.word rfl]
    exact seenWord_bit s.faults f.num hf
  seenRest j hj := by
    rw [State.statusBit, h.seen.word rfl]
    exact seenWord_rest s.faults hj
  window := h.window.words rfl rfl
  details f := by
    have hblock := h.details.block (n := 3) (fun e => rfl) f.num.val _ (vget_toList s.faults.entries f.num)
    refine (hblock.words (b := statusAddr + 2 * (148 + 3 * f.num.val)) (n := 3) (by omega) rfl).trans ?_
    rw [FaultEntry.statusWords, optWord_eq_orNone]
    rfl
  banks i := by
    have hblock := h.banks.block Bank.statusWords_length i.val _ (vget_toList s.record.banks i)
    refine (hblock.words (b := statusAddr + 2 * (248 + 5 * i.val)) (by omega) (Bank.statusWords_length _).symm).trans ?_
    rw [Bank.statusWords, opt32Words_eq]
    rfl
  trigger := by
    refine (h.trigger.words rfl s.record.triggerWords_length.symm).trans ?_
    unfold RecordUnit.triggerWords
    cases s.record.program with
    | none => rfl
    | some p => simp only [condWords_eq]
  record := by
    refine (h.record.words rfl rfl).trans ?_
    rw [State.recordWords, nat32Words_eq]
    rfl
  store := by
    refine (h.store.words rfl rfl).trans ?_
    simp only [StoreUnit.statusWords, optWord_eq_orNone]
  gap := h.gap.words rfl rfl
  rest := h.rest.words rfl rfl

/-! ### A rewrite of the block (R177) -/

theorem State.rewriteStatus_started {s : State} (h : s.req.starting = false) : s.rewriteStatus =
    (s.setReq { s.req with updateCount := s.req.updateCount + 2 }).writeWords statusAddr (s.statusWords (s.req.updateCount + 2)) := by
  rw [State.rewriteStatus, if_neg (by simp [h])]

theorem State.rewriteStatus_holds {s : State} (h : s.req.starting = false) :
    s.rewriteStatus.mem.HoldsStatus s.rewriteStatus s.rewriteStatus.req.updateCount := by
  rw [s.rewriteStatus_started h]
  exact Memory.holdsStatus (Memory.holds_writeWords _ _ _)

theorem State.rewriteStatus_shown {s : State} (h : s.req.starting = false) : s.rewriteStatus.StatusShown :=
  State.statusShown_of_holds (State.rewriteStatus_holds h)

theorem State.rewriteStatus_count {s : State} (h : s.req.starting = false) :
    s.rewriteStatus.req.updateCount = s.req.updateCount + 2 ∧ s.rewriteStatus.mem.readWord statusAddr = s.req.updateCount + 2 := by
  have hcount : s.rewriteStatus.req.updateCount = s.req.updateCount + 2 := by rw [s.rewriteStatus_started h]; rfl
  exact ⟨hcount, (((Memory.holds_cons _ _).mp (State.rewriteStatus_holds h).clock).1).trans hcount⟩

/-- The words of a regulator in the block. -/
theorem State.rewriteStatus_regulator {s : State} (h : s.req.starting = false) (x : Side) :
    s.rewriteStatus.mem.readWords (statusAddr + 2 * (40 + 12 * sideCode x)) 12 = (s.regs.get x).statusWords := by
  have hregs : s.rewriteStatus.regs = s.regs := by rw [s.rewriteStatus_started h]; rfl
  have hwords := ((State.rewriteStatus_holds h).regs x).words rfl (Regulator.statusWords_length _).symm
  rwa [hregs] at hwords

end Sys2Proof.Machine
end

section
/-! The take of the regulators at a governor period and the publication of its values, before the reports (R41, R80, R129). -/

namespace Sys2Proof.Machine

namespace State

/-! ### What the take and the publication leave -/

/-- `t` is `s` but for the regulators, the governor, VOLTAGE LIMITED, and what trigger conditions write. -/
structure Took (s t : State) : Prop where
  seq : t.seq = s.seq
  field : s.sameField t
  store : t.store = s.store
  lock : t.faults.lock = s.faults.lock
  others : ∀ j, j ≠ .voltageLimited → t.faults.entry j = s.faults.entry j
  resets : t.record.resets = s.record.resets
  settings : t.record.settings = s.record.settings
  aside : s.Aside t
  trigger : s.TriggerKept t

variable {s t u : State}

theorem Took.trans (h : s.Took t) (h' : t.Took u) : s.Took u where
  seq := h'.seq.trans h.seq
  field := by
    obtain ⟨h1, h2, h3, h4, h5⟩ := h.field
    obtain ⟨h1', h2', h3', h4', h5'⟩ := h'.field
    exact ⟨h1'.trans h1, h2'.trans h2, h3'.trans h3, h4'.trans h4, h5'.trans h5⟩
  store := h'.store.trans h.store
  lock := h'.lock.trans h.lock
  others j hj := (h'.others j hj).trans (h.others j hj)
  resets := h'.resets.trans h.resets
  settings := h'.settings.trans h.settings
  aside := h.aside.trans h'.aside
  trigger := h.trigger.trans h'.trigger

theorem Took.refl (s : State) : s.Took s :=
  ⟨rfl, ⟨rfl, rfl, rfl, rfl, rfl⟩, rfl, rfl, fun _ _ => rfl, rfl, rfl, .refl s, .refl s⟩

theorem Took.cfg (h : s.Took t) : t.cfg = s.cfg := by
  obtain ⟨-, -, hdrive, -, -⟩ := h.field
  rw [State.cfg, hdrive]
  rfl

theorem Took.inSet (h : s.Took t) (x : Side) : t.inSet x = s.inSet x := by rw [State.inSet, h.cfg]; rfl

theorem Took.source (h : s.Took t) {j : FaultKind} (hj : j ≠ .voltageLimited) (src : Source) :
    t.sourcePresent j src = s.sourcePresent j src := by rw [State.sourcePresent, h.others j hj]; rfl

theorem setReg_took (s : State) (x : Side) (g : Regulator) : s.Took (s.setReg x g) :=
  ⟨rfl, ⟨rfl, rfl, rfl, rfl, rfl⟩, rfl, rfl, fun _ _ => rfl, rfl, rfl, .of_same rfl rfl, .of_eq rfl rfl rfl rfl rfl⟩

theorem setGov_took (s : State) (g : Governor) : s.Took (s.setGov g) :=
  ⟨rfl, ⟨rfl, rfl, rfl, rfl, rfl⟩, rfl, rfl, fun _ _ => rfl, rfl, rfl, .of_same rfl rfl, .of_eq rfl rfl rfl rfl rfl⟩

theorem takeCond_took (s : State) {c : TrigCond} (hc : c ≠ .manual) (d : Option Nat) : s.Took (s.takeCond c d) := by
  have heq := s.takeCond_eq c d
  have hfaults : (s.takeCond c d).faults = s.faults := by rw [heq]
  refine ⟨by rw [heq], ?_, by rw [heq], by rw [hfaults], fun j _ => by rw [hfaults], s.takeCond_keeps c d,
    s.takeCond_settings c d, s.takeCond_aside c d, s.takeCond_triggerKept hc d⟩
  rw [heq]
  exact ⟨rfl, rfl, rfl, rfl, rfl⟩

theorem takeCond_regs (s : State) (c : TrigCond) (d : Option Nat) : (s.takeCond c d).regs = s.regs := by rw [s.takeCond_eq]

theorem takeCond_faults (s : State) (c : TrigCond) (d : Option Nat) : (s.takeCond c d).faults = s.faults := by rw [s.takeCond_eq]

theorem takeCond_gov (s : State) (c : TrigCond) (d : Option Nat) : (s.takeCond c d).gov = s.gov := by rw [s.takeCond_eq]

/-! ### The take of a regulator (R80) -/

/-- The regulator taken and its VOLTAGE LIMITED reported, before the trigger condition. -/
def regulatorReported (s : State) (x : Side) : State :=
  (s.setReg x ((s.regs.get x).taken (s.inSet x))).alarmLevel .voltageLimited (sideSource x) (some (sideCode x))
    ((s.regs.get x).taken (s.inSet x)).limitedCond

theorem takeRegulator_eq (s : State) (x : Side) : s.takeRegulator x =
    if (s.regs.get x).voltageLimited && !(s.regs.get x).lastPeriod then
      (s.regulatorReported x).takeCond .voltageLimited (some (sideCode x))
    else s.regulatorReported x := rfl

theorem regulatorReported_took (s : State) (x : Side) : s.Took (s.regulatorReported x) := by
  have hreported := State.alarmLevel_reported (s.setReg x ((s.regs.get x).taken (s.inSet x))) .voltageLimited (sideSource x)
    (some (sideCode x)) ((s.regs.get x).taken (s.inSet x)).limitedCond
  have haside : (s.setReg x ((s.regs.get x).taken (s.inSet x))).Aside (s.regulatorReported x) := by
    unfold State.regulatorReported State.alarmLevel
    split
    · exact State.alarmRise_aside _ _ _ _
    · exact State.fall_aside _ _ _
  have hlock : (s.regulatorReported x).faults.lock = s.faults.lock := by simp [State.regulatorReported]
  have hothers : ∀ j, j ≠ .voltageLimited → (s.regulatorReported x).faults.entry j = s.faults.entry j := fun j hj =>
    State.alarmLevel_other _ _ _ _ hj
  refine (s.setReg_took x _).trans ⟨?_, ?_, ?_, hlock, hothers, ?_, ?_, haside, hreported.formed.swept.trigger⟩
  all_goals
    unfold State.regulatorReported
    rw [hreported]
  exact ⟨rfl, rfl, rfl, rfl, rfl⟩

theorem regulatorReported_regs (s : State) (x : Side) :
    (s.regulatorReported x).regs = s.regs.set x ((s.regs.get x).taken (s.inSet x)) := by
  unfold State.regulatorReported
  rw [State.alarmLevel_reported]
  rfl

theorem takeRegulator_took (s : State) (x : Side) : s.Took (s.takeRegulator x) := by
  rw [takeRegulator_eq]
  split
  · exact (s.regulatorReported_took x).trans (State.takeCond_took _ (by nofun) _)
  · exact s.regulatorReported_took x

theorem takeRegulator_regs (s : State) (x : Side) :
    (s.takeRegulator x).regs = s.regs.set x ((s.regs.get x).taken (s.inSet x)) := by
  rw [takeRegulator_eq]
  split
  · rw [takeCond_regs, regulatorReported_regs]
  · exact s.regulatorReported_regs x

theorem takeRegulator_faults (s : State) (x : Side) : (s.takeRegulator x).faults = (s.regulatorReported x).faults := by
  rw [takeRegulator_eq]
  split
  · exact takeCond_faults _ _ _
  · rfl

/-- A rise of the flag is a trigger condition (R129). -/
theorem takeRegulator_takes (s : State) {x : Side} (hnow : (s.regs.get x).voltageLimited = true)
    (hlast : (s.regs.get x).lastPeriod = false) : s.Takes (s.takeRegulator x) .voltageLimited := by
  rw [takeRegulator_eq, hnow, hlast]
  exact ⟨_, _, (s.regulatorReported_took x).trigger, .refl _⟩

theorem regulatorReported_otherSource (s : State) {x y : Side} (h : y ≠ x) :
    (s.regulatorReported x).sourcePresent .voltageLimited (sideSource y) = s.sourcePresent .voltageLimited (sideSource y) := by
  have hsrc : sideSource y ≠ sideSource x := by cases x <;> cases y <;> simp_all [sideSource]
  exact State.alarmLevel_otherSource _ _ _ _ hsrc

/-- VOLTAGE LIMITED seen stays seen where no host clears it (R111). -/
theorem regulatorReported_seen (s : State) (x : Side) (h : (s.faults.entry .voltageLimited).seen = true) :
    ((s.regulatorReported x).faults.entry .voltageLimited).seen = true := by
  unfold State.regulatorReported State.alarmLevel
  split
  · unfold State.alarmRise
    split
    · exact h
    · simp only [State.setEntry, State.raiseNotice, State.setReq_faults, State.setFaults_faults, FaultUnit.entry_setEntry_same]
  · unfold State.fall
    split
    · simp only [State.setEntry, State.setFaults_faults, FaultUnit.entry_setEntry_same]
      cases x <;> exact h
    · exact h

theorem regulatorReported_rises (s : State) {x : Side} (h : ((s.regs.get x).taken (s.inSet x)).limitedCond = true) :
    (s.regulatorReported x).sourcePresent .voltageLimited (sideSource x) = true ∧
    (s.sourcePresent .voltageLimited (sideSource x) = false →
      ((s.regulatorReported x).faults.entry .voltageLimited).seen = true) := by
  rw [State.regulatorReported, h]
  refine ⟨State.alarmRise_source _ _ _ _, fun habsent => ?_⟩
  have habsent' : ¬(s.setReg x ((s.regs.get x).taken (s.inSet x))).sourcePresent .voltageLimited (sideSource x) = true := by
    rw [Bool.not_eq_true]
    exact habsent
  show ((State.alarmRise _ _ _ _).faults.entry _).seen = true
  rw [State.alarmRise, if_neg habsent']
  simp only [State.setEntry, State.raiseNotice, State.setReq_faults, State.setFaults_faults, FaultUnit.entry_setEntry_same]

end State

end Sys2Proof.Machine
end

section
/-! What the reports of a governor period leave where no restart is pending (R59 to R61, R106 to R109). -/

namespace Sys2Proof.Machine

/-- The trip kinds that a governor period reports. -/
def FaultKind.ofGovernor : FaultKind → Bool
  | .torqueDev _ | .jam | .overspeed => true
  | _ => false

namespace State

/-! ### A trip rise with no restart pending -/

section
variable {s : State}

/-- A trip rise leaves drive state and governor, or is a first cause: TRIPPED with the governor at rest (R34, R43). -/
theorem tripRise_outcome (k : FaultKind) (src : Source) (hr : s.seq.restartPending = false) :
    ((s.tripRise k src).seq = s.seq ∧ (s.tripRise k src).gov = s.gov) ∨
    ((s.tripRise k src).seq = s.seq.afterTrip ∧ (s.tripRise k src).gov = s.gov.zeroed) := by
  have hseq : (s.latchRise k src none).seq = s.seq := by simp
  have hgov : (s.latchRise k src none).gov = s.gov := by simp
  have hr' : (s.latchRise k src none).seq.restartPending = false := by rw [hseq, hr]
  unfold State.tripRise
  split
  · exact .inl ⟨rfl, rfl⟩
  · unfold State.tripCause
    split
    · exact .inl ⟨hseq, hgov⟩
    · split
      · exact .inl ⟨by simp, by simp⟩
      · obtain ⟨hfirst, hzeroed, -⟩ := State.firstCause_calm_eqs (s.latchRise k src none) k none hr'
        obtain ⟨-, -, -, -, hcloseSeq, hcloseGov, -⟩ := ((s.latchRise k src none).firstCause k none).closeIfZero_frame
        exact .inr ⟨by rw [hcloseSeq, hfirst, hseq], by rw [hcloseGov, hzeroed, hgov]⟩

/-- A pulse leaves the entries of the other kinds but those formed at rest. -/
theorem tripPulse_entry {j k : FaultKind} (hj : j.ofRest = false) (h : j ≠ k) (hr : s.seq.restartPending = false) :
    (s.tripPulse k).faults.entry j = s.faults.entry j := by
  rw [State.tripPulse, State.fall_other _ _ h, State.tripRise_entry _ hj _ _ hr, State.latchRise_other _ _ _ h]

theorem tripLevel_entry {j k : FaultKind} (hj : j.ofRest = false) (h : j ≠ k) (now : Bool) (hr : s.seq.restartPending = false) :
    (s.tripLevel k now).faults.entry j = s.faults.entry j := by
  unfold State.tripLevel
  split
  · rw [State.tripRise_entry _ hj _ _ hr, State.latchRise_other _ _ _ h]
  · exact State.fall_other _ _ h

end

/-! ### What the reports leave -/

/-- `t` is `s` but for trips that the governor reports: drive state and governor are kept or come to rest. -/
structure Supervised (s t : State) : Prop where
  calm : t.seq.restartPending = false
  outcome : (t.seq = s.seq ∧ t.gov = s.gov) ∨ (t.seq.drive = .tripped ∧ t.gov = s.gov.zeroed)
  field : s.sameField t
  resets : t.record.resets = s.record.resets
  regs : s.RegsKept t
  aside : s.Aside t
  trigger : s.TriggerKept t
  others : ∀ j, j.ofRest = false → j.ofGovernor = false → t.faults.entry j = s.faults.entry j

variable {s t u : State}

theorem Supervised.refl (hr : s.seq.restartPending = false) : s.Supervised s :=
  ⟨hr, .inl ⟨rfl, rfl⟩, ⟨rfl, rfl, rfl, rfl, rfl⟩, rfl, .of_eq rfl, .refl s, .refl s, fun _ _ _ => rfl⟩

theorem Supervised.trans (h : s.Supervised t) (h' : t.Supervised u) : s.Supervised u where
  calm := h'.calm
  outcome := by
    rcases h'.outcome with ⟨hseq', hgov'⟩ | ⟨hseq', hgov'⟩
    · rw [hseq', hgov']
      exact h.outcome
    · refine .inr ⟨hseq', hgov'.trans ?_⟩
      rcases h.outcome with ⟨-, hgov⟩ | ⟨-, hgov⟩
      · rw [hgov]
      · rw [hgov]
        rfl
  field := by
    obtain ⟨h1, h2, h3, h4, h5⟩ := h.field
    obtain ⟨h1', h2', h3', h4', h5'⟩ := h'.field
    exact ⟨h1'.trans h1, h2'.trans h2, h3'.trans h3, h4'.trans h4, h5'.trans h5⟩
  resets := h'.resets.trans h.resets
  regs := h.regs.trans h'.regs
  aside := h.aside.trans h'.aside
  trigger := h.trigger.trans h'.trigger
  others j hj hg := (h'.others j hj hg).trans (h.others j hj hg)

theorem tripRise_supervised {k : FaultKind} (hk : k.ofGovernor = true) (hr : s.seq.restartPending = false) :
    s.Supervised (s.tripRise k .first) where
  calm := (s.tripRise_calm k .first hr).1
  outcome := (s.tripRise_outcome k .first hr).imp_right fun ⟨hseq, hgov⟩ => ⟨by rw [hseq]; rfl, hgov⟩
  field := s.tripRise_sameField k .first hr
  resets := (s.tripRise_calm k .first hr).2.1
  regs := s.tripRise_regsKept k .first hr
  aside := State.tripRise_aside k .first hr
  trigger := State.tripRise_trigger k .first hr
  others j hj hg := by
    have hne : j ≠ k := fun h => by rw [h, hk] at hg; contradiction
    rw [State.tripRise_entry _ hj _ _ hr, State.latchRise_other _ _ _ hne]

theorem fall_supervised {k : FaultKind} (hk : k.ofGovernor = true) (src : Source) (hr : s.seq.restartPending = false) :
    s.Supervised (s.fall k src) where
  calm := by simpa using hr
  outcome := .inl ⟨by simp, by simp⟩
  field := ⟨by simp, by simp, by simp, by simp, by simp⟩
  resets := by simp
  regs := .of_eq (by simp)
  aside := s.fall_aside k src
  trigger := (State.fall_reported s k src).formed.swept.trigger
  others j _ hg := State.fall_other _ _ fun h => by rw [h, hk] at hg; contradiction

theorem tripPulse_supervised {k : FaultKind} (hk : k.ofGovernor = true) (hr : s.seq.restartPending = false) :
    s.Supervised (s.tripPulse k) :=
  (State.tripRise_supervised hk hr).trans (State.fall_supervised hk .first (s.tripRise_calm k .first hr).1)

theorem tripLevel_supervised {k : FaultKind} (hk : k.ofGovernor = true) (now : Bool) (hr : s.seq.restartPending = false) :
    s.Supervised (s.tripLevel k now) := by
  unfold State.tripLevel
  split
  · exact State.tripRise_supervised hk hr
  · exact State.fall_supervised hk .first hr

/-- A report that is made or not. -/
def reportIf (b : Bool) (k : FaultKind) (s : State) : State := if b then s.tripPulse k else s

theorem reportIf_supervised {k : FaultKind} (hk : k.ofGovernor = true) (b : Bool) (hr : s.seq.restartPending = false) :
    s.Supervised (s.reportIf b k) := by
  cases b with
  | false => exact .refl hr
  | true => exact State.tripPulse_supervised hk hr

theorem reportIf_entry {j k : FaultKind} (hj : j.ofRest = false) (h : j ≠ k) (b : Bool) (hr : s.seq.restartPending = false) :
    (s.reportIf b k).faults.entry j = s.faults.entry j := by
  cases b with
  | false => rfl
  | true => exact State.tripPulse_entry hj h hr

theorem unlessReset_calm {s0 : State} {f : State → State} (h : s0.Supervised s) : s0.unlessReset f s = f s := if_pos h.resets

/-! ### The reports of an expiry -/

/-- The deviations reported, A before B. -/
def devReported (s : State) (devA devB : Bool) : State := (s.reportIf devA (.torqueDev .a)).reportIf devB (.torqueDev .b)

theorem devReported_supervised (devA devB : Bool) (hr : s.seq.restartPending = false) : s.Supervised (s.devReported devA devB) :=
  have ha := State.reportIf_supervised (s := s) (k := .torqueDev .a) rfl devA hr
  ha.trans (State.reportIf_supervised rfl devB ha.calm)

theorem devReported_entry {j : FaultKind} (hj : j.ofRest = false) (h : ∀ x, j ≠ .torqueDev x) (devA devB : Bool)
    (hr : s.seq.restartPending = false) : (s.devReported devA devB).faults.entry j = s.faults.entry j := by
  rw [State.devReported, State.reportIf_entry hj (h .b) _ (State.reportIf_supervised rfl devA hr).calm,
    State.reportIf_entry hj (h .a) _ hr]

/-- With no restart pending the reports follow one another (log 20). -/
theorem governorReports_eq (devA devB jam fast : Bool) (hr : s.seq.restartPending = false) :
    s.governorReports devA devB jam fast = ((s.devReported devA devB).reportIf jam .jam).tripLevel .overspeed fast := by
  have ha := State.reportIf_supervised (s := s) (k := .torqueDev .a) rfl devA hr
  have hb := State.devReported_supervised (s := s) devA devB hr
  have hj := hb.trans (State.reportIf_supervised (k := .jam) rfl jam hb.calm)
  have hfold : s.governorReports devA devB jam fast = s.unlessReset (fun u => u.tripLevel .overspeed fast)
      (s.unlessReset (fun u => u.reportIf jam .jam) (s.unlessReset (fun u => u.reportIf devB (.torqueDev .b))
        (s.reportIf devA (.torqueDev .a)))) := rfl
  have hsecond : s.unlessReset (fun u => u.reportIf devB (.torqueDev .b)) (s.reportIf devA (.torqueDev .a)) =
      s.devReported devA devB := State.unlessReset_calm ha
  rw [hfold, hsecond, State.unlessReset_calm hb, State.unlessReset_calm hj]

theorem governorReports_supervised (devA devB jam fast : Bool) (hr : s.seq.restartPending = false) :
    s.Supervised (s.governorReports devA devB jam fast) := by
  rw [State.governorReports_eq _ _ _ _ hr]
  have hb := State.devReported_supervised (s := s) devA devB hr
  have hj := hb.trans (State.reportIf_supervised (k := .jam) rfl jam hb.calm)
  exact hj.trans (State.tripLevel_supervised rfl fast hj.calm)

/-! ### First causes and follow-ons (R108, R109) -/

/-- From `s`, a first cause taken in `v` is one of `s`, or one has been taken already. -/
def AtTrip (s v : State) : Prop :=
  (v.tripReady ∧ v.seq.afterTrip = s.seq.afterTrip ∧ v.drive = s.drive ∧ v.pending = s.pending) ∨ ∃ k, State.Tripped s v k

section
variable {v : State}

theorem Tripped.tripPulse {k : FaultKind} (h : State.Tripped s t k) (j : FaultKind) : State.Tripped s (t.tripPulse j) k :=
  (h.tripLevel j true).tripLevel j false

theorem Tripped.reportIf {k : FaultKind} (h : State.Tripped s t k) (b : Bool) (j : FaultKind) :
    State.Tripped s (t.reportIf b j) k := by
  cases b with
  | false => exact h
  | true => exact h.tripPulse j

/-- A rise of an absent source stands as a trip of its kind: the first cause, or one latched after it. -/
theorem AtTrip.tripRise (h : s.AtTrip v) {k : FaultKind} (ha : v.sourcePresent k .first = false) :
    State.Tripped s (v.tripRise k .first) k := by
  rcases h with ⟨hready, hseq, hdrive, hpending⟩ | ⟨j, hj⟩
  · exact (v.tripRise_tripped k .first hready ha).of_same hseq hdrive hpending
  · have hd : v.seq.drive ≠ .unconfigured := by rw [hj.seq]; exact DriveState.noConfusion
    obtain ⟨hseq, hrest, hlock, -, hsettings, hqueue⟩ := hj.tripLevel k true
    refine ⟨hseq, hrest, hlock, ?_, hsettings, hqueue⟩
    rw [v.tripRise_locked k .first hd hj.lock ha]
    have hlatched := v.latchRise_latched k .first none ha
    unfold State.followOnCause
    split <;> exact hlatched

theorem Tripped.fall {k : FaultKind} (h : State.Tripped s t k) (j : FaultKind) : State.Tripped s (t.fall j .first) k :=
  h.tripLevel j false

theorem AtTrip.tripPulse_trips (h : s.AtTrip v) {k : FaultKind} (ha : v.sourcePresent k .first = false) :
    State.Tripped s (v.tripPulse k) k := Tripped.fall (h.tripRise ha) k

theorem AtTrip.fall (h : s.AtTrip v) (k : FaultKind) : s.AtTrip (v.fall k .first) := by
  rcases h with ⟨⟨hu, ht, hlock, hr⟩, hseq, hdrive, hpending⟩ | ⟨j, hj⟩
  · have hsame : (v.fall k .first).seq = v.seq := by simp
    refine .inl ⟨⟨?_, ?_, by simpa using hlock, ?_⟩, ?_, by simpa using hdrive, by simpa using hpending⟩ <;> rwa [hsame]
  · exact .inr ⟨j, hj.fall k⟩

theorem AtTrip.reportIf (h : s.AtTrip v) (b : Bool) (k : FaultKind) : s.AtTrip (v.reportIf b k) := by
  cases b with
  | false => exact h
  | true =>
    cases ha : v.sourcePresent k .first with
    | false => exact .inr ⟨k, h.tripPulse_trips ha⟩
    | true =>
      have hsame : v.tripRise k .first = v := if_pos ha
      show s.AtTrip ((v.tripRise k .first).fall k .first)
      rw [hsame]
      exact h.fall k

end

end State

end Sys2Proof.Machine
end

section
/-! The governor period with no restart pending, step by step: take, publication, reports, end (R41 to R64). -/

namespace Sys2Proof.Machine

/-! ### The regulators after a take (R80) -/

/-- A regulator after a governor period: taken, and perhaps blocked by a trip. -/
theorem Regulator.taken_fields (g : Regulator) (inSet : Bool) :
    (g.taken inSet).iqSum = 0 ∧ (g.taken inSet).iqCount = 0 ∧ (g.taken inSet).voltageLimited = false ∧
      (g.taken inSet).lastPeriod = g.voltageLimited := ⟨rfl, rfl, rfl, rfl⟩

theorem Regulator.Kept.takeFields {g r : Regulator} (h : g.Kept r) : r.iqSum = g.iqSum ∧ r.iqCount = g.iqCount ∧
    r.voltageLimited = g.voltageLimited ∧ r.lastPeriod = g.lastPeriod ∧ r.limitedRun = g.limitedRun := by
  rcases h with rfl | rfl <;> exact ⟨rfl, rfl, rfl, rfl, rfl⟩

theorem Regulator.Kept.statusWords {g r : Regulator} (h : g.Kept r) : r.statusWords = g.statusWords := by
  rcases h with rfl | rfl <;> rfl

theorem Governor.takeEnvelope_atLimit (g : Governor) : g.takeEnvelope.atLimit = g.atLimit := by
  unfold Governor.takeEnvelope
  split <;> rfl

namespace State
variable (s : State)

/-! ### The states of a period -/

/-- The values published and TORQUE AT LIMIT taken as a trigger condition. -/
def periodTaken : State :=
  if s.periodValues.atLimit && !s.gov.atLimit then s.periodPublished.takeCond .torqueAtLimit none else s.periodPublished

/-- The deviation of motor X as an expiry finds it. -/
def devFound (x : Side) : Bool := s.periodValues.deviation s.cfg s.seq.drive x

/-- JAM as an expiry finds it. -/
def jamFound : Bool := s.periodValues.jam s.cfg s.seq.drive s.meas.n

/-- The deviations reported. -/
def periodDeviated : State := s.periodTaken.devReported (s.devFound .a) (s.devFound .b)

/-- The deviations and JAM reported. -/
def periodJammed : State := s.periodDeviated.reportIf s.jamFound .jam

/-- All reports made. -/
def periodReported : State := s.periodJammed.tripLevel .overspeed (overspeedAt s.cfg.nmax s.meas.n)

theorem periodStart_took : s.Took s.periodStart :=
  ((s.takeRegulator_took .a).trans (takeRegulator_took _ .b)).trans (setGov_took _ _)

theorem periodPublished_took : s.Took s.periodPublished := s.periodStart_took.trans (setGov_took _ _)

theorem periodTaken_took : s.Took s.periodTaken := by
  unfold periodTaken
  split
  · exact s.periodPublished_took.trans (takeCond_took _ (by nofun) _)
  · exact s.periodPublished_took

theorem periodTaken_gov : s.periodTaken.gov = s.periodValues.supervised s.cfg s.seq.drive s.meas.n := by
  unfold periodTaken
  split
  · rw [takeCond_gov, periodPublished_gov]
  · exact s.periodPublished_gov

theorem periodTaken_faults : s.periodTaken.faults = ((s.takeRegulator .a).takeRegulator .b).faults := by
  unfold periodTaken
  split
  · exact takeCond_faults _ _ _
  · rfl

theorem periodTaken_reg (x : Side) : s.periodTaken.regs.get x = (s.regs.get x).taken (s.inSet x) := by
  have hregs : s.periodTaken.regs = ((s.takeRegulator .a).takeRegulator .b).regs := by
    unfold periodTaken
    split
    · exact takeCond_regs _ _ _
    · rfl
  rw [hregs, takeRegulator_regs, takeRegulator_regs, (s.takeRegulator_took .a).inSet]
  cases x <;> rfl

section calm
variable {s} (hr : s.seq.restartPending = false)
include hr

theorem periodTaken_calm : s.periodTaken.seq.restartPending = false := by rw [s.periodTaken_took.seq, hr]

theorem periodDeviated_supervised : s.periodTaken.Supervised s.periodDeviated :=
  devReported_supervised _ _ (periodTaken_calm hr)

theorem periodJammed_supervised : s.periodTaken.Supervised s.periodJammed :=
  (periodDeviated_supervised hr).trans (reportIf_supervised rfl _ (periodDeviated_supervised hr).calm)

theorem periodReported_supervised : s.periodTaken.Supervised s.periodReported :=
  (periodJammed_supervised hr).trans (tripLevel_supervised rfl _ (periodJammed_supervised hr).calm)

/-- The period is its reports and its end. -/
theorem governorPeriod_eq : s.governorPeriod = governorEnd (s.gov.awaiting.map Prod.snd) s.periodReported := by
  have hpublish : s.periodStart.governorPublish (s.regs.map Regulator.handOver) = s.periodReported := by
    have hreports := governorReports_eq (s := s.periodTaken) (s.devFound .a) (s.devFound .b) s.jamFound
      (overspeedAt s.cfg.nmax s.meas.n) (periodTaken_calm hr)
    refine Eq.trans ?_ hreports
    unfold State.governorPublish
    rw [periodStart_cfg, periodStart_seq, periodStart_meas, periodStart_watch, periodStart_gov, Governor.takeEnvelope_atLimit]
    rfl
  have hstart : s.governorPeriod = s.unlessReset (governorEnd (s.gov.awaiting.map Prod.snd))
      (s.periodStart.governorPublish (s.regs.map Regulator.handOver)) := by
    simp [State.governorPeriod, State.periodStart]
  rw [hstart, hpublish]
  exact if_pos ((periodReported_supervised hr).resets.trans s.periodTaken_took.resets)

theorem governorPeriod_plain (hawait : s.gov.awaiting = none) : s.governorPeriod = s.periodReported.rewriteStatus := by
  rw [governorPeriod_eq hr, hawait]
  rfl

end calm

theorem rewriteStatus_faults : s.rewriteStatus.faults = s.faults := by simp

/-- The units that a rewrite of the status block leaves. -/
theorem rewriteStatus_units : s.rewriteStatus.seq = s.seq ∧ s.rewriteStatus.gov = s.gov ∧ s.rewriteStatus.regs = s.regs ∧
    s.rewriteStatus.faults = s.faults ∧ s.rewriteStatus.record = s.record ∧ s.sameField s.rewriteStatus := by
  refine ⟨by simp, by simp, by simp, by simp, by simp, by simp, by simp, by simp, by simp, by simp⟩

theorem rewriteStatus_trigger : s.TriggerKept s.rewriteStatus := by
  refine .of_eq ?_ (by simp) (by simp) (by simp) (by simp)
  unfold State.rewriteStatus
  split <;> rfl

/-- The units before the rewrite of the status block that ends a period. -/
theorem starting_periodReported {s : State} (hr : s.seq.restartPending = false) :
    s.periodReported.req.starting = s.req.starting ∧ s.periodReported.req.updateCount = s.req.updateCount := by
  have haside := s.periodTaken_took.aside.trans (periodReported_supervised hr).aside
  rw [haside.req]
  exact ⟨rfl, rfl⟩

end State

/-- The code words of R186, value by value. -/
theorem codes_of_table : codesOfTable := by
  unfold codesOfTable
  refine ⟨rfl, rfl, rfl, rfl, rfl, rfl, rfl, rfl, rfl, rfl, rfl, rfl, rfl, rfl, rfl, rfl, rfl, rfl, rfl, ?_⟩
  decide

end Sys2Proof.Machine
end

section
/-! The values of a governor period: what it takes, the factors, the regulator of speed, the demands and the counts, and the states
at rest (R41 to R46, R50, R56, R57, R59 to R61). -/

namespace Sys2Proof.Machine

/-! ### The values of an expiry -/

theorem signOf_pos {x : Int} (h : 0 < x) : signOf x = 1 := if_pos h

theorem signOf_neg {x : Int} (h : x < 0) : signOf x = -1 := (if_neg h.not_gt).trans (if_pos h)

/-- Numbers other than 0 have one sign where their product is positive. -/
theorem signOf_eq_iff {x y : Int} (hx : x ≠ 0) (hy : y ≠ 0) : signOf x = signOf y ↔ 0 < x * y := by
  rcases lt_or_gt_of_ne hx with hx | hx
  · rcases lt_or_gt_of_ne hy with hy | hy
    · simp [signOf_neg hx, signOf_neg hy, mul_pos_of_neg_of_neg hx hy]
    · simp [signOf_neg hx, signOf_pos hy, (mul_neg_of_neg_of_pos hx hy).not_gt]
  · rcases lt_or_gt_of_ne hy with hy | hy
    · simp [signOf_pos hx, signOf_neg hy, (mul_neg_of_pos_of_neg hx hy).not_gt]
    · simp [signOf_pos hx, signOf_pos hy, mul_pos hx hy]

/-- The hold flag: the demand was cut, and the error pushes on in its direction (R46). -/
theorem holdNext_eq (tg td e : Int) : holdNext tg td e = decide (|tg| < |td| ∧ 0 < e * td) := by
  have hsigns : |tg| < |td| → ((e ≠ 0 ∧ signOf e = signOf td) ↔ 0 < e * td) := fun h => by
    have htd : td ≠ 0 := by
      rintro rfl
      rw [abs_zero] at h
      linarith [abs_nonneg tg]
    refine ⟨fun ⟨he, hs⟩ => (signOf_eq_iff he htd).mp hs, fun hpos => ?_⟩
    have he : e ≠ 0 := left_ne_zero_of_mul hpos.ne'
    exact ⟨he, (signOf_eq_iff he htd).mpr hpos⟩
  unfold holdNext
  rw [Bool.and_assoc, ← Bool.decide_and, ← Bool.decide_and, decide_eq_decide]
  exact and_congr_right hsigns

theorem Governor.takeEnvelope_eq (g : Governor) :
    g.takeEnvelope = { g with envelope := g.takeEnvelope.envelope, awaiting := g.takeEnvelope.awaiting } := by
  unfold Governor.takeEnvelope
  split <;> rfl

section
variable (g : Governor) (c : DriveSettings) (t : Pair Taken) (n e : Int) (l0 : DirLimit)

/-- The regulator of speed and what follows from its demand and grant (R44 to R46, R56). -/
theorem Governor.grant_values :
    let r := (g.regulate c e).grant c t n l0
    r.e = e ∧ r.p = truncDiv (e * c.kp) 100 ∧
      r.iacc = (let raw := if g.hold then g.iacc else g.iacc + e * c.ki
        if raw < -6000000 then -6000000 else if 6000000 < raw then 6000000 else raw) ∧
      r.i = truncDiv r.iacc 1000 ∧
      r.td = (let raw := r.p + r.i
        if raw < -6000 then -6000 else if 6000 < raw then 6000 else raw) ∧
      r.idRef = c.idf ∧ r.tp = r.tg ∧
      (∀ x, r.iqRef.get x =
        let bound : Int := isqrt (c.imax * c.imax - c.idf * c.idf).toNat
        let wanted := truncDiv (r.torque.get x * 1000) (c.k x)
        if wanted < -bound then -bound else if bound < wanted then bound else wanted) ∧
      r.hold = decide (|r.tg| < |r.td| ∧ 0 < r.e * r.td) := by
  intro r
  refine ⟨rfl, rfl, rfl, rfl, rfl, rfl, rfl, fun x => ?_, holdNext_eq r.tg r.td r.e⟩
  cases x <;> rfl

/-- The deviation count of a motor in the pinion set (R59). -/
theorem Governor.grant_devCount (x : Side) : ((g.regulate c e).grant c t n l0).devCount.get x =
    if c.pinion.has x then deviationCount c (t.get x) (g.estimate.get x) (g.torque.get x) (g.devCount.get x) else 0 := by
  cases x <;> rfl

end

/-- The counts of an expiry back to 0 where they have reached their time (R59). -/
theorem Governor.supervised_devCount (g : Governor) (c : DriveSettings) (drive : DriveState) (n : Int) (x : Side) :
    (g.supervised c drive n).devCount.get x = if g.deviation c drive x then 0 else g.devCount.get x := by
  cases x <;> rfl

namespace State
variable (s : State)

/-- What every expiry computes in every state (R50, R57). -/
theorem periodValues_common : s.periodValues.demand = s.watch.groups.map GroupWatch.demand ∧
    s.periodValues.factor = ⟨min s.gov.h (s.watch.groups.get .a).demand, min s.gov.h (s.watch.groups.get .b).demand⟩ ∧
    (∀ x, s.periodValues.estimate.get x = estimateOf (s.cfg.k x) ((s.regs.get x).handOver) (s.gov.estimate.get x)) ∧
    s.periodValues.history = s.gov.history ∧ s.periodValues.envelope = s.gov.takeEnvelope.envelope ∧
    s.periodValues.awaiting = s.gov.takeEnvelope.awaiting := by
  cases hg : s.seq.drive.governed with
  | true =>
    rw [s.periodValues_of_governed hg, Governor.takeEnvelope_eq]
    exact ⟨rfl, rfl, fun x => by cases x <;> rfl, rfl, rfl, rfl⟩
  | false =>
    rw [s.periodValues_of_not_governed hg, Governor.takeEnvelope_eq]
    exact ⟨rfl, rfl, fun x => by cases x <;> rfl, rfl, rfl, rfl⟩

/-- The deviation count that an expiry computes (R59). -/
theorem periodValues_devCount (hg : s.seq.drive.governed = true) (x : Side) : s.periodValues.devCount.get x =
    if s.cfg.pinion.has x then deviationCount s.cfg ((s.regs.get x).handOver) (s.periodValues.estimate.get x)
      (s.gov.torque.get x) (s.gov.devCount.get x) else 0 := by
  rw [s.periodValues_of_governed hg, Governor.takeEnvelope_eq, Governor.grant_devCount]
  cases x <;> rfl

/-! ### The governor after a period -/

section
variable {s} (hr : s.seq.restartPending = false)
include hr

/-- After the reports the governor holds the values of the expiry, or those at rest after a trip. -/
theorem periodReported_gov :
    (s.periodReported.seq = s.seq ∧ s.periodReported.gov = s.periodValues.supervised s.cfg s.seq.drive s.meas.n) ∨
    (s.periodReported.seq.drive = .tripped ∧
      s.periodReported.gov = (s.periodValues.supervised s.cfg s.seq.drive s.meas.n).zeroed) := by
  have h := (periodReported_supervised hr).outcome
  rwa [s.periodTaken_gov, s.periodTaken_took.seq] at h

/-- The values that a trip leaves (R43). -/
theorem periodReported_lasting : let t := s.periodReported
    t.gov.demand = s.periodValues.demand ∧ t.gov.factor = s.periodValues.factor ∧ t.gov.estimate = s.periodValues.estimate ∧
      t.gov.history = s.meas.n :: s.periodValues.history.dropLast ∧ t.gov.overspeed = overspeedAt s.cfg.nmax s.meas.n ∧
      t.gov.e = s.periodValues.e ∧ t.gov.p = s.periodValues.p ∧ t.gov.limit = s.periodValues.limit ∧
      t.gov.l0 = s.periodValues.l0 ∧ t.gov.envelope = s.periodValues.envelope ∧ t.gov.awaiting = s.periodValues.awaiting := by
  intro t
  rcases periodReported_gov hr with ⟨-, hgov⟩ | ⟨-, hgov⟩ <;>
    exact hgov ▸ ⟨rfl, rfl, rfl, rfl, rfl, rfl, rfl, rfl, rfl, rfl, rfl⟩

theorem periodReported_reg (x : Side) :
    ((s.regs.get x).taken (s.inSet x)).Kept (s.periodReported.regs.get x) := by
  have h := (periodReported_supervised hr).regs x
  rwa [s.periodTaken_reg] at h

theorem periodReported_field : s.sameField s.periodReported := by
  obtain ⟨h1, h2, h3, h4, h5⟩ := s.periodTaken_took.field
  obtain ⟨h1', h2', h3', h4', h5'⟩ := (periodReported_supervised hr).field
  exact ⟨h1'.trans h1, h2'.trans h2, h3'.trans h3, h4'.trans h4, h5'.trans h5⟩

end

/-! ### Outside the running states (R42) -/

section
variable {s} (hg : s.seq.drive.governed = false)
include hg

theorem devFound_rest (x : Side) : s.devFound x = false := by
  simp only [devFound, Governor.deviation, hg, Bool.false_and]

theorem jamFound_rest : s.jamFound = false := by simp only [jamFound, Governor.jam, hg, Bool.false_and]

/-- At rest the report of OVERSPEED alone can come. -/
theorem periodReported_rest : s.periodReported = s.periodTaken.tripLevel .overspeed (overspeedAt s.cfg.nmax s.meas.n) := by
  unfold periodReported periodJammed periodDeviated
  rw [devFound_rest hg, devFound_rest hg, jamFound_rest hg]
  rfl

theorem periodReported_slow (hslow : overspeedAt s.cfg.nmax s.meas.n = false) : s.periodReported.seq = s.seq ∧
    s.periodReported.gov = s.periodValues.supervised s.cfg s.seq.drive s.meas.n := by
  rw [periodReported_rest hg, hslow]
  exact ⟨by simpa [State.tripLevel] using s.periodTaken_took.seq, by simpa [State.tripLevel] using s.periodTaken_gov⟩

/-- At rest an expiry leaves no torque, no accumulator and no limits. -/
theorem periodReported_still (hr : s.seq.restartPending = false) : let t := s.periodReported
    t.gov.still ∧ t.gov.td = 0 ∧ t.gov.iacc = 0 ∧ t.gov.limit = ⟨⟨0, 0⟩, ⟨0, 0⟩⟩ := by
  intro t
  have hvalues := s.periodValues_of_not_governed hg
  rcases periodReported_gov hr with ⟨-, hgov⟩ | ⟨-, hgov⟩ <;>
    exact hgov ▸ hvalues ▸ ⟨⟨rfl, rfl, rfl⟩, rfl, rfl, rfl⟩

end

end State

end Sys2Proof.Machine
end

section
/-! A governor period as a whole, with no restart pending and no ENVELOPE awaiting: the values, the status block and the trigger
conditions that it leaves (R41 to R57, R129, R177). -/

namespace Sys2Proof.Machine
namespace State

section values
variable {s : State} (hr : s.seq.restartPending = false) (hawait : s.gov.awaiting = none)
include hr hawait

/-- The period leaves the units as its reports have left them. -/
theorem governorPeriod_units : let t := s.governorPeriod
    t.seq = s.periodReported.seq ∧ t.gov = s.periodReported.gov ∧ t.regs = s.periodReported.regs ∧
      t.faults = s.periodReported.faults ∧ t.record = s.periodReported.record ∧ s.sameField t := by
  obtain ⟨hseq, hgov, hregs, hfaults, hrecord, h1, h2, h3, h4, h5⟩ := s.periodReported.rewriteStatus_units
  obtain ⟨h1', h2', h3', h4', h5'⟩ := periodReported_field hr
  rw [governorPeriod_plain hr hawait]
  exact ⟨hseq, hgov, hregs, hfaults, hrecord, h1.trans h1', h2.trans h2', h3.trans h3', h4.trans h4', h5.trans h5'⟩

/-- What the period takes from the regulators (R41). -/
theorem governorPeriod_taken (x : Side) : let r := s.governorPeriod.regs.get x
    r.iqSum = 0 ∧ r.iqCount = 0 ∧ r.voltageLimited = false ∧ r.lastPeriod = (s.regs.get x).voltageLimited := by
  obtain ⟨-, -, hregs, -⟩ := governorPeriod_units hr hawait
  obtain ⟨hsum, hcount, hlimited, hlast, -⟩ := (periodReported_reg hr x).takeFields
  intro r
  simp only [r, hregs]
  exact ⟨hsum, hcount, hlimited, hlast⟩

/-- Demands, factors and estimates (R50, R57). -/
theorem governorPeriod_common (x : Side) : let t := s.governorPeriod
    t.gov.demand.get x = (s.watch.groups.get x).demand ∧
      t.gov.factor.get x = min s.gov.h (s.watch.groups.get x).demand ∧
      t.gov.estimate.get x = if (s.regs.get x).iqCount = 0 then s.gov.estimate.get x
        else truncDiv (truncDiv (s.regs.get x).iqSum (s.regs.get x).iqCount * s.cfg.k x) 1000 := by
  obtain ⟨-, hgov, -⟩ := governorPeriod_units hr hawait
  obtain ⟨hdemand, hfactor, hestimate, -⟩ := periodReported_lasting hr
  obtain ⟨hdemand', hfactor', hestimate', -⟩ := s.periodValues_common
  intro t
  simp only [t, hgov, hdemand, hfactor, hestimate, hdemand', hfactor', hestimate']
  cases x <;> exact ⟨rfl, rfl, rfl⟩

theorem governorPeriod_history : s.governorPeriod.gov.history = s.meas.n :: s.gov.history.dropLast ∧
    s.governorPeriod.gov.overspeed = decide (s.cfg.nmax * 110 / 100 < |s.meas.n|) := by
  obtain ⟨-, hgov, -⟩ := governorPeriod_units hr hawait
  obtain ⟨-, -, -, hhistory, hover, -⟩ := periodReported_lasting hr
  obtain ⟨-, -, -, hhistory', -⟩ := s.periodValues_common
  rw [hgov, hhistory, hover, hhistory']
  exact ⟨rfl, rfl⟩

/-- The status block is rewritten once (R177). -/
theorem governorPeriod_count (hstart : s.req.starting = false) :
    s.governorPeriod.req.updateCount = s.req.updateCount + 2 ∧
      s.governorPeriod.mem.readWord statusAddr = s.req.updateCount + 2 := by
  obtain ⟨hstart', hcount⟩ := starting_periodReported hr
  rw [governorPeriod_plain hr hawait, ← hcount]
  exact State.rewriteStatus_count (hstart'.trans hstart)

theorem governorPeriod_shown (hstart : s.req.starting = false) : s.governorPeriod.StatusShown := by
  obtain ⟨hstart', -⟩ := starting_periodReported hr
  rw [governorPeriod_plain hr hawait]
  exact State.rewriteStatus_shown (hstart'.trans hstart)

/-- The words of a regulator after the period (R81, R182). -/
theorem governorPeriod_regulator (hstart : s.req.starting = false) (x : Side) :
    s.governorPeriod.mem.readWords (statusAddr + 2 * (40 + 12 * sideCode x)) 12 =
      ((s.regs.get x).taken (s.inSet x)).statusWords := by
  obtain ⟨hstart', -⟩ := starting_periodReported hr
  rw [governorPeriod_plain hr hawait, State.rewriteStatus_regulator (hstart'.trans hstart), (periodReported_reg hr x).statusWords]

/-- The period at rest (R42). -/
theorem governorPeriod_atRest (hg : s.seq.drive.governed = false) : let t := s.governorPeriod
    t.gov.still ∧ t.gov.td = 0 ∧ t.gov.iacc = 0 ∧ t.gov.limit = ⟨⟨0, 0⟩, ⟨0, 0⟩⟩ ∧
      (|s.meas.n| ≤ s.cfg.nmax * 110 / 100 → t.seq = s.seq ∧
        t.gov.idRef = if s.seq.drive = .magnetizing then s.seq.flux else 0) := by
  obtain ⟨hseq, hgov, -⟩ := governorPeriod_units hr hawait
  obtain ⟨hstill, htd, hiacc, hlimit⟩ := periodReported_still hg hr
  intro t
  simp only [t, hseq, hgov]
  refine ⟨hstill, htd, hiacc, hlimit, fun hslow => ?_⟩
  obtain ⟨hseq', hgov'⟩ := periodReported_slow hg (decide_eq_false hslow.not_gt)
  refine ⟨hseq', ?_⟩
  rw [hgov', s.periodValues_of_not_governed hg]
  rfl

/-- In every running state the error and its proportional part are those of the expiry (R44). -/
theorem governorPeriod_error (hg : s.seq.drive.governed = true) : s.governorPeriod.gov.e = s.seq.r - s.meas.n ∧
    s.governorPeriod.gov.p = truncDiv (s.governorPeriod.gov.e * s.cfg.kp) 100 := by
  obtain ⟨-, hgov, -⟩ := governorPeriod_units hr hawait
  obtain ⟨-, -, -, -, -, he, hp, -⟩ := periodReported_lasting hr
  rw [hgov, he, hp, s.periodValues_of_governed hg]
  exact ⟨rfl, rfl⟩

end values

/-- A period that keeps a running state counts the deviations (R59). -/
theorem governorPeriod_devCount {s : State} (hg : s.seq.drive.governed = true)
    (hdrive : s.governorPeriod.seq.drive = s.seq.drive) (x : Side) : s.governorPeriod.gov.devCount.get x =
      let n := if (s.regs.get x).voltageLimited = true then s.gov.devCount.get x
        else if s.cfg.devLimit < |(s.governorPeriod.gov.estimate.get x - s.gov.torque.get x)| then s.gov.devCount.get x + 1 else 0
      if s.cfg.pinion.has x = true then (if s.cfg.devTime ≤ n then 0 else n) else 0 := by
  rw [governorPeriod_kept hg hdrive, Governor.supervised_devCount]
  unfold Governor.deviation
  rw [s.periodValues_devCount hg x, hg, Bool.true_and]
  cases hx : s.cfg.pinion.has x with
  | false => rfl
  | true =>
    simp only [Bool.true_and, decide_eq_true_eq, if_true]
    rfl

end State

end Sys2Proof.Machine
end

section
/-! The trips that a governor period reports, the limited run and the trigger conditions (R59 to R61, R80, R106 to R109, R129). -/

namespace Sys2Proof.Machine
namespace State

/-! ### The end of a period outside UNCONFIGURED -/

/-- The end of a period with an ENVELOPE: the request answered, the departure tested, the block rewritten (R64). -/
theorem governorEnd_some (k : Fin 8) (u : State) :
    governorEnd (some k) u = ((u.finish k .ok [1]).departureTest).rewriteStatus := rfl

theorem finish_seq (u : State) (k : Fin 8) (rc : ResultCode) (ws : List Word) : (u.finish k rc ws).seq = u.seq := by simp

/-- Outside UNCONFIGURED the end leaves sequencer, governor and faults. -/
theorem governorEnd_departed {u : State} (h : u.seq.drive ≠ .unconfigured) (slot : Option (Fin 8)) :
    let t := governorEnd slot u
    t.seq = u.seq ∧ t.gov = u.gov ∧ t.faults = u.faults ∧ t.drive = u.drive ∧ t.pending = u.pending := by
  intro t
  have hrewrite : ∀ v : State, v.rewriteStatus.seq = v.seq ∧ v.rewriteStatus.gov = v.gov ∧ v.rewriteStatus.faults = v.faults ∧
      v.rewriteStatus.drive = v.drive ∧ v.rewriteStatus.pending = v.pending := fun v =>
    ⟨by simp, by simp, by simp, by simp, by simp⟩
  cases slot with
  | none => exact hrewrite u
  | some k =>
    have hstay : (u.finish k .ok [1]).departureTest = u.finish k .ok [1] :=
      departureTest_none fun ⟨hd, _⟩ => h (by rwa [finish_seq] at hd)
    obtain ⟨hseq, hgov, hfaults, hdrive, hpending⟩ := hrewrite (u.finish k .ok [1])
    show (governorEnd (some k) u).seq = _ ∧ (governorEnd (some k) u).gov = _ ∧ (governorEnd (some k) u).faults = _ ∧
      (governorEnd (some k) u).drive = _ ∧ (governorEnd (some k) u).pending = _
    rw [governorEnd_some, hstay, hseq, hgov, hfaults, hdrive, hpending]
    exact ⟨by simp, by simp, by simp, by simp, by simp⟩

theorem Tripped.governorEnd {s u : State} {k : FaultKind} (h : State.Tripped s u k) (slot : Option (Fin 8)) :
    State.Tripped s (State.governorEnd slot u) k := by
  have hd : u.seq.drive ≠ .unconfigured := by rw [h.seq]; exact DriveState.noConfusion
  obtain ⟨hseq, hgov, hfaults, hdrive, hpending⟩ := governorEnd_departed hd slot
  exact h.of_frame hseq hgov hfaults hdrive hpending

section trips
variable {s : State} (hready : s.tripReady)
include hready

/-! ### The trips of a period -/

/-- The values published, a trip is still a first cause. -/
theorem periodTaken_atTrip : s.AtTrip s.periodTaken := by
  have htook := s.periodTaken_took
  obtain ⟨hpending, -, hdrive, -, -⟩ := htook.field
  exact .inl ⟨hready.of_same htook.seq htook.lock, by rw [htook.seq], hdrive, hpending⟩

/-- A trip found among the deviations stands to the end of the period. -/
theorem Tripped.toEnd {k : FaultKind} (h : State.Tripped s s.periodDeviated k) : State.Tripped s s.governorPeriod k := by
  obtain ⟨-, -, -, hr⟩ := hready
  rw [governorPeriod_eq hr]
  exact Tripped.governorEnd ((Tripped.reportIf h _ _).tripLevel _ _) _

theorem periodDeviated_tripped {x : Side} (hfound : s.devFound x = true) (ha : s.sourcePresent (.torqueDev x) .first = false) :
    State.Tripped s s.periodDeviated (.torqueDev x) := by
  have hat := periodTaken_atTrip hready
  have hcalm := periodTaken_calm hready.2.2.2
  rw [← s.periodTaken_took.source (by nofun)] at ha
  unfold periodDeviated devReported
  cases x with
  | a =>
    rw [hfound]
    exact Tripped.reportIf (hat.tripPulse_trips ha) _ _
  | b =>
    rw [hfound]
    refine (hat.reportIf _ _).tripPulse_trips ?_
    rw [State.sourcePresent, reportIf_entry rfl (by decide) _ hcalm]
    exact ha

omit hready in
theorem periodDeviated_absent {x : Side} (hr : s.seq.restartPending = false) (hfound : s.devFound x = true) :
    s.periodDeviated.sourcePresent (.torqueDev x) .first = false := by
  have hcalm := periodTaken_calm hr
  unfold periodDeviated devReported
  cases x with
  | a =>
    rw [hfound, State.sourcePresent, reportIf_entry rfl (by decide) _ (reportIf_supervised rfl _ hcalm).calm]
    exact State.tripPulse_absent _ _
  | b =>
    rw [hfound]
    exact State.tripPulse_absent _ _

theorem periodJammed_tripped (hfound : s.jamFound = true) (ha : s.sourcePresent .jam .first = false) :
    State.Tripped s s.periodJammed .jam := by
  have hr := hready.2.2.2
  have hat : s.AtTrip s.periodDeviated := ((periodTaken_atTrip hready).reportIf _ _).reportIf _ _
  have ha' : s.periodDeviated.sourcePresent .jam .first = false := by
    rw [State.sourcePresent, periodDeviated, devReported_entry rfl (fun x => by nofun) _ _ (periodTaken_calm hr)]
    exact (s.periodTaken_took.source (by nofun) _).trans ha
  rw [periodJammed, hfound]
  exact hat.tripPulse_trips ha'

end trips

section
variable {s : State} (hr : s.seq.restartPending = false)
include hr

/-- Before the report of OVERSPEED the entries of the other kinds are those of the take. -/
theorem periodJammed_overspeed : s.periodJammed.faults.entry .overspeed = s.faults.entry .overspeed := by
  rw [periodJammed, reportIf_entry rfl (by nofun) _ (periodDeviated_supervised hr).calm, periodDeviated,
    devReported_entry rfl (fun x => by nofun) _ _ (periodTaken_calm hr)]
  exact s.periodTaken_took.others _ (by nofun)

theorem periodReported_dev {x : Side} : s.periodReported.faults.entry (.torqueDev x) = s.periodDeviated.faults.entry (.torqueDev x) := by
  rw [periodReported, tripLevel_entry rfl (by nofun) _ (periodJammed_supervised hr).calm, periodJammed,
    reportIf_entry rfl (by nofun) _ (periodDeviated_supervised hr).calm]

theorem periodReported_jam : s.periodReported.faults.entry .jam = s.periodJammed.faults.entry .jam := by
  rw [periodReported, tripLevel_entry rfl (by nofun) _ (periodJammed_supervised hr).calm]

theorem periodReported_voltageLimited :
    s.periodReported.faults.entry .voltageLimited = s.periodTaken.faults.entry .voltageLimited :=
  (periodReported_supervised hr).others _ rfl rfl

end

/-! ### The deviation found -/

/-- The take of the regulators does not matter to the values of an expiry. -/
theorem governorValues_untaken (s : State) : (s.setGov s.gov.takeEnvelope).governorValues (s.regs.map Regulator.handOver)
    (s.watch.groups.map GroupWatch.demand) = s.periodValues := by
  have hcfg : (s.setGov s.gov.takeEnvelope).cfg = s.cfg := rfl
  unfold periodValues State.governorValues
  rw [periodStart_cfg, periodStart_seq, periodStart_meas, periodStart_gov, hcfg]
  rfl

theorem governorValues_eq {s : State} (hawait : s.gov.awaiting = none) : s.governorValues (s.regs.map Regulator.handOver)
    (s.watch.groups.map GroupWatch.demand) = s.periodValues := by
  have hsame := s.governorValues_untaken
  rw [Governor.takeEnvelope_none hawait] at hsame
  exact hsame

theorem deviationReached_eq (s : State) (x : Side) : s.deviationReached x = s.devFound x :=
  congrArg (fun g : Governor => g.deviation s.cfg s.seq.drive x) s.governorValues_untaken

/-- JAM: a grant at its limit and a drop of the speed in its direction (R60). -/
theorem jamFound_of_drop {s : State} (hg : s.seq.drive.governed = true) (hlimit : s.periodValues.atLimit = true)
    (hset : s.cfg.jamDecel ≠ 0) (hdrop : s.cfg.jamDecel < signOf s.periodValues.tg * (s.gov.history.getLastD 0 - s.meas.n)) :
    s.jamFound = true := by
  obtain ⟨-, -, -, hhistory, -⟩ := s.periodValues_common
  rw [jamFound, Governor.jam, Governor.speedDrop, hhistory, hg, hlimit, decide_eq_true hset, decide_eq_true hdrop]
  rfl

/-- A motor in the set whose deviation count reaches its time (R59). -/
theorem devFound_of_reached {s : State} {x : Side} (hg : s.seq.drive.governed = true) (hx : s.cfg.pinion.has x = true)
    (hfree : (s.regs.get x).voltageLimited = false) (htime : s.cfg.devTime ≤ s.gov.devCount.get x + 1)
    (hdev : s.cfg.devLimit < |((if (s.regs.get x).iqCount = 0 then s.gov.estimate.get x
      else truncDiv (truncDiv (s.regs.get x).iqSum (s.regs.get x).iqCount * s.cfg.k x) 1000) - s.gov.torque.get x)|) :
    s.devFound x = true := by
  obtain ⟨-, -, hestimate, -⟩ := s.periodValues_common
  have hcount : s.periodValues.devCount.get x = s.gov.devCount.get x + 1 := by
    rw [s.periodValues_devCount hg x, if_pos hx, hestimate, deviationCount]
    have hlimited : ((s.regs.get x).handOver).limited = false := hfree
    rw [hlimited, if_neg Bool.false_ne_true]
    exact if_pos hdev
  rw [devFound, Governor.deviation, hg, hx, hcount]
  simpa using htime

theorem exec_torqueDev (x : Side) (s : State) :
    exec (.torqueDev x) s = .next (if s.deviationReached x then s.governorPeriod else s) := rfl

/-! ### The limited run (R80) -/

theorem exec_limitedRun (x : Side) (s : State) :
    exec (.voltageLimitedRunReached x) s = .next (if s.limitedRunReached x then s.governorPeriod else s) := rfl

/-- The take that brings the limited run to 2000 (R80). -/
theorem taken_reached {g : Regulator} (hlimited : g.voltageLimited = true) (hrun : g.limitedRun = 1999) :
    (g.taken true).limitedRun = 2000 ∧ (g.taken true).limitedCond = true := by
  simp [Regulator.taken, hlimited, hrun, countTo]

/-- VOLTAGE LIMITED after the takes of both regulators. -/
theorem periodTaken_voltageLimited {s : State} {x : Side} (hx : s.cfg.pinion.has x = true)
    (hlimited : (s.regs.get x).voltageLimited = true) (hrun : (s.regs.get x).limitedRun = 1999)
    (ha : s.sourcePresent .voltageLimited (sideSource x) = false) :
    s.periodTaken.sourcePresent .voltageLimited (sideSource x) = true ∧
      (s.periodTaken.faults.entry .voltageLimited).seen = true := by
  have hin : s.inSet x = true := hx
  obtain ⟨-, hcond⟩ := taken_reached hlimited hrun
  set u := s.takeRegulator .a with hu
  have hfaults : s.periodTaken.faults = (u.regulatorReported .b).faults := by
    rw [s.periodTaken_faults, takeRegulator_faults]
  have hua : u.faults = (s.regulatorReported .a).faults := s.takeRegulator_faults .a
  unfold State.sourcePresent
  rw [hfaults]
  cases x with
  | a =>
    obtain ⟨hsource, hseen⟩ := s.regulatorReported_rises (x := .a) (by rw [hin]; exact hcond)
    refine ⟨(u.regulatorReported_otherSource (by decide)).trans ?_, u.regulatorReported_seen .b ?_⟩
    · rw [State.sourcePresent, hua]
      exact hsource
    · rw [hua]
      exact hseen ha
  | b =>
    have hreg : u.regs.get .b = s.regs.get .b := by rw [hu, takeRegulator_regs]; rfl
    have hinset : u.inSet .b = true := ((s.takeRegulator_took .a).inSet .b).trans hin
    obtain ⟨hsource, hseen⟩ := u.regulatorReported_rises (x := .b) (by rw [hreg, hinset]; exact hcond)
    refine ⟨hsource, hseen ?_⟩
    rw [State.sourcePresent, hua]
    exact (s.regulatorReported_otherSource (by decide)).trans ha

/-! ### Trigger conditions (R129) -/

section
variable {s : State} (hr : s.seq.restartPending = false)
include hr

theorem periodTaken_trigger (hawait : s.gov.awaiting = none) : s.periodTaken.TriggerKept s.governorPeriod := by
  rw [governorPeriod_plain hr hawait]
  exact (periodReported_supervised hr).trigger.trans (rewriteStatus_trigger _)

theorem governorPeriod_takesAtLimit (hawait : s.gov.awaiting = none) (hnow : s.periodValues.atLimit = true)
    (hlast : s.gov.atLimit = false) : s.Takes s.governorPeriod .torqueAtLimit := by
  have htaken : s.periodTaken = s.periodPublished.takeCond .torqueAtLimit none := by
    rw [periodTaken, hnow, hlast]
    rfl
  refine Takes.after ?_ (periodTaken_trigger hr hawait)
  rw [htaken]
  exact ⟨_, none, s.periodPublished_took.trigger, .refl _⟩

theorem governorPeriod_takesLimited (hawait : s.gov.awaiting = none) {x : Side} (hnow : (s.regs.get x).voltageLimited = true)
    (hlast : (s.regs.get x).lastPeriod = false) : s.Takes s.governorPeriod .voltageLimited := by
  refine Takes.after ?_ (periodTaken_trigger hr hawait)
  have hrest : ((s.takeRegulator .a).takeRegulator .b).TriggerKept s.periodTaken := by
    have hgov : ((s.takeRegulator .a).takeRegulator .b).Took s.periodPublished := (setGov_took _ _).trans (setGov_took _ _)
    unfold periodTaken
    split
    · exact hgov.trigger.trans (takeCond_triggerKept _ (by nofun) _)
    · exact hgov.trigger
  refine Takes.after ?_ hrest
  cases x with
  | a => exact (s.takeRegulator_takes hnow hlast).after (takeRegulator_took _ .b).trigger
  | b =>
    have hreg : (s.takeRegulator .a).regs.get .b = s.regs.get .b := by rw [takeRegulator_regs]; rfl
    exact (takeRegulator_takes _ (by rw [hreg]; exact hnow) (by rw [hreg]; exact hlast)).before (s.takeRegulator_took .a).trigger

end

end State

end Sys2Proof.Machine
end

section
/-! OVERSPEED at a governor period, and the ENVELOPE that comes into force there (R20, R61, R64, R107). -/

namespace Sys2Proof.Machine
namespace State

/-! ### OVERSPEED (R61) -/

section
variable {s : State}

/-- OVERSPEED as a trip: the first cause, or one latched after the trips reported before it. -/
theorem periodReported_overspeed (hready : s.tripReady) (hfast : overspeedAt s.cfg.nmax s.meas.n = true)
    (ha : s.sourcePresent .overspeed .first = false) :
    State.Tripped s s.periodReported .overspeed ∧ s.periodReported.sourcePresent .overspeed .first = true := by
  have hr := hready.2.2.2
  have hat : s.AtTrip s.periodJammed := (((periodTaken_atTrip hready).reportIf _ _).reportIf _ _).reportIf _ _
  have ha' : s.periodJammed.sourcePresent .overspeed .first = false := by
    rw [State.sourcePresent, periodJammed_overspeed hr]
    exact ha
  rw [periodReported, hfast]
  exact ⟨hat.tripRise ha', State.tripRise_present _ _ _ rfl (periodJammed_supervised hr).calm⟩

theorem periodReported_slowFall (hslow : overspeedAt s.cfg.nmax s.meas.n = false) :
    s.periodReported.sourcePresent .overspeed .first = false := by
  rw [periodReported, hslow]
  exact State.fall_source _ _ _

/-! ### In UNCONFIGURED (R107) -/

/-- In UNCONFIGURED a period only latches or lets fall OVERSPEED. -/
theorem periodReported_unconfigured (hd : s.seq.drive = .unconfigured) : s.periodReported =
    if overspeedAt s.cfg.nmax s.meas.n then s.periodTaken.latchRise .overspeed .first none
    else s.periodTaken.fall .overspeed .first := by
  have hg : s.seq.drive.governed = false := by rw [hd]; rfl
  have hd' : s.periodTaken.seq.drive = .unconfigured := by rw [s.periodTaken_took.seq, hd]
  rw [periodReported_rest hg, State.tripLevel, State.tripRise_unconfigured _ _ _ hd']

theorem periodReported_units (hd : s.seq.drive = .unconfigured) : let u := s.periodReported
    u.seq = s.seq ∧ u.faults.lock = s.faults.lock ∧ u.drive = s.drive ∧ u.watch = s.watch ∧
      u.record.settings = s.record.settings ∧ u.store = s.store := by
  have htook := s.periodTaken_took
  obtain ⟨-, -, hdrive, -, hwatch⟩ := htook.field
  intro u
  have hu : u.seq = s.periodTaken.seq ∧ u.faults.lock = s.periodTaken.faults.lock ∧ u.drive = s.periodTaken.drive ∧
      u.watch = s.periodTaken.watch ∧ u.record = s.periodTaken.record ∧ u.store = s.periodTaken.store := by
    simp only [u, periodReported_unconfigured hd]
    split <;> exact ⟨by simp, by simp, by simp, by simp, by simp, by simp⟩
  obtain ⟨h1, h2, h3, h4, h5, h6⟩ := hu
  exact ⟨h1.trans htook.seq, h2.trans htook.lock, h3.trans hdrive, h4.trans hwatch,
    (congrArg RecordUnit.settings h5).trans htook.settings, h6.trans htook.store⟩

/-- OVERSPEED in UNCONFIGURED is latched and present, and trips nothing (R107). -/
theorem periodReported_latches (hd : s.seq.drive = .unconfigured) (hfast : overspeedAt s.cfg.nmax s.meas.n = true)
    (ha : s.sourcePresent .overspeed .first = false) : (s.periodReported.faults.entry .overspeed).latched = true ∧
      s.periodReported.sourcePresent .overspeed .first = true := by
  rw [periodReported_unconfigured hd, hfast]
  exact ⟨State.latchRise_latched _ _ _ _ ((s.periodTaken_took.source (by nofun) _).trans ha), State.latchRise_present _ _ _ _⟩

/-- At a speed in bounds no trip kind becomes latched in UNCONFIGURED. -/
theorem periodReported_unlatched (hd : s.seq.drive = .unconfigured) (hslow : overspeedAt s.cfg.nmax s.meas.n = false)
    {f : FaultKind} (hf : f ∈ FaultKind.tripKinds) :
    (s.periodReported.faults.entry f).latched = (s.faults.entry f).latched := by
  have hne : f ≠ .voltageLimited := fun h => absurd (h ▸ hf) (by decide)
  rw [periodReported_unconfigured hd, hslow]
  refine (State.fall_latched_entry _ _ _ _).trans ?_
  rw [s.periodTaken_took.others f hne]

end

/-! ### The end of a period with an ENVELOPE (R64) -/

section
variable {s : State}

/-- A departure from UNCONFIGURED leaves the governor as it was or at rest. -/
theorem departureTest_gov (hr : s.seq.restartPending = false) : s.departureTest.gov = s.gov ∨ s.departureTest.gov = s.gov.zeroed := by
  have hstopped : s.enterStopped.seq.restartPending = false ∧ s.enterStopped.gov = s.gov.zeroed := by
    rw [(State.enterStopped_calm_eqs s hr).2.1]
    exact ⟨by simp [hr], rfl⟩
  have hstep : ∀ (v : State) k, v.seq.restartPending = false ∧ v.gov = s.gov.zeroed →
      (v.takeLatched k).seq.restartPending = false ∧ (v.takeLatched k).gov = s.gov.zeroed := fun v k hv => by
    refine ⟨(v.takeLatched_calm k hv.1).1, ?_⟩
    unfold State.takeLatched
    dsimp only
    split
    · rw [(State.followOnCause_frame _ _ _ _).2.2.2.2.2.1]
      exact hv.2
    · rw [(v.firstCause_calm_eqs k _ hv.1).2.1, hv.2]
      rfl
  unfold State.departureTest
  split
  · refine .inr ?_
    split
    · exact hstopped.2
    · rw [(State.closeIfZero_frame _).2.2.2.2.2.1]
      exact (foldl_holds (fun v : State => v.seq.restartPending = false ∧ v.gov = s.gov.zeroed) State.takeLatched
        (fun v k hv => hstep v k hv) _ _ hstopped).2
  · exact .inl rfl

/-- An answer stays where the status block is rewritten. -/
theorem Completed.rewriteStatus {k : Fin 8} {st : SlotState} {rc : ResultCode} {ws : List Word} (h : State.Completed s k st rc ws) :
    State.Completed s.rewriteStatus k st rc ws := by
  have hrange := slotAddr_range k
  cases hstart : s.req.starting with
  | true => rwa [State.rewriteStatus, hstart, if_pos rfl]
  | false =>
    have hread : ∀ a, a < 0x01C0 → s.rewriteStatus.mem.read a = s.mem.read a := fun a ha => by
      rw [s.rewriteStatus_started hstart]
      exact Memory.read_writeWords_outside _ _ _ _ (.inl (by simp only [statusAddr]; omega))
    have hreq : s.rewriteStatus.req.slots = s.req.slots ∧ s.rewriteStatus.req.notice = s.req.notice := by
      rw [s.rewriteStatus_started hstart]
      exact ⟨rfl, rfl⟩
    obtain ⟨hslot, hstate, hcode, hresult, hnotice⟩ := h
    refine ⟨?_, ?_, ?_, ?_, by rw [hreq.2]; exact hnotice⟩
    · rw [State.slot, hreq.1]
      exact hslot
    · rw [Memory.readWord_of_read fun x _ hx => hread x (by omega)]
      exact hstate
    · rw [Memory.readWord_of_read fun x _ hx => hread x (by omega)]
      exact hcode
    · rw [Memory.readWords_of_read fun x _ hx => hread x (by omega)]
      exact hresult

theorem answered_calm (k : Fin 8) (hr : s.seq.restartPending = false) :
    (s.periodReported.finish k .ok [1]).seq.restartPending = false := by
  rw [finish_seq]
  exact (periodReported_supervised hr).calm

/-- The limits before the factors are read from the ENVELOPE that comes into force (R49, R64). -/
theorem periodValues_l0 {e : List Breakpoint} {k : Fin 8} (hawait : s.gov.awaiting = some (e, k))
    (hg : s.seq.drive.governed = true) :
    s.periodValues.l0 = baseLimits s.cfg s.seq.drive s.seq.runKind s.meas.n e := by
  have htaken : s.gov.takeEnvelope.envelope.getD [] = e := by simp [Governor.takeEnvelope, hawait]
  rw [s.periodValues_of_governed hg, htaken]
  rfl

section envelope
variable {e : List Breakpoint} {k : Fin 8} (hawait : s.gov.awaiting = some (e, k)) (hr : s.seq.restartPending = false)
include hawait hr

/-- The state in which the departure is tested: the reports made, the request answered. -/
theorem governorPeriod_answers : s.governorPeriod = ((s.periodReported.finish k .ok [1]).departureTest).rewriteStatus := by
  rw [governorPeriod_eq hr, hawait]
  rfl

theorem governorPeriod_completed : State.Completed s.governorPeriod k .done .ok [1] := by
  rw [governorPeriod_answers hawait hr]
  exact Completed.rewriteStatus ((State.finish_completed _ k .ok [1]).of_aside
    (State.departureTest_aside (answered_calm k hr)))

/-- The governor after the period: the values of the expiry, or those at rest. -/
theorem governorPeriod_govKept : s.governorPeriod.gov = s.periodReported.gov ∨
    s.governorPeriod.gov = s.periodReported.gov.zeroed := by
  have hgov := departureTest_gov (answered_calm k hr)
  rw [governorPeriod_answers hawait hr, (rewriteStatus_units _).2.1]
  simpa using hgov

/-- The ENVELOPE is in force, and the limits before the factors are read from it (R49, R64). -/
theorem governorPeriod_inForce : s.governorPeriod.gov.envelope = some e ∧ s.governorPeriod.gov.awaiting = none ∧
    s.governorPeriod.gov.l0 = s.periodValues.l0 := by
  obtain ⟨-, -, -, -, -, -, -, -, hl0, henvelope, hawaiting⟩ := periodReported_lasting hr
  obtain ⟨-, -, -, -, henvelope', hawaiting'⟩ := s.periodValues_common
  have htaken : s.gov.takeEnvelope.envelope = some e ∧ s.gov.takeEnvelope.awaiting = none := by
    simp [Governor.takeEnvelope, hawait]
  have hkept : s.periodReported.gov.envelope = some e ∧ s.periodReported.gov.awaiting = none :=
    ⟨henvelope.trans (henvelope'.trans htaken.1), hawaiting.trans (hawaiting'.trans htaken.2)⟩
  rcases governorPeriod_govKept hawait hr with hgov | hgov <;> rw [hgov]
  · exact ⟨hkept.1, hkept.2, hl0⟩
  · exact ⟨hkept.1, hkept.2, hl0⟩

/-- The four groups other than ENVELOPE are in force and the store is settled. -/
theorem answered_configured (hd : s.seq.drive = .unconfigured) : (s.periodReported.finish k .ok [1]).configured = true ↔
    (s.drive.isSome = true ∧ s.watch.settings.isSome = true ∧ s.record.settings.isSome = true ∧
      s.store.settings.isSome = true ∧ s.store.state ≠ .scanning) := by
  obtain ⟨-, -, hdrive, hwatch, hrecord, hstore⟩ := periodReported_units hd
  obtain ⟨-, -, -, -, -, -, -, -, -, henvelope, -⟩ := periodReported_lasting hr
  obtain ⟨-, -, -, -, henvelope', -⟩ := s.periodValues_common
  have htaken : s.periodReported.gov.envelope = some e := by
    rw [henvelope, henvelope']
    simp [Governor.takeEnvelope, hawait]
  rw [State.finish_configured, State.configured_iff, hdrive, hwatch, hrecord, hstore, htaken]
  simp

theorem governorPeriod_stays (hd : s.seq.drive = .unconfigured)
    (hothers : ¬(s.drive.isSome = true ∧ s.watch.settings.isSome = true ∧ s.record.settings.isSome = true ∧
      s.store.settings.isSome = true ∧ s.store.state ≠ .scanning)) : s.governorPeriod.seq = s.seq := by
  rw [governorPeriod_answers hawait hr, (rewriteStatus_units _).1,
    State.departureTest_none fun ⟨_, hc⟩ => hothers ((answered_configured hawait hr hd).mp hc), finish_seq]
  exact (periodReported_units hd).1

theorem governorPeriod_departs (hd : s.seq.drive = .unconfigured)
    (hothers : s.drive.isSome = true ∧ s.watch.settings.isSome = true ∧ s.record.settings.isSome = true ∧
      s.store.settings.isSome = true ∧ s.store.state ≠ .scanning) (hslow : overspeedAt s.cfg.nmax s.meas.n = false)
    (hlatched : ∀ f ∈ FaultKind.tripKinds, (s.faults.entry f).latched = false) : s.governorPeriod.seq.drive = .stopped := by
  have hcalm := answered_calm k hr
  have hd' : (s.periodReported.finish k .ok [1]).seq.drive = .unconfigured := by
    rw [finish_seq, (periodReported_units hd).1, hd]
  have hnone : ∀ f ∈ FaultKind.tripKinds, ((s.periodReported.finish k .ok [1]).faults.entry f).latched = false := fun f hf => by
    have hfaults : (s.periodReported.finish k .ok [1]).faults = s.periodReported.faults := by simp
    rw [hfaults, periodReported_unlatched hd hslow hf]
    exact hlatched f hf
  rw [governorPeriod_answers hawait hr, (rewriteStatus_units _).1,
    State.departureTest_stopped hd' ((answered_configured hawait hr hd).mpr hothers) hnone,
    (State.enterStopped_calm_eqs _ hcalm).1]

end envelope
end

end State

end Sys2Proof.Machine
end

section
/-! The governor period as the obligation states it. -/

namespace Sys2Proof.Machine

/-- The words of a regulator taken show its flag of the period taken (R80, R81). -/
theorem Regulator.taken_statusWords (g : Regulator) (inSet : Bool) : (g.taken inSet).statusWords =
    [intWord g.id, intWord g.iq, intWord g.published.vd, intWord g.published.vq, intWord g.published.duties.a,
      intWord g.published.duties.b, intWord g.published.duties.c] ++
    (match g.published.pendingDuties with
      | some d => [intWord d.a, intWord d.b, intWord d.c]
      | none => [0, 0, 0]) ++
    [flagWord g.gateBlock ||| (flagWord g.voltageLimited <<< 1), natWord g.published.missing] := by
  have hflags : packBits [g.gateBlock, g.voltageLimited] = flagWord g.gateBlock ||| (flagWord g.voltageLimited <<< 1) := by
    cases g.gateBlock <;> cases g.voltageLimited <;> rfl
  rw [← hflags]
  rfl

/-- A period that keeps a running state publishes what its regulator of speed and its grant computed (R44 to R46, R56). -/
theorem State.governorPeriod_regulated {s : State} (hawait : s.gov.awaiting = none) (hg : s.seq.drive.governed = true)
    (hkept : s.governorPeriod.seq.drive = s.seq.drive) : let g := s.governorPeriod.gov
    g.iacc = (let raw := if s.gov.hold then s.gov.iacc else s.gov.iacc + g.e * s.cfg.ki
      if raw < -6000000 then -6000000 else if 6000000 < raw then 6000000 else raw) ∧
    g.i = truncDiv g.iacc 1000 ∧
    g.td = (let raw := g.p + g.i
      if raw < -6000 then -6000 else if 6000 < raw then 6000 else raw) ∧
    g.idRef = s.cfg.idf ∧ g.tp = g.tg ∧
    (∀ x, g.iqRef.get x =
      let bound : Int := isqrt (s.cfg.imax * s.cfg.imax - s.cfg.idf * s.cfg.idf).toNat
      let wanted := truncDiv (g.torque.get x * 1000) (s.cfg.k x)
      if wanted < -bound then -bound else if bound < wanted then bound else wanted) ∧
    g.hold = decide (|g.tg| < |g.td| ∧ 0 < g.e * g.td) := by
  have hvalues := Governor.grant_values (s.gov.common s.cfg (s.regs.map Regulator.handOver)
    (s.watch.groups.map GroupWatch.demand)) s.cfg (s.regs.map Regulator.handOver) s.meas.n (s.seq.r - s.meas.n)
    (baseLimits s.cfg s.seq.drive s.seq.runKind s.meas.n (s.gov.envelope.getD []))
  have heq := s.periodValues_of_governed hg
  rw [Governor.takeEnvelope_none hawait] at heq
  rw [← heq] at hvalues
  obtain ⟨he, -, hiacc, hi, htd, hid, htp, hiq, hhold⟩ := hvalues
  rw [governorPeriod_kept hg hkept]
  rw [← he] at hiacc
  exact ⟨hiacc, hi, htd, hid, htp, hiq, hhold⟩

open State in
/-- Settles O57: a period is its take, its publication, its reports and its end, and each clause is read from one of them. -/
theorem governorPeriodRule : Obligations.GovernorPeriodRule := by
  refine ⟨fun s hr hawait => ⟨s.governorPeriod, exec_governorPeriod s, ?_⟩,
    fun s x hready hg hx hfree htime hdev ha => ?_, fun s x hr hawait hx hlimited hrun ha => ?_, fun s hr hawait => ?_, codes_of_table,
    fun s e k hawait hr => ?_⟩
  · obtain ⟨-, -, -, -, -, -, hinputs, hdrive, hmeas, hwatch⟩ := governorPeriod_units hr hawait
    obtain ⟨hhistory, hover⟩ := governorPeriod_history hr hawait
    refine ⟨governorPeriod_taken hr hawait, governorPeriod_common hr hawait, hhistory, hover, governorPeriod_count hr hawait,
      hmeas, hwatch, hdrive, hinputs, governorPeriod_atRest hr hawait, fun hg => ?_⟩
    obtain ⟨he, hp⟩ := governorPeriod_error hr hawait hg
    refine ⟨he, hp, fun hkept => ?_⟩
    obtain ⟨hiacc, hi, htd, hid, htp, hiq, hhold⟩ := governorPeriod_regulated hawait hg hkept
    exact ⟨hiacc, hi, htd, hid, htp, hiq, hhold, governorPeriod_devCount hg hkept⟩
  · have hfound := devFound_of_reached hg hx hfree htime hdev
    have hr := hready.2.2.2
    have htrip := periodDeviated_tripped hready hfound ha
    refine ⟨s.governorPeriod, ?_, exec_governorPeriod s, Tripped.toEnd hready htrip, ?_⟩
    · rw [exec_torqueDev, deviationReached_eq, hfound]
      rfl
    · have hreported : State.Tripped s s.periodReported (.torqueDev x) := (Tripped.reportIf htrip _ _).tripLevel _ _
      have hd : s.periodReported.seq.drive ≠ .unconfigured := by rw [hreported.seq]; exact DriveState.noConfusion
      obtain ⟨-, -, hfaults, -⟩ := governorEnd_departed hd (s.gov.awaiting.map Prod.snd)
      rw [governorPeriod_eq hr, State.sourcePresent, hfaults, periodReported_dev hr]
      exact periodDeviated_absent hr hfound
  · have hin : s.inSet x = true := hx
    obtain ⟨hreached, -⟩ := taken_reached hlimited hrun
    obtain ⟨-, -, hregs, hfaults, -⟩ := governorPeriod_units hr hawait
    obtain ⟨-, -, -, -, hkeptRun⟩ := (periodReported_reg hr x).takeFields
    rw [sourceOf_eq] at ha ⊢
    obtain ⟨hsource, hseen⟩ := periodTaken_voltageLimited hx hlimited hrun ha
    refine ⟨s.governorPeriod, ?_, exec_governorPeriod s, ?_, ?_, ?_⟩
    · rw [exec_limitedRun, State.limitedRunReached, hin, hlimited, hrun]
      rfl
    · rw [hregs, hkeptRun, hin]
      exact hreached
    · rw [State.sourcePresent, hfaults, periodReported_voltageLimited hr]
      exact hsource
    · rw [hfaults, periodReported_voltageLimited hr]
      exact hseen
  · rw [governorValues_eq hawait]
    obtain ⟨hseq, hgov, hregs, hfaults, hrecord, hpending, -, hdrive, -, -⟩ := governorPeriod_units hr hawait
    have hpresent : s.periodReported.sourcePresent .overspeed .first = true → s.governorPeriod.present .overspeed = true := fun h => by
      refine State.present_of_source _ (src := .first) ?_
      rw [State.sourcePresent, hfaults]
      exact h
    refine ⟨fun hready hg hlimit hset hdrop ha => ⟨_, exec_governorPeriod s, ?_⟩,
      fun hready hfast ha => ⟨_, exec_governorPeriod s, ?_⟩, fun hd hfast ha => ⟨_, exec_governorPeriod s, ?_⟩,
      fun hslow => ⟨_, exec_governorPeriod s, ?_⟩,
      fun p hw hlast hnow => ⟨_, exec_governorPeriod s, (governorPeriod_takesAtLimit hr hawait hnow hlast).begun (by nofun) hw⟩,
      fun x p hw hnow hlast => ⟨_, exec_governorPeriod s, (governorPeriod_takesLimited hr hawait hnow hlast).begun (by nofun) hw⟩,
      fun hstart => ⟨_, exec_governorPeriod s, governorPeriod_shown hr hawait hstart⟩,
      fun hstart => ⟨_, exec_governorPeriod s, fun x => ?_⟩⟩
    · have htrip := periodJammed_tripped hready (jamFound_of_drop hg hlimit hset hdrop) ha
      have hreported : State.Tripped s s.periodReported .jam := htrip.tripLevel _ _
      refine ⟨hreported.of_frame hseq hgov hfaults (hdrive.trans hreported.settings.symm)
        (hpending.trans hreported.queue.symm), ?_⟩
      rw [State.sourcePresent, hfaults, periodReported_jam hr, periodJammed, jamFound_of_drop hg hlimit hset hdrop]
      exact State.tripPulse_absent _ _
    · obtain ⟨hreported, hsource⟩ := periodReported_overspeed hready (decide_eq_true hfast) ha
      exact ⟨hreported.of_frame hseq hgov hfaults (hdrive.trans hreported.settings.symm)
        (hpending.trans hreported.queue.symm), hpresent hsource⟩
    · obtain ⟨hseq', hlock, -⟩ := periodReported_units hd
      obtain ⟨hlatched, hsource⟩ := periodReported_latches hd (decide_eq_true hfast) ha
      refine ⟨hseq.trans hseq', by rw [hfaults, hlock], ?_, hpresent hsource⟩
      rw [hfaults]
      exact hlatched
    · rw [State.sourcePresent, hfaults]
      exact periodReported_slowFall (decide_eq_false hslow)
    · exact (governorPeriod_regulator hr hawait hstart x).trans (Regulator.taken_statusWords _ _)
  · obtain ⟨henvelope, hnone, hl0⟩ := governorPeriod_inForce hawait hr
    refine ⟨s.governorPeriod, exec_governorPeriod s, henvelope, hnone, governorPeriod_completed hawait hr, fun hg => ?_,
      governorPeriod_stays hawait hr, fun hd hothers hslow hlatched =>
        governorPeriod_departs hawait hr hd hothers (decide_eq_false hslow.not_gt) hlatched⟩
    rw [hl0, periodValues_l0 hawait hg, baseLimits, baseLimit_eq, baseLimit_eq]

end Sys2Proof.Machine
end
